-- ==== Sys2Proof/Syntax.lean ====
section
/-! DEFINITION. The commands of the LH6160: one constructor per row of the opcode table, with the row's operands, and
the types of those operands. What the outside world supplies (levels, samples, received frames, words, verdicts of
an algorithm the manual only names) is an operand of the command that brings it. -/

namespace Sys2Proof

/-- The initiators of the interconnect (R48): APX pair 0 or 1, Quill, the CVE queue writer, the IKW archive writer,
the BNI frame DMA, the MEM crypto engine, Nib's forwarding port, the debug port. -/
inductive Ini where
  | pair (p : Fin 2)
  | quill | cve | ikw | bni | crypto | nib | debug
deriving DecidableEq, Repr

/-- Where a door command is written (R254): a channel's own page, a group page or the broadcast page. -/
inductive DoorDst where
  | chan (n : Fin 8) | group (g : Fin 4) | all
deriving DecidableEq, Repr


/-- A word received from a Sage sensor (R128, R274): whether its start bit came, its data bits, `nE`, `nW` and CRC. -/
structure SgWord where
  started : Bool
  data : Nat
  nE : Bool
  nW : Bool
  crc : Nat
deriving DecidableEq, Repr


/-- A level that an input brings, and for how many samples it has stood (R115, R318). -/
structure PinLevel where
  lvl : Bool
  samples : Nat
deriving DecidableEq, Repr

/-- A level at an index input (R130): the input is `Z` (0), `P0` (1) or `P1` (2). -/
structure IndexLevel where
  src : Fin 3
  pin : PinLevel
deriving DecidableEq, Repr

/-- A frame on a shaft bus as a port receives it (R352, R372); its start-of-frame edge lies `age` ns back. -/
structure RxFrame where
  id : BitVec 29
  ide : Bool
  fdf : Bool
  brs : Bool
  esi : Bool
  rtr : Bool
  dlc : Fin 16
  data : List Byte
  age : Nat
deriving DecidableEq, Repr

/-- How a transmit attempt ends (R361, R367): acknowledged, arbitration lost, or an error of the given code (1 to 6)
in the nominal or the data phase. -/
inductive TxEnd where
  | ok | lost | err (code : BitVec 3) (dataPhase : Bool)
deriving DecidableEq, Repr

/-- A memory access: a read of `n` bytes, or a write (R50, R514). -/
inductive MemOp where
  | read (n : Fin 65) | write (data : List Byte)
deriving DecidableEq, Repr

/-- The JTAG instructions of R530; any other is `other`. -/
inductive JtagIr where
  | bypass | idcode | samplePreload | extest | clamp | other
deriving DecidableEq, Repr

/-- An Ethernet frame as a port receives it, from destination address on, without the FCS (R535). -/
structure EthFrame where
  data : List Byte
  fcsOk : Bool
deriving DecidableEq, Repr

/-- The commands (spec/opcode_table.json), in the table's order. -/
inductive Instr where
  /-- REGISTER_WRITE (R70). A write to a register that has no row of its own takes effect under the access type of each field. `a` is the address, `v` the word written. -/
  | registerWrite (ini : Ini) (a v : Word)
  /-- UNMAPPED_ACCESS (R64). An access to an unmapped address, an unoccupied offset, an isolated domain or with a wrong width completes with a bus error and has no effect. `n` is the width in bytes. -/
  | unmappedAccess (ini : Ini) (a : BitVec 64) (n : Fin 65)
  /-- MEMORY_ACCESS (R50). An initiator reads or writes SRAM, MRAM, LPDDR4X or the xSPI window under the access rules and ECC handling. What the first word read shows: 0 nothing new, 1 a correctable, 2 an uncorrectable error. -/
  | memoryAccess (ini : Ini) (a : BitVec 34) (op : MemOp) (ecc : Fin 3)
  /-- LEDGER_READ (R230). An APX pair's read of the ledger region returns the line as of its view position, held until CLG has applied that number. Pair `p` reads the 32-byte line at offset `line` × 32 of the ledger region. -/
  | ledgerRead (p : Fin 2) (line : Fin 12800)
  /-- LOCK_KEY (R73). A write to LOCK.KEY moves the page lock between closed, half-open and open. Page `p` of the slot of block `b` (0 common, n + 1 channel n, 0xC0 + g group g, 0xFF broadcast). -/
  | lockKey (ini : Ini) (b : Fin 18) (p : Fin 256) (v : Word)
  /-- IRQ_FORCE (R78). A W1S write to IRQ_FORCE sets IRQ_RAW bits as block events do. The page as in LOCK_KEY. -/
  | irqForce (ini : Ini) (b : Fin 18) (p : Fin 256) (v : Word)
  /-- GROUP_PAGE_WRITE (R76). A write to a group or broadcast page lands in every member in the same clock under each member's own rules. Group `g`, none: the broadcast page; `rel` counts words of the page. -/
  | groupPageWrite (ini : Ini) (b : Fin 18) (g : Option (Fin 4)) (rel : Fin 1024) (v : Word)
  /-- FW_LASTING_CLEAR (R85). A W1C write of LASTING clears it and empties the window. `v` is the word written; its `LASTING` bit is taken as 1. -/
  | fwLastingClear (ini : Ini) (f : Fin 256) (v : Word)
  /-- ARM_U (R34). A write of ARM_U sets BUSY and starts the map checks of car U. `v` is the word written to `MPG_MAP_CTRL`; the row's own bit is taken as 1. -/
  | armU (ini : Ini) (v : Word)
  /-- ARM_L (R34). A write of ARM_L sets BUSY and starts the map checks of car L. As `armU`. -/
  | armL (ini : Ini) (v : Word)
  /-- ARM_CHECK_DONE (R34). The map check ends: ERR, ERR_LDG and ERR_CAR are written, ARMED is set or cleared, BUSY clears and DONE sets. -/
  | armCheckDone
  /-- DISARM_U (R37). A write of DISARM_U disarms car U if it is at rest with its executor idle, or sets DIS_REJ. As `armU`. -/
  | disarmU (ini : Ini) (v : Word)
  /-- DISARM_L (R37). A write of DISARM_L disarms car L if it is at rest with its executor idle, or sets DIS_REJ. As `armU`. -/
  | disarmL (ini : Ini) (v : Word)
  /-- OFS_COMMIT (R91). A write of TBS_OFS_LO commits the offset as a step, a slew, a cancel or a rejection. -/
  | ofsCommit (ini : Ini) (v : Word)
  /-- TB_STEP (R91). On the tick after a commit above 1 ms the timebase advances by the offset and a TB_STEP record is written. -/
  | tbStep
  /-- SLEW_DONE (R91). The remaining slew runs down to 0; SLEWING clears and SLEW_DONE is raised. -/
  | slewDone
  /-- RESEEDED_CLEAR (R109). A W1C write of RESEEDED clears it and sets TB_UNCERT to 0. `v` is the word written to `STAT`; the row's own bit is taken as 1. -/
  | reseededClear (ini : Ini) (v : Word)
  /-- SYNC_SEND (R97). At each whole multiple of 10 ms TBS sends a SYNC on each participating leg of an enabled network. -/
  | syncSend (n : Fin 4)
  /-- SYNC_DEADLINE (R99). A SYNC copy not started 2 ms after its launch time is abandoned and counted as a miss. -/
  | syncDeadline (n : Fin 4)
  /-- FOLLOW_UP_SEND (R100). When both SYNC copies have completed or been abandoned, TBS queues the FOLLOW_UP with both stamps. -/
  | followUpSend (n : Fin 4)
  /-- PFI_ENABLE (R121). A write of EN to a feedback channel starts or stops it; HCNT is loaded with RAW and serial requests begin. `v` is the word written to `CTRL`. -/
  | pfiEnable (ini : Ini) (n : Fin 8) (v : Word)
  /-- QUAD_COUNT (R119). A filtered quadrature step changes the raw count, HCNT, the reported position and the compares. `A` and `B` have stood at the levels `ab` for the last `clks` filter clocks, as the synchroniser delivers them; the edge filter decides whether a step comes of it (R115). -/
  | quadCount (n : Fin 8) (ab : Bool × Bool) (clks : Nat)
  /-- POS_SET (R122). A write of PFI_POS_SET sets the origin pair and ORG_SET. -/
  | posSet (ini : Ini) (n : Fin 8) (v : Word)
  /-- SPD_WINDOW (R126). A speed window ends and PFI_SPD and PFI_SPD_CNT are written. -/
  | spdWindow (n : Fin 8)
  /-- SER_REQUEST (R128). A serial request starts a clock burst on MA, paced by PERIOD or by a hoist boundary. -/
  | serRequest (n : Fin 8)
  /-- SER_WORD (R129). A serial word is received and classified as good, faulty or a jump, and a good word advances RAW. The received frame: whether it started in time, its data bits, `nE`, `nW`, the CRC bits and the measured line delay. -/
  | serWord (n : Fin 8) (started : Bool) (data : Nat) (nE nW : Bool) (crc delay : Nat)
  /-- SER_STALE (R129). Two request periods pass without a good word and SER_OK clears. -/
  | serStale (n : Fin 8)
  /-- INDEX_EDGE (R130). A rising edge of the selected index latches RAW and its stamp, may set the origin, and checks the drift. An index input has stood at a level for the last samples; the edge filter decides whether the level is accepted, and `ZSRC` whether the edge is an index edge. -/
  | indexEdge (n : Fin 8) (e : IndexLevel)
  /-- PROBE_EDGE (R131). An enabled probe edge fills its latch set or counts an overrun. Probe `q` has stood at a level, before `INV`, for the last samples. -/
  | probeEdge (n : Fin 8) (q : Fin 2) (e : PinLevel)
  /-- CMP_ARM (R133). A write of ARM arms a compare unit, or marks it MISSED or fires it at once when behind. -/
  | cmpArm (ini : Ini) (n : Fin 8) (c : Fin 4) (v : Word)
  /-- CMP_DISARM (R144). A write of DISARM disarms a compare unit without setting a flag. -/
  | cmpDisarm (ini : Ini) (n : Fin 8) (c : Fin 4) (v : Word)
  /-- PFI_FAULT_CLEAR (R138). A W1C write of STAT.FAULT clears it while the filter is not lasting. -/
  | pfiFaultClear (ini : Ini) (n : Fin 8) (v : Word)
  /-- PFI_SNAP (R143). A write of PFI_SNAP copies RAW, PFI_POS and the stamp of the selected channels in one clock. -/
  | pfiSnap (ini : Ini) (v : Word)
  /-- PO_STEP (R141). A pulse output makes one quadrature step toward zero PEND, at least MIN_GAP after the last edge. -/
  | poStep (k : Fin 2)
  /-- HOIST_PERIOD_BOUNDARY (R147). A car's hoist period boundary is stamped and the generator computes that period's reference. Car 0 is U, car 1 is L, here and below. -/
  | hoistPeriodBoundary (c : Fin 2)
  /-- LEVELLED (R156). The car stays within LVL_TOL for LVL_SETTLE; LEVELLED sets, MOVE_DONE is raised and the generator enters READY. -/
  | levelled (c : Fin 2)
  /-- LEVEL_MISS (R156). LVL_TMO passes in SETTLING without levelling; LEVEL_MISS sets and the generator enters READY. -/
  | levelMiss (c : Fin 2)
  /-- MPG_STOP (R158). A STOP command starts a controlled stop with the ramp in force. -/
  | mpgStop (c : Fin 2) (tag : BitVec 16)
  /-- MPG_STOP_RAMP (R161). A STOP_RAMP command starts or steepens a controlled stop with new D' and J'. -/
  | mpgStopRamp (c : Fin 2) (d j : Word) (tag : BitVec 16)
  /-- MPG_RELEVEL (R157). A RELEVEL command requests a re-level to the levelled landing's sill. -/
  | mpgRelevel (c : Fin 2) (tag : BitVec 16)
  /-- HALT_CLR (R168). A write of HALT_CLR takes the generator from HALTED to READY when its conditions hold. `v` is the word written to `CTRL`; the row's own bit is taken as 1. -/
  | haltClr (ini : Ini) (c : Fin 2) (v : Word)
  /-- MPG_ENABLE (R169). A write of EN to a generator page takes it from OFF to READY or back to OFF. `v` is the word written to `CTRL`. -/
  | mpgEnable (ini : Ini) (c : Fin 2) (v : Word)
  /-- DOWN_FRAME (R177). A down frame with the reference or HELLO goes out 3 µs after the boundary. DRV0 is car U's link, DRV1 car L's. -/
  | downFrame (n : Fin 2)
  /-- UP_FRAME (R181). An up frame from the drive is checked and a good period updates the feedback registers. The 32 data bytes received, byte 0 arriving `dt` ns after byte 0 of the down frame. -/
  | upFrame (n : Fin 2) (bytes : List Byte) (dt : Nat)
  /-- PERIOD_MISS (R181). RESP_MAX passes without a good up frame; the period is missed, counted and fed to the filter. -/
  | periodMiss (n : Fin 2)
  /-- SYMBOL_LOCK (R183). The receiver holds symbol lock for 64 symbols and the link moves from SYNC to HELLO. -/
  | symbolLock (n : Fin 2)
  /-- SYMBOL_LOCK_LOSS (R183). Symbol lock is lost for 64 symbols in RUN and the link enters LOST. -/
  | symbolLockLoss (n : Fin 2)
  /-- HELLO_TIMEOUT (R183). HELLO_TMO passes without a good reply and the link returns to SYNC. -/
  | helloTimeout (n : Fin 2)
  /-- LOSS_CLR (R184). A write of LOSS_CLR takes the link from LOST to SYNC when permitted. `v` is the word written to `CTRL`; the row's own bit is taken as 1. -/
  | lossClr (ini : Ini) (n : Fin 2) (v : Word)
  /-- DLK_ENABLE (R183). A write of EN to a drive link starts it in SYNC or returns it to OFF. `v` is the word written to `CTRL`. -/
  | dlkEnable (ini : Ini) (n : Fin 2) (v : Word)
  /-- SEP_DISAGREE_CLEAR (R197). A W1C write of DISAGREE clears it while filter 0xF6 is not lasting. `v` is the word written to `STAT`. -/
  | sepDisagreeClear (ini : Ini) (v : Word)
  /-- EXE_LOAD (R204). A LOAD command writes W0 to W3 into an executor entry after the checks of R203. -/
  | exeLoad (c : Fin 2) (idx : Fin 64) (w0 w1 w2 w3 : Word) (tag : BitVec 16)
  /-- EXE_GO (R204). A GO command sets CURRENT and starts the entry. -/
  | exeGo (c : Fin 2) (idx : Fin 64) (tag : BitVec 16)
  /-- EXE_HOLD (R204). A HOLD command sets HOLD_PEND. -/
  | exeHold (c : Fin 2) (tag : BitVec 16)
  /-- EXE_RESUME (R204). A RESUME command restarts the current entry from HELD. -/
  | exeResume (c : Fin 2) (tag : BitVec 16)
  /-- EXE_CANCEL (R207). A CANCEL command ends the plan as its landing state requires. -/
  | exeCancel (c : Fin 2) (w0 w1 : Word) (tag : BitVec 16)
  /-- EXE_RELEASE (R204). A RELEASE command ends the door phase and the executor enters CLOSING. -/
  | exeRelease (c : Fin 2) (tag : BitVec 16)
  /-- DWELL_DONE (R205). The dwell time of a DWELL entry elapses. -/
  | dwellDone (c : Fin 2)
  /-- EVT_TIMEOUT (R205). A WAIT_EVT entry times out and the executor enters HELD with EVT_TMO. -/
  | evtTimeout (c : Fin 2)
  /-- CLG_INSERT (R225). An INSERT merges the call into a matching entry or writes a new entry and links it in time order. The burst words, `TAG`, and the stream number Nib lands it with; so below. -/
  | clgInsert (w0 w1 w2 w3 w4 w5 : Word) (tag seq : BitVec 16)
  /-- CLG_ASSIGN (R224). An ASSIGN sets the car of an entry and makes it ASSIGNED. -/
  | clgAssign (idx : BitVec 14) (car : Fin 4) (tag seq : BitVec 16)
  /-- CLG_UNASSIGN (R224). An UNASSIGN returns an ASSIGNED entry to OPEN. -/
  | clgUnassign (idx : BitVec 14) (tag seq : BitVec 16)
  /-- CLG_SERVE (R224). A SERVE frees a served entry or moves a DEST entry to the chain of its car. -/
  | clgServe (idx : BitVec 14) (tag seq : BitVec 16)
  /-- CLG_CANCEL (R224). A CANCEL frees an entry. -/
  | clgCancel (idx : BitVec 14) (tag seq : BitVec 16)
  /-- CLG_SET_APP (R224). A SET_APP replaces FLAGS and APP of an entry. -/
  | clgSetApp (idx : BitVec 14) (flags : BitVec 6) (app : Word) (tag seq : BitVec 16)
  /-- VIEW_STALL_APPLY (R231). A command held for want of view images is applied once enough images retire. -/
  | viewStallApply
  /-- CLG_ENABLE (R233). A write of CTRL.EN from 0 to 1 starts initialisation of the ledger; a write of 0 stops commands. `v` is the word written to `CTRL`. -/
  | clgEnable (ini : Ini) (v : Word)
  /-- CLG_INIT_DONE (R233). Ledger initialisation completes and INIT_DONE is raised. -/
  | clgInitDone
  /-- PEAK_CLR (R235). A write of PEAK_CLR sets PEAK to USED. `v` is the word written to `CTRL`; the row's own bit is taken as 1. -/
  | peakClr (ini : Ini) (v : Word)
  /-- CLG_FAULT_CLEAR (R229). A W1C write of CLG FAULT clears it while filter 0xF2 is not lasting. `v` is the word written to `STAT`. -/
  | clgFaultClear (ini : Ini) (v : Word)
  /-- DMC_OPEN (R254). An OPEN command starts a move of the door toward the open target. -/
  | dmcOpen (d : DoorDst) (arg : Word) (tag : BitVec 16)
  /-- DMC_CLOSE (R254). A CLOSE command starts a move of the door to CLOSED_POS. -/
  | dmcClose (d : DoorDst) (tag : BitVec 16)
  /-- DMC_STOP (R254). A STOP command ramps a moving door to rest at DEC. -/
  | dmcStop (d : DoorDst) (tag : BitVec 16)
  /-- DMC_HOME (R261). A HOME command starts homing against the home switch. -/
  | dmcHome (d : DoorDst) (tag : BitVec 16)
  /-- DMC_CAL (R264). A CAL command starts calibration, or defers it while the door moves. -/
  | dmcCal (d : DoorDst) (tag : BitVec 16)
  /-- DMC_ENABLE (R259). A write of EN to a door channel takes it from OFF to UNHOMED or back to OFF. `v` is the word written to `CTRL`. -/
  | dmcEnable (ini : Ini) (n : Fin 8) (v : Word)
  /-- DOOR_MOVE_DONE (R246). The door reaches its target and END_SETTLE passes; the channel enters IDLE with OK. -/
  | doorMoveDone (n : Fin 8)
  /-- DOOR_AT_REST (R254). A stopping ramp reaches rest and the channel enters IDLE or UNHOMED with STOPPED. -/
  | doorAtRest (n : Fin 8)
  /-- OBSTRUCTION (R251). The load angle or force estimate decides an obstruction; the door stops and reverses or ends. -/
  | obstruction (n : Fin 8)
  /-- LOST_STEP (R252). A single period's load angle reaches 512; the motion is abandoned and the channel enters UNHOMED. -/
  | lostStep (n : Fin 8)
  /-- REVERSE_START (R253). REV_GAP passes in REVERSING and the door reopens or ends with OBSTRUCTED. -/
  | reverseStart (n : Fin 8)
  /-- OVER_CURRENT (R241). A phase current sample exceeds OC_LIMIT and that phase is turned off. The phase whose sample exceeds the limit. -/
  | overCurrent (n : Fin 8) (phaseB : Bool)
  /-- DRIVER_FAULT (R241). nFLT stays low for 1 µs; the motor is de-energised and the channel enters UNHOMED. The new level of `nFLT`, held for 1 µs. -/
  | driverFault (n : Fin 8) (low : Bool)
  /-- END_SWITCH (R260). An end switch level is accepted after 8 ms of stability, with its position latched. The switch (`ENDO` or `ENDC`), the level its pin takes now, and the time in µs that it keeps it. -/
  | endSwitch (n : Fin 8) (isOpen : Bool) (pin : Bool) (us : Nat)
  /-- HOME_TIMEOUT (R262). Homing travel exceeds HOME_MAX and homing fails with HOME_TMO. -/
  | homeTimeout (n : Fin 8)
  /-- CAL_DONE (R264). Calibration completes or fails and CAL_DONE is raised. What the channel measures: the sums of 1,024 samples of the ADC of A and of B, the time in ns to reach `I_RUN` and the rise from 10 % to 50 % of it, and the means over the last 50 ms of the applied voltage (mV) and the current (mA) of one phase. -/
  | calDone (n : Fin 8) (sums : BitVec 24 × BitVec 24) (reach rise : Nat) (mv ma : Nat)
  /-- OOS_CLEAR (R266). A W1C write of STAT.OOS returns the channel to UNHOMED when permitted. `v` is the word written to `STAT`. -/
  | oosClear (ini : Ini) (n : Fin 8) (v : Word)
  /-- SLP_CYCLE (R272). The SLP lane's 1 ms cycle samples its inputs, evaluates every function and drives its switches. `rb` and `fb`: levels of `SOo_RB` and `SOo_FB` as SLP samples them; `ck`: counted `CK_SAGE` clocks; `fails`: bit t, test t of R290 fails, bit 9 a correctable error of the tightly coupled memory; `slpRec`, `sgRec`: the record of SLP and of Sage arrives sound. -/
  | slpCycle (rb fb : BitVec 12) (ck : Nat) (fails : BitVec 10) (slpRec sgRec : Bool)
  /-- SAGE_CYCLE (R272). Sage's 100 µs cycle requests its sensor word, evaluates every function and drives its switches. `rb`, `fb` as Sage samples them; `vanes`: `P0` of `FB6` and `FB7`; the sensor words, if received; `fail`: a Sage self-test fails. -/
  | sageCycle (rb fb : BitVec 12) (vanes : BitVec 2) (wordU wordL : Option SgWord) (fail : Bool)
  /-- SAGE_WORD_TIMEOUT (R275). A Sage word has not completed within 60 µs and is abandoned as a bad word. -/
  | sageWordTimeout (c : Fin 2)
  /-- LOCKSTEP_ERROR (R279). The two SLP cores differ and all SLP switches open within one clock. -/
  | lockstepError
  /-- SAGE_RECORD_MISSING (R285). 1.1 ms of Sage's clock passes without a new SLP record, which counts as a missing record. -/
  | sageRecordMissing
  /-- SAG_LATCH_CLR (R288). A gated write of SAG_LATCH_CLR requests the release of selected cars' latches. -/
  | sagLatchClr (ini : Ini) (v : Word)
  /-- SAG_SAFE_KEY (R304). A write of SAG_SAFE_KEY moves the commissioning gate. -/
  | sagSafeKey (ini : Ini) (v : Word)
  /-- GATE_TIMEOUT (R304). 10 s of the Sage clock pass and the gate closes. -/
  | gateTimeout
  /-- SAG_LOAD_DATA (R312). A gated write of SAG_LOAD_DATA stores a word at SAG_LOAD_ADDR and advances it. -/
  | sagLoadData (ini : Ini) (v : Word)
  /-- SAG_LOAD_ABORT (R312). A gated ABORT clears the staging area to 0. -/
  | sagLoadAbort (ini : Ini) (v : Word)
  /-- SPB_COMMIT (R306). A gated COMMIT starts the lanes' check of the staged SPB. -/
  | spbCommit (ini : Ini) (v : Word)
  /-- SPB_CHECK_DONE (R302). Both lanes finish checking the staged SPB and a result is decided. `same`: the two lanes reach the same result. -/
  | spbCheckDone (same : Bool)
  /-- SPB_COPIES_WRITTEN (R306). Both MRAM copies are written with GEN + 1 and the check value is shown on SVC. Whether each copy passes its read-back. -/
  | spbCopiesWritten (okA okB : Bool)
  /-- SAG_SAFE_CONFIRM (R307). A gated write of SAG_SAFE_CONFIRM requests confirmation of the check value. -/
  | sagSafeConfirm (ini : Ini) (v : Word)
  /-- SLP_GET_STATUS (R311). A GET_STATUS request in a mailbox returns status words within 2 cycles. `p` is the pair and its mailbox slot. -/
  | slpGetStatus (p : Fin 2) (seq : BitVec 16)
  /-- SLP_RUN_TEST (R311). A RUN_TEST request queues a self-test and answers when it completes. The test number stands in `REQ_W0`. -/
  | slpRunTest (p : Fin 2) (seq : BitVec 16)
  /-- SLP_READ_SPB (R311). A READ_SPB request returns 48 bytes of the SPB in force within 2 cycles. The byte offset stands in `REQ_W0`. -/
  | slpReadSpb (p : Fin 2) (seq : BitVec 16)
  /-- INPUT_CHANGE (R318). A safety input channel's new level is accepted after five equal samples and stamped. The lane (`sage`), the channel (`chB`), its level and how many consecutive equal samples of it the lane has taken. -/
  | inputChange (i : Fin 32) (sage chB : Bool) (e : PinLevel)
  /-- TEST_PULSE (R319). TPj goes low for its width and the inputs it feeds are checked for STUCK and CROSS. In the SLP lane (0) and the Sage lane (1): bit 2i + ch of `pre` (of each lane): the last sample before the pulse is high; of `ends` (of each lane): the sample 10 µs before the end of the pulse is low; of `any`: any sample during the pulse is low; `rb`: the read-back during the pulse (bit 0) and after it (bit 1). -/
  | testPulse (j : Fin 4) (pre ends : BitVec 64 × BitVec 64) (any0 any1 : BitVec 64) (rb0 rb1 : BitVec 2)
  /-- TP_HELD_READBACK (R320). A held test pulse reads low for 1 ms, setting TP_FAULT, or high for 10 ms, clearing it. -/
  | tpHeldReadback (j : Fin 4) (low : Bool)
  /-- DISC_FAULT (R323). DISC_NOW reaches T_DISC and the input faults with reason DISC. The lane whose timer reaches `T_DISC`. -/
  | discFault (i : Fin 32) (sage : Bool)
  /-- SIO_IN_RESET (R324). A write of SIO_IN_RESET requests the reset of input faults at the next boundary. -/
  | sioInReset (ini : Ini) (v : Word)
  /-- DARK_TEST (R329). Every 10 s each lane opens its switch of an energised output for 400 µs and checks the read-back. `rbLow`: `SOo_RB` reads 0 at the sample 300 µs after the switch opens. -/
  | darkTest (o : Fin 12) (rbLow : Bool)
  /-- RB_FAULT (R330). The read-back disagrees with both switches for 2 ms and the group faults. The lane that decides, and the level `SOo_RB` has had for 2 ms. -/
  | rbFault (o : Fin 12) (sage : Bool) (rb : Bool)
  /-- FB_TIMEOUT (R331). The feedback timer reaches T_FB and the group faults with FB_RELEASE or FB_PULLIN. The lane whose timer reaches `T_FB`. -/
  | fbTimeout (o : Fin 12) (sage : Bool)
  /-- SIO_OUT_RESET (R333). A write of SIO_OUT_RESET requests the reset of a group fault. -/
  | sioOutReset (ini : Ini) (v : Word)
  /-- ON_REQ (R327). A write of ON_REQ requests or withdraws a safety output. `v` is the word written to `CTRL`. -/
  | onReq (ini : Ini) (g : Fin 6) (v : Word)
  /-- DZ_RST (R337). A write of DZ_RST requests the reset of a door-zone fault. -/
  | dzRst (ini : Ini) (v : Word)
  /-- VDDIO_S_LOW (R565). VDDIO_S stays below 2.90 V for 20 µs and both lanes open every switch and hold their timers. -/
  | vddioSLow
  /-- VDDIO_S_RECOVER (R565). VDDIO_S stays above 3.00 V for 10 ms and the lanes resume. -/
  | vddioSRecover
  /-- SBC_ENABLE (R358). A write of EN to a bus port starts integration or takes the port offline. `v` is the word written to `CTRL`. -/
  | sbcEnable (ini : Ini) (n : Fin 8) (v : Word)
  /-- BUS_INTEGRATED (R358). Eleven recessive bits take the port online into RESTRICTED. -/
  | busIntegrated (n : Fin 8)
  /-- RESTRICTED_END (R358). 200 ms in RESTRICTED pass and the port enters NORMAL. -/
  | restrictedEnd (n : Fin 8)
  /-- SBC_OOS (R360). A write of CTRL.OOS takes a leg out of service or returns it. `v` is the word written to `CTRL`. -/
  | sbcOos (ini : Ini) (n : Fin 8) (v : Word)
  /-- BOR_REQ (R358). A write of BOR_REQ starts bus-off recovery. `v` is the word written to `CTRL`; the row's own bit is taken as 1. -/
  | borReq (ini : Ini) (n : Fin 8) (v : Word)
  /-- BUS_OFF_RECOVERED (R358). 128 occurrences of 11 recessive bits end bus-off and the port integrates again. -/
  | busOffRecovered (n : Fin 8)
  /-- TX_REQ (R364). A write of REQ makes a transmit buffer PENDING. `v` is the word written to `SBC_TXBb_CTRL`, the row's own bit taken as 1; `idle`: no other node's frame is in progress. -/
  | txReq (ini : Ini) (n : Fin 8) (b : Fin 3) (v : Word) (idle : Bool)
  /-- TX_ABORT (R368). A write of ABORT ends a pending buffer or latches an abort on an active one. `v` is the word written to `SBC_TXBb_CTRL`; the row's own bit is taken as 1. -/
  | txAbort (ini : Ini) (n : Fin 8) (b : Fin 3) (v : Word)
  /-- TX_LAUNCH_DUE (R369). A timed buffer's launch time is reached and it becomes eligible. `idle`: no other node's frame is in progress. -/
  | txLaunchDue (n : Fin 8) (b : Fin 3) (idle : Bool)
  /-- TX_ATTEMPT_END (R367). A transmit attempt ends in success, an error or lost arbitration and the buffer is updated. The end of the ACTIVE buffer's attempt; `tdcv`: the measured loop delay in clocks; `dom`: a dominant bit was seen while a passive error flag was sent. -/
  | txAttemptEnd (n : Fin 8) (res : TxEnd) (tdcv : Nat) (dom : Bool)
  /-- ALONE_RETRY (R370). ALONE_GAP passes after a failed attempt and the next attempt may start. -/
  | aloneRetry (n : Fin 8)
  /-- FRAME_RECEIVED (R372). A valid frame is filtered and stored in its mailbox or discarded. -/
  | frameReceived (n : Fin 8) (f : RxFrame)
  /-- SBC_FAULT_CLEAR (R362). A W1C write of FAULT clears it while the filter is not lasting. `v` is the word written to `STAT`; the row's own bit is taken as 1. -/
  | sbcFaultClear (ini : Ini) (n : Fin 8) (v : Word)
  /-- CTX_ENABLE (R403). A write of EN = 1 to a context enrols it in the roster and it enters LISTEN. `v` is the word written to `CTRL`; the row's own bit is taken as 1. -/
  | ctxEnable (ini : Ini) (n : Fin 160) (v : Word)
  /-- CTX_DISABLE (R405). A write of EN = 0 ends the conversation with LEAVE and frees the context. `v` is the word written to `CTRL`; the row's own bit is taken as 0. -/
  | ctxDisable (ini : Ini) (n : Fin 160) (v : Word)
  /-- INVITE_SLOT (R407). An invitation slot falls due and the lowest eligible context sends INVITE. -/
  | inviteSlot
  /-- INVITE_TIMEOUT (R405). INV_TMO passes without a JOIN and the context returns to LISTEN or is re-invited. -/
  | inviteTimeout (n : Fin 160)
  /-- JOIN (R404). A JOIN from a roster node is checked and answered with WELCOME or a NAK. The frame's port, source node and payload fields; its start-of-frame edge lies `age` ns back; so below. -/
  | join (port : Fin 8) (src : Byte) (seq : BitVec 16) (serial : Word) (ver cls : Byte) (first : BitVec 16) (age : Nat)
  /-- WELCOME (R405). The first WELCOME copy completes and the context enters LIVE. The `WELCOME` of context `n` ends its attempt with an acknowledgement. -/
  | welcome (n : Fin 160)
  /-- LEAVE (R405). A LEAVE from the partner ends the conversation and the context enters LISTEN. -/
  | leave (port : Fin 8) (src : Byte) (seq : BitVec 16) (reason : Byte) (age : Nat)
  /-- DATA (R391). An addressed DATA frame is delivered, held, or forces a gap, or is discarded by its number. `msg`: payload bytes from byte 2 on. -/
  | data (port : Fin 8) (src : Byte) (prio : BitVec 3) (stream : BitVec 6) (seq : BitVec 16) (msg : List Byte) (age : Nat)
  /-- ACK (R396). An ACK moves CUM and HELD for the sender's outstanding frames and may open the window. -/
  | ack (port : Fin 8) (src : Byte) (seq cum : BitVec 16) (held : Byte) (full : Bool) (age : Nat)
  /-- NAK (R396). A NAK ends or resets retransmission of the frames it names. -/
  | nak (port : Fin 8) (src : Byte) (seq ref : BitVec 16) (refType reason : Byte) (detail : BitVec 16) (age : Nat)
  /-- HEARTBEAT (R408). A partner heartbeat restarts the loss timer and may start the gap timer. -/
  | heartbeat (port : Fin 8) (src : Byte) (seq next : BitVec 16) (full : Bool) (per heard : Byte) (age : Nat)
  /-- GAP_TIMEOUT (R392). The gap timer reaches 20 ms and missing numbers are declared lost and reported. -/
  | gapTimeout (n : Fin 160)
  /-- ACK_DUE (R395). An ACK falls due within 1 ms of accepting DATA and is sent on both legs. -/
  | ackDue (n : Fin 160)
  /-- RETRANSMIT_DUE (R396). T_RTX passes for an unacknowledged DATA frame, which is resent or given up. -/
  | retransmitDue (n : Fin 160)
  /-- HEARTBEAT_MISS (R408). A heartbeat interval passes without a frame and the context goes QUIET or LOST. -/
  | heartbeatMiss (n : Fin 160)
  /-- BCAST_HEARTBEAT (R409). The broadcast heartbeat period of a network passes and CVE sends its HEARTBEAT. -/
  | bcastHeartbeat (net : Fin 4)
  /-- CVE_SEND (R412). A SEND command takes the next data number and queues the frame. The burst words `CVE_CMD_HDR`, `CVE_CMD_D0` on (missing words are 0) and `TAG`. -/
  | cveSend (n : Fin 160) (hdr : Word) (d : List Word) (tag : BitVec 16)
  /-- CVE_RELEASE (R416). A RELEASE command advances the pair's release position and frees queue entries. The pair whose command landed in Nib. -/
  | cveRelease (n : Fin 160) (pair : Fin 2) (count : BitVec 7) (tag : BitVec 16)
  /-- CVE_NOTICE (R412). A NOTICE command sends a broadcast data frame once on each usable leg. -/
  | cveNotice (hdr : Word) (d : List Word) (tag : BitVec 16)
  /-- CTX_BAR_CLEAR (R419). A W1C write of STAT.BAR lifts the bar and the context enters LISTEN. `v` is the word written to `STAT`; the row's own bit is taken as 1. -/
  | ctxBarClear (ini : Ini) (n : Fin 160) (v : Word)
  /-- NIB_SUBMIT (R435). A write of NIB_SUB_HDR commits a copy, which Nib classifies by stream and number. The window's pair and the word written to `NIB_SUB_HDR`; the burst image stands in `NIB_SUB_D0` on. -/
  | nibSubmit (ini : Ini) (p : Fin 2) (v : Word)
  /-- NIB_FORWARD (R438). A queued command is forwarded to its target port once the previous forward has completed. The queue of MPG, DMC, CLG or CVE (0 to 3). -/
  | nibForward (blk : Fin 4)
  /-- LAG_TIMEOUT (R437). A lead hold lasts LAG_TMO and the lagging pair fails with LAG. The pair whose commit is held. -/
  | lagTimeout (p : Fin 2)
  /-- NIB_HELLO (R430). A write of NIB_HELLO announces a booted pair, which becomes DUTY or JOINING. -/
  | nibHello (ini : Ini) (p : Fin 2) (v : Word)
  /-- NIB_WDG_KICK (R440). A write of NIB_WDG_KICK restarts the pair's watchdog. -/
  | nibWdgKick (ini : Ini) (p : Fin 2) (v : Word)
  /-- WDG_TIMEOUT (R440). WDG_TMO passes without a kick and the pair fails with WDG. -/
  | wdgTimeout (p : Fin 2)
  /-- BOOT_TIMEOUT (R430). 5 s pass in BOOT without NIB_HELLO and the pair fails. -/
  | bootTimeout (p : Fin 2)
  /-- AUTO_RESTART (R442). 100 ms after no pair is live, RDM restarts each failed pair whose domain is powered. -/
  | autoRestart
  /-- ROLE_SWAP (R446). A ROLE_SWAP by the duty pair exchanges the roles. `v` is the word written to `RDM_PAIR_CTRL`; the row's own bit is taken as 1. -/
  | roleSwap (ini : Ini) (v : Word)
  /-- ADMIT (R445). An ADMIT by the duty pair requests admission of the JOINING pair. As `roleSwap`. -/
  | admitPair (ini : Ini) (v : Word)
  /-- ADMITTED (R445). The admission conditions hold and the joining pair becomes STANDBY at the present stream numbers. -/
  | admitted
  /-- PAIR_RESTART (R440). A RESTART by the duty pair fails and reboots the named pair from the named slot. As `roleSwap`; the row's own bit is that of pair `p`. -/
  | pairRestart (ini : Ini) (p : Fin 2) (v : Word)
  /-- QUILL_BULK_DONE (R444). A window's bulk copy finishes and SYNCED sets, with QSYNC when all are synced. -/
  | quillBulkDone (w : Fin 32)
  /-- HEALTH_REPORT (R449). A write of NIB_HR_W15 submits a health report, which RDM accepts or rejects. `v` is the word written to `NIB_HR_W15`; the rest stands in `NIB_HR_W0` on. -/
  | healthReport (ini : Ini) (p : Fin 2) (v : Word)
  /-- HR_TIMEOUT (R449). HR_TMO passes without an accepted report and a miss is fed to the pair's filter. -/
  | hrTimeout (p : Fin 2)
  /-- TEST_SLOT (R450). An RDM test slot opens every 10 ms and runs the scheduled or requested tests. What the march finds (1 a correctable, 2 an uncorrectable error) and whether tests 1 and 3 pass. -/
  | testSlot (march : Fin 3) (nibOk wdgOk : Bool)
  /-- TEST_REQ (R450). A write of TEST_REQ queues an RDM test. `v` is the word written to offset 0x078. -/
  | testReq (ini : Ini) (v : Word)
  /-- BOOT_DONE (R528). The boot ROM finishes loading and verifying an image and jumps to it, or falls back or halts. The time it took, in µs; whether the read of the directory, of the header and of the body failed; and an uncorrectable error of local SRAM. -/
  | bootDone (p : Fin 2) (us : Fin 16001) (dirErr hdrErr bodyErr eccErr : Bool)
  /-- IKW_SW_RECORD (R480). A write of IKW_SW_HDR offers a firmware record. `v` is the word written. -/
  | ikwSwRecord (ini : Ini) (v : Word)
  /-- RECORD_DRAIN (R471). A record from the FIFO head is written to the MRAM ring and read back. `fails` slots in a row fail their read-back first. -/
  | recordDrain (fails : Nat)
  /-- TOKEN_REFILL (R467). REFILL passes and a token is added to a code's bucket. `c` is the event code. -/
  | tokenRefill (c : Fin 1024)
  /-- IKW_ENABLE (R473). A write of EN starts draining and, at the first after power-on, the ring scan. -/
  | ikwEnable (ini : Ini) (v : Word)
  /-- SCAN_DONE (R473). The ring scan ends, the head is placed and SCAN_DONE is raised. -/
  | scanDone
  /-- ARCHIVE_COPY (R474). An MRAM page is copied to an archive block, verified and ARC_HEAD advances. `ok` false: the erase or program fails. -/
  | archiveCopy (ok : Bool)
  /-- IKW_RD_IDX (R477). A write of IKW_RD_IDX copies one slot into IKW_RD_W0 to W15. -/
  | ikwRdIdx (ini : Ini) (v : Word)
  /-- IKW_CODE_WRITE (R481). A taken write of a code entry sets its fields and refills its bucket. -/
  | ikwCodeWrite (ini : Ini) (c : Fin 1024) (v : Word)
  /-- IKW_FAULT_CLEAR (R472). A W1C write of IKW FAULT clears it while filter 0xF3 is not lasting. -/
  | ikwFaultClear (ini : Ini) (v : Word)
  /-- IKW_READ (R478). The SVC command IKW READ sends the latest n records. `n` is the count on the SVC line. -/
  | ikwRead (n : Nat)
  /-- OPP_REQ (R490). A write of OPP_REQ starts a change of operating point. `v` is the word written to `PCR_OPP`. -/
  | oppReq (ini : Ini) (v : Word)
  /-- OPP_DONE (R490). The operating point change completes or fails and OPP_CUR is written. Whether the change succeeded; a native change always does. -/
  | oppDone (ok : Bool)
  /-- DVS_ACK_TIMEOUT (R488). DVS_ACK stays low for DVS_TMO after a change of DVS_REQ. -/
  | dvsAckTimeout
  /-- DVS_ACK_LOST (R488). DVS_ACK stays low for 20 µs with DVS_REQ unchanged and is treated as a supply fault. -/
  | dvsAckLost
  /-- CORE_WFI (R491). A core executes wait-for-interrupt and enters IDLE. The pair and its core. -/
  | coreWfi (p c : Fin 2)
  /-- SLEEP_STANDBY (R492). A write of TARGET = STANDBY is checked and, if OK, PCR waits for the cores. `v` is the word written to `PCR_SLEEP_REQ`, its `TARGET` taken as 1; `active`: the wake sources that are active outside the device. -/
  | sleepStandby (ini : Ini) (v : Word) (active : BitVec 9)
  /-- SLEEP_HIBERNATE (R492). A write of TARGET = HIBERNATE is checked and, if OK, PCR waits for the cores. As `sleepStandby`, `TARGET` taken as 2. -/
  | sleepHibernate (ini : Ini) (v : Word) (active : BitVec 9)
  /-- SLEEP_CORES_TIMEOUT (R492). Not every core reaches wait-for-interrupt within 10 ms and the request fails with CORES. -/
  | sleepCoresTimeout
  /-- STANDBY_ENTRY (R493). The last core enters wait-for-interrupt and the STANDBY entry sequence runs. -/
  | standbyEntry
  /-- HIBERNATE_ENTRY (R494). The last core enters wait-for-interrupt and the HIBERNATE entry sequence runs. -/
  | hibernateEntry
  /-- WAKE_EVENT (R496). An enabled wake source starts the wake sequence from STANDBY or HIBERNATE. The bit of `PCR_WAKE_SRC` and, for `PFI` and `BUS`, the channel or port. -/
  | wakeEvent (src : Fin 9) (ch : Fin 8)
  /-- WAKE_ATTEMPT_TIMEOUT (R499). A regulator or oscillator readiness attempt times out and is retried, or the wake fails or limp clock follows. Whether the oscillator step times out (the regulator is then ready), or the regulator step. -/
  | wakeAttemptTimeout (osc : Bool)
  /-- BROWN_OUT (R486). A brown-out on VCORE in LP resets the switched domains. -/
  | brownOut
  /-- UNDERVOLTAGE (R486). An undervoltage on VCORE in RUN resets the switched domains and latches SELFTEST. -/
  | undervoltage
  /-- CLOCK_FAIL (R501). A clock monitor detects a failed clock and its action follows. `XIN`, `PLL_SYS`, `PLL_APX`, `PLL_LANE`, `PLL_DDR`. -/
  | clockFail (mon : Fin 5)
  /-- XAON_FAIL (R501). XAON has no edge for 100 µs and the AON counter moves to RCO. -/
  | xaonFail
  /-- XAON_RECOVER (R501). 1,024 good XAON periods return XAON_OK to 1. -/
  | xaonRecover
  /-- NRESET_ASSERT (R503). nRESET goes low for 1 µs and the domains in its scope are held in reset. -/
  | nresetAssert
  /-- NRESET_RELEASE (R503). nRESET returns high and the device boots from step 4. -/
  | nresetRelease
  /-- RESET_STUCK (R504). nRESET stays low longer than RST_STUCK_S and the pin is treated as failed. -/
  | resetStuck
  /-- POWER_ON (R506). VIN_MAIN rises through its threshold and the start-up sequence runs. The strap, whether `VSAGE` is present, and the failed attempts at each readiness step; 4: never ready. -/
  | powerOn (pmode vsage : Bool) (regFails oscFails : Fin 5)
  /-- POWER_LOSS (R559). VIN_MAIN falls through its falling threshold and power-on reset is asserted. -/
  | powerLoss
  /-- LIFE_CHECKPOINT (R507). Every 60 s the operating time is checkpointed to the older MRAM slot. -/
  | lifeCheckpoint
  /-- PWR_FAIL (R508). VIN_MAIN stays below PFW_LEVEL for 10 µs; a checkpoint is taken and IKW enters PFW mode. -/
  | pwrFail
  /-- PWR_FAIL_CLEAR (R508). VIN_MAIN stays 100 mV above PFW_LEVEL for 1 ms and the warning clears. -/
  | pwrFailClear
  /-- DOMAIN_ENABLE (R512). A write of CTRL.EN of a PCR channel page powers or removes a domain, failing an APX pair where permitted. `v` is the word written to `CTRL` of the domain's page. -/
  | domainEnable (ini : Ini) (d : Fin 10) (v : Word)
  /-- SCRUB_READ (R515). The scrubber reads the next SRAM word and corrects it if needed. What the word shows: 0 nothing, 1 a correctable, 2 an uncorrectable error. -/
  | scrubRead (ecc : Fin 3)
  /-- DDR_INIT (R519). A write of INIT starts LPDDR4X calibration and training. `v` is the word written to `MEM_DDR_CFG`; the row's own bit is taken as 1. -/
  | ddrInit (ini : Ini) (v : Word)
  /-- DDR_READY (R519). Training completes and READY or TRAIN_FAIL sets. Whether training succeeds. -/
  | ddrReady (ok : Bool)
  /-- DDR_MR4_POLL (R519). Every 16 ms the controller polls MR4 and derates refresh. The refresh rate code read from MR4. -/
  | ddrMr4Poll (rate : Fin 8)
  /-- XSPI_ERASE (R521). A write of MEM_XSPI_CMD with OP 1 starts a 4 KiB sector erase. `v` is the word written to `MEM_XSPI_CMD`, its `OP` taken as 1. -/
  | xspiErase (ini : Ini) (v : Word)
  /-- XSPI_PROGRAM (R521). A write of MEM_XSPI_CMD with OP 2 starts a page program. As `xspiErase`, `OP` taken as 2. -/
  | xspiProgram (ini : Ini) (v : Word)
  /-- XSPI_DONE (R521). An xSPI command completes or fails. Whether the command succeeded. -/
  | xspiDone (ok : Bool)
  /-- OTP_PROGRAM (R523). A write of MEM_OTP_DATA requests programming of an OTP word. -/
  | otpProgram (ini : Ini) (v : Word)
  /-- OTP_DONE (R523). An OTP word is programmed and verified. Whether the word reads back as programmed. -/
  | otpDone (ok : Bool)
  /-- ARB_ADVANCE (R525). A write of MEM_ARB_NEW_HI requests an advance of the anti-rollback counter. `v` is the word written to `MEM_ARB_NEW_HI`. -/
  | arbAdvance (ini : Ini) (v : Word)
  /-- MEM_BOOT_SEL (R527). A write of MEM_BOOT_SEL writes the older boot record copy with SEQ + 1. -/
  | memBootSel (ini : Ini) (v : Word)
  /-- ATT_REQ (R529). A write of REQ latches the nonce and starts an attestation report. `v` is the word written to `MEM_ATT_CTRL`; the row's own bit is taken as 1. -/
  | attReq (ini : Ini) (v : Word)
  /-- ATT_DONE (R529). The crypto engine signs the attestation report and raises ATT_DONE. The time it took, in µs. -/
  | attDone (us : Fin 2001)
  /-- DBG_CHALLENGE (R531). A read of MEM_DBG_CHAL0 draws a new debug challenge. The initiator that reads `MEM_DBG_CHAL0`. -/
  | dbgChallenge (ini : Ini)
  /-- DBG_SUBMIT (R531). A write of MEM_DBG_SUBMIT submits a signed debug unlock. -/
  | dbgSubmit (ini : Ini) (v : Word)
  /-- DBG_RESULT (R531). MEM opens debug access with the requested scope or counts a failure. The time it took, in µs and ticks of 10 ns. -/
  | dbgResult (us : Fin 2000) (ticks : Fin 101)
  /-- DBG_LOCKOUT_END (R531). 60 s after three failures, challenges are accepted again. -/
  | dbgLockoutEnd
  /-- JTAG_INSTRUCTION (R530). A JTAG instruction such as BYPASS, IDCODE, SAMPLE/PRELOAD, EXTEST or CLAMP is executed. -/
  | jtagInstruction (ir : JtagIr)
  /-- LINK_CHANGE (R536). An Ethernet link goes up or down; a fall feeds the port's filter. What the PHY reports: the link, and 1000 Mbit/s full duplex. -/
  | linkChange (n : Fin 2) (up speedOk : Bool)
  /-- ETH_FRAME_RECEIVED (R541). A received Ethernet frame is classified, stamped if PTP, and written to its ring or dropped. -/
  | ethFrameReceived (n : Fin 2) (f : EthFrame)
  /-- ETH_FRAME_SENT (R542). A frame is chosen by class and credit, sent, stamped if PTP, and its descriptor handed back. Whether the link goes down while the frame is sent. -/
  | ethFrameSent (n : Fin 2) (linkLost : Bool)
  /-- RING_TAIL (R539). A write of TAIL hands descriptors to the port. `v` is the word written to `BNI_RINGr_TAIL`. -/
  | ringTail (ini : Ini) (n : Fin 2) (r : Fin 8) (v : Word)
  /-- BNI_ENABLE (R544). A write of CTRL.EN to an Ethernet port starts it, or stops it and returns owned descriptors. `v` is the word written to `CTRL`. -/
  | bniEnable (ini : Ini) (n : Fin 2) (v : Word)
  /-- BNI_FAULT_CLEAR (R536). A W1C write of BNI FAULT clears it while the filter is not lasting. `v` is the word written to `STAT`; the row's own bit is taken as 1. -/
  | bniFaultClear (ini : Ini) (n : Fin 2) (v : Word)
  /-- DOOR_PROFILE_TICK (R246). Every 10 µs a door channel advances its speed profile, computes EKIN and updates STALL_VALID. -/
  | doorProfileTick (n : Fin 8)
  /-- PWM_PERIOD_BOUNDARY (R248). At each PWM period boundary a door channel updates the applied angle and duties, forms the back-EMF load angle and applies a QUIET/FORCE mode change. The ADC codes of phases A and B: the first sample of the period, and those after it. -/
  | pwmPeriodBoundary (n : Fin 8) (codeA codeB : BitVec 14) (moreA moreB : List (BitVec 14))
  /-- BUS_ERROR (R361). A CAN port detects an error on a frame it is receiving, updating REC, SBC_LASTERR, ERR_CNT or RESTR_ERR and possibly error-passive. The error code of R361; `dom`: a dominant bit followed the port's error flag. -/
  | busError (n : Fin 8) (code : BitVec 3) (dataPhase dom : Bool)
  /-- PROTOCOL_EXCEPTION (R352). A received recessive res bit makes the port integrate again and raises IRQ_RAW.PEX while PEX_EN is 1. -/
  | protocolException (n : Fin 8)
  /-- LANE_SUPPLY_LOSS (R61). PD_SLP or PD_SAGE loses its supply and that lane's switches of every safety output open. PD_SAGE loses its supply, else PD_SLP. -/
  | laneSupplyLoss (sage : Bool)
  /-- WAKE_COMPLETE (R497). The regulator and oscillator become ready, the timebase is reloaded, domains are restored and IRQ_RAW.WAKE is raised. Whether the CRC over the save area holds (HIBERNATE). -/
  | wakeComplete (crcOk : Bool)
  /-- TIME_LO_READ (R14). A read of a _LO time or counter register latches the matching _HI word, per initiator for TBS_NOW. `a` is the address of the `_LO` word. -/
  | timeLoRead (ini : Ini) (a : Word)
deriving DecidableEq, Repr

end Sys2Proof
end

