-- ==== Sys2Proof/Decode.lean ====
section
/-! DEFINITION. The command a word spells by the opcode table's bits. The table gives no row any bits: the commands
reach the block as register accesses, frames, levels and times, not as encoded words, so every word spells none. -/

namespace Sys2Proof

/-- The command of a word of `nbits` bits: none, since no row of the opcode table has bits. -/
def decodeTableWord (_nbits _w : Nat) : Option Instr := none

end Sys2Proof
end

