-- ==== Sys2Proof/Config.lean ====
section
/-! DEFINITION. The free values of the model: what the manual leaves open. Each is an opaque constant without a body,
applied to a plain counter of the state (`State.fresh`) or to operands; nothing can be proved of its value. -/

namespace Sys2Proof.Config

/-- The free value number `n` (log entry 6): rounding inside the bounds the manual states, contents the manual does
not give, random bytes. -/
opaque freeNat : Nat → Nat

/-- A free word of the device's random source or of a cryptographic result (log entry 6). -/
opaque freeWord : Nat → Word

/-- Kernel version read at `SLP_KVER` (R310: "kernel-defined"; log entry 7). -/
opaque slpKver : Word

/-- The bytes of the boot ROM (R513: mask ROM, contents not given; log entry 6). -/
opaque romByte : Nat → Nat

/-- The flash fitted supports 8D-8D-8D (R528, R533; log entry 170). -/
opaque flashOctal : Bool

end Sys2Proof.Config
end

