-- ==== Sys2Proof/Machine/RegMap.lean ====
section
/-! DEFINITION. The register map: every field of every register table of the manual (its place, access type and
reset value), page kind by page kind, transcribed from the register tables of the chapters (R42 to R546). -/

namespace Sys2Proof

/-- A field of a register: the offset of its word in its page or table, its lowest bit, its width. -/
structure Fld where
  off : Nat
  lo : Nat
  w : Nat
deriving DecidableEq, Repr

/-- The access types of R70; W1C is split into flag fields and counter fields, as R70 does. -/
inductive Acc where
  | rw | ro | w1cFlag | w1cCnt | w1s | wo | rwl
deriving DecidableEq, Repr

/-- A row of a register table: the field, its access type and reset value, and how often the row repeats
(`cnt` instances `stride` bytes apart, each of `inner` consecutive words). -/
structure RF where
  f : Fld
  acc : Acc
  rst : Nat
  cnt : Nat := 1
  stride : Nat := 4
  inner : Nat := 1
  /-- the `_LO` word of a 64-bit time or counter pair (R14) -/
  lo64 : Bool := false
deriving DecidableEq, Repr

/-- Whether the row has an instance in the word at offset `rel`. -/
def RF.covers (r : RF) (rel : Nat) : Bool :=
  decide (r.f.off ≤ rel) && decide ((rel - r.f.off) / r.stride < r.cnt) &&
    decide ((rel - r.f.off) % r.stride < 4 * r.inner) && decide ((rel - r.f.off) % r.stride % 4 = 0)

/-! Header of every page (R69). `IRQ_RAW` is written only through `IRQ_STAT` and `IRQ_FORCE`. -/
namespace R.Hdr
abbrev CTRL_EN : Fld := ⟨0x008, 0, 1⟩
abbrev STAT : Fld := ⟨0x00C, 0, 32⟩
abbrev IRQ_RAW : Fld := ⟨0x010, 0, 32⟩
abbrev IRQ_EN : Fld := ⟨0x014, 0, 32⟩
abbrev IRQ_STAT : Fld := ⟨0x018, 0, 32⟩
abbrev IRQ_FORCE : Fld := ⟨0x01C, 0, 32⟩
abbrev LOCK_HALF : Fld := ⟨0x020, 17, 1⟩
abbrev LOCK_OPEN : Fld := ⟨0x020, 16, 1⟩
abbrev LOCK_KEY : Fld := ⟨0x020, 0, 16⟩
abbrev FAULT_CNT : Fld := ⟨0x024, 0, 32⟩
abbrev TS_LO : Fld := ⟨0x028, 0, 32⟩
abbrev TS_HI : Fld := ⟨0x02C, 0, 32⟩
abbrev GRPMASK : Fld := ⟨0x030, 0, 4⟩
end R.Hdr

/-! MpgC: R42, R43, R44, R45, R46. -/
namespace R.MpgC
abbrev LDG_LAST : Fld := ⟨0x040, 8, 8⟩
abbrev CARS : Fld := ⟨0x040, 0, 2⟩
abbrev DISARM_L : Fld := ⟨0x044, 5, 1⟩
abbrev DISARM_U : Fld := ⟨0x044, 4, 1⟩
abbrev ARM_L : Fld := ⟨0x044, 1, 1⟩
abbrev ARM_U : Fld := ⟨0x044, 0, 1⟩
abbrev MAP_ERR_CAR : Fld := ⟨0x048, 24, 1⟩
abbrev MAP_ERR_LDG : Fld := ⟨0x048, 16, 8⟩
abbrev MAP_ERR : Fld := ⟨0x048, 12, 4⟩
abbrev MAP_DIS_REJ : Fld := ⟨0x048, 6, 1⟩
abbrev MAP_WR_REJ : Fld := ⟨0x048, 5, 1⟩
abbrev MAP_DONE : Fld := ⟨0x048, 4, 1⟩
abbrev MAP_BUSY : Fld := ⟨0x048, 3, 1⟩
abbrev MAP_ARMED_L : Fld := ⟨0x048, 1, 1⟩
abbrev MAP_ARMED_U : Fld := ⟨0x048, 0, 1⟩
abbrev DSEP : Fld := ⟨0x04C, 0, 32⟩
abbrev CAR_TRAVEL_MIN : Fld := ⟨0x080, 0, 32⟩
abbrev CAR_TRAVEL_MAX : Fld := ⟨0x084, 0, 32⟩
abbrev CAR_OFS_TOP : Fld := ⟨0x088, 0, 32⟩
abbrev CAR_OFS_BOT : Fld := ⟨0x08C, 0, 32⟩
abbrev CAR_TZ_BOT : Fld := ⟨0x090, 0, 32⟩
abbrev CAR_TZ_TOP : Fld := ⟨0x094, 0, 32⟩
abbrev CAR_DOORS_REAR : Fld := ⟨0x098, 1, 1⟩
abbrev CAR_DOORS_FRONT : Fld := ⟨0x098, 0, 1⟩
abbrev CAR_WHERE_VALID : Fld := ⟨0x09C, 12, 1⟩
abbrev CAR_WHERE_IN_TZ : Fld := ⟨0x09C, 10, 1⟩
abbrev CAR_WHERE_IN_UZ : Fld := ⟨0x09C, 9, 1⟩
abbrev CAR_WHERE_IN_DZ : Fld := ⟨0x09C, 8, 1⟩
abbrev CAR_WHERE_LDG : Fld := ⟨0x09C, 0, 8⟩
/-- Rows of the register table (R42, R43, R44, R45, R46), part 1. -/
def tbl0 : List RF := [
  { f := LDG_LAST, acc := .rwl, rst := 0 },
  { f := CARS, acc := .rwl, rst := 0 },
  { f := DISARM_L, acc := .wo, rst := 0 },
  { f := DISARM_U, acc := .wo, rst := 0 },
  { f := ARM_L, acc := .wo, rst := 0 },
  { f := ARM_U, acc := .wo, rst := 0 },
  { f := MAP_ERR_CAR, acc := .ro, rst := 0 },
  { f := MAP_ERR_LDG, acc := .ro, rst := 0 },
  { f := MAP_ERR, acc := .ro, rst := 0 },
  { f := MAP_DIS_REJ, acc := .w1cFlag, rst := 0 },
  { f := MAP_WR_REJ, acc := .w1cFlag, rst := 0 },
  { f := MAP_DONE, acc := .w1cFlag, rst := 0 },
  { f := MAP_BUSY, acc := .ro, rst := 0 },
  { f := MAP_ARMED_L, acc := .ro, rst := 0 },
  { f := MAP_ARMED_U, acc := .ro, rst := 0 },
  { f := DSEP, acc := .ro, rst := 0x1e8480 },
  { f := CAR_TRAVEL_MIN, acc := .rwl, rst := 0, cnt := 2, stride := 0x40 },
  { f := CAR_TRAVEL_MAX, acc := .rwl, rst := 0, cnt := 2, stride := 0x40 },
  { f := CAR_OFS_TOP, acc := .rwl, rst := 0, cnt := 2, stride := 0x40 },
  { f := CAR_OFS_BOT, acc := .rwl, rst := 0, cnt := 2, stride := 0x40 },
  { f := CAR_TZ_BOT, acc := .rwl, rst := 0, cnt := 2, stride := 0x40 },
  { f := CAR_TZ_TOP, acc := .rwl, rst := 0, cnt := 2, stride := 0x40 },
  { f := CAR_DOORS_REAR, acc := .rwl, rst := 0, cnt := 2, stride := 0x40 },
  { f := CAR_DOORS_FRONT, acc := .rwl, rst := 0, cnt := 2, stride := 0x40 }]
/-- Rows of the register table (R42, R43, R44, R45, R46), part 2. -/
def tbl1 : List RF := [
  { f := CAR_WHERE_VALID, acc := .ro, rst := 0, cnt := 2, stride := 0x40 },
  { f := CAR_WHERE_IN_TZ, acc := .ro, rst := 0, cnt := 2, stride := 0x40 },
  { f := CAR_WHERE_IN_UZ, acc := .ro, rst := 0, cnt := 2, stride := 0x40 },
  { f := CAR_WHERE_IN_DZ, acc := .ro, rst := 0, cnt := 2, stride := 0x40 },
  { f := CAR_WHERE_LDG, acc := .ro, rst := 0, cnt := 2, stride := 0x40 }]
/-- All rows of the register table (R42, R43, R44, R45, R46). -/
def tbl : List RF := tbl0 ++ tbl1
/-- The rows whose reset value is not 0. -/
def rst : List RF := [{ f := DSEP, acc := .ro, rst := 0x1e8480, cnt := 1, stride := 0x4 }]
end R.MpgC

/-! Ldg: R47. -/
namespace R.Ldg
abbrev SILL : Fld := ⟨0x000, 0, 32⟩
abbrev DZ_LO : Fld := ⟨0x004, 0, 18⟩
abbrev DZ_HI : Fld := ⟨0x008, 0, 18⟩
abbrev UZ_LO : Fld := ⟨0x00C, 0, 18⟩
abbrev UZ_HI : Fld := ⟨0x010, 0, 18⟩
abbrev REAR : Fld := ⟨0x014, 3, 1⟩
abbrev FRONT : Fld := ⟨0x014, 2, 1⟩
abbrev SERVE_L : Fld := ⟨0x014, 1, 1⟩
abbrev SERVE_U : Fld := ⟨0x014, 0, 1⟩
/-- Rows of the register table (R47), part 1. -/
def tbl0 : List RF := [
  { f := SILL, acc := .rwl, rst := 0, cnt := 256, stride := 0x20 },
  { f := DZ_LO, acc := .rwl, rst := 0, cnt := 256, stride := 0x20 },
  { f := DZ_HI, acc := .rwl, rst := 0, cnt := 256, stride := 0x20 },
  { f := UZ_LO, acc := .rwl, rst := 0, cnt := 256, stride := 0x20 },
  { f := UZ_HI, acc := .rwl, rst := 0, cnt := 256, stride := 0x20 },
  { f := REAR, acc := .rwl, rst := 0, cnt := 256, stride := 0x20 },
  { f := FRONT, acc := .rwl, rst := 0, cnt := 256, stride := 0x20 },
  { f := SERVE_L, acc := .rwl, rst := 0, cnt := 256, stride := 0x20 },
  { f := SERVE_U, acc := .rwl, rst := 0, cnt := 256, stride := 0x20 }]
/-- All rows of the register table (R47). -/
def tbl : List RF := tbl0
/-- The rows whose reset value is not 0. -/
def rst : List RF := []
end R.Ldg

/-! Fw: R85. -/
namespace R.Fw
abbrev W : Fld := ⟨0x000, 8, 16⟩
abbrev K : Fld := ⟨0x000, 0, 8⟩
abbrev LASTING : Fld := ⟨0x004, 31, 1⟩
abbrev IN_WIN : Fld := ⟨0x004, 16, 8⟩
abbrev OCC_CNT : Fld := ⟨0x004, 0, 16⟩
abbrev TS_LO : Fld := ⟨0x008, 0, 32⟩
abbrev TS_HI : Fld := ⟨0x00C, 0, 32⟩
/-- Rows of the register table (R85), part 1. -/
def tbl0 : List RF := [
  { f := W, acc := .rwl, rst := 0x3e8, cnt := 256, stride := 0x10 },
  { f := K, acc := .rwl, rst := 0x1, cnt := 256, stride := 0x10 },
  { f := LASTING, acc := .w1cFlag, rst := 0, cnt := 256, stride := 0x10 },
  { f := IN_WIN, acc := .ro, rst := 0, cnt := 256, stride := 0x10 },
  { f := OCC_CNT, acc := .w1cCnt, rst := 0, cnt := 256, stride := 0x10 },
  { f := TS_LO, acc := .ro, rst := 0, cnt := 256, stride := 0x10, lo64 := true },
  { f := TS_HI, acc := .ro, rst := 0, cnt := 256, stride := 0x10 }]
/-- All rows of the register table (R85). -/
def tbl : List RF := tbl0
/-- The rows whose reset value is not 0. -/
def rst : List RF := [{ f := W, acc := .rwl, rst := 0x3e8, cnt := 256, stride := 0x10 }, { f := K, acc := .rwl, rst := 0x1, cnt := 256, stride := 0x10 }]
end R.Fw

/-! TbsC: R111. -/
namespace R.TbsC
abbrev STAT_LIMP : Fld := ⟨0x00C, 2, 1⟩
abbrev STAT_SLEWING : Fld := ⟨0x00C, 1, 1⟩
abbrev STAT_RESEEDED : Fld := ⟨0x00C, 0, 1⟩
abbrev TBS_NOW_LO : Fld := ⟨0x040, 0, 32⟩
abbrev TBS_NOW_HI : Fld := ⟨0x044, 0, 32⟩
abbrev TBS_RATE : Fld := ⟨0x048, 0, 32⟩
abbrev TBS_OFS_LO : Fld := ⟨0x04C, 0, 32⟩
abbrev TBS_OFS_HI : Fld := ⟨0x050, 0, 32⟩
abbrev TBS_SLEW_REM_LO : Fld := ⟨0x054, 0, 32⟩
abbrev TBS_SLEW_REM_HI : Fld := ⟨0x058, 0, 32⟩
abbrev AON_PPM : Fld := ⟨0x05C, 16, 10⟩
abbrev SLEW_PPM : Fld := ⟨0x05C, 0, 7⟩
abbrev TBS_UNCERT_LO : Fld := ⟨0x060, 0, 32⟩
abbrev TBS_UNCERT_HI : Fld := ⟨0x064, 0, 32⟩
abbrev TBS_STEP_LO : Fld := ⟨0x068, 0, 32⟩
abbrev TBS_STEP_HI : Fld := ⟨0x06C, 0, 32⟩
abbrev STEP_CNT : Fld := ⟨0x070, 0, 32⟩
abbrev TBS_AON_LO : Fld := ⟨0x074, 0, 32⟩
abbrev TBS_AON_HI : Fld := ⟨0x078, 0, 16⟩
/-- Rows of the register table (R111), part 1. -/
def tbl0 : List RF := [
  { f := STAT_LIMP, acc := .ro, rst := 0 },
  { f := STAT_SLEWING, acc := .ro, rst := 0 },
  { f := STAT_RESEEDED, acc := .w1cFlag, rst := 0 },
  { f := TBS_NOW_LO, acc := .ro, rst := 0, lo64 := true },
  { f := TBS_NOW_HI, acc := .ro, rst := 0 },
  { f := TBS_RATE, acc := .rwl, rst := 0 },
  { f := TBS_OFS_LO, acc := .wo, rst := 0 },
  { f := TBS_OFS_HI, acc := .wo, rst := 0 },
  { f := TBS_SLEW_REM_LO, acc := .ro, rst := 0, lo64 := true },
  { f := TBS_SLEW_REM_HI, acc := .ro, rst := 0 },
  { f := AON_PPM, acc := .rwl, rst := 0xc8 },
  { f := SLEW_PPM, acc := .rwl, rst := 0x64 },
  { f := TBS_UNCERT_LO, acc := .ro, rst := 0, lo64 := true },
  { f := TBS_UNCERT_HI, acc := .ro, rst := 0 },
  { f := TBS_STEP_LO, acc := .ro, rst := 0, lo64 := true },
  { f := TBS_STEP_HI, acc := .ro, rst := 0 },
  { f := STEP_CNT, acc := .w1cCnt, rst := 0 },
  { f := TBS_AON_LO, acc := .ro, rst := 0, lo64 := true },
  { f := TBS_AON_HI, acc := .ro, rst := 0 }]
/-- All rows of the register table (R111). -/
def tbl : List RF := tbl0
/-- The rows whose reset value is not 0. -/
def rst : List RF := [{ f := AON_PPM, acc := .rwl, rst := 0xc8, cnt := 1, stride := 0x4 }, { f := SLEW_PPM, acc := .rwl, rst := 0x64, cnt := 1, stride := 0x4 }]
end R.TbsC

/-! TbsN: R113. -/
namespace R.TbsN
abbrev STAT_LEG_B : Fld := ⟨0x00C, 2, 1⟩
abbrev STAT_LEG_A : Fld := ⟨0x00C, 1, 1⟩
abbrev STAT_ACTIVE : Fld := ⟨0x00C, 0, 1⟩
abbrev SYNC_CNT : Fld := ⟨0x040, 0, 32⟩
abbrev MISS_B : Fld := ⟨0x044, 16, 16⟩
abbrev MISS_A : Fld := ⟨0x044, 0, 16⟩
abbrev TBS_NET_A_LO : Fld := ⟨0x048, 0, 32⟩
abbrev TBS_NET_A_HI : Fld := ⟨0x04C, 0, 32⟩
abbrev TBS_NET_B_LO : Fld := ⟨0x050, 0, 32⟩
abbrev TBS_NET_B_HI : Fld := ⟨0x054, 0, 32⟩
abbrev SYNC_SEQ : Fld := ⟨0x058, 0, 16⟩
/-- Rows of the register table (R113), part 1. -/
def tbl0 : List RF := [
  { f := STAT_LEG_B, acc := .ro, rst := 0 },
  { f := STAT_LEG_A, acc := .ro, rst := 0 },
  { f := STAT_ACTIVE, acc := .ro, rst := 0 },
  { f := SYNC_CNT, acc := .w1cCnt, rst := 0 },
  { f := MISS_B, acc := .w1cCnt, rst := 0 },
  { f := MISS_A, acc := .w1cCnt, rst := 0 },
  { f := TBS_NET_A_LO, acc := .ro, rst := 0, lo64 := true },
  { f := TBS_NET_A_HI, acc := .ro, rst := 0 },
  { f := TBS_NET_B_LO, acc := .ro, rst := 0, lo64 := true },
  { f := TBS_NET_B_HI, acc := .ro, rst := 0 },
  { f := SYNC_SEQ, acc := .ro, rst := 0 }]
/-- All rows of the register table (R113). -/
def tbl : List RF := tbl0
/-- The rows whose reset value is not 0. -/
def rst : List RF := []
end R.TbsN

/-! PfiC: R143. -/
namespace R.PfiC
abbrev STAT_KEEPER : Fld := ⟨0x00C, 0, 1⟩
abbrev PFI_SNAP : Fld := ⟨0x040, 0, 8⟩
/-- Rows of the register table (R143), part 1. -/
def tbl0 : List RF := [
  { f := STAT_KEEPER, acc := .ro, rst := 0 },
  { f := PFI_SNAP, acc := .wo, rst := 0 }]
/-- All rows of the register table (R143). -/
def tbl : List RF := tbl0
/-- The rows whose reset value is not 0. -/
def rst : List RF := []
end R.PfiC

/-! Fb: R144. -/
namespace R.Fb
abbrev CTRL_ORG_ARM : Fld := ⟨0x008, 1, 1⟩
abbrev STAT_FAULT : Fld := ⟨0x00C, 11, 1⟩
abbrev STAT_LIMIT : Fld := ⟨0x00C, 10, 1⟩
abbrev STAT_VALID : Fld := ⟨0x00C, 9, 1⟩
abbrev STAT_ORG_SET : Fld := ⟨0x00C, 8, 1⟩
abbrev STAT_SER_OK : Fld := ⟨0x00C, 7, 1⟩
abbrev STAT_KEEPER : Fld := ⟨0x00C, 6, 1⟩
abbrev STAT_DIR_KNOWN : Fld := ⟨0x00C, 5, 1⟩
abbrev STAT_DIRH : Fld := ⟨0x00C, 4, 1⟩
abbrev STAT_Z_LVL : Fld := ⟨0x00C, 2, 1⟩
abbrev STAT_P1_LVL : Fld := ⟨0x00C, 1, 1⟩
abbrev STAT_P0_LVL : Fld := ⟨0x00C, 0, 1⟩
abbrev PRB_N : Fld := ⟨0x040, 24, 6⟩
abbrev FILT_NK : Fld := ⟨0x040, 16, 6⟩
abbrev FILT_N : Fld := ⟨0x040, 8, 6⟩
abbrev Z_INV : Fld := ⟨0x040, 6, 1⟩
abbrev CNT_INV : Fld := ⟨0x040, 5, 1⟩
abbrev ZSRC : Fld := ⟨0x040, 2, 2⟩
abbrev MODE : Fld := ⟨0x040, 0, 2⟩
abbrev PFI_SCALE : Fld := ⟨0x044, 0, 32⟩
abbrev PFI_SOFTMIN : Fld := ⟨0x048, 0, 32⟩
abbrev PFI_SOFTMAX : Fld := ⟨0x04C, 0, 32⟩
abbrev PFI_RAW : Fld := ⟨0x050, 0, 32⟩
abbrev PFI_POS : Fld := ⟨0x054, 0, 32⟩
abbrev PFI_POS_SET : Fld := ⟨0x058, 0, 32⟩
abbrev PFI_HOME_POS : Fld := ⟨0x05C, 0, 32⟩
abbrev WIN : Fld := ⟨0x060, 0, 14⟩
abbrev PFI_SPD : Fld := ⟨0x064, 0, 32⟩
abbrev PFI_SPD_CNT : Fld := ⟨0x068, 0, 32⟩
abbrev DRIFT_CNT : Fld := ⟨0x06C, 16, 16⟩
abbrev ILLEGAL_CNT : Fld := ⟨0x06C, 0, 16⟩
abbrev PFI_IDX_LATCH : Fld := ⟨0x070, 0, 32⟩
abbrev PFI_IDX_INTERVAL : Fld := ⟨0x074, 0, 32⟩
abbrev PFI_IDX_TS_LO : Fld := ⟨0x078, 0, 32⟩
abbrev PFI_IDX_TS_HI : Fld := ⟨0x07C, 0, 32⟩
abbrev IDX_SPACING : Fld := ⟨0x080, 0, 32⟩
abbrev DRIFT_LIMIT : Fld := ⟨0x084, 0, 16⟩
abbrev PRB_RAW : Fld := ⟨0x0A0, 0, 32⟩
abbrev PRB_POS : Fld := ⟨0x0A4, 0, 32⟩
abbrev PRB_TS_LO : Fld := ⟨0x0A8, 0, 32⟩
abbrev PRB_TS_HI : Fld := ⟨0x0AC, 0, 32⟩
abbrev P1_INV : Fld := ⟨0x0E0, 6, 1⟩
abbrev P1_FALL : Fld := ⟨0x0E0, 5, 1⟩
abbrev P1_RISE : Fld := ⟨0x0E0, 4, 1⟩
abbrev P0_INV : Fld := ⟨0x0E0, 2, 1⟩
abbrev P0_FALL : Fld := ⟨0x0E0, 1, 1⟩
abbrev P0_RISE : Fld := ⟨0x0E0, 0, 1⟩
abbrev OVR_CNT : Fld := ⟨0x0E4, 16, 16⟩
abbrev STALE : Fld := ⟨0x0E4, 4, 4⟩
abbrev FULL : Fld := ⟨0x0E4, 0, 4⟩
abbrev CMP_VAL : Fld := ⟨0x100, 0, 32⟩
abbrev CMP_DISARM : Fld := ⟨0x104, 8, 1⟩
abbrev CMP_PASSED : Fld := ⟨0x104, 7, 1⟩
abbrev CMP_MISSED : Fld := ⟨0x104, 6, 1⟩
abbrev CMP_FIRED : Fld := ⟨0x104, 5, 1⟩
abbrev CMP_ARMED : Fld := ⟨0x104, 4, 1⟩
abbrev CMP_ARM : Fld := ⟨0x104, 3, 1⟩
abbrev CMP_FIRE_IF_PASSED : Fld := ⟨0x104, 2, 1⟩
abbrev CMP_DIR : Fld := ⟨0x104, 0, 2⟩
abbrev CMP_TS_LO : Fld := ⟨0x108, 0, 32⟩
abbrev CMP_TS_HI : Fld := ⟨0x10C, 0, 32⟩
abbrev GRAY : Fld := ⟨0x140, 24, 1⟩
abbrev POS_LSB : Fld := ⟨0x140, 16, 6⟩
abbrev POS_LEN : Fld := ⟨0x140, 8, 6⟩
abbrev DATA_LEN : Fld := ⟨0x140, 0, 6⟩
abbrev TMO : Fld := ⟨0x144, 24, 8⟩
abbrev MONO : Fld := ⟨0x144, 16, 8⟩
abbrev CRC_LEN : Fld := ⟨0x144, 11, 5⟩
abbrev SYNC : Fld := ⟨0x144, 8, 1⟩
abbrev CLK_DIV : Fld := ⟨0x144, 0, 8⟩
abbrev PFI_SER_POLY : Fld := ⟨0x148, 0, 16⟩
abbrev PERIOD : Fld := ⟨0x14C, 0, 12⟩
abbrev MAXSTEP : Fld := ⟨0x150, 0, 32⟩
abbrev TMO_CNT : Fld := ⟨0x154, 16, 16⟩
abbrev CRC_CNT : Fld := ⟨0x154, 0, 16⟩
abbrev JUMP_CNT : Fld := ⟨0x158, 16, 16⟩
abbrev NE_CNT : Fld := ⟨0x158, 0, 16⟩
abbrev PFI_SER_DELAY : Fld := ⟨0x15C, 0, 16⟩
abbrev PFI_SER_WORD_LO : Fld := ⟨0x160, 0, 32⟩
abbrev PFI_SER_WORD_HI : Fld := ⟨0x164, 0, 16⟩
abbrev PFI_SER_TS_LO : Fld := ⟨0x168, 0, 32⟩
abbrev PFI_SER_TS_HI : Fld := ⟨0x16C, 0, 32⟩
abbrev PFI_SNAP_RAW : Fld := ⟨0x170, 0, 32⟩
abbrev PFI_SNAP_POS : Fld := ⟨0x174, 0, 32⟩
abbrev PFI_SNAP_TS_LO : Fld := ⟨0x178, 0, 32⟩
abbrev PFI_SNAP_TS_HI : Fld := ⟨0x17C, 0, 32⟩
/-- Rows of the register table (R144), part 1. -/
def tbl0 : List RF := [
  { f := CTRL_ORG_ARM, acc := .rw, rst := 0 },
  { f := STAT_FAULT, acc := .w1cFlag, rst := 0 },
  { f := STAT_LIMIT, acc := .ro, rst := 0 },
  { f := STAT_VALID, acc := .ro, rst := 0 },
  { f := STAT_ORG_SET, acc := .ro, rst := 0 },
  { f := STAT_SER_OK, acc := .ro, rst := 0 },
  { f := STAT_KEEPER, acc := .ro, rst := 0 },
  { f := STAT_DIR_KNOWN, acc := .ro, rst := 0 },
  { f := STAT_DIRH, acc := .ro, rst := 0 },
  { f := STAT_Z_LVL, acc := .ro, rst := 0 },
  { f := STAT_P1_LVL, acc := .ro, rst := 0 },
  { f := STAT_P0_LVL, acc := .ro, rst := 0 },
  { f := PRB_N, acc := .rwl, rst := 0x4 },
  { f := FILT_NK, acc := .rwl, rst := 0x2 },
  { f := FILT_N, acc := .rwl, rst := 0x4 },
  { f := Z_INV, acc := .rwl, rst := 0 },
  { f := CNT_INV, acc := .rwl, rst := 0 },
  { f := ZSRC, acc := .rwl, rst := 0 },
  { f := MODE, acc := .rwl, rst := 0 },
  { f := PFI_SCALE, acc := .rwl, rst := 0x10000 },
  { f := PFI_SOFTMIN, acc := .rwl, rst := 0x80000000 },
  { f := PFI_SOFTMAX, acc := .rwl, rst := 0x7fffffff },
  { f := PFI_RAW, acc := .ro, rst := 0 },
  { f := PFI_POS, acc := .ro, rst := 0 }]
/-- Rows of the register table (R144), part 2. -/
def tbl1 : List RF := [
  { f := PFI_POS_SET, acc := .wo, rst := 0 },
  { f := PFI_HOME_POS, acc := .rw, rst := 0 },
  { f := WIN, acc := .rwl, rst := 0x3e8 },
  { f := PFI_SPD, acc := .ro, rst := 0 },
  { f := PFI_SPD_CNT, acc := .ro, rst := 0 },
  { f := DRIFT_CNT, acc := .w1cCnt, rst := 0 },
  { f := ILLEGAL_CNT, acc := .w1cCnt, rst := 0 },
  { f := PFI_IDX_LATCH, acc := .ro, rst := 0 },
  { f := PFI_IDX_INTERVAL, acc := .ro, rst := 0 },
  { f := PFI_IDX_TS_LO, acc := .ro, rst := 0, lo64 := true },
  { f := PFI_IDX_TS_HI, acc := .ro, rst := 0 },
  { f := IDX_SPACING, acc := .rwl, rst := 0 },
  { f := DRIFT_LIMIT, acc := .rwl, rst := 0 },
  { f := PRB_RAW, acc := .ro, rst := 0, cnt := 4, stride := 0x10 },
  { f := PRB_POS, acc := .ro, rst := 0, cnt := 4, stride := 0x10 },
  { f := PRB_TS_LO, acc := .ro, rst := 0, cnt := 4, stride := 0x10, lo64 := true },
  { f := PRB_TS_HI, acc := .ro, rst := 0, cnt := 4, stride := 0x10 },
  { f := P1_INV, acc := .rw, rst := 0 },
  { f := P1_FALL, acc := .rw, rst := 0 },
  { f := P1_RISE, acc := .rw, rst := 0 },
  { f := P0_INV, acc := .rw, rst := 0 },
  { f := P0_FALL, acc := .rw, rst := 0 },
  { f := P0_RISE, acc := .rw, rst := 0 },
  { f := OVR_CNT, acc := .w1cCnt, rst := 0 }]
/-- Rows of the register table (R144), part 3. -/
def tbl2 : List RF := [
  { f := STALE, acc := .ro, rst := 0 },
  { f := FULL, acc := .w1cFlag, rst := 0 },
  { f := CMP_VAL, acc := .rw, rst := 0, cnt := 4, stride := 0x10 },
  { f := CMP_DISARM, acc := .wo, rst := 0, cnt := 4, stride := 0x10 },
  { f := CMP_PASSED, acc := .w1cFlag, rst := 0, cnt := 4, stride := 0x10 },
  { f := CMP_MISSED, acc := .w1cFlag, rst := 0, cnt := 4, stride := 0x10 },
  { f := CMP_FIRED, acc := .w1cFlag, rst := 0, cnt := 4, stride := 0x10 },
  { f := CMP_ARMED, acc := .ro, rst := 0, cnt := 4, stride := 0x10 },
  { f := CMP_ARM, acc := .wo, rst := 0, cnt := 4, stride := 0x10 },
  { f := CMP_FIRE_IF_PASSED, acc := .rw, rst := 0, cnt := 4, stride := 0x10 },
  { f := CMP_DIR, acc := .rw, rst := 0, cnt := 4, stride := 0x10 },
  { f := CMP_TS_LO, acc := .ro, rst := 0, cnt := 4, stride := 0x10, lo64 := true },
  { f := CMP_TS_HI, acc := .ro, rst := 0, cnt := 4, stride := 0x10 },
  { f := GRAY, acc := .rwl, rst := 0 },
  { f := POS_LSB, acc := .rwl, rst := 0 },
  { f := POS_LEN, acc := .rwl, rst := 0x20 },
  { f := DATA_LEN, acc := .rwl, rst := 0x20 },
  { f := TMO, acc := .rwl, rst := 0x14 },
  { f := MONO, acc := .rwl, rst := 0x14 },
  { f := CRC_LEN, acc := .rwl, rst := 0x6 },
  { f := SYNC, acc := .rwl, rst := 0 },
  { f := CLK_DIV, acc := .rwl, rst := 0x13 },
  { f := PFI_SER_POLY, acc := .rwl, rst := 0x3 },
  { f := PERIOD, acc := .rwl, rst := 0x7d }]
/-- Rows of the register table (R144), part 4. -/
def tbl3 : List RF := [
  { f := MAXSTEP, acc := .rwl, rst := 0xffffffff },
  { f := TMO_CNT, acc := .w1cCnt, rst := 0 },
  { f := CRC_CNT, acc := .w1cCnt, rst := 0 },
  { f := JUMP_CNT, acc := .w1cCnt, rst := 0 },
  { f := NE_CNT, acc := .w1cCnt, rst := 0 },
  { f := PFI_SER_DELAY, acc := .ro, rst := 0 },
  { f := PFI_SER_WORD_LO, acc := .ro, rst := 0, lo64 := true },
  { f := PFI_SER_WORD_HI, acc := .ro, rst := 0 },
  { f := PFI_SER_TS_LO, acc := .ro, rst := 0, lo64 := true },
  { f := PFI_SER_TS_HI, acc := .ro, rst := 0 },
  { f := PFI_SNAP_RAW, acc := .ro, rst := 0 },
  { f := PFI_SNAP_POS, acc := .ro, rst := 0 },
  { f := PFI_SNAP_TS_LO, acc := .ro, rst := 0, lo64 := true },
  { f := PFI_SNAP_TS_HI, acc := .ro, rst := 0 }]
/-- All rows of the register table (R144). -/
def tbl : List RF := tbl0 ++ tbl1 ++ tbl2 ++ tbl3
/-- The rows whose reset value is not 0. -/
def rst : List RF := [{ f := PRB_N, acc := .rwl, rst := 0x4, cnt := 1, stride := 0x4 }, { f := FILT_NK, acc := .rwl, rst := 0x2, cnt := 1, stride := 0x4 }, { f := FILT_N, acc := .rwl, rst := 0x4, cnt := 1, stride := 0x4 }, { f := PFI_SCALE, acc := .rwl, rst := 0x10000, cnt := 1, stride := 0x4 }, { f := PFI_SOFTMIN, acc := .rwl, rst := 0x80000000, cnt := 1, stride := 0x4 }, { f := PFI_SOFTMAX, acc := .rwl, rst := 0x7fffffff, cnt := 1, stride := 0x4 }, { f := WIN, acc := .rwl, rst := 0x3e8, cnt := 1, stride := 0x4 }, { f := POS_LEN, acc := .rwl, rst := 0x20, cnt := 1, stride := 0x4 }, { f := DATA_LEN, acc := .rwl, rst := 0x20, cnt := 1, stride := 0x4 }, { f := TMO, acc := .rwl, rst := 0x14, cnt := 1, stride := 0x4 }, { f := MONO, acc := .rwl, rst := 0x14, cnt := 1, stride := 0x4 }, { f := CRC_LEN, acc := .rwl, rst := 0x6, cnt := 1, stride := 0x4 }, { f := CLK_DIV, acc := .rwl, rst := 0x13, cnt := 1, stride := 0x4 }, { f := PFI_SER_POLY, acc := .rwl, rst := 0x3, cnt := 1, stride := 0x4 }, { f := PERIOD, acc := .rwl, rst := 0x7d, cnt := 1, stride := 0x4 }, { f := MAXSTEP, acc := .rwl, rst := 0xffffffff, cnt := 1, stride := 0x4 }]
end R.Fb

/-! Po: R146. -/
namespace R.Po
abbrev STAT_SAT : Fld := ⟨0x00C, 0, 1⟩
abbrev MIN_GAP : Fld := ⟨0x040, 8, 8⟩
abbrev INV : Fld := ⟨0x040, 4, 1⟩
abbrev SRC : Fld := ⟨0x040, 0, 3⟩
abbrev M : Fld := ⟨0x044, 16, 16⟩
abbrev N : Fld := ⟨0x044, 0, 16⟩
abbrev PFI_PO_PEND : Fld := ⟨0x048, 0, 16⟩
abbrev PFI_PO_LOST : Fld := ⟨0x04C, 0, 32⟩
/-- Rows of the register table (R146), part 1. -/
def tbl0 : List RF := [
  { f := STAT_SAT, acc := .ro, rst := 0 },
  { f := MIN_GAP, acc := .rwl, rst := 0x14 },
  { f := INV, acc := .rwl, rst := 0 },
  { f := SRC, acc := .rwl, rst := 0 },
  { f := M, acc := .rwl, rst := 0x1 },
  { f := N, acc := .rwl, rst := 0x1 },
  { f := PFI_PO_PEND, acc := .ro, rst := 0 },
  { f := PFI_PO_LOST, acc := .w1cCnt, rst := 0 }]
/-- All rows of the register table (R146). -/
def tbl : List RF := tbl0
/-- The rows whose reset value is not 0. -/
def rst : List RF := [{ f := MIN_GAP, acc := .rwl, rst := 0x14, cnt := 1, stride := 0x4 }, { f := M, acc := .rwl, rst := 0x1, cnt := 1, stride := 0x4 }, { f := N, acc := .rwl, rst := 0x1, cnt := 1, stride := 0x4 }]
end R.Po

/-! Mpg: R171, R172, R214. -/
namespace R.Mpg
abbrev CTRL_HALT_CLR : Fld := ⟨0x008, 1, 1⟩
abbrev STAT_DIR_UP : Fld := ⟨0x00C, 14, 1⟩
abbrev STAT_SEC_LOST : Fld := ⟨0x00C, 13, 1⟩
abbrev STAT_PRI_LOST : Fld := ⟨0x00C, 12, 1⟩
abbrev STAT_DEGRADED : Fld := ⟨0x00C, 11, 1⟩
abbrev STAT_RLV_NEED : Fld := ⟨0x00C, 10, 1⟩
abbrev STAT_LEVEL_MISS : Fld := ⟨0x00C, 9, 1⟩
abbrev STAT_LEVELLED : Fld := ⟨0x00C, 8, 1⟩
abbrev STAT_STOP_CAUSE : Fld := ⟨0x00C, 4, 4⟩
abbrev STAT_STATE : Fld := ⟨0x00C, 0, 4⟩
abbrev MPG_P_VMAX : Fld := ⟨0x040, 0, 32⟩
abbrev MPG_P_ACC : Fld := ⟨0x044, 0, 32⟩
abbrev MPG_P_DEC : Fld := ⟨0x048, 0, 32⟩
abbrev MPG_P_JERK : Fld := ⟨0x04C, 0, 32⟩
abbrev MPG_ACT_VMAX : Fld := ⟨0x050, 0, 32⟩
abbrev MPG_ACT_ACC : Fld := ⟨0x054, 0, 32⟩
abbrev MPG_ACT_DEC : Fld := ⟨0x058, 0, 32⟩
abbrev MPG_ACT_JERK : Fld := ⟨0x05C, 0, 32⟩
abbrev MPG_VRATED : Fld := ⟨0x060, 0, 32⟩
abbrev MPG_VDEG : Fld := ⟨0x064, 0, 32⟩
abbrev MPG_SRC_SRC_SEC : Fld := ⟨0x068, 4, 3⟩
abbrev MPG_SRC_SRC_PRI : Fld := ⟨0x068, 0, 3⟩
abbrev SRC_TOL : Fld := ⟨0x06C, 0, 32⟩
abbrev LVL_SETTLE : Fld := ⟨0x070, 16, 8⟩
abbrev LVL_TOL : Fld := ⟨0x070, 0, 16⟩
abbrev LVL_TMO : Fld := ⟨0x074, 0, 16⟩
abbrev RLV_AUTO : Fld := ⟨0x078, 31, 1⟩
abbrev RLV_START : Fld := ⟨0x078, 0, 16⟩
abbrev MPG_RLV_SPEED : Fld := ⟨0x07C, 0, 32⟩
abbrev MPG_RLV_ACC : Fld := ⟨0x080, 0, 32⟩
abbrev MPG_RLV_JERK : Fld := ⟨0x084, 0, 32⟩
abbrev MPG_STOP_DEC_MIN : Fld := ⟨0x088, 0, 32⟩
abbrev MPG_STOP_JERK_MIN : Fld := ⟨0x08C, 0, 32⟩
abbrev PHASE : Fld := ⟨0x090, 0, 14⟩
abbrev MPG_REF_POS : Fld := ⟨0x0A0, 0, 32⟩
abbrev MPG_REF_VEL : Fld := ⟨0x0A4, 0, 32⟩
abbrev MPG_REF_ACC : Fld := ⟨0x0A8, 0, 32⟩
abbrev MPG_TARGET : Fld := ⟨0x0AC, 0, 32⟩
abbrev MPG_STOP_POINT : Fld := ⟨0x0B0, 0, 32⟩
abbrev RESULT_TAG : Fld := ⟨0x0B4, 8, 16⟩
abbrev RESULT_CODE : Fld := ⟨0x0B4, 0, 8⟩
abbrev MPG_CAUSE_SEEN : Fld := ⟨0x0B8, 1, 8⟩
abbrev MPG_SRC_DIFF : Fld := ⟨0x0BC, 0, 32⟩
abbrev MPG_REF_TS_LO : Fld := ⟨0x0C0, 0, 32⟩
abbrev MPG_REF_TS_HI : Fld := ⟨0x0C4, 0, 32⟩
abbrev MPG_CMD_ARG0 : Fld := ⟨0x100, 0, 32⟩
abbrev MPG_CMD_ARG1 : Fld := ⟨0x104, 0, 32⟩
abbrev MPG_CMD_OP_TAG : Fld := ⟨0x108, 16, 16⟩
abbrev MPG_CMD_OP_OP : Fld := ⟨0x108, 0, 4⟩
abbrev EXE_CFG_ASK_TMO : Fld := ⟨0x180, 16, 16⟩
abbrev EXE_PREOPEN_V : Fld := ⟨0x184, 0, 20⟩
abbrev EXE_STAT_CURRENT : Fld := ⟨0x188, 8, 6⟩
abbrev EXE_STAT_LOCKED : Fld := ⟨0x188, 6, 1⟩
abbrev EXE_STAT_PERMIT_R : Fld := ⟨0x188, 5, 1⟩
abbrev EXE_STAT_PERMIT_F : Fld := ⟨0x188, 4, 1⟩
abbrev EXE_STAT_HOLD_PEND : Fld := ⟨0x188, 3, 1⟩
abbrev EXE_STAT_XSTATE : Fld := ⟨0x188, 0, 3⟩
abbrev EXE_CMD_RESULT_TAG : Fld := ⟨0x18C, 8, 16⟩
abbrev EXE_CMD_RESULT_CODE : Fld := ⟨0x18C, 0, 8⟩
abbrev EXE_ENTRY_RESULT_INDEX : Fld := ⟨0x190, 24, 6⟩
abbrev EXE_ENTRY_RESULT_TAG : Fld := ⟨0x190, 8, 16⟩
abbrev EXE_ENTRY_RESULT_CODE : Fld := ⟨0x190, 0, 8⟩
abbrev EXE_DONE_CNT : Fld := ⟨0x194, 0, 32⟩
abbrev EXE_CMD_W : Fld := ⟨0x200, 0, 32⟩
abbrev EXE_CMD_OP_TAG : Fld := ⟨0x210, 16, 16⟩
abbrev EXE_CMD_OP_INDEX : Fld := ⟨0x210, 8, 6⟩
abbrev EXE_CMD_OP_OP : Fld := ⟨0x210, 0, 4⟩
abbrev EXE_E_W : Fld := ⟨0x400, 0, 32⟩
/-- Rows of the register table (R171, R172, R214), part 1. -/
def tbl0 : List RF := [
  { f := CTRL_HALT_CLR, acc := .w1s, rst := 0 },
  { f := STAT_DIR_UP, acc := .ro, rst := 0 },
  { f := STAT_SEC_LOST, acc := .ro, rst := 0 },
  { f := STAT_PRI_LOST, acc := .ro, rst := 0 },
  { f := STAT_DEGRADED, acc := .ro, rst := 0 },
  { f := STAT_RLV_NEED, acc := .ro, rst := 0 },
  { f := STAT_LEVEL_MISS, acc := .ro, rst := 0 },
  { f := STAT_LEVELLED, acc := .ro, rst := 0 },
  { f := STAT_STOP_CAUSE, acc := .ro, rst := 0 },
  { f := STAT_STATE, acc := .ro, rst := 0 },
  { f := MPG_P_VMAX, acc := .rw, rst := 0 },
  { f := MPG_P_ACC, acc := .rw, rst := 0 },
  { f := MPG_P_DEC, acc := .rw, rst := 0 },
  { f := MPG_P_JERK, acc := .rw, rst := 0 },
  { f := MPG_ACT_VMAX, acc := .ro, rst := 0 },
  { f := MPG_ACT_ACC, acc := .ro, rst := 0 },
  { f := MPG_ACT_DEC, acc := .ro, rst := 0 },
  { f := MPG_ACT_JERK, acc := .ro, rst := 0 },
  { f := MPG_VRATED, acc := .rwl, rst := 0 },
  { f := MPG_VDEG, acc := .rwl, rst := 0xf4240 },
  { f := MPG_SRC_SRC_SEC, acc := .rwl, rst := 0x1 },
  { f := MPG_SRC_SRC_PRI, acc := .rwl, rst := 0 },
  { f := SRC_TOL, acc := .rwl, rst := 0x4e20 },
  { f := LVL_SETTLE, acc := .rwl, rst := 0x32 }]
/-- Rows of the register table (R171, R172, R214), part 2. -/
def tbl1 : List RF := [
  { f := LVL_TOL, acc := .rwl, rst := 0x1f4 },
  { f := LVL_TMO, acc := .rwl, rst := 0x3e8 },
  { f := RLV_AUTO, acc := .rwl, rst := 0 },
  { f := RLV_START, acc := .rwl, rst := 0xbb8 },
  { f := MPG_RLV_SPEED, acc := .rwl, rst := 0x186a0 },
  { f := MPG_RLV_ACC, acc := .rwl, rst := 0x3d090 },
  { f := MPG_RLV_JERK, acc := .rwl, rst := 0xf4240 },
  { f := MPG_STOP_DEC_MIN, acc := .ro, rst := 0 },
  { f := MPG_STOP_JERK_MIN, acc := .ro, rst := 0 },
  { f := PHASE, acc := .rwl, rst := 0 },
  { f := MPG_REF_POS, acc := .ro, rst := 0 },
  { f := MPG_REF_VEL, acc := .ro, rst := 0 },
  { f := MPG_REF_ACC, acc := .ro, rst := 0 },
  { f := MPG_TARGET, acc := .ro, rst := 0 },
  { f := MPG_STOP_POINT, acc := .ro, rst := 0 },
  { f := RESULT_TAG, acc := .ro, rst := 0 },
  { f := RESULT_CODE, acc := .ro, rst := 0 },
  { f := MPG_CAUSE_SEEN, acc := .w1cFlag, rst := 0 },
  { f := MPG_SRC_DIFF, acc := .ro, rst := 0 },
  { f := MPG_REF_TS_LO, acc := .ro, rst := 0, lo64 := true },
  { f := MPG_REF_TS_HI, acc := .ro, rst := 0 },
  { f := MPG_CMD_ARG0, acc := .wo, rst := 0 },
  { f := MPG_CMD_ARG1, acc := .wo, rst := 0 },
  { f := MPG_CMD_OP_TAG, acc := .wo, rst := 0 }]
/-- Rows of the register table (R171, R172, R214), part 3. -/
def tbl2 : List RF := [
  { f := MPG_CMD_OP_OP, acc := .wo, rst := 0 },
  { f := EXE_CFG_ASK_TMO, acc := .rwl, rst := 0 },
  { f := EXE_PREOPEN_V, acc := .rwl, rst := 0 },
  { f := EXE_STAT_CURRENT, acc := .ro, rst := 0 },
  { f := EXE_STAT_LOCKED, acc := .ro, rst := 0 },
  { f := EXE_STAT_PERMIT_R, acc := .ro, rst := 0 },
  { f := EXE_STAT_PERMIT_F, acc := .ro, rst := 0 },
  { f := EXE_STAT_HOLD_PEND, acc := .ro, rst := 0 },
  { f := EXE_STAT_XSTATE, acc := .ro, rst := 0 },
  { f := EXE_CMD_RESULT_TAG, acc := .ro, rst := 0 },
  { f := EXE_CMD_RESULT_CODE, acc := .ro, rst := 0 },
  { f := EXE_ENTRY_RESULT_INDEX, acc := .ro, rst := 0 },
  { f := EXE_ENTRY_RESULT_TAG, acc := .ro, rst := 0 },
  { f := EXE_ENTRY_RESULT_CODE, acc := .ro, rst := 0 },
  { f := EXE_DONE_CNT, acc := .w1cCnt, rst := 0 },
  { f := EXE_CMD_W, acc := .wo, rst := 0, cnt := 4, stride := 0x4 },
  { f := EXE_CMD_OP_TAG, acc := .wo, rst := 0 },
  { f := EXE_CMD_OP_INDEX, acc := .wo, rst := 0 },
  { f := EXE_CMD_OP_OP, acc := .wo, rst := 0 },
  { f := EXE_E_W, acc := .ro, rst := 0, cnt := 256, stride := 0x4 }]
/-- All rows of the register table (R171, R172, R214). -/
def tbl : List RF := tbl0 ++ tbl1 ++ tbl2
/-- The rows whose reset value is not 0. -/
def rst : List RF := [{ f := MPG_VDEG, acc := .rwl, rst := 0xf4240, cnt := 1, stride := 0x4 }, { f := MPG_SRC_SRC_SEC, acc := .rwl, rst := 0x1, cnt := 1, stride := 0x4 }, { f := SRC_TOL, acc := .rwl, rst := 0x4e20, cnt := 1, stride := 0x4 }, { f := LVL_SETTLE, acc := .rwl, rst := 0x32, cnt := 1, stride := 0x4 }, { f := LVL_TOL, acc := .rwl, rst := 0x1f4, cnt := 1, stride := 0x4 }, { f := LVL_TMO, acc := .rwl, rst := 0x3e8, cnt := 1, stride := 0x4 }, { f := RLV_START, acc := .rwl, rst := 0xbb8, cnt := 1, stride := 0x4 }, { f := MPG_RLV_SPEED, acc := .rwl, rst := 0x186a0, cnt := 1, stride := 0x4 }, { f := MPG_RLV_ACC, acc := .rwl, rst := 0x3d090, cnt := 1, stride := 0x4 }, { f := MPG_RLV_JERK, acc := .rwl, rst := 0xf4240, cnt := 1, stride := 0x4 }]
end R.Mpg

/-! Dlk: R186. -/
namespace R.Dlk
abbrev CTRL_LOSS_CLR : Fld := ⟨0x008, 2, 1⟩
abbrev CTRL_ENABLE_REQ : Fld := ⟨0x008, 1, 1⟩
abbrev STAT_LOSS_REASON : Fld := ⟨0x00C, 8, 4⟩
abbrev STAT_ENABLE : Fld := ⟨0x00C, 7, 1⟩
abbrev STAT_DRV_FAULT : Fld := ⟨0x00C, 6, 1⟩
abbrev STAT_DRV_ENERGISED : Fld := ⟨0x00C, 5, 1⟩
abbrev STAT_DRV_READY : Fld := ⟨0x00C, 4, 1⟩
abbrev STAT_LOCK : Fld := ⟨0x00C, 3, 1⟩
abbrev STAT_LSTATE : Fld := ⟨0x00C, 0, 3⟩
abbrev TX_INV : Fld := ⟨0x040, 25, 1⟩
abbrev RX_INV : Fld := ⟨0x040, 24, 1⟩
abbrev RUN_N : Fld := ⟨0x040, 16, 8⟩
abbrev RESP_MAX : Fld := ⟨0x040, 8, 6⟩
abbrev LOSS_N : Fld := ⟨0x040, 0, 6⟩
abbrev DLK_HELLO_HELLO_TMO : Fld := ⟨0x044, 0, 8⟩
abbrev RX_ECHO : Fld := ⟨0x048, 16, 16⟩
abbrev TX_SEQ : Fld := ⟨0x048, 0, 16⟩
abbrev MISS_CNT : Fld := ⟨0x04C, 16, 16⟩
abbrev CRC_CNT : Fld := ⟨0x04C, 0, 16⟩
abbrev LATE_CNT : Fld := ⟨0x050, 16, 16⟩
abbrev ECHO_CNT : Fld := ⟨0x050, 0, 16⟩
abbrev EXTRA_CNT : Fld := ⟨0x054, 16, 16⟩
abbrev HS_FAIL_CNT : Fld := ⟨0x054, 0, 16⟩
abbrev DLK_DRV_ID : Fld := ⟨0x058, 0, 32⟩
abbrev DLK_DRV_VER : Fld := ⟨0x05C, 16, 8⟩
abbrev DLK_DRV_CODE : Fld := ⟨0x05C, 0, 16⟩
abbrev DLK_FB_VEL : Fld := ⟨0x060, 0, 32⟩
abbrev DLK_FB_TORQUE : Fld := ⟨0x064, 0, 32⟩
abbrev TEMP : Fld := ⟨0x068, 16, 8⟩
abbrev VDC : Fld := ⟨0x068, 0, 16⟩
abbrev DLK_FB_TS_LO : Fld := ⟨0x06C, 0, 32⟩
abbrev DLK_FB_TS_HI : Fld := ⟨0x070, 0, 32⟩
abbrev DLK_RX_TS_LO : Fld := ⟨0x074, 0, 32⟩
abbrev DLK_RX_TS_HI : Fld := ⟨0x078, 0, 32⟩
abbrev DLK_TX_TS_LO : Fld := ⟨0x07C, 0, 32⟩
abbrev DLK_TX_TS_HI : Fld := ⟨0x080, 0, 32⟩
abbrev DLK_RTT : Fld := ⟨0x084, 0, 32⟩
abbrev DLK_FB_AUX0 : Fld := ⟨0x088, 0, 32⟩
abbrev DLK_FB_AUX1 : Fld := ⟨0x08C, 0, 16⟩
/-- Rows of the register table (R186), part 1. -/
def tbl0 : List RF := [
  { f := CTRL_LOSS_CLR, acc := .w1s, rst := 0 },
  { f := CTRL_ENABLE_REQ, acc := .rw, rst := 0 },
  { f := STAT_LOSS_REASON, acc := .ro, rst := 0 },
  { f := STAT_ENABLE, acc := .ro, rst := 0 },
  { f := STAT_DRV_FAULT, acc := .ro, rst := 0 },
  { f := STAT_DRV_ENERGISED, acc := .ro, rst := 0 },
  { f := STAT_DRV_READY, acc := .ro, rst := 0 },
  { f := STAT_LOCK, acc := .ro, rst := 0 },
  { f := STAT_LSTATE, acc := .ro, rst := 0 },
  { f := TX_INV, acc := .rwl, rst := 0 },
  { f := RX_INV, acc := .rwl, rst := 0 },
  { f := RUN_N, acc := .rwl, rst := 0x10 },
  { f := RESP_MAX, acc := .rwl, rst := 0x28 },
  { f := LOSS_N, acc := .rwl, rst := 0x4 },
  { f := DLK_HELLO_HELLO_TMO, acc := .rwl, rst := 0x64 },
  { f := RX_ECHO, acc := .ro, rst := 0 },
  { f := TX_SEQ, acc := .ro, rst := 0 },
  { f := MISS_CNT, acc := .w1cCnt, rst := 0 },
  { f := CRC_CNT, acc := .w1cCnt, rst := 0 },
  { f := LATE_CNT, acc := .w1cCnt, rst := 0 },
  { f := ECHO_CNT, acc := .w1cCnt, rst := 0 },
  { f := EXTRA_CNT, acc := .w1cCnt, rst := 0 },
  { f := HS_FAIL_CNT, acc := .w1cCnt, rst := 0 },
  { f := DLK_DRV_ID, acc := .ro, rst := 0 }]
/-- Rows of the register table (R186), part 2. -/
def tbl1 : List RF := [
  { f := DLK_DRV_VER, acc := .ro, rst := 0 },
  { f := DLK_DRV_CODE, acc := .ro, rst := 0 },
  { f := DLK_FB_VEL, acc := .ro, rst := 0 },
  { f := DLK_FB_TORQUE, acc := .ro, rst := 0 },
  { f := TEMP, acc := .ro, rst := 0 },
  { f := VDC, acc := .ro, rst := 0 },
  { f := DLK_FB_TS_LO, acc := .ro, rst := 0, lo64 := true },
  { f := DLK_FB_TS_HI, acc := .ro, rst := 0 },
  { f := DLK_RX_TS_LO, acc := .ro, rst := 0, lo64 := true },
  { f := DLK_RX_TS_HI, acc := .ro, rst := 0 },
  { f := DLK_TX_TS_LO, acc := .ro, rst := 0, lo64 := true },
  { f := DLK_TX_TS_HI, acc := .ro, rst := 0 },
  { f := DLK_RTT, acc := .ro, rst := 0 },
  { f := DLK_FB_AUX0, acc := .ro, rst := 0 },
  { f := DLK_FB_AUX1, acc := .ro, rst := 0 }]
/-- All rows of the register table (R186). -/
def tbl : List RF := tbl0 ++ tbl1
/-- The rows whose reset value is not 0. -/
def rst : List RF := [{ f := RUN_N, acc := .rwl, rst := 0x10, cnt := 1, stride := 0x4 }, { f := RESP_MAX, acc := .rwl, rst := 0x28, cnt := 1, stride := 0x4 }, { f := LOSS_N, acc := .rwl, rst := 0x4, cnt := 1, stride := 0x4 }, { f := DLK_HELLO_HELLO_TMO, acc := .rwl, rst := 0x64, cnt := 1, stride := 0x4 }]
end R.Dlk

/-! SepC: R212. -/
namespace R.SepC
abbrev STAT_TOL_OUT : Fld := ⟨0x00C, 6, 1⟩
abbrev STAT_REL_L : Fld := ⟨0x00C, 5, 1⟩
abbrev STAT_REL_U : Fld := ⟨0x00C, 4, 1⟩
abbrev STAT_NO_POS : Fld := ⟨0x00C, 3, 1⟩
abbrev STAT_DISAGREE : Fld := ⟨0x00C, 2, 1⟩
abbrev STAT_SOFT_TRIP : Fld := ⟨0x00C, 1, 1⟩
abbrev STAT_ACTIVE : Fld := ⟨0x00C, 0, 1⟩
abbrev SEP_MARGIN_S : Fld := ⟨0x040, 0, 32⟩
abbrev SEP_MARGIN_H : Fld := ⟨0x044, 0, 32⟩
abbrev SEP_SAGE_MARGIN : Fld := ⟨0x048, 0, 32⟩
abbrev SEP_MARGIN_DIFF : Fld := ⟨0x04C, 0, 32⟩
abbrev SEP_GAP : Fld := ⟨0x050, 0, 32⟩
abbrev SEP_S_U : Fld := ⟨0x054, 0, 32⟩
abbrev SEP_S_L : Fld := ⟨0x058, 0, 32⟩
abbrev SEP_D_PERMIT : Fld := ⟨0x05C, 0, 32⟩
abbrev SEP_TOL_ENV : Fld := ⟨0x060, 0, 32⟩
abbrev SEP_U_TH_T_SOFT_X : Fld := ⟨0x070, 16, 16⟩
abbrev SEP_U_TH_T_HARD : Fld := ⟨0x070, 0, 16⟩
abbrev SEP_U_AR : Fld := ⟨0x074, 0, 32⟩
abbrev SEP_L_TH_T_SOFT_X : Fld := ⟨0x078, 16, 16⟩
abbrev SEP_L_TH_T_HARD : Fld := ⟨0x078, 0, 16⟩
abbrev SEP_L_AR : Fld := ⟨0x07C, 0, 32⟩
abbrev SEP_ASK_TAG : Fld := ⟨0x080, 16, 16⟩
abbrev SEP_ASK_WHY : Fld := ⟨0x080, 12, 4⟩
abbrev SEP_ASK_GRANTED : Fld := ⟨0x080, 8, 1⟩
abbrev SEP_ASK_CAR : Fld := ⟨0x080, 0, 1⟩
abbrev SEP_ASK_MARGIN : Fld := ⟨0x084, 0, 32⟩
abbrev DENY_CNT : Fld := ⟨0x088, 16, 16⟩
abbrev SOFT_CNT : Fld := ⟨0x088, 0, 16⟩
abbrev DIS_CNT : Fld := ⟨0x08C, 0, 16⟩
abbrev SEP_TRIP_TS_LO : Fld := ⟨0x090, 0, 32⟩
abbrev SEP_TRIP_TS_HI : Fld := ⟨0x094, 0, 32⟩
/-- Rows of the register table (R212), part 1. -/
def tbl0 : List RF := [
  { f := STAT_TOL_OUT, acc := .ro, rst := 0 },
  { f := STAT_REL_L, acc := .ro, rst := 0 },
  { f := STAT_REL_U, acc := .ro, rst := 0 },
  { f := STAT_NO_POS, acc := .ro, rst := 0 },
  { f := STAT_DISAGREE, acc := .w1cFlag, rst := 0 },
  { f := STAT_SOFT_TRIP, acc := .ro, rst := 0 },
  { f := STAT_ACTIVE, acc := .ro, rst := 0 },
  { f := SEP_MARGIN_S, acc := .ro, rst := 0 },
  { f := SEP_MARGIN_H, acc := .ro, rst := 0 },
  { f := SEP_SAGE_MARGIN, acc := .ro, rst := 0 },
  { f := SEP_MARGIN_DIFF, acc := .ro, rst := 0 },
  { f := SEP_GAP, acc := .ro, rst := 0 },
  { f := SEP_S_U, acc := .ro, rst := 0 },
  { f := SEP_S_L, acc := .ro, rst := 0 },
  { f := SEP_D_PERMIT, acc := .rwl, rst := 0 },
  { f := SEP_TOL_ENV, acc := .ro, rst := 0 },
  { f := SEP_U_TH_T_SOFT_X, acc := .ro, rst := 0 },
  { f := SEP_U_TH_T_HARD, acc := .ro, rst := 0 },
  { f := SEP_U_AR, acc := .ro, rst := 0 },
  { f := SEP_L_TH_T_SOFT_X, acc := .ro, rst := 0 },
  { f := SEP_L_TH_T_HARD, acc := .ro, rst := 0 },
  { f := SEP_L_AR, acc := .ro, rst := 0 },
  { f := SEP_ASK_TAG, acc := .ro, rst := 0 },
  { f := SEP_ASK_WHY, acc := .ro, rst := 0 }]
/-- Rows of the register table (R212), part 2. -/
def tbl1 : List RF := [
  { f := SEP_ASK_GRANTED, acc := .ro, rst := 0 },
  { f := SEP_ASK_CAR, acc := .ro, rst := 0 },
  { f := SEP_ASK_MARGIN, acc := .ro, rst := 0 },
  { f := DENY_CNT, acc := .w1cCnt, rst := 0 },
  { f := SOFT_CNT, acc := .w1cCnt, rst := 0 },
  { f := DIS_CNT, acc := .w1cCnt, rst := 0 },
  { f := SEP_TRIP_TS_LO, acc := .ro, rst := 0, lo64 := true },
  { f := SEP_TRIP_TS_HI, acc := .ro, rst := 0 }]
/-- All rows of the register table (R212). -/
def tbl : List RF := tbl0 ++ tbl1
/-- The rows whose reset value is not 0. -/
def rst : List RF := []
end R.SepC

/-! ClgC: R235. -/
namespace R.ClgC
abbrev CTRL_PEAK_CLR : Fld := ⟨0x008, 1, 1⟩
abbrev STAT_EMPTIED : Fld := ⟨0x00C, 4, 1⟩
abbrev STAT_INIT : Fld := ⟨0x00C, 3, 1⟩
abbrev STAT_FAULT : Fld := ⟨0x00C, 2, 1⟩
abbrev STAT_HIWAT : Fld := ⟨0x00C, 1, 1⟩
abbrev STAT_NOFREE : Fld := ⟨0x00C, 0, 1⟩
abbrev CLG_CFG_HIWAT : Fld := ⟨0x040, 16, 16⟩
abbrev CLG_CFG_RESERVE : Fld := ⟨0x040, 0, 16⟩
abbrev CLG_TBL_BASE : Fld := ⟨0x044, 0, 32⟩
abbrev PEAK : Fld := ⟨0x048, 16, 16⟩
abbrev USED : Fld := ⟨0x048, 0, 16⟩
abbrev N_CARRIED : Fld := ⟨0x04C, 16, 16⟩
abbrev N_OPEN : Fld := ⟨0x04C, 0, 16⟩
abbrev N_ASG_L : Fld := ⟨0x050, 16, 16⟩
abbrev N_ASG_U : Fld := ⟨0x050, 0, 16⟩
abbrev INS_CNT : Fld := ⟨0x054, 0, 32⟩
abbrev SERVED_CNT : Fld := ⟨0x058, 0, 32⟩
abbrev CANCEL_CNT : Fld := ⟨0x05C, 16, 16⟩
abbrev MERGE_CNT : Fld := ⟨0x05C, 0, 16⟩
abbrev FULL_CNT : Fld := ⟨0x060, 16, 16⟩
abbrev REASSIGN_CNT : Fld := ⟨0x060, 0, 16⟩
abbrev APPLIED_VALID : Fld := ⟨0x064, 16, 1⟩
abbrev CLG_APPLIED : Fld := ⟨0x064, 0, 16⟩
abbrev VIEW_VALID : Fld := ⟨0x068, 16, 1⟩
abbrev CLG_VIEW : Fld := ⟨0x068, 0, 16⟩
abbrev VIEW_STALL_CNT : Fld := ⟨0x06C, 16, 16⟩
abbrev VIEW_USED : Fld := ⟨0x06C, 0, 12⟩
abbrev CLG_CMD_RESULT_TAG : Fld := ⟨0x070, 16, 16⟩
abbrev CLG_CMD_RESULT_CODE : Fld := ⟨0x070, 0, 8⟩
abbrev CLG_CMD_RESULT_INDEX : Fld := ⟨0x074, 0, 14⟩
abbrev CLG_CMD_W : Fld := ⟨0x100, 0, 32⟩
abbrev CLG_CMD_INDEX_INDEX : Fld := ⟨0x118, 0, 14⟩
abbrev CLG_CMD_OP_TAG : Fld := ⟨0x11C, 16, 16⟩
abbrev CLG_CMD_OP_OP : Fld := ⟨0x11C, 0, 4⟩
/-- Rows of the register table (R235), part 1. -/
def tbl0 : List RF := [
  { f := CTRL_PEAK_CLR, acc := .w1s, rst := 0 },
  { f := STAT_EMPTIED, acc := .w1cFlag, rst := 0 },
  { f := STAT_INIT, acc := .ro, rst := 0 },
  { f := STAT_FAULT, acc := .w1cFlag, rst := 0 },
  { f := STAT_HIWAT, acc := .ro, rst := 0 },
  { f := STAT_NOFREE, acc := .ro, rst := 0 },
  { f := CLG_CFG_HIWAT, acc := .rwl, rst := 0x2c00 },
  { f := CLG_CFG_RESERVE, acc := .rwl, rst := 0x40 },
  { f := CLG_TBL_BASE, acc := .ro, rst := 0 },
  { f := PEAK, acc := .ro, rst := 0 },
  { f := USED, acc := .ro, rst := 0 },
  { f := N_CARRIED, acc := .ro, rst := 0 },
  { f := N_OPEN, acc := .ro, rst := 0 },
  { f := N_ASG_L, acc := .ro, rst := 0 },
  { f := N_ASG_U, acc := .ro, rst := 0 },
  { f := INS_CNT, acc := .w1cCnt, rst := 0 },
  { f := SERVED_CNT, acc := .w1cCnt, rst := 0 },
  { f := CANCEL_CNT, acc := .w1cCnt, rst := 0 },
  { f := MERGE_CNT, acc := .w1cCnt, rst := 0 },
  { f := FULL_CNT, acc := .w1cCnt, rst := 0 },
  { f := REASSIGN_CNT, acc := .w1cCnt, rst := 0 },
  { f := APPLIED_VALID, acc := .ro, rst := 0 },
  { f := CLG_APPLIED, acc := .ro, rst := 0 },
  { f := VIEW_VALID, acc := .ro, rst := 0 }]
/-- Rows of the register table (R235), part 2. -/
def tbl1 : List RF := [
  { f := CLG_VIEW, acc := .ro, rst := 0 },
  { f := VIEW_STALL_CNT, acc := .w1cCnt, rst := 0 },
  { f := VIEW_USED, acc := .ro, rst := 0 },
  { f := CLG_CMD_RESULT_TAG, acc := .ro, rst := 0 },
  { f := CLG_CMD_RESULT_CODE, acc := .ro, rst := 0 },
  { f := CLG_CMD_RESULT_INDEX, acc := .ro, rst := 0 },
  { f := CLG_CMD_W, acc := .wo, rst := 0, cnt := 6, stride := 0x4 },
  { f := CLG_CMD_INDEX_INDEX, acc := .wo, rst := 0 },
  { f := CLG_CMD_OP_TAG, acc := .wo, rst := 0 },
  { f := CLG_CMD_OP_OP, acc := .wo, rst := 0 }]
/-- All rows of the register table (R235). -/
def tbl : List RF := tbl0 ++ tbl1
/-- The rows whose reset value is not 0. -/
def rst : List RF := [{ f := CLG_CFG_HIWAT, acc := .rwl, rst := 0x2c00, cnt := 1, stride := 0x4 }, { f := CLG_CFG_RESERVE, acc := .rwl, rst := 0x40, cnt := 1, stride := 0x4 }]
end R.ClgC

/-! DmcC: R268. -/
namespace R.DmcC
abbrev DMC_OOS : Fld := ⟨0x040, 0, 8⟩
abbrev DMC_SIDE_OUT : Fld := ⟨0x044, 0, 4⟩
/-- Rows of the register table (R268), part 1. -/
def tbl0 : List RF := [
  { f := DMC_OOS, acc := .ro, rst := 0 },
  { f := DMC_SIDE_OUT, acc := .ro, rst := 0 }]
/-- All rows of the register table (R268). -/
def tbl : List RF := tbl0
/-- The rows whose reset value is not 0. -/
def rst : List RF := []
end R.DmcC

/-! Dmc: R269, R270. -/
namespace R.Dmc
abbrev STAT_OBST : Fld := ⟨0x00C, 19, 1⟩
abbrev STAT_FLT_LVL : Fld := ⟨0x00C, 18, 1⟩
abbrev STAT_ENDO_LVL : Fld := ⟨0x00C, 17, 1⟩
abbrev STAT_ENDC_LVL : Fld := ⟨0x00C, 16, 1⟩
abbrev STAT_STALL_VALID : Fld := ⟨0x00C, 15, 1⟩
abbrev STAT_SIO_OK : Fld := ⟨0x00C, 14, 1⟩
abbrev STAT_PERMIT : Fld := ⟨0x00C, 13, 1⟩
abbrev STAT_FORCE : Fld := ⟨0x00C, 12, 1⟩
abbrev STAT_CAL_PEND : Fld := ⟨0x00C, 11, 1⟩
abbrev STAT_OOS_REASON : Fld := ⟨0x00C, 8, 3⟩
abbrev STAT_OOS : Fld := ⟨0x00C, 7, 1⟩
abbrev STAT_AT_CLOSED : Fld := ⟨0x00C, 6, 1⟩
abbrev STAT_AT_OPEN : Fld := ⟨0x00C, 5, 1⟩
abbrev STAT_HOMED : Fld := ⟨0x00C, 4, 1⟩
abbrev STAT_DSTATE : Fld := ⟨0x00C, 0, 4⟩
abbrev DEADTIME : Fld := ⟨0x040, 24, 8⟩
abbrev ENDO_INV : Fld := ⟨0x040, 17, 1⟩
abbrev ENDC_INV : Fld := ⟨0x040, 16, 1⟩
abbrev LINK : Fld := ⟨0x040, 12, 3⟩
abbrev LINK_EN : Fld := ⟨0x040, 11, 1⟩
abbrev HOME_END : Fld := ⟨0x040, 10, 1⟩
abbrev MODE_SEL : Fld := ⟨0x040, 8, 2⟩
abbrev MSTEP : Fld := ⟨0x040, 4, 4⟩
abbrev DIR_INV : Fld := ⟨0x040, 3, 1⟩
abbrev SIDE : Fld := ⟨0x040, 1, 1⟩
abbrev CAR : Fld := ⟨0x040, 0, 1⟩
abbrev TBLANK : Fld := ⟨0x044, 28, 4⟩
abbrev DECAY_MIX : Fld := ⟨0x044, 24, 4⟩
abbrev TOFF : Fld := ⟨0x044, 16, 6⟩
abbrev PWM_PER : Fld := ⟨0x044, 0, 14⟩
abbrev DMC_GEOM_UM_PER_STEP : Fld := ⟨0x048, 0, 32⟩
abbrev DMC_MASS : Fld := ⟨0x04C, 0, 32⟩
abbrev DMC_E_CLOSE : Fld := ⟨0x050, 0, 32⟩
abbrev DMC_E_OPEN : Fld := ⟨0x054, 0, 32⟩
abbrev DMC_OPEN_POS : Fld := ⟨0x058, 0, 32⟩
abbrev DMC_CLOSED_POS : Fld := ⟨0x05C, 0, 32⟩
abbrev V_OPEN : Fld := ⟨0x060, 0, 20⟩
abbrev V_CLOSE : Fld := ⟨0x064, 0, 20⟩
abbrev V_CREEP : Fld := ⟨0x068, 0, 20⟩
abbrev DMC_ACC : Fld := ⟨0x06C, 0, 32⟩
abbrev DMC_DEC : Fld := ⟨0x070, 0, 32⟩
abbrev CREEP_DIST : Fld := ⟨0x074, 0, 24⟩
abbrev REV_GAP : Fld := ⟨0x078, 8, 4⟩
abbrev END_SETTLE : Fld := ⟨0x078, 0, 8⟩
abbrev I_HOLD : Fld := ⟨0x07C, 16, 16⟩
abbrev I_RUN : Fld := ⟨0x07C, 0, 16⟩
abbrev OC_LIMIT : Fld := ⟨0x080, 16, 16⟩
abbrev I_CREEP : Fld := ⟨0x080, 0, 16⟩
abbrev VBUS : Fld := ⟨0x084, 16, 16⟩
abbrev ISENSE_GAIN : Fld := ⟨0x084, 0, 16⟩
abbrev L_PH : Fld := ⟨0x088, 16, 16⟩
abbrev R_PH : Fld := ⟨0x088, 0, 16⟩
abbrev DMC_KE : Fld := ⟨0x08C, 0, 32⟩
abbrev SW_V : Fld := ⟨0x090, 0, 20⟩
abbrev SW_HYST : Fld := ⟨0x094, 0, 20⟩
abbrev STALL_N : Fld := ⟨0x098, 16, 4⟩
abbrev STALL_MARGIN : Fld := ⟨0x098, 0, 9⟩
abbrev STALL_VMIN : Fld := ⟨0x09C, 0, 20⟩
abbrev DMC_FORCE_K : Fld := ⟨0x0A0, 0, 32⟩
abbrev F_LIMIT : Fld := ⟨0x0A4, 0, 16⟩
abbrev HOME_V : Fld := ⟨0x0A8, 0, 20⟩
abbrev DMC_HOME_MAX : Fld := ⟨0x0AC, 0, 32⟩
abbrev DMC_HOME_POS : Fld := ⟨0x0B0, 0, 32⟩
abbrev SW_TOL : Fld := ⟨0x0B4, 0, 16⟩
abbrev DMC_POS : Fld := ⟨0x0C0, 0, 32⟩
abbrev DMC_POS_UM : Fld := ⟨0x0C4, 0, 32⟩
abbrev DMC_SPEED : Fld := ⟨0x0C8, 0, 32⟩
abbrev DMC_EKIN : Fld := ⟨0x0CC, 0, 32⟩
abbrev LOAD_ANGLE : Fld := ⟨0x0D0, 0, 16⟩
abbrev DMC_F_EST : Fld := ⟨0x0D4, 0, 32⟩
abbrev IB : Fld := ⟨0x0D8, 16, 16⟩
abbrev IA : Fld := ⟨0x0D8, 0, 16⟩
abbrev REV_CNT : Fld := ⟨0x0DC, 16, 16⟩
abbrev STALL_CNT : Fld := ⟨0x0DC, 0, 16⟩
abbrev DRVF_CNT : Fld := ⟨0x0E0, 16, 16⟩
abbrev OC_CNT : Fld := ⟨0x0E0, 0, 16⟩
abbrev CHAT_CNT : Fld := ⟨0x0E4, 16, 16⟩
abbrev SWMIS_CNT : Fld := ⟨0x0E4, 0, 16⟩
abbrev DMC_RESULT_TAG : Fld := ⟨0x0E8, 8, 16⟩
abbrev DMC_RESULT_CODE : Fld := ⟨0x0E8, 0, 8⟩
abbrev OFS_B : Fld := ⟨0x0EC, 16, 16⟩
abbrev OFS_A : Fld := ⟨0x0EC, 0, 16⟩
abbrev DMC_SW_POS_C : Fld := ⟨0x0F0, 0, 32⟩
abbrev DMC_SW_POS_O : Fld := ⟨0x0F4, 0, 32⟩
abbrev DMC_OBST_TS_LO : Fld := ⟨0x0F8, 0, 32⟩
abbrev DMC_OBST_TS_HI : Fld := ⟨0x0FC, 0, 32⟩
abbrev DMC_CMD_ARG0 : Fld := ⟨0x100, 0, 32⟩
abbrev DMC_CMD_ARG1 : Fld := ⟨0x104, 0, 32⟩
abbrev DMC_CMD_OP_TAG : Fld := ⟨0x108, 16, 16⟩
abbrev DMC_CMD_OP_OP : Fld := ⟨0x108, 0, 4⟩
/-- Rows of the register table (R269, R270), part 1. -/
def tbl0 : List RF := [
  { f := STAT_OBST, acc := .w1cFlag, rst := 0 },
  { f := STAT_FLT_LVL, acc := .ro, rst := 0 },
  { f := STAT_ENDO_LVL, acc := .ro, rst := 0 },
  { f := STAT_ENDC_LVL, acc := .ro, rst := 0 },
  { f := STAT_STALL_VALID, acc := .ro, rst := 0 },
  { f := STAT_SIO_OK, acc := .ro, rst := 0 },
  { f := STAT_PERMIT, acc := .ro, rst := 0 },
  { f := STAT_FORCE, acc := .ro, rst := 0 },
  { f := STAT_CAL_PEND, acc := .ro, rst := 0 },
  { f := STAT_OOS_REASON, acc := .ro, rst := 0 },
  { f := STAT_OOS, acc := .w1cFlag, rst := 0 },
  { f := STAT_AT_CLOSED, acc := .ro, rst := 0 },
  { f := STAT_AT_OPEN, acc := .ro, rst := 0 },
  { f := STAT_HOMED, acc := .ro, rst := 0 },
  { f := STAT_DSTATE, acc := .ro, rst := 0 },
  { f := DEADTIME, acc := .rwl, rst := 0x28 },
  { f := ENDO_INV, acc := .rwl, rst := 0 },
  { f := ENDC_INV, acc := .rwl, rst := 0 },
  { f := LINK, acc := .rwl, rst := 0 },
  { f := LINK_EN, acc := .rwl, rst := 0 },
  { f := HOME_END, acc := .rwl, rst := 0 },
  { f := MODE_SEL, acc := .rwl, rst := 0 },
  { f := MSTEP, acc := .rwl, rst := 0x8 },
  { f := DIR_INV, acc := .rwl, rst := 0 }]
/-- Rows of the register table (R269, R270), part 2. -/
def tbl1 : List RF := [
  { f := SIDE, acc := .rwl, rst := 0 },
  { f := CAR, acc := .rwl, rst := 0 },
  { f := TBLANK, acc := .rwl, rst := 0x4 },
  { f := DECAY_MIX, acc := .rwl, rst := 0x8 },
  { f := TOFF, acc := .rwl, rst := 0xa },
  { f := PWM_PER, acc := .rwl, rst := 0x1388 },
  { f := DMC_GEOM_UM_PER_STEP, acc := .rwl, rst := 0 },
  { f := DMC_MASS, acc := .rwl, rst := 0 },
  { f := DMC_E_CLOSE, acc := .rwl, rst := 0x989680 },
  { f := DMC_E_OPEN, acc := .rwl, rst := 0 },
  { f := DMC_OPEN_POS, acc := .rwl, rst := 0 },
  { f := DMC_CLOSED_POS, acc := .rwl, rst := 0 },
  { f := V_OPEN, acc := .rwl, rst := 0 },
  { f := V_CLOSE, acc := .rwl, rst := 0 },
  { f := V_CREEP, acc := .rwl, rst := 0 },
  { f := DMC_ACC, acc := .rwl, rst := 0 },
  { f := DMC_DEC, acc := .rwl, rst := 0 },
  { f := CREEP_DIST, acc := .rwl, rst := 0 },
  { f := REV_GAP, acc := .rwl, rst := 0x2 },
  { f := END_SETTLE, acc := .rwl, rst := 0x32 },
  { f := I_HOLD, acc := .rwl, rst := 0 },
  { f := I_RUN, acc := .rwl, rst := 0 },
  { f := OC_LIMIT, acc := .rwl, rst := 0 },
  { f := I_CREEP, acc := .rwl, rst := 0 }]
/-- Rows of the register table (R269, R270), part 3. -/
def tbl2 : List RF := [
  { f := VBUS, acc := .rwl, rst := 0 },
  { f := ISENSE_GAIN, acc := .rwl, rst := 0 },
  { f := L_PH, acc := .rwl, rst := 0 },
  { f := R_PH, acc := .rwl, rst := 0 },
  { f := DMC_KE, acc := .rwl, rst := 0 },
  { f := SW_V, acc := .rwl, rst := 0 },
  { f := SW_HYST, acc := .rwl, rst := 0 },
  { f := STALL_N, acc := .rwl, rst := 0x2 },
  { f := STALL_MARGIN, acc := .rwl, rst := 0xab },
  { f := STALL_VMIN, acc := .rwl, rst := 0 },
  { f := DMC_FORCE_K, acc := .rwl, rst := 0 },
  { f := F_LIMIT, acc := .rwl, rst := 0x96 },
  { f := HOME_V, acc := .rwl, rst := 0 },
  { f := DMC_HOME_MAX, acc := .rwl, rst := 0 },
  { f := DMC_HOME_POS, acc := .rwl, rst := 0 },
  { f := SW_TOL, acc := .rwl, rst := 0x400 },
  { f := DMC_POS, acc := .ro, rst := 0 },
  { f := DMC_POS_UM, acc := .ro, rst := 0 },
  { f := DMC_SPEED, acc := .ro, rst := 0 },
  { f := DMC_EKIN, acc := .ro, rst := 0 },
  { f := LOAD_ANGLE, acc := .ro, rst := 0 },
  { f := DMC_F_EST, acc := .ro, rst := 0 },
  { f := IB, acc := .ro, rst := 0 },
  { f := IA, acc := .ro, rst := 0 }]
/-- Rows of the register table (R269, R270), part 4. -/
def tbl3 : List RF := [
  { f := REV_CNT, acc := .w1cCnt, rst := 0 },
  { f := STALL_CNT, acc := .w1cCnt, rst := 0 },
  { f := DRVF_CNT, acc := .w1cCnt, rst := 0 },
  { f := OC_CNT, acc := .w1cCnt, rst := 0 },
  { f := CHAT_CNT, acc := .w1cCnt, rst := 0 },
  { f := SWMIS_CNT, acc := .w1cCnt, rst := 0 },
  { f := DMC_RESULT_TAG, acc := .ro, rst := 0 },
  { f := DMC_RESULT_CODE, acc := .ro, rst := 0 },
  { f := OFS_B, acc := .ro, rst := 0 },
  { f := OFS_A, acc := .ro, rst := 0 },
  { f := DMC_SW_POS_C, acc := .ro, rst := 0 },
  { f := DMC_SW_POS_O, acc := .ro, rst := 0 },
  { f := DMC_OBST_TS_LO, acc := .ro, rst := 0, lo64 := true },
  { f := DMC_OBST_TS_HI, acc := .ro, rst := 0 },
  { f := DMC_CMD_ARG0, acc := .wo, rst := 0 },
  { f := DMC_CMD_ARG1, acc := .wo, rst := 0 },
  { f := DMC_CMD_OP_TAG, acc := .wo, rst := 0 },
  { f := DMC_CMD_OP_OP, acc := .wo, rst := 0 }]
/-- All rows of the register table (R269, R270). -/
def tbl : List RF := tbl0 ++ tbl1 ++ tbl2 ++ tbl3
/-- The rows whose reset value is not 0. -/
def rst : List RF := [{ f := DEADTIME, acc := .rwl, rst := 0x28, cnt := 1, stride := 0x4 }, { f := MSTEP, acc := .rwl, rst := 0x8, cnt := 1, stride := 0x4 }, { f := TBLANK, acc := .rwl, rst := 0x4, cnt := 1, stride := 0x4 }, { f := DECAY_MIX, acc := .rwl, rst := 0x8, cnt := 1, stride := 0x4 }, { f := TOFF, acc := .rwl, rst := 0xa, cnt := 1, stride := 0x4 }, { f := PWM_PER, acc := .rwl, rst := 0x1388, cnt := 1, stride := 0x4 }, { f := DMC_E_CLOSE, acc := .rwl, rst := 0x989680, cnt := 1, stride := 0x4 }, { f := REV_GAP, acc := .rwl, rst := 0x2, cnt := 1, stride := 0x4 }, { f := END_SETTLE, acc := .rwl, rst := 0x32, cnt := 1, stride := 0x4 }, { f := STALL_N, acc := .rwl, rst := 0x2, cnt := 1, stride := 0x4 }, { f := STALL_MARGIN, acc := .rwl, rst := 0xab, cnt := 1, stride := 0x4 }, { f := F_LIMIT, acc := .rwl, rst := 0x96, cnt := 1, stride := 0x4 }, { f := SW_TOL, acc := .rwl, rst := 0x400, cnt := 1, stride := 0x4 }]
end R.Dmc

/-! SlpC: R310. -/
namespace R.SlpC
abbrev STAT_READY : Fld := ⟨0x00C, 7, 1⟩
abbrev STAT_KSTATE : Fld := ⟨0x00C, 0, 4⟩
abbrev SLP_KVER : Fld := ⟨0x040, 0, 32⟩
abbrev SLP_CYCLE_LO : Fld := ⟨0x044, 0, 32⟩
abbrev SLP_CYCLE_HI : Fld := ⟨0x048, 0, 32⟩
abbrev TEST_ROUNDS : Fld := ⟨0x04C, 16, 16⟩
abbrev SLP_CYC_MAX : Fld := ⟨0x04C, 0, 16⟩
abbrev SLP_CAUSE_L : Fld := ⟨0x050, 16, 9⟩
abbrev SLP_CAUSE_U : Fld := ⟨0x050, 0, 9⟩
abbrev MB_REQ_W : Fld := ⟨0x100, 0, 32⟩
abbrev MB_DOOR_SEQ : Fld := ⟨0x13C, 16, 16⟩
abbrev MB_DOOR_OP : Fld := ⟨0x13C, 0, 8⟩
abbrev MB_RSP_SEQ : Fld := ⟨0x180, 16, 16⟩
abbrev MB_RSP_VALID : Fld := ⟨0x180, 8, 1⟩
abbrev MB_RSP_CODE : Fld := ⟨0x180, 0, 8⟩
abbrev MB_RSP_W : Fld := ⟨0x184, 0, 32⟩
/-- Rows of the register table (R310), part 1. -/
def tbl0 : List RF := [
  { f := STAT_READY, acc := .ro, rst := 0 },
  { f := STAT_KSTATE, acc := .ro, rst := 0 },
  { f := SLP_KVER, acc := .ro, rst := 0 },
  { f := SLP_CYCLE_LO, acc := .ro, rst := 0, lo64 := true },
  { f := SLP_CYCLE_HI, acc := .ro, rst := 0 },
  { f := TEST_ROUNDS, acc := .w1cCnt, rst := 0 },
  { f := SLP_CYC_MAX, acc := .w1cCnt, rst := 0 },
  { f := SLP_CAUSE_L, acc := .ro, rst := 0 },
  { f := SLP_CAUSE_U, acc := .ro, rst := 0 },
  { f := MB_REQ_W, acc := .rw, rst := 0, cnt := 2, stride := 0x100, inner := 14 },
  { f := MB_DOOR_SEQ, acc := .wo, rst := 0, cnt := 2, stride := 0x100 },
  { f := MB_DOOR_OP, acc := .wo, rst := 0, cnt := 2, stride := 0x100 },
  { f := MB_RSP_SEQ, acc := .ro, rst := 0, cnt := 2, stride := 0x100 },
  { f := MB_RSP_VALID, acc := .ro, rst := 0, cnt := 2, stride := 0x100 },
  { f := MB_RSP_CODE, acc := .ro, rst := 0, cnt := 2, stride := 0x100 },
  { f := MB_RSP_W, acc := .ro, rst := 0, cnt := 2, stride := 0x100, inner := 13 }]
/-- All rows of the register table (R310). -/
def tbl : List RF := tbl0
/-- The rows whose reset value is not 0. -/
def rst : List RF := []
end R.SlpC

/-! SagC: R312. -/
namespace R.SagC
abbrev STAT_GATE : Fld := ⟨0x00C, 3, 1⟩
abbrev STAT_MISMATCH : Fld := ⟨0x00C, 2, 1⟩
abbrev STAT_SAFE_L : Fld := ⟨0x00C, 1, 1⟩
abbrev STAT_SAFE_U : Fld := ⟨0x00C, 0, 1⟩
abbrev SAG_SAFE_KEY : Fld := ⟨0x040, 0, 16⟩
abbrev SAG_LOAD_ADDR : Fld := ⟨0x044, 0, 13⟩
abbrev SAG_LOAD_DATA : Fld := ⟨0x048, 0, 32⟩
abbrev SAG_LOAD_CTRL_ABORT : Fld := ⟨0x04C, 1, 1⟩
abbrev SAG_LOAD_CTRL_COMMIT : Fld := ⟨0x04C, 0, 1⟩
abbrev SAG_LOAD_STAT_ERR_OFS : Fld := ⟨0x050, 16, 12⟩
abbrev SAG_LOAD_STAT_BUSY : Fld := ⟨0x050, 8, 1⟩
abbrev SAG_LOAD_STAT_RESULT : Fld := ⟨0x050, 0, 8⟩
abbrev SAG_SAFE_CHECK : Fld := ⟨0x054, 0, 32⟩
abbrev SAG_SAFE_CONFIRM : Fld := ⟨0x058, 0, 32⟩
abbrev SAG_COMM_COPY_B_OK : Fld := ⟨0x05C, 9, 1⟩
abbrev SAG_COMM_COPY_A_OK : Fld := ⟨0x05C, 8, 1⟩
abbrev SAG_COMM_SIG_OK : Fld := ⟨0x05C, 4, 1⟩
abbrev SAG_COMM_STATE_L : Fld := ⟨0x05C, 2, 2⟩
abbrev SAG_COMM_STATE_U : Fld := ⟨0x05C, 0, 2⟩
abbrev SAG_GEN : Fld := ⟨0x060, 0, 32⟩
abbrev SAG_LATCH_CLR : Fld := ⟨0x064, 0, 2⟩
abbrev CLR_RES : Fld := ⟨0x068, 0, 2⟩
abbrev MISS_CNT : Fld := ⟨0x06C, 16, 16⟩
abbrev DIS_CNT : Fld := ⟨0x06C, 0, 16⟩
abbrev SAG_MARGIN_H : Fld := ⟨0x070, 0, 32⟩
abbrev SAG_CFAIL_CNT : Fld := ⟨0x074, 16, 16⟩
abbrev SAG_CLKMON : Fld := ⟨0x074, 0, 16⟩
abbrev SAG_SNAP_TS_LO : Fld := ⟨0x078, 0, 32⟩
abbrev SAG_SNAP_TS_HI : Fld := ⟨0x07C, 0, 32⟩
/-- Rows of the register table (R312), part 1. -/
def tbl0 : List RF := [
  { f := STAT_GATE, acc := .ro, rst := 0 },
  { f := STAT_MISMATCH, acc := .ro, rst := 0 },
  { f := STAT_SAFE_L, acc := .ro, rst := 0 },
  { f := STAT_SAFE_U, acc := .ro, rst := 0 },
  { f := SAG_SAFE_KEY, acc := .wo, rst := 0 },
  { f := SAG_LOAD_ADDR, acc := .rw, rst := 0 },
  { f := SAG_LOAD_DATA, acc := .wo, rst := 0 },
  { f := SAG_LOAD_CTRL_ABORT, acc := .wo, rst := 0 },
  { f := SAG_LOAD_CTRL_COMMIT, acc := .wo, rst := 0 },
  { f := SAG_LOAD_STAT_ERR_OFS, acc := .ro, rst := 0 },
  { f := SAG_LOAD_STAT_BUSY, acc := .ro, rst := 0 },
  { f := SAG_LOAD_STAT_RESULT, acc := .ro, rst := 0 },
  { f := SAG_SAFE_CHECK, acc := .ro, rst := 0 },
  { f := SAG_SAFE_CONFIRM, acc := .wo, rst := 0 },
  { f := SAG_COMM_COPY_B_OK, acc := .ro, rst := 0 },
  { f := SAG_COMM_COPY_A_OK, acc := .ro, rst := 0 },
  { f := SAG_COMM_SIG_OK, acc := .ro, rst := 0 },
  { f := SAG_COMM_STATE_L, acc := .ro, rst := 0 },
  { f := SAG_COMM_STATE_U, acc := .ro, rst := 0 },
  { f := SAG_GEN, acc := .ro, rst := 0 },
  { f := SAG_LATCH_CLR, acc := .wo, rst := 0 },
  { f := CLR_RES, acc := .ro, rst := 0 },
  { f := MISS_CNT, acc := .w1cCnt, rst := 0 },
  { f := DIS_CNT, acc := .w1cCnt, rst := 0 }]
/-- Rows of the register table (R312), part 2. -/
def tbl1 : List RF := [
  { f := SAG_MARGIN_H, acc := .ro, rst := 0 },
  { f := SAG_CFAIL_CNT, acc := .w1cCnt, rst := 0 },
  { f := SAG_CLKMON, acc := .ro, rst := 0 },
  { f := SAG_SNAP_TS_LO, acc := .ro, rst := 0, lo64 := true },
  { f := SAG_SNAP_TS_HI, acc := .ro, rst := 0 }]
/-- All rows of the register table (R312). -/
def tbl : List RF := tbl0 ++ tbl1
/-- The rows whose reset value is not 0. -/
def rst : List RF := []
end R.SagC

/-! Sag: R313. -/
namespace R.Sag
abbrev STAT_ETSL_ZONE : Fld := ⟨0x00C, 4, 1⟩
abbrev STAT_SENSOR_OK : Fld := ⟨0x00C, 3, 1⟩
abbrev STAT_SAGE_OPEN : Fld := ⟨0x00C, 2, 1⟩
abbrev STAT_COMM : Fld := ⟨0x00C, 0, 2⟩
abbrev SAG_POS : Fld := ⟨0x040, 0, 32⟩
abbrev SAG_SPD : Fld := ⟨0x044, 0, 32⟩
abbrev SAG_ETSL_LIM : Fld := ⟨0x048, 0, 16⟩
abbrev SAG_STOPDIST : Fld := ⟨0x04C, 0, 32⟩
abbrev SAG_CAUSE_SLP : Fld := ⟨0x050, 16, 9⟩
abbrev SAG_CAUSE_SAGE : Fld := ⟨0x050, 0, 9⟩
abbrev SAG_POS_DIFF : Fld := ⟨0x054, 0, 32⟩
abbrev SAG_SPD_DIFF : Fld := ⟨0x058, 0, 32⟩
abbrev SG_TMO_CNT : Fld := ⟨0x05C, 16, 16⟩
abbrev SG_CRC_CNT : Fld := ⟨0x05C, 0, 16⟩
abbrev SAG_TRIP_TS_LO : Fld := ⟨0x060, 0, 32⟩
abbrev SAG_TRIP_TS_HI : Fld := ⟨0x064, 0, 32⟩
/-- Rows of the register table (R313), part 1. -/
def tbl0 : List RF := [
  { f := STAT_ETSL_ZONE, acc := .ro, rst := 0 },
  { f := STAT_SENSOR_OK, acc := .ro, rst := 0 },
  { f := STAT_SAGE_OPEN, acc := .ro, rst := 0 },
  { f := STAT_COMM, acc := .ro, rst := 0 },
  { f := SAG_POS, acc := .ro, rst := 0 },
  { f := SAG_SPD, acc := .ro, rst := 0 },
  { f := SAG_ETSL_LIM, acc := .ro, rst := 0 },
  { f := SAG_STOPDIST, acc := .ro, rst := 0 },
  { f := SAG_CAUSE_SLP, acc := .ro, rst := 0 },
  { f := SAG_CAUSE_SAGE, acc := .ro, rst := 0 },
  { f := SAG_POS_DIFF, acc := .ro, rst := 0 },
  { f := SAG_SPD_DIFF, acc := .ro, rst := 0 },
  { f := SG_TMO_CNT, acc := .w1cCnt, rst := 0 },
  { f := SG_CRC_CNT, acc := .w1cCnt, rst := 0 },
  { f := SAG_TRIP_TS_LO, acc := .ro, rst := 0, lo64 := true },
  { f := SAG_TRIP_TS_HI, acc := .ro, rst := 0 }]
/-- All rows of the register table (R313). -/
def tbl : List RF := tbl0
/-- The rows whose reset value is not 0. -/
def rst : List RF := []
end R.Sag

/-! SioC: R348. -/
namespace R.SioC
abbrev STAT_INSP_L : Fld := ⟨0x00C, 11, 1⟩
abbrev STAT_INSP_U : Fld := ⟨0x00C, 10, 1⟩
abbrev STAT_DZF_L : Fld := ⟨0x00C, 9, 1⟩
abbrev STAT_DZF_U : Fld := ⟨0x00C, 8, 1⟩
abbrev STAT_RLV_OK_L : Fld := ⟨0x00C, 7, 1⟩
abbrev STAT_RLV_OK_U : Fld := ⟨0x00C, 6, 1⟩
abbrev STAT_SIO_OK_L : Fld := ⟨0x00C, 5, 1⟩
abbrev STAT_SIO_OK_U : Fld := ⟨0x00C, 4, 1⟩
abbrev STAT_DZ_L : Fld := ⟨0x00C, 3, 1⟩
abbrev STAT_DZ_U : Fld := ⟨0x00C, 2, 1⟩
abbrev STAT_LOCKED_L : Fld := ⟨0x00C, 1, 1⟩
abbrev STAT_LOCKED_U : Fld := ⟨0x00C, 0, 1⟩
abbrev SIO_IN_STATE : Fld := ⟨0x040, 0, 32⟩
abbrev SIO_IN_STATE_SG : Fld := ⟨0x044, 0, 32⟩
abbrev SIO_IN_FAULT : Fld := ⟨0x048, 0, 32⟩
abbrev SIO_IN_RESET : Fld := ⟨0x04C, 0, 32⟩
abbrev DZ_RST_L : Fld := ⟨0x050, 17, 1⟩
abbrev DZ_RST_U : Fld := ⟨0x050, 16, 1⟩
abbrev SIO_OUT_RESET : Fld := ⟨0x050, 0, 6⟩
abbrev SIO_SAFE_SAFE_L : Fld := ⟨0x054, 16, 4⟩
abbrev SIO_SAFE_SAFE_U : Fld := ⟨0x054, 0, 4⟩
abbrev TP_LVL : Fld := ⟨0x058, 4, 4⟩
abbrev TP_FAULT : Fld := ⟨0x058, 0, 4⟩
abbrev SIO_UCMP_DISP_U : Fld := ⟨0x05C, 0, 32⟩
abbrev SIO_UCMP_DISP_L : Fld := ⟨0x060, 0, 32⟩
abbrev RST_REF : Fld := ⟨0x064, 16, 16⟩
abbrev RST_OK : Fld := ⟨0x064, 0, 16⟩
/-- Rows of the register table (R348), part 1. -/
def tbl0 : List RF := [
  { f := STAT_INSP_L, acc := .ro, rst := 0 },
  { f := STAT_INSP_U, acc := .ro, rst := 0 },
  { f := STAT_DZF_L, acc := .ro, rst := 0 },
  { f := STAT_DZF_U, acc := .ro, rst := 0 },
  { f := STAT_RLV_OK_L, acc := .ro, rst := 0 },
  { f := STAT_RLV_OK_U, acc := .ro, rst := 0 },
  { f := STAT_SIO_OK_L, acc := .ro, rst := 0 },
  { f := STAT_SIO_OK_U, acc := .ro, rst := 0 },
  { f := STAT_DZ_L, acc := .ro, rst := 0 },
  { f := STAT_DZ_U, acc := .ro, rst := 0 },
  { f := STAT_LOCKED_L, acc := .ro, rst := 0 },
  { f := STAT_LOCKED_U, acc := .ro, rst := 0 },
  { f := SIO_IN_STATE, acc := .ro, rst := 0 },
  { f := SIO_IN_STATE_SG, acc := .ro, rst := 0 },
  { f := SIO_IN_FAULT, acc := .ro, rst := 0 },
  { f := SIO_IN_RESET, acc := .w1s, rst := 0 },
  { f := DZ_RST_L, acc := .w1s, rst := 0 },
  { f := DZ_RST_U, acc := .w1s, rst := 0 },
  { f := SIO_OUT_RESET, acc := .w1s, rst := 0 },
  { f := SIO_SAFE_SAFE_L, acc := .ro, rst := 0 },
  { f := SIO_SAFE_SAFE_U, acc := .ro, rst := 0 },
  { f := TP_LVL, acc := .ro, rst := 0xf },
  { f := TP_FAULT, acc := .ro, rst := 0 },
  { f := SIO_UCMP_DISP_U, acc := .ro, rst := 0 }]
/-- Rows of the register table (R348), part 2. -/
def tbl1 : List RF := [
  { f := SIO_UCMP_DISP_L, acc := .ro, rst := 0 },
  { f := RST_REF, acc := .w1cCnt, rst := 0 },
  { f := RST_OK, acc := .w1cCnt, rst := 0 }]
/-- All rows of the register table (R348). -/
def tbl : List RF := tbl0 ++ tbl1
/-- The rows whose reset value is not 0. -/
def rst : List RF := [{ f := TP_LVL, acc := .ro, rst := 0xf, cnt := 1, stride := 0x4 }]
end R.SioC

/-! Sib: R349. -/
namespace R.Sib
abbrev STAT_SAFE_SEEN : Fld := ⟨0x00C, 16, 4⟩
abbrev STAT_DISC : Fld := ⟨0x00C, 12, 4⟩
abbrev STAT_FAULT : Fld := ⟨0x00C, 8, 4⟩
abbrev STAT_EVAL_SG : Fld := ⟨0x00C, 4, 4⟩
abbrev STAT_EVAL : Fld := ⟨0x00C, 0, 4⟩
abbrev IN_CFG_T_DISC : Fld := ⟨0x040, 16, 16⟩
abbrev IN_CFG_ROLE : Fld := ⟨0x040, 12, 4⟩
abbrev IN_CFG_CAR : Fld := ⟨0x040, 8, 2⟩
abbrev IN_CFG_TP_EN : Fld := ⟨0x040, 6, 1⟩
abbrev IN_CFG_TP_B : Fld := ⟨0x040, 4, 2⟩
abbrev IN_CFG_TP_A : Fld := ⟨0x040, 2, 2⟩
abbrev IN_CFG_FORM : Fld := ⟨0x040, 0, 2⟩
abbrev IN_EPISODE_CNT : Fld := ⟨0x044, 16, 16⟩
abbrev IN_REASON : Fld := ⟨0x044, 13, 3⟩
abbrev IN_DISC_NOW : Fld := ⟨0x044, 0, 13⟩
abbrev IN_TEST_CNT : Fld := ⟨0x048, 16, 16⟩
abbrev IN_B_SG : Fld := ⟨0x048, 3, 1⟩
abbrev IN_A_SG : Fld := ⟨0x048, 2, 1⟩
abbrev IN_B : Fld := ⟨0x048, 1, 1⟩
abbrev IN_A : Fld := ⟨0x048, 0, 1⟩
abbrev IN_TS_LO : Fld := ⟨0x050, 0, 32⟩
abbrev IN_TS_HI : Fld := ⟨0x054, 0, 32⟩
/-- Rows of the register table (R349), part 1. -/
def tbl0 : List RF := [
  { f := STAT_SAFE_SEEN, acc := .ro, rst := 0 },
  { f := STAT_DISC, acc := .ro, rst := 0 },
  { f := STAT_FAULT, acc := .ro, rst := 0 },
  { f := STAT_EVAL_SG, acc := .ro, rst := 0 },
  { f := STAT_EVAL, acc := .ro, rst := 0 },
  { f := IN_CFG_T_DISC, acc := .ro, rst := 0, cnt := 4, stride := 0x20 },
  { f := IN_CFG_ROLE, acc := .ro, rst := 0, cnt := 4, stride := 0x20 },
  { f := IN_CFG_CAR, acc := .ro, rst := 0, cnt := 4, stride := 0x20 },
  { f := IN_CFG_TP_EN, acc := .ro, rst := 0, cnt := 4, stride := 0x20 },
  { f := IN_CFG_TP_B, acc := .ro, rst := 0, cnt := 4, stride := 0x20 },
  { f := IN_CFG_TP_A, acc := .ro, rst := 0, cnt := 4, stride := 0x20 },
  { f := IN_CFG_FORM, acc := .ro, rst := 0, cnt := 4, stride := 0x20 },
  { f := IN_EPISODE_CNT, acc := .w1cCnt, rst := 0, cnt := 4, stride := 0x20 },
  { f := IN_REASON, acc := .ro, rst := 0, cnt := 4, stride := 0x20 },
  { f := IN_DISC_NOW, acc := .ro, rst := 0, cnt := 4, stride := 0x20 },
  { f := IN_TEST_CNT, acc := .w1cCnt, rst := 0, cnt := 4, stride := 0x20 },
  { f := IN_B_SG, acc := .ro, rst := 0, cnt := 4, stride := 0x20 },
  { f := IN_A_SG, acc := .ro, rst := 0, cnt := 4, stride := 0x20 },
  { f := IN_B, acc := .ro, rst := 0, cnt := 4, stride := 0x20 },
  { f := IN_A, acc := .ro, rst := 0, cnt := 4, stride := 0x20 },
  { f := IN_TS_LO, acc := .ro, rst := 0, cnt := 4, stride := 0x20, lo64 := true },
  { f := IN_TS_HI, acc := .ro, rst := 0, cnt := 4, stride := 0x20 }]
/-- All rows of the register table (R349). -/
def tbl : List RF := tbl0
/-- The rows whose reset value is not 0. -/
def rst : List RF := []
end R.Sib

/-! Sog: R350. -/
namespace R.Sog
abbrev CTRL_ON_REQ1 : Fld := ⟨0x008, 2, 1⟩
abbrev CTRL_ON_REQ0 : Fld := ⟨0x008, 1, 1⟩
abbrev STAT_FREASON : Fld := ⟨0x00C, 20, 4⟩
abbrev STAT_FOUT : Fld := ⟨0x00C, 19, 1⟩
abbrev STAT_REL : Fld := ⟨0x00C, 17, 1⟩
abbrev STAT_FAULT : Fld := ⟨0x00C, 16, 1⟩
abbrev STAT_PERMIT_SG1 : Fld := ⟨0x00C, 13, 1⟩
abbrev STAT_PERMIT1 : Fld := ⟨0x00C, 12, 1⟩
abbrev STAT_FB1 : Fld := ⟨0x00C, 11, 1⟩
abbrev STAT_RB1 : Fld := ⟨0x00C, 10, 1⟩
abbrev STAT_LS1 : Fld := ⟨0x00C, 9, 1⟩
abbrev STAT_HS1 : Fld := ⟨0x00C, 8, 1⟩
abbrev STAT_PERMIT_SG0 : Fld := ⟨0x00C, 5, 1⟩
abbrev STAT_PERMIT0 : Fld := ⟨0x00C, 4, 1⟩
abbrev STAT_FB0 : Fld := ⟨0x00C, 3, 1⟩
abbrev STAT_RB0 : Fld := ⟨0x00C, 2, 1⟩
abbrev STAT_LS0 : Fld := ⟨0x00C, 1, 1⟩
abbrev STAT_HS0 : Fld := ⟨0x00C, 0, 1⟩
abbrev SO_T_FB : Fld := ⟨0x040, 0, 16⟩
abbrev SO_DARK_CNT : Fld := ⟨0x044, 16, 16⟩
abbrev SO_REL_TIME : Fld := ⟨0x044, 0, 16⟩
abbrev SO_TS_LO : Fld := ⟨0x048, 0, 32⟩
abbrev SO_TS_HI : Fld := ⟨0x04C, 0, 32⟩
/-- Rows of the register table (R350), part 1. -/
def tbl0 : List RF := [
  { f := CTRL_ON_REQ1, acc := .rw, rst := 0 },
  { f := CTRL_ON_REQ0, acc := .rw, rst := 0 },
  { f := STAT_FREASON, acc := .ro, rst := 0 },
  { f := STAT_FOUT, acc := .ro, rst := 0 },
  { f := STAT_REL, acc := .ro, rst := 0 },
  { f := STAT_FAULT, acc := .ro, rst := 0 },
  { f := STAT_PERMIT_SG1, acc := .ro, rst := 0 },
  { f := STAT_PERMIT1, acc := .ro, rst := 0 },
  { f := STAT_FB1, acc := .ro, rst := 0 },
  { f := STAT_RB1, acc := .ro, rst := 0 },
  { f := STAT_LS1, acc := .ro, rst := 0 },
  { f := STAT_HS1, acc := .ro, rst := 0 },
  { f := STAT_PERMIT_SG0, acc := .ro, rst := 0 },
  { f := STAT_PERMIT0, acc := .ro, rst := 0 },
  { f := STAT_FB0, acc := .ro, rst := 0 },
  { f := STAT_RB0, acc := .ro, rst := 0 },
  { f := STAT_LS0, acc := .ro, rst := 0 },
  { f := STAT_HS0, acc := .ro, rst := 0 },
  { f := SO_T_FB, acc := .ro, rst := 0, cnt := 2, stride := 0x10 },
  { f := SO_DARK_CNT, acc := .w1cCnt, rst := 0, cnt := 2, stride := 0x10 },
  { f := SO_REL_TIME, acc := .ro, rst := 0, cnt := 2, stride := 0x10 },
  { f := SO_TS_LO, acc := .ro, rst := 0, cnt := 2, stride := 0x10, lo64 := true },
  { f := SO_TS_HI, acc := .ro, rst := 0, cnt := 2, stride := 0x10 }]
/-- All rows of the register table (R350). -/
def tbl : List RF := tbl0
/-- The rows whose reset value is not 0. -/
def rst : List RF := []
end R.Sog

/-! SbcC: R377. -/
namespace R.SbcC
abbrev SBC_SUM_OOS : Fld := ⟨0x040, 24, 8⟩
abbrev SBC_SUM_FAULT : Fld := ⟨0x040, 16, 8⟩
abbrev SBC_SUM_ALONE : Fld := ⟨0x040, 8, 8⟩
abbrev SBC_SUM_NORMAL : Fld := ⟨0x040, 0, 8⟩
/-- Rows of the register table (R377), part 1. -/
def tbl0 : List RF := [
  { f := SBC_SUM_OOS, acc := .ro, rst := 0 },
  { f := SBC_SUM_FAULT, acc := .ro, rst := 0 },
  { f := SBC_SUM_ALONE, acc := .ro, rst := 0 },
  { f := SBC_SUM_NORMAL, acc := .ro, rst := 0 }]
/-- All rows of the register table (R377). -/
def tbl : List RF := tbl0
/-- The rows whose reset value is not 0. -/
def rst : List RF := []
end R.SbcC

/-! Sbc: R378, R379, R380, R381. -/
namespace R.Sbc
abbrev CTRL_BOR_REQ : Fld := ⟨0x008, 2, 1⟩
abbrev CTRL_OOS : Fld := ⟨0x008, 1, 1⟩
abbrev STAT_HELD : Fld := ⟨0x00C, 8, 1⟩
abbrev STAT_FAULT : Fld := ⟨0x00C, 6, 1⟩
abbrev STAT_ALONE : Fld := ⟨0x00C, 5, 1⟩
abbrev STAT_EPASS : Fld := ⟨0x00C, 4, 1⟩
abbrev STAT_OPMODE : Fld := ⟨0x00C, 0, 3⟩
abbrev SBC_NBT_NBRP : Fld := ⟨0x040, 24, 8⟩
abbrev SBC_NBT_NTSEG1 : Fld := ⟨0x040, 16, 8⟩
abbrev SBC_NBT_NTSEG2 : Fld := ⟨0x040, 8, 7⟩
abbrev SBC_NBT_NSJW : Fld := ⟨0x040, 0, 7⟩
abbrev SBC_DBT_DBRP : Fld := ⟨0x044, 24, 5⟩
abbrev SBC_DBT_DTSEG1 : Fld := ⟨0x044, 16, 5⟩
abbrev SBC_DBT_DTSEG2 : Fld := ⟨0x044, 8, 4⟩
abbrev SBC_DBT_DSJW : Fld := ⟨0x044, 0, 4⟩
abbrev SBC_TDC_TDCV : Fld := ⟨0x048, 16, 7⟩
abbrev SBC_TDC_TDCE : Fld := ⟨0x048, 15, 1⟩
abbrev SBC_TDC_TDCO : Fld := ⟨0x048, 0, 7⟩
abbrev SBC_CFG_ALONE_GAP : Fld := ⟨0x04C, 8, 8⟩
abbrev SBC_CFG_TEST : Fld := ⟨0x04C, 4, 2⟩
abbrev SBC_CFG_PEX_EN : Fld := ⟨0x04C, 3, 1⟩
abbrev SBC_CFG_AUTO_REC : Fld := ⟨0x04C, 2, 1⟩
abbrev SBC_CFG_SEL : Fld := ⟨0x04C, 1, 1⟩
abbrev SBC_CFG_OWN : Fld := ⟨0x04C, 0, 1⟩
abbrev SBC_ERRC_TEC : Fld := ⟨0x050, 16, 9⟩
abbrev SBC_ERRC_REC : Fld := ⟨0x050, 0, 8⟩
abbrev SBC_LASTERR_ACK_RUN : Fld := ⟨0x054, 8, 8⟩
abbrev SBC_LASTERR_DATA_PHASE : Fld := ⟨0x054, 4, 1⟩
abbrev SBC_LASTERR_CODE : Fld := ⟨0x054, 0, 3⟩
abbrev SBC_TX_OK_CNT : Fld := ⟨0x058, 0, 32⟩
abbrev SBC_RX_OK_CNT : Fld := ⟨0x05C, 0, 32⟩
abbrev ERR_CNT : Fld := ⟨0x060, 16, 16⟩
abbrev RESTR_ERR : Fld := ⟨0x060, 0, 16⟩
abbrev NOMATCH_CNT : Fld := ⟨0x064, 16, 16⟩
abbrev RX_LOST_CNT : Fld := ⟨0x064, 0, 16⟩
abbrev BUSOFF_CNT : Fld := ⟨0x068, 16, 16⟩
abbrev EPASS_CNT : Fld := ⟨0x068, 0, 16⟩
abbrev SBC_MB_NEW : Fld := ⟨0x06C, 0, 32⟩
abbrev RESTR_LEFT : Fld := ⟨0x070, 0, 8⟩
abbrev TXB_CTRL_RETRY : Fld := ⟨0x100, 4, 4⟩
abbrev TXB_CTRL_TAT : Fld := ⟨0x100, 2, 1⟩
abbrev TXB_CTRL_ABORT : Fld := ⟨0x100, 1, 1⟩
abbrev TXB_CTRL_REQ : Fld := ⟨0x100, 0, 1⟩
abbrev TXB_STAT_ATTEMPTS : Fld := ⟨0x104, 16, 8⟩
abbrev TXB_STAT_DATA_PHASE : Fld := ⟨0x104, 11, 1⟩
abbrev TXB_STAT_LAST_ERR : Fld := ⟨0x104, 8, 3⟩
abbrev TXB_STAT_ABORT_LATE : Fld := ⟨0x104, 6, 1⟩
abbrev TXB_STAT_RESULT : Fld := ⟨0x104, 4, 2⟩
abbrev TXB_STAT_STATE : Fld := ⟨0x104, 0, 2⟩
abbrev TXB_ID : Fld := ⟨0x108, 0, 29⟩
abbrev TXB_FMT_RTR : Fld := ⟨0x10C, 7, 1⟩
abbrev TXB_FMT_BRS : Fld := ⟨0x10C, 6, 1⟩
abbrev TXB_FMT_FDF : Fld := ⟨0x10C, 5, 1⟩
abbrev TXB_FMT_IDE : Fld := ⟨0x10C, 4, 1⟩
abbrev TXB_FMT_DLC : Fld := ⟨0x10C, 0, 4⟩
abbrev TXB_LAUNCH_LO : Fld := ⟨0x110, 0, 32⟩
abbrev TXB_LAUNCH_HI : Fld := ⟨0x114, 0, 32⟩
abbrev TXB_TS_LO : Fld := ⟨0x118, 0, 32⟩
abbrev TXB_TS_HI : Fld := ⟨0x11C, 0, 32⟩
abbrev TXB_DATA : Fld := ⟨0x120, 0, 32⟩
abbrev FLT_ID : Fld := ⟨0x240, 0, 29⟩
abbrev FLT_MASK : Fld := ⟨0x244, 0, 29⟩
abbrev FLT_CFG_EN : Fld := ⟨0x248, 31, 1⟩
abbrev FLT_CFG_REJECT : Fld := ⟨0x248, 8, 1⟩
abbrev FLT_CFG_OVW : Fld := ⟨0x248, 7, 1⟩
abbrev FLT_CFG_IDE : Fld := ⟨0x248, 6, 1⟩
abbrev FLT_CFG_MB : Fld := ⟨0x248, 0, 5⟩
abbrev MBX_CTRL_NEW : Fld := ⟨0x600, 31, 1⟩
abbrev MBX_CTRL_OVR : Fld := ⟨0x600, 30, 1⟩
abbrev MBX_CTRL_FILT : Fld := ⟨0x600, 16, 6⟩
abbrev MBX_CTRL_ESI : Fld := ⟨0x600, 8, 1⟩
abbrev MBX_CTRL_RTR : Fld := ⟨0x600, 7, 1⟩
abbrev MBX_CTRL_BRS : Fld := ⟨0x600, 6, 1⟩
abbrev MBX_CTRL_FDF : Fld := ⟨0x600, 5, 1⟩
abbrev MBX_CTRL_IDE : Fld := ⟨0x600, 4, 1⟩
abbrev MBX_CTRL_DLC : Fld := ⟨0x600, 0, 4⟩
abbrev MBX_ID : Fld := ⟨0x604, 0, 29⟩
abbrev MBX_TS_LO : Fld := ⟨0x608, 0, 32⟩
abbrev MBX_TS_HI : Fld := ⟨0x60C, 0, 32⟩
abbrev MBX_DATA : Fld := ⟨0x610, 0, 32⟩
/-- Rows of the register table (R378, R379, R380, R381), part 1. -/
def tbl0 : List RF := [
  { f := CTRL_BOR_REQ, acc := .w1s, rst := 0 },
  { f := CTRL_OOS, acc := .rw, rst := 0 },
  { f := STAT_HELD, acc := .ro, rst := 0 },
  { f := STAT_FAULT, acc := .w1cFlag, rst := 0 },
  { f := STAT_ALONE, acc := .ro, rst := 0 },
  { f := STAT_EPASS, acc := .ro, rst := 0 },
  { f := STAT_OPMODE, acc := .ro, rst := 0 },
  { f := SBC_NBT_NBRP, acc := .rwl, rst := 0 },
  { f := SBC_NBT_NTSEG1, acc := .rwl, rst := 0x3e },
  { f := SBC_NBT_NTSEG2, acc := .rwl, rst := 0xf },
  { f := SBC_NBT_NSJW, acc := .rwl, rst := 0xf },
  { f := SBC_DBT_DBRP, acc := .rwl, rst := 0 },
  { f := SBC_DBT_DTSEG1, acc := .rwl, rst := 0xa },
  { f := SBC_DBT_DTSEG2, acc := .rwl, rst := 0x3 },
  { f := SBC_DBT_DSJW, acc := .rwl, rst := 0x3 },
  { f := SBC_TDC_TDCV, acc := .ro, rst := 0 },
  { f := SBC_TDC_TDCE, acc := .rwl, rst := 0x1 },
  { f := SBC_TDC_TDCO, acc := .rwl, rst := 0xc },
  { f := SBC_CFG_ALONE_GAP, acc := .rwl, rst := 0xa },
  { f := SBC_CFG_TEST, acc := .rwl, rst := 0 },
  { f := SBC_CFG_PEX_EN, acc := .rwl, rst := 0x1 },
  { f := SBC_CFG_AUTO_REC, acc := .rwl, rst := 0 },
  { f := SBC_CFG_SEL, acc := .rwl, rst := 0 },
  { f := SBC_CFG_OWN, acc := .rwl, rst := 0 }]
/-- Rows of the register table (R378, R379, R380, R381), part 2. -/
def tbl1 : List RF := [
  { f := SBC_ERRC_TEC, acc := .ro, rst := 0 },
  { f := SBC_ERRC_REC, acc := .ro, rst := 0 },
  { f := SBC_LASTERR_ACK_RUN, acc := .ro, rst := 0 },
  { f := SBC_LASTERR_DATA_PHASE, acc := .ro, rst := 0 },
  { f := SBC_LASTERR_CODE, acc := .ro, rst := 0 },
  { f := SBC_TX_OK_CNT, acc := .w1cCnt, rst := 0 },
  { f := SBC_RX_OK_CNT, acc := .w1cCnt, rst := 0 },
  { f := ERR_CNT, acc := .w1cCnt, rst := 0 },
  { f := RESTR_ERR, acc := .w1cCnt, rst := 0 },
  { f := NOMATCH_CNT, acc := .w1cCnt, rst := 0 },
  { f := RX_LOST_CNT, acc := .w1cCnt, rst := 0 },
  { f := BUSOFF_CNT, acc := .w1cCnt, rst := 0 },
  { f := EPASS_CNT, acc := .w1cCnt, rst := 0 },
  { f := SBC_MB_NEW, acc := .ro, rst := 0 },
  { f := RESTR_LEFT, acc := .ro, rst := 0 },
  { f := TXB_CTRL_RETRY, acc := .rw, rst := 0, cnt := 3, stride := 0x60 },
  { f := TXB_CTRL_TAT, acc := .rw, rst := 0, cnt := 3, stride := 0x60 },
  { f := TXB_CTRL_ABORT, acc := .w1s, rst := 0, cnt := 3, stride := 0x60 },
  { f := TXB_CTRL_REQ, acc := .w1s, rst := 0, cnt := 3, stride := 0x60 },
  { f := TXB_STAT_ATTEMPTS, acc := .ro, rst := 0, cnt := 3, stride := 0x60 },
  { f := TXB_STAT_DATA_PHASE, acc := .ro, rst := 0, cnt := 3, stride := 0x60 },
  { f := TXB_STAT_LAST_ERR, acc := .ro, rst := 0, cnt := 3, stride := 0x60 },
  { f := TXB_STAT_ABORT_LATE, acc := .ro, rst := 0, cnt := 3, stride := 0x60 },
  { f := TXB_STAT_RESULT, acc := .ro, rst := 0, cnt := 3, stride := 0x60 }]
/-- Rows of the register table (R378, R379, R380, R381), part 3. -/
def tbl2 : List RF := [
  { f := TXB_STAT_STATE, acc := .ro, rst := 0, cnt := 3, stride := 0x60 },
  { f := TXB_ID, acc := .rw, rst := 0, cnt := 3, stride := 0x60 },
  { f := TXB_FMT_RTR, acc := .rw, rst := 0, cnt := 3, stride := 0x60 },
  { f := TXB_FMT_BRS, acc := .rw, rst := 0, cnt := 3, stride := 0x60 },
  { f := TXB_FMT_FDF, acc := .rw, rst := 0, cnt := 3, stride := 0x60 },
  { f := TXB_FMT_IDE, acc := .rw, rst := 0, cnt := 3, stride := 0x60 },
  { f := TXB_FMT_DLC, acc := .rw, rst := 0, cnt := 3, stride := 0x60 },
  { f := TXB_LAUNCH_LO, acc := .rw, rst := 0, cnt := 3, stride := 0x60, lo64 := true },
  { f := TXB_LAUNCH_HI, acc := .rw, rst := 0, cnt := 3, stride := 0x60 },
  { f := TXB_TS_LO, acc := .ro, rst := 0, cnt := 3, stride := 0x60, lo64 := true },
  { f := TXB_TS_HI, acc := .ro, rst := 0, cnt := 3, stride := 0x60 },
  { f := TXB_DATA, acc := .rw, rst := 0, cnt := 3, stride := 0x60, inner := 16 },
  { f := FLT_ID, acc := .rwl, rst := 0, cnt := 64, stride := 0xC },
  { f := FLT_MASK, acc := .rwl, rst := 0, cnt := 64, stride := 0xC },
  { f := FLT_CFG_EN, acc := .rwl, rst := 0, cnt := 64, stride := 0xC },
  { f := FLT_CFG_REJECT, acc := .rwl, rst := 0, cnt := 64, stride := 0xC },
  { f := FLT_CFG_OVW, acc := .rwl, rst := 0, cnt := 64, stride := 0xC },
  { f := FLT_CFG_IDE, acc := .rwl, rst := 0, cnt := 64, stride := 0xC },
  { f := FLT_CFG_MB, acc := .rwl, rst := 0, cnt := 64, stride := 0xC },
  { f := MBX_CTRL_NEW, acc := .w1cFlag, rst := 0, cnt := 32, stride := 0x50 },
  { f := MBX_CTRL_OVR, acc := .w1cFlag, rst := 0, cnt := 32, stride := 0x50 },
  { f := MBX_CTRL_FILT, acc := .ro, rst := 0, cnt := 32, stride := 0x50 },
  { f := MBX_CTRL_ESI, acc := .ro, rst := 0, cnt := 32, stride := 0x50 },
  { f := MBX_CTRL_RTR, acc := .ro, rst := 0, cnt := 32, stride := 0x50 }]
/-- Rows of the register table (R378, R379, R380, R381), part 4. -/
def tbl3 : List RF := [
  { f := MBX_CTRL_BRS, acc := .ro, rst := 0, cnt := 32, stride := 0x50 },
  { f := MBX_CTRL_FDF, acc := .ro, rst := 0, cnt := 32, stride := 0x50 },
  { f := MBX_CTRL_IDE, acc := .ro, rst := 0, cnt := 32, stride := 0x50 },
  { f := MBX_CTRL_DLC, acc := .ro, rst := 0, cnt := 32, stride := 0x50 },
  { f := MBX_ID, acc := .ro, rst := 0, cnt := 32, stride := 0x50 },
  { f := MBX_TS_LO, acc := .ro, rst := 0, cnt := 32, stride := 0x50, lo64 := true },
  { f := MBX_TS_HI, acc := .ro, rst := 0, cnt := 32, stride := 0x50 },
  { f := MBX_DATA, acc := .ro, rst := 0, cnt := 32, stride := 0x50, inner := 16 }]
/-- All rows of the register table (R378, R379, R380, R381). -/
def tbl : List RF := tbl0 ++ tbl1 ++ tbl2 ++ tbl3
/-- The rows whose reset value is not 0. -/
def rst : List RF := [{ f := SBC_NBT_NTSEG1, acc := .rwl, rst := 0x3e, cnt := 1, stride := 0x4 }, { f := SBC_NBT_NTSEG2, acc := .rwl, rst := 0xf, cnt := 1, stride := 0x4 }, { f := SBC_NBT_NSJW, acc := .rwl, rst := 0xf, cnt := 1, stride := 0x4 }, { f := SBC_DBT_DTSEG1, acc := .rwl, rst := 0xa, cnt := 1, stride := 0x4 }, { f := SBC_DBT_DTSEG2, acc := .rwl, rst := 0x3, cnt := 1, stride := 0x4 }, { f := SBC_DBT_DSJW, acc := .rwl, rst := 0x3, cnt := 1, stride := 0x4 }, { f := SBC_TDC_TDCE, acc := .rwl, rst := 0x1, cnt := 1, stride := 0x4 }, { f := SBC_TDC_TDCO, acc := .rwl, rst := 0xc, cnt := 1, stride := 0x4 }, { f := SBC_CFG_ALONE_GAP, acc := .rwl, rst := 0xa, cnt := 1, stride := 0x4 }, { f := SBC_CFG_PEX_EN, acc := .rwl, rst := 0x1, cnt := 1, stride := 0x4 }]
end R.Sbc

/-! CveC: R425, R426. -/
namespace R.CveC
abbrev STAT_WOKE : Fld := ⟨0x00C, 1, 1⟩
abbrev STAT_INVITING : Fld := ⟨0x00C, 0, 1⟩
abbrev CVE_CFG_INV_TMO : Fld := ⟨0x040, 16, 16⟩
abbrev CVE_CFG_INV_GAP : Fld := ⟨0x040, 0, 8⟩
abbrev CVE_NET_HB : Fld := ⟨0x044, 0, 32⟩
abbrev CVE_NET_LEGS : Fld := ⟨0x048, 0, 8⟩
abbrev N_BARRED : Fld := ⟨0x04C, 24, 8⟩
abbrev N_LOST : Fld := ⟨0x04C, 16, 8⟩
abbrev N_QUIET : Fld := ⟨0x04C, 8, 8⟩
abbrev N_LIVE : Fld := ⟨0x04C, 0, 8⟩
abbrev IMPERS_CNT : Fld := ⟨0x050, 16, 16⟩
abbrev MALF_CNT : Fld := ⟨0x050, 0, 16⟩
abbrev STRANGER_CNT : Fld := ⟨0x054, 16, 16⟩
abbrev LAST_STRANGER : Fld := ⟨0x054, 0, 8⟩
abbrev NAK_SUPP_CNT : Fld := ⟨0x058, 16, 16⟩
abbrev CVE_QSTORE_BASE : Fld := ⟨0x090, 0, 32⟩
abbrev CVE_BRESULT_TAG : Fld := ⟨0x150, 16, 16⟩
abbrev CVE_BRESULT_CODE : Fld := ⟨0x150, 0, 8⟩
abbrev CVE_BRESULT_RESULT_SEQ : Fld := ⟨0x154, 0, 16⟩
abbrev CVE_CMD_HDR_NET : Fld := ⟨0x100, 30, 2⟩
abbrev CVE_CMD_HDR_STREAM : Fld := ⟨0x100, 24, 6⟩
abbrev CVE_CMD_HDR_PRIO : Fld := ⟨0x100, 20, 3⟩
abbrev CVE_CMD_HDR_LEN : Fld := ⟨0x100, 8, 6⟩
abbrev CVE_CMD_HDR_COUNT : Fld := ⟨0x100, 0, 7⟩
abbrev CVE_CMD_D : Fld := ⟨0x104, 0, 32⟩
abbrev CVE_CMD_OP_TAG : Fld := ⟨0x144, 16, 16⟩
abbrev CVE_CMD_OP_OP : Fld := ⟨0x144, 0, 4⟩
/-- Rows of the register table (R425, R426), part 1. -/
def tbl0 : List RF := [
  { f := STAT_WOKE, acc := .w1cFlag, rst := 0 },
  { f := STAT_INVITING, acc := .ro, rst := 0 },
  { f := CVE_CFG_INV_TMO, acc := .rwl, rst := 0x3e8 },
  { f := CVE_CFG_INV_GAP, acc := .rwl, rst := 0xa },
  { f := CVE_NET_HB, acc := .rwl, rst := 0xa0a0a0a },
  { f := CVE_NET_LEGS, acc := .ro, rst := 0 },
  { f := N_BARRED, acc := .ro, rst := 0 },
  { f := N_LOST, acc := .ro, rst := 0 },
  { f := N_QUIET, acc := .ro, rst := 0 },
  { f := N_LIVE, acc := .ro, rst := 0 },
  { f := IMPERS_CNT, acc := .w1cCnt, rst := 0, cnt := 4, stride := 0x10 },
  { f := MALF_CNT, acc := .w1cCnt, rst := 0, cnt := 4, stride := 0x10 },
  { f := STRANGER_CNT, acc := .w1cCnt, rst := 0, cnt := 4, stride := 0x10 },
  { f := LAST_STRANGER, acc := .ro, rst := 0, cnt := 4, stride := 0x10 },
  { f := NAK_SUPP_CNT, acc := .w1cCnt, rst := 0, cnt := 4, stride := 0x10 },
  { f := CVE_QSTORE_BASE, acc := .ro, rst := 0 },
  { f := CVE_BRESULT_TAG, acc := .ro, rst := 0 },
  { f := CVE_BRESULT_CODE, acc := .ro, rst := 0 },
  { f := CVE_BRESULT_RESULT_SEQ, acc := .ro, rst := 0 },
  { f := CVE_CMD_HDR_NET, acc := .wo, rst := 0 },
  { f := CVE_CMD_HDR_STREAM, acc := .wo, rst := 0 },
  { f := CVE_CMD_HDR_PRIO, acc := .wo, rst := 0 },
  { f := CVE_CMD_HDR_LEN, acc := .wo, rst := 0 },
  { f := CVE_CMD_HDR_COUNT, acc := .wo, rst := 0 }]
/-- Rows of the register table (R425, R426), part 2. -/
def tbl1 : List RF := [
  { f := CVE_CMD_D, acc := .wo, rst := 0, cnt := 16, stride := 0x4 },
  { f := CVE_CMD_OP_TAG, acc := .wo, rst := 0 },
  { f := CVE_CMD_OP_OP, acc := .wo, rst := 0 }]
/-- All rows of the register table (R425, R426). -/
def tbl : List RF := tbl0 ++ tbl1
/-- The rows whose reset value is not 0. -/
def rst : List RF := [{ f := CVE_CFG_INV_TMO, acc := .rwl, rst := 0x3e8, cnt := 1, stride := 0x4 }, { f := CVE_CFG_INV_GAP, acc := .rwl, rst := 0xa, cnt := 1, stride := 0x4 }, { f := CVE_NET_HB, acc := .rwl, rst := 0xa0a0a0a, cnt := 1, stride := 0x4 }]
end R.CveC

/-! Ctx: R426, R427. -/
namespace R.Ctx
abbrev STAT_PEER_FULL : Fld := ⟨0x00C, 12, 1⟩
abbrev STAT_RXQ_FULL : Fld := ⟨0x00C, 11, 1⟩
abbrev STAT_HEARD_B : Fld := ⟨0x00C, 10, 1⟩
abbrev STAT_HEARD_A : Fld := ⟨0x00C, 9, 1⟩
abbrev STAT_BAR : Fld := ⟨0x00C, 8, 1⟩
abbrev STAT_MISS : Fld := ⟨0x00C, 4, 4⟩
abbrev STAT_CSTATE : Fld := ⟨0x00C, 0, 3⟩
abbrev CVE_ROSTER_NET : Fld := ⟨0x040, 16, 2⟩
abbrev CVE_ROSTER_NODE : Fld := ⟨0x040, 0, 8⟩
abbrev CVE_SERIAL : Fld := ⟨0x044, 0, 32⟩
abbrev CVE_TIMING_HB_PER : Fld := ⟨0x048, 24, 8⟩
abbrev CVE_TIMING_LOSS_N : Fld := ⟨0x048, 20, 4⟩
abbrev CVE_TIMING_N_RTX : Fld := ⟨0x048, 16, 4⟩
abbrev CVE_TIMING_T_RTX : Fld := ⟨0x048, 8, 8⟩
abbrev CVE_TIMING_P_RTX : Fld := ⟨0x048, 0, 8⟩
abbrev CVE_RXQ_RXQ_BASE : Fld := ⟨0x04C, 16, 10⟩
abbrev CVE_RXQ_RXQ_LEN : Fld := ⟨0x04C, 0, 7⟩
abbrev USED : Fld := ⟨0x050, 16, 7⟩
abbrev HEAD : Fld := ⟨0x050, 0, 6⟩
abbrev RXQ_QSEQ : Fld := ⟨0x054, 0, 32⟩
abbrev E : Fld := ⟨0x058, 16, 16⟩
abbrev TX_NEXT : Fld := ⟨0x058, 0, 16⟩
abbrev TX_CUM : Fld := ⟨0x05C, 16, 16⟩
abbrev TX_OUT : Fld := ⟨0x05C, 8, 5⟩
abbrev HOLD_MAP : Fld := ⟨0x05C, 0, 8⟩
abbrev CVE_JOIN_INFO_CLASS : Fld := ⟨0x060, 8, 8⟩
abbrev CVE_JOIN_INFO_VER : Fld := ⟨0x060, 0, 8⟩
abbrev CVE_JOIN_SERIAL : Fld := ⟨0x064, 0, 32⟩
abbrev GAP_CNT : Fld := ⟨0x068, 16, 16⟩
abbrev DUP_CNT : Fld := ⟨0x068, 0, 16⟩
abbrev RTX_CNT : Fld := ⟨0x06C, 16, 16⟩
abbrev GIVEUP_CNT : Fld := ⟨0x06C, 0, 16⟩
abbrev VIOL_CNT : Fld := ⟨0x070, 16, 16⟩
abbrev LAST_VIOL : Fld := ⟨0x070, 0, 8⟩
abbrev LOSS_CNT : Fld := ⟨0x074, 16, 16⟩
abbrev QFULL_CNT : Fld := ⟨0x074, 0, 16⟩
abbrev NOTLIVE_CNT : Fld := ⟨0x078, 16, 16⟩
abbrev EVT_DROP : Fld := ⟨0x078, 0, 16⟩
abbrev DELIV_CNT : Fld := ⟨0x07C, 0, 32⟩
abbrev CVE_RX_TS_LO : Fld := ⟨0x080, 0, 32⟩
abbrev CVE_RX_TS_HI : Fld := ⟨0x084, 0, 32⟩
abbrev CVE_RESULT_TAG : Fld := ⟨0x150, 16, 16⟩
abbrev CVE_RESULT_CODE : Fld := ⟨0x150, 0, 8⟩
abbrev CVE_RESULT_RESULT_SEQ : Fld := ⟨0x154, 0, 16⟩
abbrev CVE_CMD_HDR_NET : Fld := ⟨0x100, 30, 2⟩
abbrev CVE_CMD_HDR_STREAM : Fld := ⟨0x100, 24, 6⟩
abbrev CVE_CMD_HDR_PRIO : Fld := ⟨0x100, 20, 3⟩
abbrev CVE_CMD_HDR_LEN : Fld := ⟨0x100, 8, 6⟩
abbrev CVE_CMD_HDR_COUNT : Fld := ⟨0x100, 0, 7⟩
abbrev CVE_CMD_D : Fld := ⟨0x104, 0, 32⟩
abbrev CVE_CMD_OP_TAG : Fld := ⟨0x144, 16, 16⟩
abbrev CVE_CMD_OP_OP : Fld := ⟨0x144, 0, 4⟩
/-- Rows of the register table (R426, R427), part 1. -/
def tbl0 : List RF := [
  { f := STAT_PEER_FULL, acc := .ro, rst := 0 },
  { f := STAT_RXQ_FULL, acc := .ro, rst := 0 },
  { f := STAT_HEARD_B, acc := .ro, rst := 0 },
  { f := STAT_HEARD_A, acc := .ro, rst := 0 },
  { f := STAT_BAR, acc := .w1cFlag, rst := 0 },
  { f := STAT_MISS, acc := .ro, rst := 0 },
  { f := STAT_CSTATE, acc := .ro, rst := 0 },
  { f := CVE_ROSTER_NET, acc := .rwl, rst := 0 },
  { f := CVE_ROSTER_NODE, acc := .rwl, rst := 0 },
  { f := CVE_SERIAL, acc := .rw, rst := 0 },
  { f := CVE_TIMING_HB_PER, acc := .rwl, rst := 0xa },
  { f := CVE_TIMING_LOSS_N, acc := .rwl, rst := 0x3 },
  { f := CVE_TIMING_N_RTX, acc := .rwl, rst := 0x3 },
  { f := CVE_TIMING_T_RTX, acc := .rwl, rst := 0x4 },
  { f := CVE_TIMING_P_RTX, acc := .rwl, rst := 0x4 },
  { f := CVE_RXQ_RXQ_BASE, acc := .rwl, rst := 0 },
  { f := CVE_RXQ_RXQ_LEN, acc := .rwl, rst := 0 },
  { f := USED, acc := .ro, rst := 0 },
  { f := HEAD, acc := .ro, rst := 0 },
  { f := RXQ_QSEQ, acc := .ro, rst := 0 },
  { f := E, acc := .ro, rst := 0 },
  { f := TX_NEXT, acc := .ro, rst := 0 },
  { f := TX_CUM, acc := .ro, rst := 0 },
  { f := TX_OUT, acc := .ro, rst := 0 }]
/-- Rows of the register table (R426, R427), part 2. -/
def tbl1 : List RF := [
  { f := HOLD_MAP, acc := .ro, rst := 0 },
  { f := CVE_JOIN_INFO_CLASS, acc := .ro, rst := 0 },
  { f := CVE_JOIN_INFO_VER, acc := .ro, rst := 0 },
  { f := CVE_JOIN_SERIAL, acc := .ro, rst := 0 },
  { f := GAP_CNT, acc := .w1cCnt, rst := 0 },
  { f := DUP_CNT, acc := .w1cCnt, rst := 0 },
  { f := RTX_CNT, acc := .w1cCnt, rst := 0 },
  { f := GIVEUP_CNT, acc := .w1cCnt, rst := 0 },
  { f := VIOL_CNT, acc := .w1cCnt, rst := 0 },
  { f := LAST_VIOL, acc := .ro, rst := 0 },
  { f := LOSS_CNT, acc := .w1cCnt, rst := 0 },
  { f := QFULL_CNT, acc := .w1cCnt, rst := 0 },
  { f := NOTLIVE_CNT, acc := .w1cCnt, rst := 0 },
  { f := EVT_DROP, acc := .w1cCnt, rst := 0 },
  { f := DELIV_CNT, acc := .w1cCnt, rst := 0 },
  { f := CVE_RX_TS_LO, acc := .ro, rst := 0, lo64 := true },
  { f := CVE_RX_TS_HI, acc := .ro, rst := 0 },
  { f := CVE_RESULT_TAG, acc := .ro, rst := 0 },
  { f := CVE_RESULT_CODE, acc := .ro, rst := 0 },
  { f := CVE_RESULT_RESULT_SEQ, acc := .ro, rst := 0 },
  { f := CVE_CMD_HDR_NET, acc := .wo, rst := 0 },
  { f := CVE_CMD_HDR_STREAM, acc := .wo, rst := 0 },
  { f := CVE_CMD_HDR_PRIO, acc := .wo, rst := 0 },
  { f := CVE_CMD_HDR_LEN, acc := .wo, rst := 0 }]
/-- Rows of the register table (R426, R427), part 3. -/
def tbl2 : List RF := [
  { f := CVE_CMD_HDR_COUNT, acc := .wo, rst := 0 },
  { f := CVE_CMD_D, acc := .wo, rst := 0, cnt := 16, stride := 0x4 },
  { f := CVE_CMD_OP_TAG, acc := .wo, rst := 0 },
  { f := CVE_CMD_OP_OP, acc := .wo, rst := 0 }]
/-- All rows of the register table (R426, R427). -/
def tbl : List RF := tbl0 ++ tbl1 ++ tbl2
/-- The rows whose reset value is not 0. -/
def rst : List RF := [{ f := CVE_TIMING_HB_PER, acc := .rwl, rst := 0xa, cnt := 1, stride := 0x4 }, { f := CVE_TIMING_LOSS_N, acc := .rwl, rst := 0x3, cnt := 1, stride := 0x4 }, { f := CVE_TIMING_N_RTX, acc := .rwl, rst := 0x3, cnt := 1, stride := 0x4 }, { f := CVE_TIMING_T_RTX, acc := .rwl, rst := 0x4, cnt := 1, stride := 0x4 }, { f := CVE_TIMING_P_RTX, acc := .rwl, rst := 0x4, cnt := 1, stride := 0x4 }]
end R.Ctx

/-! ApxC: R455. -/
namespace R.ApxC
abbrev STAT_NIB_BAD : Fld := ⟨0x00C, 4, 1⟩
abbrev STAT_HOLDING : Fld := ⟨0x00C, 3, 1⟩
abbrev STAT_SIMPLEX : Fld := ⟨0x00C, 2, 1⟩
abbrev STAT_DUTY : Fld := ⟨0x00C, 0, 2⟩
abbrev NIB_CFG_LAG_TMO : Fld := ⟨0x040, 16, 10⟩
abbrev NIB_CFG_MM_DEMOTE : Fld := ⟨0x040, 0, 1⟩
abbrev NIB_MM_CNT : Fld := ⟨0x044, 0, 32⟩
abbrev NIB_MM_REC_STREAM : Fld := ⟨0x048, 24, 8⟩
abbrev NIB_MM_REC_FWD_PAIR : Fld := ⟨0x048, 16, 1⟩
abbrev NIB_MM_REC_SEQ : Fld := ⟨0x048, 0, 16⟩
abbrev NIB_MM_CRC_FWD : Fld := ⟨0x04C, 0, 32⟩
abbrev NIB_MM_CRC_2ND : Fld := ⟨0x050, 0, 32⟩
abbrev NIB_MM_TS_LO : Fld := ⟨0x054, 0, 32⟩
abbrev NIB_MM_TS_HI : Fld := ⟨0x058, 0, 32⟩
abbrev NIB_SQ_SEL : Fld := ⟨0x05C, 0, 8⟩
abbrev NIB_SQ_NEXT : Fld := ⟨0x060, 0, 16⟩
abbrev NIB_SQ_PAIR_P1 : Fld := ⟨0x064, 16, 16⟩
abbrev NIB_SQ_PAIR_P0 : Fld := ⟨0x064, 0, 16⟩
abbrev NIB_FWD_CNT : Fld := ⟨0x068, 0, 32⟩
abbrev NIB_LAST_TS_LO : Fld := ⟨0x06C, 0, 32⟩
abbrev NIB_LAST_TS_HI : Fld := ⟨0x070, 0, 32⟩
/-- Rows of the register table (R455), part 1. -/
def tbl0 : List RF := [
  { f := STAT_NIB_BAD, acc := .ro, rst := 0 },
  { f := STAT_HOLDING, acc := .ro, rst := 0 },
  { f := STAT_SIMPLEX, acc := .ro, rst := 0 },
  { f := STAT_DUTY, acc := .ro, rst := 0x3 },
  { f := NIB_CFG_LAG_TMO, acc := .rwl, rst := 0xa },
  { f := NIB_CFG_MM_DEMOTE, acc := .rwl, rst := 0x1 },
  { f := NIB_MM_CNT, acc := .w1cCnt, rst := 0 },
  { f := NIB_MM_REC_STREAM, acc := .ro, rst := 0 },
  { f := NIB_MM_REC_FWD_PAIR, acc := .ro, rst := 0 },
  { f := NIB_MM_REC_SEQ, acc := .ro, rst := 0 },
  { f := NIB_MM_CRC_FWD, acc := .ro, rst := 0 },
  { f := NIB_MM_CRC_2ND, acc := .ro, rst := 0 },
  { f := NIB_MM_TS_LO, acc := .ro, rst := 0, lo64 := true },
  { f := NIB_MM_TS_HI, acc := .ro, rst := 0 },
  { f := NIB_SQ_SEL, acc := .rw, rst := 0 },
  { f := NIB_SQ_NEXT, acc := .ro, rst := 0 },
  { f := NIB_SQ_PAIR_P1, acc := .ro, rst := 0 },
  { f := NIB_SQ_PAIR_P0, acc := .ro, rst := 0 },
  { f := NIB_FWD_CNT, acc := .w1cCnt, rst := 0 },
  { f := NIB_LAST_TS_LO, acc := .ro, rst := 0, lo64 := true },
  { f := NIB_LAST_TS_HI, acc := .ro, rst := 0 }]
/-- All rows of the register table (R455). -/
def tbl : List RF := tbl0
/-- The rows whose reset value is not 0. -/
def rst : List RF := [{ f := STAT_DUTY, acc := .ro, rst := 0x3, cnt := 1, stride := 0x4 }, { f := NIB_CFG_LAG_TMO, acc := .rwl, rst := 0xa, cnt := 1, stride := 0x4 }, { f := NIB_CFG_MM_DEMOTE, acc := .rwl, rst := 0x1, cnt := 1, stride := 0x4 }]
end R.ApxC

/-! Apx: R456. -/
namespace R.Apx
abbrev STAT_HOLD : Fld := ⟨0x00C, 3, 1⟩
abbrev STAT_PSTATE : Fld := ⟨0x00C, 0, 3⟩
abbrev SB_WR_CNT : Fld := ⟨0x040, 0, 32⟩
abbrev SB_WR_ADDR : Fld := ⟨0x044, 0, 32⟩
abbrev SUB_CNT : Fld := ⟨0x048, 0, 32⟩
abbrev SKIP_CNT : Fld := ⟨0x04C, 16, 16⟩
abbrev REPEAT_CNT : Fld := ⟨0x04C, 0, 16⟩
abbrev BAD_CNT : Fld := ⟨0x050, 16, 16⟩
abbrev HOLD_CNT : Fld := ⟨0x050, 0, 16⟩
abbrev HELLO_VAL : Fld := ⟨0x054, 0, 32⟩
/-- Rows of the register table (R456), part 1. -/
def tbl0 : List RF := [
  { f := STAT_HOLD, acc := .ro, rst := 0 },
  { f := STAT_PSTATE, acc := .ro, rst := 0 },
  { f := SB_WR_CNT, acc := .w1cCnt, rst := 0 },
  { f := SB_WR_ADDR, acc := .ro, rst := 0 },
  { f := SUB_CNT, acc := .w1cCnt, rst := 0 },
  { f := SKIP_CNT, acc := .w1cCnt, rst := 0 },
  { f := REPEAT_CNT, acc := .w1cCnt, rst := 0 },
  { f := BAD_CNT, acc := .w1cCnt, rst := 0 },
  { f := HOLD_CNT, acc := .w1cCnt, rst := 0 },
  { f := HELLO_VAL, acc := .ro, rst := 0 }]
/-- All rows of the register table (R456). -/
def tbl : List RF := tbl0
/-- The rows whose reset value is not 0. -/
def rst : List RF := []
end R.Apx

/-! Win: R457. -/
namespace R.Win
abbrev NIB_SUB_D : Fld := ⟨0x000, 0, 32⟩
abbrev NIB_SUB_HDR_STREAM : Fld := ⟨0x048, 24, 8⟩
abbrev NIB_SUB_HDR_SEQ : Fld := ⟨0x048, 0, 16⟩
abbrev NIB_SUB_RES_SEQ : Fld := ⟨0x04C, 16, 16⟩
abbrev NIB_SUB_RES_CODE : Fld := ⟨0x04C, 0, 8⟩
abbrev NIB_WDG_KICK : Fld := ⟨0x050, 0, 32⟩
abbrev NIB_HELLO : Fld := ⟨0x054, 0, 32⟩
abbrev NIB_HR_W : Fld := ⟨0x080, 0, 32⟩
/-- Rows of the register table (R457), part 1. -/
def tbl0 : List RF := [
  { f := NIB_SUB_D, acc := .wo, rst := 0, cnt := 18, stride := 0x4 },
  { f := NIB_SUB_HDR_STREAM, acc := .wo, rst := 0 },
  { f := NIB_SUB_HDR_SEQ, acc := .wo, rst := 0 },
  { f := NIB_SUB_RES_SEQ, acc := .ro, rst := 0 },
  { f := NIB_SUB_RES_CODE, acc := .ro, rst := 0 },
  { f := NIB_WDG_KICK, acc := .wo, rst := 0 },
  { f := NIB_HELLO, acc := .wo, rst := 0 },
  { f := NIB_HR_W, acc := .wo, rst := 0, cnt := 16, stride := 0x4 }]
/-- All rows of the register table (R457). -/
def tbl : List RF := tbl0
/-- The rows whose reset value is not 0. -/
def rst : List RF := []
end R.Win

/-! RdmC: R458, R459. -/
namespace R.RdmC
abbrev STAT_QBUSY : Fld := ⟨0x00C, 2, 1⟩
abbrev STAT_QSYNC : Fld := ⟨0x00C, 1, 1⟩
abbrev STAT_QOVF : Fld := ⟨0x00C, 0, 1⟩
abbrev RESTART_SLOT : Fld := ⟨0x060, 8, 1⟩
abbrev RESTART1 : Fld := ⟨0x060, 5, 1⟩
abbrev RESTART0 : Fld := ⟨0x060, 4, 1⟩
abbrev ADMIT : Fld := ⟨0x060, 1, 1⟩
abbrev ROLE_SWAP : Fld := ⟨0x060, 0, 1⟩
abbrev RDM_TIMING_HR_TMO : Fld := ⟨0x064, 16, 16⟩
abbrev RDM_TIMING_WDG_TMO : Fld := ⟨0x064, 0, 16⟩
abbrev TAKE_CNT : Fld := ⟨0x068, 16, 16⟩
abbrev SWAP_CNT : Fld := ⟨0x068, 0, 16⟩
abbrev TAKE_REASON : Fld := ⟨0x06C, 4, 4⟩
abbrev TAKE_PAIR : Fld := ⟨0x06C, 0, 1⟩
abbrev RDM_TAKE_TS_LO : Fld := ⟨0x070, 0, 32⟩
abbrev RDM_TAKE_TS_HI : Fld := ⟨0x074, 0, 32⟩
abbrev TEST_FAIL : Fld := ⟨0x078, 4, 4⟩
abbrev TEST_REQ : Fld := ⟨0x078, 0, 4⟩
abbrev QCOPY_LEFT : Fld := ⟨0x07C, 16, 11⟩
abbrev QW_EN : Fld := ⟨0x100, 31, 1⟩
abbrev QW_PAGES : Fld := ⟨0x100, 16, 11⟩
abbrev QW_BASE : Fld := ⟨0x100, 0, 10⟩
abbrev QW_SYNCED : Fld := ⟨0x104, 31, 1⟩
abbrev QW_CMP_FAIL : Fld := ⟨0x104, 30, 1⟩
abbrev QW_DROP : Fld := ⟨0x104, 0, 16⟩
/-- Rows of the register table (R458, R459), part 1. -/
def tbl0 : List RF := [
  { f := STAT_QBUSY, acc := .ro, rst := 0 },
  { f := STAT_QSYNC, acc := .ro, rst := 0 },
  { f := STAT_QOVF, acc := .w1cFlag, rst := 0 },
  { f := RESTART_SLOT, acc := .wo, rst := 0 },
  { f := RESTART1, acc := .wo, rst := 0 },
  { f := RESTART0, acc := .wo, rst := 0 },
  { f := ADMIT, acc := .wo, rst := 0 },
  { f := ROLE_SWAP, acc := .wo, rst := 0 },
  { f := RDM_TIMING_HR_TMO, acc := .rwl, rst := 0xfa },
  { f := RDM_TIMING_WDG_TMO, acc := .rwl, rst := 0x14 },
  { f := TAKE_CNT, acc := .w1cCnt, rst := 0 },
  { f := SWAP_CNT, acc := .w1cCnt, rst := 0 },
  { f := TAKE_REASON, acc := .ro, rst := 0 },
  { f := TAKE_PAIR, acc := .ro, rst := 0 },
  { f := RDM_TAKE_TS_LO, acc := .ro, rst := 0, lo64 := true },
  { f := RDM_TAKE_TS_HI, acc := .ro, rst := 0 },
  { f := TEST_FAIL, acc := .w1cFlag, rst := 0 },
  { f := TEST_REQ, acc := .w1s, rst := 0 },
  { f := QCOPY_LEFT, acc := .ro, rst := 0 },
  { f := QW_EN, acc := .rwl, rst := 0, cnt := 32, stride := 0x8 },
  { f := QW_PAGES, acc := .rwl, rst := 0x1, cnt := 32, stride := 0x8 },
  { f := QW_BASE, acc := .rwl, rst := 0, cnt := 32, stride := 0x8 },
  { f := QW_SYNCED, acc := .ro, rst := 0, cnt := 32, stride := 0x8 },
  { f := QW_CMP_FAIL, acc := .w1cFlag, rst := 0, cnt := 32, stride := 0x8 }]
/-- Rows of the register table (R458, R459), part 2. -/
def tbl1 : List RF := [
  { f := QW_DROP, acc := .w1cCnt, rst := 0, cnt := 32, stride := 0x8 }]
/-- All rows of the register table (R458, R459). -/
def tbl : List RF := tbl0 ++ tbl1
/-- The rows whose reset value is not 0. -/
def rst : List RF := [{ f := RDM_TIMING_HR_TMO, acc := .rwl, rst := 0xfa, cnt := 1, stride := 0x4 }, { f := RDM_TIMING_WDG_TMO, acc := .rwl, rst := 0x14, cnt := 1, stride := 0x4 }, { f := QW_PAGES, acc := .rwl, rst := 0x1, cnt := 32, stride := 0x8 }]
end R.RdmC

/-! Rdm: R460. -/
namespace R.Rdm
abbrev STAT_FAIL_REASON : Fld := ⟨0x00C, 0, 4⟩
abbrev RDM_HR_W : Fld := ⟨0x040, 0, 32⟩
abbrev RDM_HR_TS_LO : Fld := ⟨0x080, 0, 32⟩
abbrev RDM_HR_TS_HI : Fld := ⟨0x084, 0, 32⟩
abbrev HR_BAD_CNT : Fld := ⟨0x088, 16, 16⟩
abbrev HR_MISS_CNT : Fld := ⟨0x088, 0, 16⟩
abbrev HR_CNT : Fld := ⟨0x08C, 0, 32⟩
/-- Rows of the register table (R460), part 1. -/
def tbl0 : List RF := [
  { f := STAT_FAIL_REASON, acc := .ro, rst := 0 },
  { f := RDM_HR_W, acc := .ro, rst := 0, cnt := 16, stride := 0x4 },
  { f := RDM_HR_TS_LO, acc := .ro, rst := 0, lo64 := true },
  { f := RDM_HR_TS_HI, acc := .ro, rst := 0 },
  { f := HR_BAD_CNT, acc := .w1cCnt, rst := 0 },
  { f := HR_MISS_CNT, acc := .w1cCnt, rst := 0 },
  { f := HR_CNT, acc := .w1cCnt, rst := 0 }]
/-- All rows of the register table (R460). -/
def tbl : List RF := tbl0
/-- The rows whose reset value is not 0. -/
def rst : List RF := []
end R.Rdm

/-! IkwC: R480. -/
namespace R.IkwC
abbrev CTRL_ARC_EN : Fld := ⟨0x008, 1, 1⟩
abbrev STAT_PFW : Fld := ⟨0x00C, 6, 1⟩
abbrev STAT_SCAN : Fld := ⟨0x00C, 5, 1⟩
abbrev STAT_KEEPER : Fld := ⟨0x00C, 4, 1⟩
abbrev STAT_FAULT : Fld := ⟨0x00C, 3, 1⟩
abbrev STAT_ARC_BUSY : Fld := ⟨0x00C, 2, 1⟩
abbrev STAT_FULL : Fld := ⟨0x00C, 1, 1⟩
abbrev STAT_RES_ONLY : Fld := ⟨0x00C, 0, 1⟩
abbrev FIFO_PEAK : Fld := ⟨0x040, 16, 8⟩
abbrev FIFO_USED : Fld := ⟨0x040, 0, 8⟩
abbrev IKW_MRAM_BASE : Fld := ⟨0x044, 0, 32⟩
abbrev WRAPPED : Fld := ⟨0x048, 16, 1⟩
abbrev IKW_HEAD : Fld := ⟨0x048, 0, 14⟩
abbrev IKW_STORED_CNT : Fld := ⟨0x04C, 0, 32⟩
abbrev IKW_SUP_CNT : Fld := ⟨0x050, 0, 32⟩
abbrev SUM_CNT : Fld := ⟨0x054, 16, 16⟩
abbrev MRAM_ERR_CNT : Fld := ⟨0x054, 0, 16⟩
abbrev IKW_ARC_BASE : Fld := ⟨0x058, 0, 32⟩
abbrev ARC_BLOCKS : Fld := ⟨0x05C, 0, 16⟩
abbrev ARC_LAG : Fld := ⟨0x060, 16, 9⟩
abbrev ARC_HEAD : Fld := ⟨0x060, 0, 16⟩
abbrev ARC_LOST_CNT : Fld := ⟨0x064, 16, 16⟩
abbrev ARC_ERR_CNT : Fld := ⟨0x064, 0, 16⟩
abbrev IKW_SW_D : Fld := ⟨0x080, 0, 32⟩
abbrev IKW_SW_HDR_CODE : Fld := ⟨0x0A0, 0, 10⟩
abbrev IKW_RD_IDX : Fld := ⟨0x0B0, 0, 14⟩
abbrev IKW_RD_W : Fld := ⟨0x0C0, 0, 32⟩
/-- Rows of the register table (R480), part 1. -/
def tbl0 : List RF := [
  { f := CTRL_ARC_EN, acc := .rw, rst := 0 },
  { f := STAT_PFW, acc := .ro, rst := 0 },
  { f := STAT_SCAN, acc := .ro, rst := 0 },
  { f := STAT_KEEPER, acc := .ro, rst := 0 },
  { f := STAT_FAULT, acc := .w1cFlag, rst := 0 },
  { f := STAT_ARC_BUSY, acc := .ro, rst := 0 },
  { f := STAT_FULL, acc := .ro, rst := 0 },
  { f := STAT_RES_ONLY, acc := .ro, rst := 0 },
  { f := FIFO_PEAK, acc := .w1cCnt, rst := 0 },
  { f := FIFO_USED, acc := .ro, rst := 0 },
  { f := IKW_MRAM_BASE, acc := .ro, rst := 0 },
  { f := WRAPPED, acc := .ro, rst := 0 },
  { f := IKW_HEAD, acc := .ro, rst := 0 },
  { f := IKW_STORED_CNT, acc := .w1cCnt, rst := 0 },
  { f := IKW_SUP_CNT, acc := .w1cCnt, rst := 0 },
  { f := SUM_CNT, acc := .w1cCnt, rst := 0 },
  { f := MRAM_ERR_CNT, acc := .w1cCnt, rst := 0 },
  { f := IKW_ARC_BASE, acc := .rwl, rst := 0 },
  { f := ARC_BLOCKS, acc := .rwl, rst := 0x100 },
  { f := ARC_LAG, acc := .ro, rst := 0 },
  { f := ARC_HEAD, acc := .ro, rst := 0 },
  { f := ARC_LOST_CNT, acc := .w1cCnt, rst := 0 },
  { f := ARC_ERR_CNT, acc := .w1cCnt, rst := 0 },
  { f := IKW_SW_D, acc := .wo, rst := 0, cnt := 8, stride := 0x4 }]
/-- Rows of the register table (R480), part 2. -/
def tbl1 : List RF := [
  { f := IKW_SW_HDR_CODE, acc := .wo, rst := 0 },
  { f := IKW_RD_IDX, acc := .rw, rst := 0 },
  { f := IKW_RD_W, acc := .ro, rst := 0, cnt := 16, stride := 0x4 }]
/-- All rows of the register table (R480). -/
def tbl : List RF := tbl0 ++ tbl1
/-- The rows whose reset value is not 0. -/
def rst : List RF := [{ f := ARC_BLOCKS, acc := .rwl, rst := 0x100, cnt := 1, stride := 0x4 }]
end R.IkwC

/-! IkwCode: R481. -/
namespace R.IkwCode
abbrev PENDING : Fld := ⟨0x000, 31, 1⟩
abbrev SEV : Fld := ⟨0x000, 26, 2⟩
abbrev REFILL : Fld := ⟨0x000, 8, 16⟩
abbrev TOKENS : Fld := ⟨0x000, 4, 4⟩
abbrev BURST : Fld := ⟨0x000, 0, 4⟩
/-- Rows of the register table (R481), part 1. -/
def tbl0 : List RF := [
  { f := PENDING, acc := .ro, rst := 0, cnt := 1024, stride := 0x4 },
  { f := SEV, acc := .ro, rst := 0, cnt := 1024, stride := 0x4 },
  { f := REFILL, acc := .rwl, rst := 0x3e8, cnt := 1024, stride := 0x4 },
  { f := TOKENS, acc := .ro, rst := 0x4, cnt := 1024, stride := 0x4 },
  { f := BURST, acc := .rwl, rst := 0x4, cnt := 1024, stride := 0x4 }]
/-- All rows of the register table (R481). -/
def tbl : List RF := tbl0
/-- The rows whose reset value is not 0. -/
def rst : List RF := [{ f := REFILL, acc := .rwl, rst := 0x3e8, cnt := 1024, stride := 0x4 }, { f := TOKENS, acc := .ro, rst := 0x4, cnt := 1024, stride := 0x4 }, { f := BURST, acc := .rwl, rst := 0x4, cnt := 1024, stride := 0x4 }]
end R.IkwCode

/-! IkwSup: R482. -/
namespace R.IkwSup
abbrev PEND : Fld := ⟨0x000, 0, 32⟩
abbrev FULL : Fld := ⟨0x004, 1, 1⟩
abbrev RATE : Fld := ⟨0x004, 0, 1⟩
abbrev FIRST_TS_LO : Fld := ⟨0x008, 0, 32⟩
abbrev FIRST_TS_HI : Fld := ⟨0x00C, 0, 32⟩
abbrev LAST_TS_LO : Fld := ⟨0x010, 0, 32⟩
abbrev LAST_TS_HI : Fld := ⟨0x014, 0, 32⟩
/-- Rows of the register table (R482), part 1. -/
def tbl0 : List RF := [
  { f := PEND, acc := .ro, rst := 0, cnt := 1024, stride := 0x20 },
  { f := FULL, acc := .ro, rst := 0, cnt := 1024, stride := 0x20 },
  { f := RATE, acc := .ro, rst := 0, cnt := 1024, stride := 0x20 },
  { f := FIRST_TS_LO, acc := .ro, rst := 0, cnt := 1024, stride := 0x20, lo64 := true },
  { f := FIRST_TS_HI, acc := .ro, rst := 0, cnt := 1024, stride := 0x20 },
  { f := LAST_TS_LO, acc := .ro, rst := 0, cnt := 1024, stride := 0x20, lo64 := true },
  { f := LAST_TS_HI, acc := .ro, rst := 0, cnt := 1024, stride := 0x20 }]
/-- All rows of the register table (R482). -/
def tbl : List RF := tbl0
/-- The rows whose reset value is not 0. -/
def rst : List RF := []
end R.IkwSup

/-! PcrC: R510. -/
namespace R.PcrC
abbrev STAT_XAON_OK : Fld := ⟨0x00C, 2, 1⟩
abbrev STAT_LIMP : Fld := ⟨0x00C, 1, 1⟩
abbrev STAT_RESTORE_BAD : Fld := ⟨0x00C, 0, 1⟩
abbrev PCR_CHIPID : Fld := ⟨0x040, 0, 32⟩
abbrev PCR_STRAP_PMODE : Fld := ⟨0x044, 0, 1⟩
abbrev PCR_RST_CAUSE : Fld := ⟨0x048, 0, 5⟩
abbrev PCR_OPP_BUSY : Fld := ⟨0x04C, 8, 1⟩
abbrev PCR_OPP_OPP_CUR : Fld := ⟨0x04C, 4, 2⟩
abbrev PCR_OPP_OPP_REQ : Fld := ⟨0x04C, 0, 2⟩
abbrev PCR_SLEEP_REQ_TARGET : Fld := ⟨0x050, 0, 2⟩
abbrev PCR_SLEEP_STAT_LAST : Fld := ⟨0x054, 8, 2⟩
abbrev PCR_SLEEP_STAT_RESULT : Fld := ⟨0x054, 0, 4⟩
abbrev PCR_WAKE_EN : Fld := ⟨0x058, 0, 9⟩
abbrev PCR_WAKE_SRC : Fld := ⟨0x05C, 0, 9⟩
abbrev PCR_WAKE_AT_LO : Fld := ⟨0x060, 0, 32⟩
abbrev PCR_WAKE_AT_HI : Fld := ⟨0x064, 0, 16⟩
abbrev PCR_WAKE_PFI_WCNT : Fld := ⟨0x068, 16, 16⟩
abbrev PCR_WAKE_PFI_CH : Fld := ⟨0x068, 0, 8⟩
abbrev PCR_WAKE_BUS : Fld := ⟨0x06C, 0, 8⟩
abbrev PCR_CLKMON : Fld := ⟨0x070, 0, 7⟩
abbrev PCR_FAULT_NO_PAIR : Fld := ⟨0x074, 3, 1⟩
abbrev PCR_FAULT_STUCK : Fld := ⟨0x074, 2, 1⟩
abbrev PCR_FAULT_LIMP : Fld := ⟨0x074, 1, 1⟩
abbrev PCR_FAULT_WAKE_REG : Fld := ⟨0x074, 0, 1⟩
abbrev PCR_PCYCLE : Fld := ⟨0x078, 0, 32⟩
abbrev PCR_OPTIME_LO : Fld := ⟨0x07C, 0, 32⟩
abbrev PCR_OPTIME_HI : Fld := ⟨0x080, 0, 16⟩
abbrev PCR_REGSTAT_RDY : Fld := ⟨0x084, 17, 1⟩
abbrev PCR_REGSTAT_LP : Fld := ⟨0x084, 16, 1⟩
abbrev PCR_REGSTAT_VCORE : Fld := ⟨0x084, 0, 16⟩
abbrev PCR_PFW_PFW : Fld := ⟨0x088, 16, 1⟩
abbrev PCR_PFW_PFW_LEVEL : Fld := ⟨0x088, 0, 8⟩
abbrev PCR_DVS_DVS_TMO : Fld := ⟨0x08C, 8, 8⟩
abbrev PCR_DVS_ACK : Fld := ⟨0x08C, 3, 1⟩
abbrev PCR_DVS_REQ : Fld := ⟨0x08C, 0, 3⟩
abbrev BO_CNT : Fld := ⟨0x090, 16, 16⟩
abbrev UV_CNT : Fld := ⟨0x090, 0, 16⟩
abbrev WAKE_FAIL_CNT : Fld := ⟨0x094, 16, 16⟩
abbrev CLKMON_CNT : Fld := ⟨0x094, 0, 16⟩
abbrev PCR_STUCK_MS : Fld := ⟨0x098, 0, 32⟩
/-- Rows of the register table (R510), part 1. -/
def tbl0 : List RF := [
  { f := STAT_XAON_OK, acc := .ro, rst := 0 },
  { f := STAT_LIMP, acc := .ro, rst := 0 },
  { f := STAT_RESTORE_BAD, acc := .w1cFlag, rst := 0 },
  { f := PCR_CHIPID, acc := .ro, rst := 0 },
  { f := PCR_STRAP_PMODE, acc := .ro, rst := 0 },
  { f := PCR_RST_CAUSE, acc := .w1cFlag, rst := 0x1 },
  { f := PCR_OPP_BUSY, acc := .ro, rst := 0 },
  { f := PCR_OPP_OPP_CUR, acc := .ro, rst := 0x3 },
  { f := PCR_OPP_OPP_REQ, acc := .rw, rst := 0x3 },
  { f := PCR_SLEEP_REQ_TARGET, acc := .wo, rst := 0 },
  { f := PCR_SLEEP_STAT_LAST, acc := .ro, rst := 0 },
  { f := PCR_SLEEP_STAT_RESULT, acc := .ro, rst := 0 },
  { f := PCR_WAKE_EN, acc := .rw, rst := 0x180 },
  { f := PCR_WAKE_SRC, acc := .w1cFlag, rst := 0 },
  { f := PCR_WAKE_AT_LO, acc := .rw, rst := 0, lo64 := true },
  { f := PCR_WAKE_AT_HI, acc := .rw, rst := 0 },
  { f := PCR_WAKE_PFI_WCNT, acc := .rw, rst := 0x10 },
  { f := PCR_WAKE_PFI_CH, acc := .rw, rst := 0 },
  { f := PCR_WAKE_BUS, acc := .rw, rst := 0 },
  { f := PCR_CLKMON, acc := .ro, rst := 0 },
  { f := PCR_FAULT_NO_PAIR, acc := .ro, rst := 0 },
  { f := PCR_FAULT_STUCK, acc := .w1cFlag, rst := 0 },
  { f := PCR_FAULT_LIMP, acc := .ro, rst := 0 },
  { f := PCR_FAULT_WAKE_REG, acc := .ro, rst := 0 }]
/-- Rows of the register table (R510), part 2. -/
def tbl1 : List RF := [
  { f := PCR_PCYCLE, acc := .ro, rst := 0 },
  { f := PCR_OPTIME_LO, acc := .ro, rst := 0, lo64 := true },
  { f := PCR_OPTIME_HI, acc := .ro, rst := 0 },
  { f := PCR_REGSTAT_RDY, acc := .ro, rst := 0 },
  { f := PCR_REGSTAT_LP, acc := .ro, rst := 0 },
  { f := PCR_REGSTAT_VCORE, acc := .ro, rst := 0 },
  { f := PCR_PFW_PFW, acc := .ro, rst := 0 },
  { f := PCR_PFW_PFW_LEVEL, acc := .rwl, rst := 0 },
  { f := PCR_DVS_DVS_TMO, acc := .rwl, rst := 0xa },
  { f := PCR_DVS_ACK, acc := .ro, rst := 0 },
  { f := PCR_DVS_REQ, acc := .ro, rst := 0x4 },
  { f := BO_CNT, acc := .w1cCnt, rst := 0 },
  { f := UV_CNT, acc := .w1cCnt, rst := 0 },
  { f := WAKE_FAIL_CNT, acc := .w1cCnt, rst := 0 },
  { f := CLKMON_CNT, acc := .w1cCnt, rst := 0 },
  { f := PCR_STUCK_MS, acc := .ro, rst := 0 }]
/-- All rows of the register table (R510). -/
def tbl : List RF := tbl0 ++ tbl1
/-- The rows whose reset value is not 0. -/
def rst : List RF := [{ f := PCR_RST_CAUSE, acc := .w1cFlag, rst := 0x1, cnt := 1, stride := 0x4 }, { f := PCR_OPP_OPP_CUR, acc := .ro, rst := 0x3, cnt := 1, stride := 0x4 }, { f := PCR_OPP_OPP_REQ, acc := .rw, rst := 0x3, cnt := 1, stride := 0x4 }, { f := PCR_WAKE_EN, acc := .rw, rst := 0x180, cnt := 1, stride := 0x4 }, { f := PCR_WAKE_PFI_WCNT, acc := .rw, rst := 0x10, cnt := 1, stride := 0x4 }, { f := PCR_DVS_DVS_TMO, acc := .rwl, rst := 0xa, cnt := 1, stride := 0x4 }, { f := PCR_DVS_REQ, acc := .ro, rst := 0x4, cnt := 1, stride := 0x4 }]
end R.PcrC

/-! Pcr: R512. -/
namespace R.Pcr
abbrev STAT_ISO : Fld := ⟨0x00C, 3, 1⟩
abbrev STAT_DSTATE : Fld := ⟨0x00C, 0, 3⟩
abbrev OFF_CNT : Fld := ⟨0x040, 16, 16⟩
abbrev ON_CNT : Fld := ⟨0x040, 0, 16⟩
/-- Rows of the register table (R512), part 1. -/
def tbl0 : List RF := [
  { f := STAT_ISO, acc := .ro, rst := 0 },
  { f := STAT_DSTATE, acc := .ro, rst := 0 },
  { f := OFF_CNT, acc := .w1cCnt, rst := 0 },
  { f := ON_CNT, acc := .w1cCnt, rst := 0 }]
/-- All rows of the register table (R512). -/
def tbl : List RF := tbl0
/-- The rows whose reset value is not 0. -/
def rst : List RF := []
end R.Pcr

/-! MemC: R533. -/
namespace R.MemC
abbrev STAT_LIFECYCLE : Fld := ⟨0x00C, 4, 2⟩
abbrev STAT_DBG_OPEN : Fld := ⟨0x00C, 3, 1⟩
abbrev STAT_ATT_BUSY : Fld := ⟨0x00C, 2, 1⟩
abbrev STAT_XSPI_BUSY : Fld := ⟨0x00C, 1, 1⟩
abbrev STAT_DDR_READY : Fld := ⟨0x00C, 0, 1⟩
abbrev MEM_ECC_CFG_SCRUB_DIV : Fld := ⟨0x040, 0, 16⟩
abbrev MRAM_CE : Fld := ⟨0x044, 16, 16⟩
abbrev SRAM_CE : Fld := ⟨0x044, 0, 16⟩
abbrev MRAM_UE : Fld := ⟨0x048, 16, 16⟩
abbrev SRAM_UE : Fld := ⟨0x048, 0, 16⟩
abbrev MEM_UE_ADDR : Fld := ⟨0x04C, 0, 32⟩
abbrev DDR_UE : Fld := ⟨0x050, 16, 16⟩
abbrev DDR_CE : Fld := ⟨0x050, 0, 16⟩
abbrev MEM_DDR_CFG_INIT : Fld := ⟨0x054, 8, 1⟩
abbrev MEM_DDR_CFG_DENSITY : Fld := ⟨0x054, 4, 4⟩
abbrev MEM_DDR_CFG_RANKS : Fld := ⟨0x054, 2, 2⟩
abbrev MEM_DDR_CFG_ECC : Fld := ⟨0x054, 1, 1⟩
abbrev MEM_DDR_STAT_SREF : Fld := ⟨0x058, 1, 1⟩
abbrev MEM_DDR_STAT_TRAIN_FAIL : Fld := ⟨0x058, 0, 1⟩
abbrev MEM_DDR_SIZE : Fld := ⟨0x05C, 0, 32⟩
abbrev MEM_XSPI_CFG_CLK_DIV : Fld := ⟨0x060, 8, 8⟩
abbrev MEM_XSPI_CFG_OCTAL : Fld := ⟨0x060, 0, 1⟩
abbrev MEM_XSPI_CMD_LEN : Fld := ⟨0x064, 16, 16⟩
abbrev MEM_XSPI_CMD_OP : Fld := ⟨0x064, 0, 2⟩
abbrev MEM_XSPI_ADDR : Fld := ⟨0x068, 0, 32⟩
abbrev XSPI_ERR : Fld := ⟨0x06C, 16, 16⟩
abbrev MEM_BOOT_SEL : Fld := ⟨0x070, 0, 2⟩
abbrev MEM_BOOT_STAT_FB1 : Fld := ⟨0x074, 12, 1⟩
abbrev MEM_BOOT_STAT_RES1 : Fld := ⟨0x074, 8, 4⟩
abbrev MEM_BOOT_STAT_FB0 : Fld := ⟨0x074, 4, 1⟩
abbrev MEM_BOOT_STAT_RES0 : Fld := ⟨0x074, 0, 4⟩
abbrev MEM_ARB_LO : Fld := ⟨0x078, 0, 32⟩
abbrev MEM_ARB_HI : Fld := ⟨0x07C, 0, 32⟩
abbrev MEM_ARB_NEW_LO : Fld := ⟨0x080, 0, 32⟩
abbrev MEM_ARB_NEW_HI : Fld := ⟨0x084, 0, 32⟩
abbrev MEM_ARB_STAT_RESULT : Fld := ⟨0x088, 6, 2⟩
abbrev MEM_ARB_STAT_USED : Fld := ⟨0x088, 0, 6⟩
abbrev MEM_OTP_ADDR : Fld := ⟨0x08C, 0, 11⟩
abbrev MEM_OTP_DATA : Fld := ⟨0x090, 0, 32⟩
abbrev MEM_OTP_STAT_RESULT : Fld := ⟨0x094, 0, 2⟩
abbrev MEM_ATT_NONCE : Fld := ⟨0x0A0, 0, 32⟩
abbrev MEM_ATT_CTRL_REQ : Fld := ⟨0x0C0, 0, 1⟩
abbrev MEM_DBG_STAT_FAILS : Fld := ⟨0x0C4, 4, 4⟩
abbrev MEM_DBG_STAT_SCOPE : Fld := ⟨0x0C4, 0, 2⟩
abbrev MEM_ATT_RPT : Fld := ⟨0x200, 0, 32⟩
abbrev MEM_DBG_CHAL : Fld := ⟨0x400, 0, 32⟩
abbrev MEM_DBG_SCOPE : Fld := ⟨0x420, 0, 32⟩
abbrev MEM_DBG_SIG : Fld := ⟨0x440, 0, 32⟩
abbrev MEM_DBG_KEY : Fld := ⟨0x480, 0, 32⟩
abbrev MEM_DBG_SUBMIT : Fld := ⟨0x4A0, 0, 32⟩
abbrev MEM_XSPI_BUF : Fld := ⟨0x500, 0, 32⟩
/-- Rows of the register table (R533), part 1. -/
def tbl0 : List RF := [
  { f := STAT_LIFECYCLE, acc := .ro, rst := 0 },
  { f := STAT_DBG_OPEN, acc := .ro, rst := 0 },
  { f := STAT_ATT_BUSY, acc := .ro, rst := 0 },
  { f := STAT_XSPI_BUSY, acc := .ro, rst := 0 },
  { f := STAT_DDR_READY, acc := .ro, rst := 0 },
  { f := MEM_ECC_CFG_SCRUB_DIV, acc := .rwl, rst := 0x400 },
  { f := MRAM_CE, acc := .w1cCnt, rst := 0 },
  { f := SRAM_CE, acc := .w1cCnt, rst := 0 },
  { f := MRAM_UE, acc := .w1cCnt, rst := 0 },
  { f := SRAM_UE, acc := .w1cCnt, rst := 0 },
  { f := MEM_UE_ADDR, acc := .ro, rst := 0 },
  { f := DDR_UE, acc := .w1cCnt, rst := 0 },
  { f := DDR_CE, acc := .w1cCnt, rst := 0 },
  { f := MEM_DDR_CFG_INIT, acc := .w1s, rst := 0 },
  { f := MEM_DDR_CFG_DENSITY, acc := .rwl, rst := 0 },
  { f := MEM_DDR_CFG_RANKS, acc := .rwl, rst := 0x1 },
  { f := MEM_DDR_CFG_ECC, acc := .rwl, rst := 0 },
  { f := MEM_DDR_STAT_SREF, acc := .ro, rst := 0 },
  { f := MEM_DDR_STAT_TRAIN_FAIL, acc := .ro, rst := 0 },
  { f := MEM_DDR_SIZE, acc := .ro, rst := 0 },
  { f := MEM_XSPI_CFG_CLK_DIV, acc := .rwl, rst := 0 },
  { f := MEM_XSPI_CFG_OCTAL, acc := .rwl, rst := 0 },
  { f := MEM_XSPI_CMD_LEN, acc := .rw, rst := 0 },
  { f := MEM_XSPI_CMD_OP, acc := .rw, rst := 0 }]
/-- Rows of the register table (R533), part 2. -/
def tbl1 : List RF := [
  { f := MEM_XSPI_ADDR, acc := .rw, rst := 0 },
  { f := XSPI_ERR, acc := .w1cCnt, rst := 0 },
  { f := MEM_BOOT_SEL, acc := .rw, rst := 0 },
  { f := MEM_BOOT_STAT_FB1, acc := .ro, rst := 0 },
  { f := MEM_BOOT_STAT_RES1, acc := .ro, rst := 0 },
  { f := MEM_BOOT_STAT_FB0, acc := .ro, rst := 0 },
  { f := MEM_BOOT_STAT_RES0, acc := .ro, rst := 0 },
  { f := MEM_ARB_LO, acc := .ro, rst := 0 },
  { f := MEM_ARB_HI, acc := .ro, rst := 0 },
  { f := MEM_ARB_NEW_LO, acc := .wo, rst := 0 },
  { f := MEM_ARB_NEW_HI, acc := .wo, rst := 0 },
  { f := MEM_ARB_STAT_RESULT, acc := .ro, rst := 0 },
  { f := MEM_ARB_STAT_USED, acc := .ro, rst := 0 },
  { f := MEM_OTP_ADDR, acc := .rwl, rst := 0 },
  { f := MEM_OTP_DATA, acc := .wo, rst := 0 },
  { f := MEM_OTP_STAT_RESULT, acc := .ro, rst := 0 },
  { f := MEM_ATT_NONCE, acc := .rw, rst := 0, cnt := 8, stride := 0x4 },
  { f := MEM_ATT_CTRL_REQ, acc := .w1s, rst := 0 },
  { f := MEM_DBG_STAT_FAILS, acc := .ro, rst := 0 },
  { f := MEM_DBG_STAT_SCOPE, acc := .ro, rst := 0 },
  { f := MEM_ATT_RPT, acc := .ro, rst := 0, cnt := 80, stride := 0x4 },
  { f := MEM_DBG_CHAL, acc := .ro, rst := 0, cnt := 8, stride := 0x4 },
  { f := MEM_DBG_SCOPE, acc := .wo, rst := 0 },
  { f := MEM_DBG_SIG, acc := .wo, rst := 0, cnt := 16, stride := 0x4 }]
/-- Rows of the register table (R533), part 3. -/
def tbl2 : List RF := [
  { f := MEM_DBG_KEY, acc := .wo, rst := 0, cnt := 8, stride := 0x4 },
  { f := MEM_DBG_SUBMIT, acc := .wo, rst := 0 },
  { f := MEM_XSPI_BUF, acc := .rw, rst := 0, cnt := 64, stride := 0x4 }]
/-- All rows of the register table (R533). -/
def tbl : List RF := tbl0 ++ tbl1 ++ tbl2
/-- The rows whose reset value is not 0. -/
def rst : List RF := [{ f := MEM_ECC_CFG_SCRUB_DIV, acc := .rwl, rst := 0x400, cnt := 1, stride := 0x4 }, { f := MEM_DDR_CFG_RANKS, acc := .rwl, rst := 0x1, cnt := 1, stride := 0x4 }]
end R.MemC

/-! Bni: R546. -/
namespace R.Bni
abbrev STAT_FAULT : Fld := ⟨0x00C, 2, 1⟩
abbrev STAT_SPEED_ERR : Fld := ⟨0x00C, 1, 1⟩
abbrev STAT_LINK : Fld := ⟨0x00C, 0, 1⟩
abbrev BNI_CFG_MCAST : Fld := ⟨0x040, 2, 1⟩
abbrev BNI_CFG_PAUSE_EN : Fld := ⟨0x040, 1, 1⟩
abbrev BNI_MAC_LO : Fld := ⟨0x044, 0, 32⟩
abbrev BNI_MAC_HI : Fld := ⟨0x048, 0, 16⟩
abbrev BNI_LAT_TX_LAT : Fld := ⟨0x04C, 16, 16⟩
abbrev BNI_LAT_RX_LAT : Fld := ⟨0x04C, 0, 16⟩
abbrev BNI_TX_OK_CNT : Fld := ⟨0x050, 0, 32⟩
abbrev BNI_RX_OK_CNT : Fld := ⟨0x054, 0, 32⟩
abbrev RX_NODESC : Fld := ⟨0x058, 16, 16⟩
abbrev RX_LIMITED : Fld := ⟨0x058, 0, 16⟩
abbrev CRC_ERR : Fld := ⟨0x05C, 16, 16⟩
abbrev LONG : Fld := ⟨0x05C, 0, 16⟩
abbrev BNI_DMA_HI_UPPER : Fld := ⟨0x060, 0, 2⟩
abbrev DMA_ERR : Fld := ⟨0x064, 16, 16⟩
abbrev SHAPE_RATE : Fld := ⟨0x080, 16, 16⟩
abbrev SHAPE_BURST : Fld := ⟨0x080, 8, 8⟩
abbrev SHAPE_RX_LIMIT : Fld := ⟨0x080, 0, 8⟩
abbrev RING_BASE : Fld := ⟨0x100, 0, 32⟩
abbrev RING_SIZE : Fld := ⟨0x104, 0, 11⟩
abbrev RING_HEAD : Fld := ⟨0x108, 0, 10⟩
abbrev RING_TAIL : Fld := ⟨0x10C, 0, 10⟩
/-- Rows of the register table (R546), part 1. -/
def tbl0 : List RF := [
  { f := STAT_FAULT, acc := .w1cFlag, rst := 0 },
  { f := STAT_SPEED_ERR, acc := .ro, rst := 0 },
  { f := STAT_LINK, acc := .ro, rst := 0 },
  { f := BNI_CFG_MCAST, acc := .rwl, rst := 0 },
  { f := BNI_CFG_PAUSE_EN, acc := .rwl, rst := 0 },
  { f := BNI_MAC_LO, acc := .rwl, rst := 0 },
  { f := BNI_MAC_HI, acc := .rwl, rst := 0 },
  { f := BNI_LAT_TX_LAT, acc := .rwl, rst := 0 },
  { f := BNI_LAT_RX_LAT, acc := .rwl, rst := 0 },
  { f := BNI_TX_OK_CNT, acc := .w1cCnt, rst := 0 },
  { f := BNI_RX_OK_CNT, acc := .w1cCnt, rst := 0 },
  { f := RX_NODESC, acc := .w1cCnt, rst := 0 },
  { f := RX_LIMITED, acc := .w1cCnt, rst := 0 },
  { f := CRC_ERR, acc := .w1cCnt, rst := 0 },
  { f := LONG, acc := .w1cCnt, rst := 0 },
  { f := BNI_DMA_HI_UPPER, acc := .rwl, rst := 0 },
  { f := DMA_ERR, acc := .w1cCnt, rst := 0 },
  { f := SHAPE_RATE, acc := .rwl, rst := 0, cnt := 4, stride := 0x4 },
  { f := SHAPE_BURST, acc := .rwl, rst := 0x10, cnt := 4, stride := 0x4 },
  { f := SHAPE_RX_LIMIT, acc := .rwl, rst := 0, cnt := 4, stride := 0x4 },
  { f := RING_BASE, acc := .rwl, rst := 0, cnt := 8, stride := 0x10 },
  { f := RING_SIZE, acc := .rwl, rst := 0x10, cnt := 8, stride := 0x10 },
  { f := RING_HEAD, acc := .ro, rst := 0, cnt := 8, stride := 0x10 },
  { f := RING_TAIL, acc := .rw, rst := 0, cnt := 8, stride := 0x10 }]
/-- All rows of the register table (R546). -/
def tbl : List RF := tbl0
/-- The rows whose reset value is not 0. -/
def rst : List RF := [{ f := SHAPE_BURST, acc := .rwl, rst := 0x10, cnt := 4, stride := 0x4 }, { f := RING_SIZE, acc := .rwl, rst := 0x10, cnt := 8, stride := 0x10 }]
end R.Bni

end Sys2Proof
end

