-- ==== Sys2Proof/Machine/PageMap.lean ====
section
/-! DEFINITION. Pages and block tables of the peripheral space (R65 to R69): which page or table an address lies
in, that page's register table, and the reset value of every word. -/

namespace Sys2Proof

/-- Address of the slot of block `b` (R65), which is also its common page (R67). -/
abbrev blk (b : Nat) : Nat := 0x40000000 + b * 0x100000

/-- Address of channel page `n` of block `b` (R67). -/
abbrev chPage (b n : Nat) : Nat := blk b + 0x1000 + n * 0x1000

/-- Address of group page `g` of block `b` (R67). -/
abbrev grpPage (b g : Nat) : Nat := blk b + 0xC0000 + g * 0x1000

/-- Address of the broadcast page of block `b` (R67). -/
abbrev bcastPage (b : Nat) : Nat := blk b + 0xFF000

/-! The pages by name. A unit number is taken modulo the number of units, so that each name always denotes a page of
its block. -/

abbrev pcrC : Nat := blk 0x00
abbrev pcrP (n : Nat) : Nat := chPage 0x00 (n % 10)
abbrev tbsC : Nat := blk 0x01
abbrev tbsP (n : Nat) : Nat := chPage 0x01 (n % 4)
abbrev rdmC : Nat := blk 0x02
abbrev rdmP (n : Nat) : Nat := chPage 0x02 (n % 2)
abbrev ikwC : Nat := blk 0x03
abbrev memC : Nat := blk 0x04
abbrev sioC : Nat := blk 0x05
abbrev sibP (n : Nat) : Nat := chPage 0x05 (n % 8)
abbrev sogP (g : Nat) : Nat := chPage 0x05 (8 + g % 6)
abbrev slpC : Nat := blk 0x06
abbrev sagC : Nat := blk 0x07
abbrev sagP (n : Nat) : Nat := chPage 0x07 (n % 2)
abbrev mpgC : Nat := blk 0x08
abbrev mpgP (n : Nat) : Nat := chPage 0x08 (n % 2)
abbrev sepC : Nat := blk 0x09
abbrev dmcC : Nat := blk 0x0A
abbrev dmcP (n : Nat) : Nat := chPage 0x0A (n % 8)
abbrev pfiC : Nat := blk 0x0B
abbrev fbP (n : Nat) : Nat := chPage 0x0B (n % 8)
abbrev poP (n : Nat) : Nat := chPage 0x0B (8 + n % 2)
abbrev dlkP (n : Nat) : Nat := chPage 0x0C (n % 2)
abbrev sbcC : Nat := blk 0x0D
abbrev sbcP (n : Nat) : Nat := chPage 0x0D (n % 8)
abbrev cveC : Nat := blk 0x0E
abbrev ctxP (n : Nat) : Nat := chPage 0x0E (n % 160)
abbrev clgC : Nat := blk 0x0F
abbrev bniP (n : Nat) : Nat := chPage 0x10 (n % 2)
abbrev apxC : Nat := blk 0x11
abbrev apxP (n : Nat) : Nat := chPage 0x11 (n % 2)
/-- The submission window of pair `p` (R433). -/
abbrev winP (p : Nat) : Nat := blk 0x11 + 0x10000 + p % 2 * 0x1000
/-- Entry `n` of the landing table (R41). -/
abbrev ldgP (n : Nat) : Nat := blk 0x08 + 0x80000 + n % 256 * 0x20
/-- Fault-window filter `f` (R85). -/
abbrev fwP (f : Nat) : Nat := blk 0x02 + 0x80000 + f % 256 * 0x10
/-- Inkwell entry of code `c` (R481). -/
abbrev ikwCodeP (c : Nat) : Nat := blk 0x03 + 0x10000 + c % 1024 * 4
/-- Inkwell suppression state of code `c` (R482). -/
abbrev ikwSupP (c : Nat) : Nat := blk 0x03 + 0x20000 + c % 1024 * 0x20

/-- Channel pages of each block (R66). -/
def nchan (b : Nat) : Nat :=
  match b with
  | 0x00 => 10 | 0x01 => 4 | 0x02 => 2 | 0x05 => 14 | 0x07 => 2 | 0x08 => 2 | 0x0A => 8 | 0x0B => 10
  | 0x0C => 2 | 0x0D => 8 | 0x0E => 160 | 0x10 => 2 | 0x11 => 2 | _ => 0

/-- Channel pages present: on the LH6161 some are fused off (R1, R3, R69). -/
def nchanPresent (lh6161 : Bool) (b : Nat) : Nat :=
  if lh6161 then
    match b with
    | 0x08 => 1 | 0x0A => 4 | 0x0E => 80 | _ => nchan b
  else nchan b

/-- The kinds of page and block table. -/
inductive Kind where
  | common (b : Nat) | channel (b n : Nat) | group (b g : Nat) | bcast (b : Nat)
  | ldg | fw | ikwCode | ikwSup | win (p : Nat) | otp
deriving DecidableEq, Repr

/-- Where an address lies: its page or table, the address of that page or table, the offset in it, and the page
whose `LOCK` and `FAULT_CNT` govern it (R67). -/
structure Loc where
  kind : Kind
  base : Nat
  rel : Nat
  lock : Nat
deriving DecidableEq, Repr

/-- The page or table an address of the peripheral space lies in; none: unoccupied (R64, R65, R67, R68). -/
def locate (a : Nat) : Option Loc :=
  if a < 0x40000000 || 0x41200000 ≤ a then none else
  let b := (a - 0x40000000) / 0x100000
  let o := (a - 0x40000000) % 0x100000
  let r := o % 0x1000
  if o < 0x1000 then some ⟨.common b, blk b, o, blk b⟩
  else if o < 0x1000 + nchan b * 0x1000 then
    some ⟨.channel b (o / 0x1000 - 1), a - r, r, a - r⟩
  else if 0xC0000 ≤ o && o < 0xC4000 && 0 < nchan b then
    some ⟨.group b (o / 0x1000 - 0xC0), a - r, r, a - r⟩
  else if 0xFF000 ≤ o && 0 < nchan b then some ⟨.bcast b, a - r, r, a - r⟩
  else if b = 0x08 && 0x80000 ≤ o && o < 0x82000 then some ⟨.ldg, blk 8 + 0x80000, o - 0x80000, blk 8⟩
  else if b = 0x02 && 0x80000 ≤ o && o < 0x81000 then some ⟨.fw, blk 2 + 0x80000, o - 0x80000, blk 2⟩
  else if b = 0x03 && 0x10000 ≤ o && o < 0x11000 then some ⟨.ikwCode, blk 3 + 0x10000, o - 0x10000, blk 3⟩
  else if b = 0x03 && 0x20000 ≤ o && o < 0x28000 then some ⟨.ikwSup, blk 3 + 0x20000, o - 0x20000, blk 3⟩
  else if b = 0x11 && 0x10000 ≤ o && o < 0x12000 then
    some ⟨.win (o / 0x1000 - 0x10), a - r, r, blk 0x11⟩
  else if b = 0x04 && 0x80000 ≤ o && o < 0x80800 then some ⟨.otp, blk 4 + 0x80000, o - 0x80000, blk 4⟩
  else none

/-- The block-specific register table of a page or block table. -/
def Kind.tbl : Kind → List RF
  | .common 0x00 => R.PcrC.tbl | .common 0x01 => R.TbsC.tbl | .common 0x02 => R.RdmC.tbl
  | .common 0x03 => R.IkwC.tbl | .common 0x04 => R.MemC.tbl | .common 0x05 => R.SioC.tbl
  | .common 0x06 => R.SlpC.tbl | .common 0x07 => R.SagC.tbl | .common 0x08 => R.MpgC.tbl
  | .common 0x09 => R.SepC.tbl | .common 0x0A => R.DmcC.tbl | .common 0x0B => R.PfiC.tbl
  | .common 0x0D => R.SbcC.tbl | .common 0x0E => R.CveC.tbl | .common 0x0F => R.ClgC.tbl
  | .common 0x11 => R.ApxC.tbl | .common _ => []
  | .channel 0x00 _ => R.Pcr.tbl | .channel 0x01 _ => R.TbsN.tbl | .channel 0x02 _ => R.Rdm.tbl
  | .channel 0x05 n => if n < 8 then R.Sib.tbl else R.Sog.tbl
  | .channel 0x07 _ => R.Sag.tbl | .channel 0x08 _ => R.Mpg.tbl | .channel 0x0A _ => R.Dmc.tbl
  | .channel 0x0B n => if n < 8 then R.Fb.tbl else R.Po.tbl
  | .channel 0x0C _ => R.Dlk.tbl | .channel 0x0D _ => R.Sbc.tbl | .channel 0x0E _ => R.Ctx.tbl
  | .channel 0x10 _ => R.Bni.tbl | .channel 0x11 _ => R.Apx.tbl | .channel _ _ => []
  | .group _ _ => [] | .bcast _ => []
  | .ldg => R.Ldg.tbl | .fw => R.Fw.tbl | .ikwCode => R.IkwCode.tbl | .ikwSup => R.IkwSup.tbl
  | .win _ => R.Win.tbl | .otp => []

/-- The rows of that table whose reset value is not 0. -/
def Kind.rst : Kind → List RF
  | .common 0x00 => R.PcrC.rst | .common 0x01 => R.TbsC.rst | .common 0x02 => R.RdmC.rst
  | .common 0x03 => R.IkwC.rst | .common 0x04 => R.MemC.rst | .common 0x05 => R.SioC.rst
  | .common 0x06 => R.SlpC.rst | .common 0x07 => R.SagC.rst | .common 0x08 => R.MpgC.rst
  | .common 0x09 => R.SepC.rst | .common 0x0A => R.DmcC.rst | .common 0x0B => R.PfiC.rst
  | .common 0x0D => R.SbcC.rst | .common 0x0E => R.CveC.rst | .common 0x0F => R.ClgC.rst
  | .common 0x11 => R.ApxC.rst | .common _ => []
  | .channel 0x00 _ => R.Pcr.rst | .channel 0x01 _ => R.TbsN.rst | .channel 0x02 _ => R.Rdm.rst
  | .channel 0x05 n => if n < 8 then R.Sib.rst else R.Sog.rst
  | .channel 0x07 _ => R.Sag.rst | .channel 0x08 _ => R.Mpg.rst | .channel 0x0A _ => R.Dmc.rst
  | .channel 0x0B n => if n < 8 then R.Fb.rst else R.Po.rst
  | .channel 0x0C _ => R.Dlk.rst | .channel 0x0D _ => R.Sbc.rst | .channel 0x0E _ => R.Ctx.rst
  | .channel 0x10 _ => R.Bni.rst | .channel 0x11 _ => R.Apx.rst | .channel _ _ => []
  | .group _ _ => [] | .bcast _ => []
  | .ldg => R.Ldg.rst | .fw => R.Fw.rst | .ikwCode => R.IkwCode.rst | .ikwSup => R.IkwSup.rst
  | .win _ => R.Win.rst | .otp => []

/-- Header fields common to every page (R69); `IRQ_STAT`, `IRQ_FORCE`, `LOCK` have rules of their own (R73, R78). -/
def hdrTbl (channel : Bool) : List RF :=
  [{ f := R.Hdr.CTRL_EN, acc := .rw, rst := 0 }, { f := R.Hdr.IRQ_EN, acc := .rw, rst := 0 },
   { f := R.Hdr.FAULT_CNT, acc := .w1cCnt, rst := 0 }] ++
  if channel then [{ f := R.Hdr.GRPMASK, acc := .rwl, rst := 0 }] else []

/-- Severity of the hardware event codes (R464); every other code below 0x240 is reserved and reads 0, and a
firmware code (0x240 to 0x3FF) resets to 1 (R481). `SUPPRESSED` (0x060) takes that of the code summarised. -/
def codeSev (c : Nat) : Nat :=
  if 0x240 ≤ c then 1 else
  match c with
  | 0x000 => 1 | 0x001 => 1 | 0x002 => 3 | 0x003 => 3 | 0x004 => 1 | 0x005 => 3 | 0x006 => 3
  | 0x020 => 2 | 0x021 => 1 | 0x022 => 3
  | 0x040 => 1 | 0x041 => 2 | 0x042 => 3 | 0x043 => 1 | 0x044 => 1 | 0x045 => 3
  | 0x0A0 => 3 | 0x0A1 => 3 | 0x0E0 => 2 | 0x0E1 => 1 | 0x0E2 => 3
  | 0x100 => 1 | 0x101 => 0 | 0x120 => 2 | 0x140 => 1 | 0x141 => 2 | 0x180 => 3
  | 0x1C0 => 2 | 0x1C1 => 2 | 0x1C2 => 2 | 0x1E0 => 2 | 0x1E1 => 1 | 0x220 => 2
  | _ => 0

/-- `ID` of a page (R69). -/
def idWord (k : Kind) : Nat :=
  match k with
  | .common b => b * 0x1000000 + 0x01
  | .channel b n => b * 0x1000000 + n * 0x10000 + 0x4000 + 0x01
  | .group b g => b * 0x1000000 + g * 0x10000 + 0x8000 + 0x01
  | .bcast b => b * 0x1000000 + 0xC000 + 0x01
  | _ => 0

/-- Whether an address kind has the page header of R69. -/
def Kind.isPage : Kind → Bool
  | .common _ => true | .channel _ _ => true | .group _ _ => true | .bcast _ => true | _ => false

/-- The sum of the reset values of the rows that cover a word. -/
def rstWord (rows : List RF) (rel : Nat) : Nat :=
  rows.foldl (fun acc r => if r.covers rel then acc + r.rst * 2 ^ r.f.lo else acc) 0

/-- Reset value of `CTRL` of a PCR channel page (R512): `EN` is 1 for PD_AON, PD_SAGE, PD_SLP, PD_FAB, PD_APX0 and
PD_APX1. -/
def pcrEnReset (n : Nat) : Nat := if n ≤ 5 then 1 else 0

/-- The reset value of the register word at address `a` (R69 and the register tables; R464 for `SEV`). -/
def resetOf (a : Nat) : Word :=
  match locate a with
  | none => 0#32
  | some l =>
    match l.kind, l.rel with
    | .channel 0x00 n, 0x008 => BitVec.ofNat 32 (pcrEnReset n)
    | .ikwCode, rel => BitVec.ofNat 32 (rstWord R.IkwCode.rst rel + codeSev (rel / 4) * 2 ^ 26)
    | k, rel => BitVec.ofNat 32 (rstWord k.rst rel)

/-- Power domain of the register pages of each block (R48; the pair pages of APX, which its table does not name, are served
from PD_FAB beside the common page: DESIGN CHOICE, log entry 164): 0 PD_AON, 1 PD_SAGE, 2 PD_SLP, 5 PD_FAB, 6 PD_MOT,
7 PD_NET, 8 PD_BNI (numbers as in R59). -/
def blkDomain (b : Nat) : Nat :=
  match b with
  | 0x02 => 5 | 0x04 => 5 | 0x05 => 2 | 0x06 => 2 | 0x07 => 1 | 0x08 => 6 | 0x09 => 6 | 0x0A => 6 | 0x0C => 6
  | 0x0D => 7 | 0x0E => 7 | 0x0F => 7 | 0x10 => 8 | 0x11 => 5 | _ => 0

/-- The block of a location. -/
def Loc.block (l : Loc) : Nat := (l.lock - 0x40000000) / 0x100000

end Sys2Proof
end

