-- ==== Sys2Proof/Machine/State.lean ====
section
/-! DEFINITION. The state of the LH6160 as plain data: the register file, the memories, the state the manual gives
each block beside its registers, the reply to the last access, and the queue of waiting commands. -/

namespace Sys2Proof.Machine

/-- Why a command stops: no command of the LH6160 stops the machine with a fault (every fault of the manual is a
state, an error reply or a counted discard), so the type has one constructor that no meaning raises; safe. -/
inductive Fault where
  /-- Raised by nobody; safe. -/
  | unreachable
deriving DecidableEq, Repr

/-- Why a command is refused. -/
inductive Refusal where
  /-- A command that has no meaning yet; raised by the dispatch only; safe. -/
  | notModelled (mnemonic : String)
deriving DecidableEq, Repr

/-- The reply to the last interconnect access (model's own view of R49, R50, R60, R64). -/
inductive Bus where
  /-- No access yet. -/
  | idle
  /-- Completed without error; a read returns `data` (little-endian number). -/
  | done (data : Nat)
  /-- Completed with a bus error. -/
  | error
  /-- Not completed: held (R230, R231, R437, R438). -/
  | held
deriving DecidableEq, Repr

/-- Power state of the device (R492 to R499, R503, R506). -/
inductive Power where
  /-- `VIN_MAIN` absent: power-on reset in force. -/
  | off
  /-- `VIN_MAIN` present, the regulator never became ready (R499). -/
  | stuck
  /-- nRESET held low (R503). -/
  | held
  | run
  /-- A wake event has started the readiness steps again after a start that failed (R499). -/
  | starting
  /-- `OK` answered; waiting for the cores (R492). -/
  | toStandby | toHibernate
  | standby | hibernate
  /-- The wake sequence runs (R497, R498). -/
  | wakeStandby | wakeHibernate
deriving DecidableEq, Repr

/-- TBS beside its registers (R88 to R111). Times are in ns. -/
structure Tbs where
  /-- 96-bit accumulator: ns in the upper 64 bits, `FRAC` in the lower 32 (R90). -/
  acc : Nat := 0
  /-- Real time since the arrival of `VIN_MAIN`, in ns (the model's own clock for deadlines; log entry 3). -/
  el : Nat := 0
  /-- Remaining slew in 2⁻³² ns (R111). -/
  slew : Int := 0
  /-- Committed offsets not yet acted on, oldest first (R91). -/
  ofs : List Int := []
  /-- Steps taken, newest first: the values on the tick before and on the tick of the step (R91, R93). -/
  steps : List (Nat × Nat) := []
  /-- `CK_TB` does not run (before start-up, in HIBERNATE). -/
  stopped : Bool := true
  /-- HIBERNATE capture (R106): in force, `T0` and `A0`. -/
  hib : Bool := false
  t0 : Nat := 0
  a0 : Nat := 0
deriving DecidableEq, Repr

/-- The exchange of one network's `SYNC` (R97 to R101): one leg's copy. -/
inductive SyncLeg where
  | none | queued | started | done (stamp : Nat) | lost
deriving DecidableEq, Repr

/-- TBS network Nn beside its registers. -/
structure TbsNet where
  legA : SyncLeg := .none
  legB : SyncLeg := .none
  launch : Nat := 0
  deadline : Nat := 0
  /-- A `FOLLOW_UP` is owed for the `SYNC` sent. -/
  owed : Bool := false
  /-- Steps taken since the last `FOLLOW_UP` on this network (R101). -/
  stepped : Bool := false
  /-- Next multiple of 10 ms not yet served (R97). -/
  nextMul : Nat := 0
deriving DecidableEq, Repr

/-- An Inkwell record in the staging FIFO (R462). -/
structure IkwRec where
  stamp : Nat
  code : Nat
  sev : Nat
  src : Nat
  sseq : Nat
  flags : Nat
  pcycle : Nat
  optime : Nat
  data : List Word
deriving DecidableEq, Repr

/-- IKW beside its registers (R465 to R478). -/
structure Ikw where
  fifo : List IkwRec := []
  /-- `SSEQ` of each source (R466). -/
  sseq : List (Nat × Nat) := []
  /-- Stamp from which each code's `REFILL` counts (R467). -/
  refill : List (Nat × Nat) := []
  scanned : Bool := false
  scanEnd : Nat := 0
  /-- MRAM pages queued for the archive, oldest first (R474). -/
  arcq : List Nat := []
  /-- Lines sent on `SVC` by IKW READ (R478), oldest first. -/
  svc : List String := []
deriving DecidableEq, Repr

/-- A fault-window occurrence held while PD_FAB is retained (R87). -/
structure FwHeld where
  filter : Nat
  stamp : Nat
deriving DecidableEq, Repr

/-- A forwarded number's record (R435). -/
structure NibRec where
  seq : Nat
  crc : Word
  fwdPair : Nat
  sent0 : Bool
  sent1 : Bool
deriving DecidableEq, Repr

/-- A Nib stream (R435). -/
structure NibStream where
  next : Nat := 0
  p0 : Nat := 0
  p1 : Nat := 0
  /-- The last 256 numbers forwarded, newest first. -/
  recs : List NibRec := []
deriving DecidableEq, Repr

/-- A copy of a command in Nib: queued for forwarding (R438) or held (R437, R438). -/
structure NibCmd where
  stream : Nat
  seq : Nat
  pair : Nat
  words : List Word
  stamp : Nat
  /-- Start of a lead hold in real time (R437). -/
  since : Nat
  /-- The `COUNT` of a `RELEASE` was good when it landed (R416). -/
  relOk : Bool := true
deriving DecidableEq, Repr

/-- An APX pair beside its registers (R430, R440, R449, R528). -/
structure Pair where
  /-- Real time at which BOOT was entered. -/
  bootAt : Nat := 0
  lastKick : Nat := 0
  lastReport : Nat := 0
  /-- `REPORT_NO` of the last accepted report. -/
  reportNo : Option Nat := none
  /-- Automatic restarts since the last accepted report (R442). -/
  restarts : Nat := 0
  /-- Slot last booted (0 A, 1 B), and the slot to boot. -/
  slot : Nat := 0
  bootSlot : Nat := 0
  /-- The boot ROM still runs; it has already failed once on the other slot. -/
  booting : Bool := false
  retried : Bool := false
  /-- `VERSION` booted and the SHA-512 of the image (16 words); empty if never booted. -/
  version : Nat := 0
  hash : List Word := []
  /-- Cores in wait-for-interrupt (R491). -/
  wfi0 : Bool := false
  wfi1 : Bool := false
  /-- The held commit of this pair (R437, R438). -/
  held : Option NibCmd := none
deriving DecidableEq, Repr

/-- RDM and Nib beside their registers. -/
structure Rdm where
  /-- Ticks of the occurrences within each filter's window, newest first (R83). -/
  occ : List (Nat × List Nat) := []
  /-- Window in force of each filter in ms: `W` as the last occurrence found it (R86). -/
  win : List (Nat × Nat) := []
  /-- Occurrences held in PD_AON while PD_FAB sleeps (R87). -/
  held : List FwHeld := []
  streams : List (Nat × NibStream) := []
  /-- Forward queues of the target blocks 0 MPG, 1 DMC, 2 CLG, 3 CVE (R438). -/
  queues : List (Nat × List NibCmd) := []
  /-- Pages of each Quill window still to copy (R444). -/
  left : List (Nat × Nat) := []
  /-- An `ADMIT` waits for its conditions (R445). -/
  admitting : Bool := false
  /-- Real time of the failure after which no pair was live (R442). -/
  noPairAt : Option Nat := none
  /-- Test slots opened so far; next window of test 2; next march block of test 0 (R450). -/
  slots : Nat := 0
  nextSlot : Nat := 0
  nextWin : Nat := 0
  nextMarch : Nat := 0
deriving DecidableEq, Repr

/-- PCR beside its registers (R484 to R509). -/
structure Pcr where
  power : Power := .off
  /-- Deadline for the cores (R492). -/
  coresBy : Nat := 0
  /-- A wake event latched while the cores are awaited (R492, R509): its `PCR_WAKE_SRC` bits. -/
  wakePend : Nat := 0
  /-- Failed attempts at the present readiness step, which step it is (0 regulator, 1 oscillator), and the real time at
  which the running attempt began (R499). -/
  attempt : Nat := 0
  wakeStep : Nat := 0
  attemptAt : Nat := 0
  /-- Real time of the entry into the sleep state. -/
  sleepAt : Nat := 0
  /-- The hibernate save area (R495): the words on the save list. -/
  save : List (Nat × Word) := []
  saved : Bool := false
  /-- `DVS_REQ` before the running change; the change raises the voltage (R490). -/
  dvsPrev : Nat := 4
  oppRaise : Bool := false
  /-- PFI raw counts at sleep entry (R496). -/
  pfiAt : List (Nat × Int) := []
  /-- Life counters (R507): power cycles; operating time at `lifeAt`; real time of the last checkpoint; newest slot. -/
  pcycle : Nat := 0
  optimeBase : Nat := 0
  lifeAt : Nat := 0
  lastCkpt : Nat := 0
  lifeSlot : Nat := 0
  /-- `nRESET`: real time of its last change; it is ignored until high for 100 ms; it is high meanwhile (R503, R504). -/
  resetAt : Nat := 0
  resetIgnored : Bool := false
  resetHigh : Bool := true
deriving DecidableEq, Repr

/-- An xSPI command running or waiting (R521). -/
structure XspiCmd where
  op : Nat
  addr : Nat
  data : List Nat
deriving DecidableEq, Repr

/-- MEM beside its registers (R513 to R532). -/
structure Mem where
  /-- Words with a bad stored bit, by address (a multiple of 8): 1 correctable, 2 uncorrectable (R514). -/
  bad : List (Nat × Nat) := []
  /-- The word the scrubber reads next (R515). -/
  scrub : Nat := 0x10000000
  /-- Initialisation of the LPDDR4X runs; its deadline (R519). -/
  ddrInit : Bool := false
  ddrBy : Nat := 0
  /-- Next poll of MR4; the refresh derating read from it (R519). -/
  mr4At : Nat := 0
  ddrDerate : Nat := 0
  /-- The xSPI command running (R521). -/
  xspi : Option XspiCmd := none
  /-- The OTP request running: word offset and data (R523). -/
  otp : Option (Nat × Nat) := none
  /-- Nonce latched at `REQ` and the timebase then (R529). -/
  attNonce : List Word := []
  attAt : Nat := 0
  /-- A challenge has been drawn and not yet used; a submission awaits its result (R531). -/
  chalOpen : Bool := false
  dbgSub : Bool := false
  /-- What the submission answers and the scope it asks for; failures since the last lockout or success (R531). -/
  subOk : Bool := false
  subScope : Nat := 0
  failRun : Nat := 0
  dbgUnlocked : Bool := false
  /-- End of the 60 s in which challenges are refused (R531). -/
  dbgLockEnd : Option Nat := none
  /-- JTAG (R530): outputs forced to 0 by EXTEST or CLAMP; the instruction in force; what it shifts out. -/
  jtagForce : Bool := false
  jtagIr : Nat := 0
  jtagOut : Nat := 0
deriving DecidableEq, Repr

/-- An input behind its edge filter (R115, R116): the accepted level, the level of the last sample, and for how many
consecutive samples it has stood. -/
structure EdgeIn where
  lvl : Bool := false
  raw : Bool := false
  cnt : Nat := 0
deriving DecidableEq, Repr

/-- PFI channel FBn beside its registers (R115 to R132). Counts are on the extension, unbounded (R119). -/
structure Fb where
  raw : Int := 0
  hcnt : Int := 0
  hOrg : Int := 0
  posOrg : Int := 0
  /-- The edge filters of `A`, `B`, `Z`, `P0`, `P1`. -/
  fA : EdgeIn := {}
  fB : EdgeIn := {}
  fZ : EdgeIn := {}
  f0 : EdgeIn := {}
  f1 : EdgeIn := {}
  /-- Speed window: open, its start (real time) and the count then (R126, R127). -/
  winOpen : Bool := false
  winAt : Nat := 0
  winRaw : Int := 0
  /-- Serial: a good word has been taken since `EN`; the next good word is not checked against `MAXSTEP`. -/
  gotWord : Bool := false
  noCheck : Bool := false
  field : Nat := 0
  /-- Start of the last request, real time and stamp; the next one; a boundary request is due (R128). -/
  reqAt : Nat := 0
  reqStamp : Nat := 0
  reqNext : Nat := 0
  reqDue : Bool := false
  /-- The last word was good; request periods without a good word; start of the last good word's request (R129). -/
  lastGood : Bool := false
  missed : Nat := 0
  goodAt : Nat := 0
  /-- Previous index latch on the extension and its direction; `DIRH` reversed since (R130). -/
  idx : Option (Int × Bool) := none
  idxRev : Bool := false
  /-- The SPB assigns this channel to a Sage sensor (R140). -/
  sageTap : Bool := false
deriving DecidableEq, Repr

/-- Pulse output POk beside its registers (R141). -/
structure Po where
  acc : Int := 0
  /-- Phase of the output pair, 0 to 3, and the time of the last edge. -/
  phase : Nat := 0
  lastEdge : Nat := 0
deriving DecidableEq, Repr

/-- How the last motion of a generator ended, until the executor has seen it (R205, R207). -/
inductive GenEnd where
  | levelled | missed | stopped
deriving DecidableEq, Repr

/-- A stop that waits for the next boundary (R158, R159, R161): its cause, the ramp it carries, its `TAG`. -/
structure StopReq where
  cause : Nat
  vals : Option (Nat × Nat) := none
  tag : Nat := 0
  /-- Real time at which it arose. -/
  at_ : Nat := 0
deriving DecidableEq, Repr

/-- A profile generator beside its registers (R147 to R169). Positions, velocities and accelerations are in 2⁻²⁴ units
and segment times in 2⁻⁴⁰ s (R155); `v`, `a` and the segments run in the direction of motion. -/
structure Gen where
  /-- Real time of the car's latest boundary (R147). -/
  bndAt : Option Nat := none
  /-- Real time of the boundary at which the profile or stop in force began. -/
  startAt : Nat := 0
  org : Int := 0
  v0 : Int := 0
  a0 : Int := 0
  /-- Durations and jerks of the segments. -/
  segs : List (Nat × Int) := []
  /-- The setpoint of the last reference. -/
  pos : Int := 0
  v : Int := 0
  a : Int := 0
  /-- A move has been accepted and begins at the next boundary (R152); it is a re-level. -/
  start : Bool := false
  rlv : Bool := false
  /-- `TAG` of the move in force. -/
  tag : Nat := 0
  /-- Ramp in force or frozen: D and J. -/
  dec : Nat := 0
  jerk : Nat := 0
  /-- Landing of the move in force; the levelled landing kept (R156). -/
  dest : Option Nat := none
  kept : Option Nat := none
  /-- Stops waiting for the next boundary, oldest first. -/
  reqs : List StopReq := []
  /-- `TAG`s of `RELEVEL` commands to be decided at the next boundary (R157). -/
  relevel : List Nat := []
  /-- A cause 0x5 to 0x7 has been seen in this stop (R158); the terminal check is suspended (R167). -/
  halt : Bool := false
  noTerm : Bool := false
  /-- A replan is to be tested at the next boundary (R166). -/
  replan : Bool := false
  /-- Entry into SETTLING, and the first boundary of the present stay within `LVL_TOL`, in real time (R156). -/
  settleAt : Nat := 0
  okAt : Option Nat := none
  /-- The reference follows the source in use (R163). -/
  follow : Bool := false
  /-- A stop cause has arisen in READY in this clock (R162). -/
  caused : Bool := false
  ended : Option GenEnd := none
deriving DecidableEq, Repr

/-- A stop plan executor beside its registers (R202 to R208). -/
structure Exe where
  /-- Real time at which the entry started. -/
  startAt : Nat := 0
  /-- A request refused by SEP is asked again at the next boundary. -/
  again : Bool := false
  /-- A `CANCEL` is being carried out; it came too late to stop the move (R207). -/
  cancel : Bool := false
  late : Bool := false
  /-- The stop in force was ordered by the selected event. -/
  evStop : Bool := false
deriving DecidableEq, Repr

/-- MPG and SEP beside their registers. -/
structure Hoist where
  gen0 : Gen := {}
  gen1 : Gen := {}
  exe0 : Exe := {}
  exe1 : Exe := {}
  /-- Cars whose map check runs, in order (R34, R35). -/
  arming : List Nat := []
  /-- Real time from which `CK_MOT` counts hoist periods (R147). -/
  base : Nat := 0
  /-- A Sage snapshot has been posted since the last comparison of R197. -/
  snap : Bool := false
  /-- Feedback channels that have signalled lasting loss to MPG (R137, R166). -/
  lost : List Nat := []
deriving DecidableEq, Repr


/-- Drive link DRVn beside its registers (R177 to R185). -/
structure Dlk where
  /-- A down frame has been sent; its stamp and real time; the period is decided (good or missed); an up frame of the
  period has been taken. -/
  sent : Bool := false
  txStamp : Nat := 0
  txAt : Nat := 0
  decided : Bool := true
  got : Bool := false
  /-- Consecutive missed and good periods. -/
  misses : Nat := 0
  goods : Nat := 0
  /-- Entry into HELLO and into LOST, real time. -/
  helloAt : Nat := 0
  lostAt : Option Nat := none
  /-- The 32 bytes of the last down frame. -/
  frame : List Nat := []
deriving DecidableEq, Repr


/-- A command at the CLG port: W0 to W5, `INDEX`, `OP`, `TAG`, and its stream number (R224, R227). -/
structure ClgCmd where
  w0 : Nat
  w1 : Nat
  w2 : Nat
  w3 : Nat
  w4 : Nat
  w5 : Nat
  idx : Nat
  op : Nat
  tag : Nat
  seq : Nat
deriving DecidableEq, Repr

/-- A line image of the view buffer: the command that changed it, its offset, its eight words before (R231). -/
structure ClgImg where
  seq : Nat
  line : Nat
  words : List Nat
deriving DecidableEq, Repr

/-- CLG beside its registers (R217 to R231). -/
structure Clg where
  /-- Words of the ledger region by offset, where they differ from a ledger after initialisation. -/
  led : List (Nat × Nat) := []
  /-- The view buffer, oldest image first. -/
  images : List ClgImg := []
  /-- V of each pair; none: no command since `EN` (R230). -/
  v0 : Option Nat := none
  v1 : Option Nat := none
  /-- Commands held for want of images, or behind one that is (R227, R231). -/
  held : List ClgCmd := []
  /-- Reads of pairs held until their V is applied: pair, address, bytes; what each pair's last one returned (R230). -/
  reads : List (Nat × Nat × Nat) := []
  rets : List (Nat × Nat) := []
deriving DecidableEq, Repr


/-- A stretch of a door's profile (R246): its length in ns of real time, the speed it starts with in 2⁻¹⁶ µm/s, what the
speed gains a second in µm/s², its direction. -/
structure DSeg where
  ns : Nat := 0
  v : Nat := 0
  a : Int := 0
  up : Bool := false
deriving DecidableEq, Repr

/-- The chopper of a phase in FORCE (R241, R244): 0 on and blanked, 1 on, 2 in its off-time, 3 off after over-current; the
real time at which that began; driven in the negative direction. -/
structure Chop where
  ph : Nat := 0
  at_ : Nat := 0
  neg : Bool := false
deriving DecidableEq, Repr

/-- What a PWM period runs with, taken at the boundary that begins it (R239 to R245): its length in ns, FORCE, set points
in µA, blanking and off-time in ns, fast part of the off-time in ns, over-current limit and bridge supply in mA and mV,
`DEADTIME` in clocks, `ISENSE_GAIN`, `R_PH`, `L_PH`, `DIR_INV`. -/
structure DoorDrv where
  ns : Nat := 25000
  force : Bool := false
  iA : Int := 0
  iB : Int := 0
  blank : Nat := 0
  off : Nat := 0
  fast : Nat := 0
  oc : Nat := 0
  vbus : Nat := 0
  dead : Nat := 0
  gain : Nat := 0
  r : Nat := 0
  l : Nat := 0
  inv : Bool := false
deriving DecidableEq, Repr

/-- An end switch (R260): the level of its pin; the edge that began the stable interval of a new level, as real time and
`DMC_POS`. -/
structure EndSw where
  pin : Bool := false
  cand : Option (Nat × Int) := none
deriving DecidableEq, Repr

/-- A door channel beside its registers (R237 to R267). -/
structure Door where
  /-- Commanded position in 2⁻¹⁶ microstep and speed in 2⁻¹⁶ µm/s; the motion runs toward larger positions. -/
  pos : Int := 0
  v : Nat := 0
  up : Bool := false
  /-- Target of the move, cruise and creep speed of its profile in µm/s. -/
  target : Int := 0
  vc : Nat := 0
  vcreep : Nat := 0
  /-- The profile in force, none at rest: its stretches, the real time and the position it started at. -/
  segs : List DSeg := []
  startAt : Nat := 0
  org : Int := 0
  /-- Real time of the last 10 µs tick taken (R246). -/
  tickAt : Nat := 0
  /-- Real time at which the target was reached; start of `REV_GAP`. -/
  settleAt : Option Nat := none
  revAt : Nat := 0
  /-- `TAG` of the command in force, of a pending `CAL` and of the `CAL` that runs. -/
  tag : Nat := 0
  pendTag : Nat := 0
  calTag : Nat := 0
  /-- What STOPPING ends in: result code and state. -/
  endCode : Nat := 0x12
  endState : Nat := 3
  /-- Homing: step 2 or 3 of R261, 4 its ramp to rest after success, 5 after `HOME_MAX`; travel in 2⁻¹⁶ microstep, now and
  at the start of the profile. -/
  hstep : Nat := 0
  travel : Nat := 0
  travel0 : Nat := 0
  /-- CAL: state before it, real time of its start, whether a pending one started it and the motor was held then (R258);
  `I_RUN` has been reached (R264). -/
  calPrev : Nat := 1
  calAt : Nat := 0
  calPend : Bool := false
  calHeld : Bool := false
  calRun : Bool := false
  /-- The motor is to be energised; it is energised (R238, R242). -/
  held : Bool := false
  energised : Bool := false
  /-- On-times of the gates A1H, A1L, A2H, A2L, B1H, B1L, B2H, B2L in the PWM period that ended last, in `CK_MOT` clocks. -/
  gates : List Nat := [0, 0, 0, 0, 0, 0, 0, 0]
  /-- Real time of the last PWM boundary and what the period since then runs with. -/
  pwmAt : Nat := 0
  drv : DoorDrv := {}
  chopA : Chop := {}
  chopB : Chop := {}
  /-- Angle applied to the bridges; duties of the phases in 2⁻¹⁶; phase turned off by over-current in this period. -/
  angle : Nat := 0
  dutyA : Int := 0
  dutyB : Int := 0
  ocA : Option Nat := none
  ocB : Option Nat := none
  /-- Real time of the last occurrence an over-current fed (R241). -/
  ocFed : Option Nat := none
  /-- Mean currents of the PWM period that ended last in µA (R240, R248). -/
  uaA : Int := 0
  uaB : Int := 0
  /-- Load angles of the last 16 PWM periods, newest first. -/
  deltas : List Int := []
  /-- Position at which `LOAD_ANGLE` rose above `STALL_MARGIN`; periods with `F_EST` above the limit (R251). -/
  stallFrom : Option Int := none
  fCount : Nat := 0
  /-- The end switches (R260). -/
  endC : EndSw := {}
  endO : EndSw := {}
  /-- Real times of the last accepted transitions of `ENDC` and `ENDO`, newest first (R262, R263). -/
  chatC : List Nat := []
  chatO : List Nat := []
  learnC : Bool := false
  learnO : Bool := false
deriving DecidableEq, Repr


/-- A lane's view of a car (R272 to R280, R336 to R343). -/
structure LaneCar where
  pos : Int := 0
  spd : Int := 0
  /-- Position valid; speed valid; stamp of the sample. -/
  valid : Bool := false
  spdOk : Bool := false
  stamp : Nat := 0
  /-- Sage: positions of the last cycles, newest first; consecutive bad and good words. -/
  hist : List Int := []
  bad : Nat := 0
  goods : Nat := 0
  /-- Consecutive evaluations at most 10,000 µm/s. -/
  restN : Nat := 0
  /-- Latched causes (R279) and SIO reasons (R343); conditions present at the last evaluation. -/
  cause : Nat := 0
  reasons : Nat := 0
  cond : Nat := 0
  /-- Door zone by position, by vane, with its fault, and the travel summed while they differ (R336, R337). -/
  dzPos : Bool := false
  dzVane : Bool := false
  dz : Bool := false
  dzF : Bool := false
  dzSum : Nat := 0
  dzLdg : Nat := 0
  /-- The bypass ceiling stands at 300,000 µm/s (R338). -/
  ceilLow : Bool := false
  /-- UCMP anchor while the watch is armed (R341). -/
  ucmp : Option Int := none
deriving DecidableEq, Repr

/-- A lane's view of an input (R316, R318, R323, R324). -/
structure LaneIn where
  a : Bool := false
  b : Bool := false
  disc : Nat := 0
  /-- Reason of the latched fault; 0 none. -/
  fault : Nat := 0
  seen : Bool := false
deriving DecidableEq, Repr

/-- A lane's view of an output (R326, R331). -/
structure LaneOut where
  rb : Bool := false
  fb : Bool := false
  tmr : Nat := 0
deriving DecidableEq, Repr

/-- An output's energising and switch tests (R328, R329). -/
structure OutSw where
  /-- `SOo_HS` has closed and `SOo_LS` has not yet. -/
  wait : Bool := false
  /-- Real time since which Sage has seen `SOo_HS` = 1 with `SOo_RB` = 0. -/
  lsWait : Option Nat := none
  /-- Real time of energising or of the last test; the next test is Sage's. -/
  darkAt : Nat := 0
  darkSg : Bool := false
deriving DecidableEq, Repr

/-- What a record says of a car (R283, R288): position, speed, validity, stamp, rest, latched causes and SIO reasons. -/
structure RecCar where
  pos : Int := 0
  spd : Int := 0
  valid : Bool := false
  stamp : Nat := 0
  rest : Bool := false
  cause : Nat := 0
  reasons : Nat := 0
deriving DecidableEq, Repr

/-- An exchange record (R283): cycle number, cars, M_H, evaluated inputs with their fault flags (R316), the lane's switch
commands, SPB check value and commissioning states, CRC-32C. -/
structure LaneRec where
  n : Nat := 0
  u : RecCar := {}
  l : RecCar := {}
  mh : Int := 0
  ins : Nat := 0
  faults : Nat := 0
  sw : Nat := 0
  check : Nat := 0
  comm : Nat := 0
  crc : Word := 0#32
deriving DecidableEq, Repr

/-- A lane (0 SLP, 1 Sage). -/
structure LaneSt where
  car0 : LaneCar := {}
  car1 : LaneCar := {}
  mh : Int := 0
  mhOk : Bool := false
  /-- Groups faulted in this lane. -/
  grpF : Nat := 0
  /-- Consecutive missing records of the other lane. -/
  missN : Nat := 0
  /-- Commissioning states as the lane holds them: car U + 4 × car L (R303). -/
  comm : Nat := 0
  /-- The record the lane posted last (R283). -/
  post : LaneRec := {}
deriving DecidableEq, Repr

/-- Where a commit stands (R306): being checked; checked, the lanes' results equal or not; being written. -/
inductive CommitSt where
  | none | checking | checked (code ofs : Nat) (same : Bool) | writing
deriving DecidableEq, Repr

/-- A test pulse output (R319 to R322): due time of the next pulse, consecutive pulses whose read-back followed, the end of
the last pulse. -/
structure TpSt where
  due : Nat := 0
  okN : Nat := 0
  endAt : Option Nat := none
deriving DecidableEq, Repr

/-- The safety lanes and SIO beside their registers. -/
structure Safe where
  lane0 : LaneSt := {}
  lane1 : LaneSt := {}
  /-- Inputs by lane × 32 + i; outputs by lane × 12 + o; switches by o. -/
  ins : List (Nat × LaneIn) := []
  outs : List (Nat × LaneOut) := []
  sws : List (Nat × OutSw) := []
  /-- Real times of the start of the kernel, the last SLP boundary and the last Sage cycle; Sage cycles since start. -/
  start : Nat := 0
  slpAt : Nat := 0
  sgAt : Nat := 0
  sgN : Nat := 0
  /-- Consecutive disagreements by quantity; clean exchanges; `CK_SAGE` counts out of range (R277, R284, R292). -/
  dis : List (Nat × Nat) := []
  clean : Nat := 0
  clkBad : Nat := 0
  /-- Real time of the last test round and of the last check of the MRAM copies (R290). -/
  roundAt : Nat := 0
  roundDone : Bool := false
  mramAt : Nat := 0
  /-- Real time to which Sage has counted missing records by its own clock (R285). -/
  missAt : Nat := 0
  /-- Tests requested and not yet complete, with the mailboxes that wait for each (R291). -/
  testQ : List (Nat × List Nat) := []
  /-- Requests posted in the mailboxes and not yet answered: `SEQ` and `OP` (R311). -/
  mb0 : Option (Nat × Nat) := none
  mb1 : Option (Nat × Nat) := none
  /-- The gate: 0 closed, 1 half-open, 2 open, and since when (R304). -/
  gate : Nat := 0
  gateAt : Nat := 0
  /-- Staging area: bytes that differ from 0. -/
  stage : List (Nat × Nat) := []
  /-- The staged bytes as they stood at `COMMIT`: what is checked, switched to and written (R306). -/
  cand : List (Nat × Nat) := []
  commit : CommitSt := .none
  confirm : Option Word := none
  cfail : Nat := 0
  /-- Requested latch releases (R288) and resets of inputs, groups and door zones (R324, R333, R337). -/
  clr : Nat := 0
  rstIn : Nat := 0
  rstOut : Nat := 0
  rstDz : Nat := 0
  /-- Bytes of the SPB in force and of its signature area that differ from 0 (R293, R300); an SPB is in force. -/
  spb : List (Nat × Nat) := []
  spbIn : Bool := false
  /-- Sage's own copy in its parameter RAM (R272). -/
  spbSg : List (Nat × Nat) := []
  /-- The copy each lane selected at start-up, by its address (R301). -/
  sel0 : Option Nat := none
  sel1 : Option Nat := none
  /-- The record in force: section CRCs and `CONFIRMED` (R300). -/
  crcShaft : Word := 0#32
  crcU : Word := 0#32
  crcL : Word := 0#32
  confirmed : Word := 0#32
  /-- Test pulses; real time of the end of the last pulse. -/
  tps : List (Nat × TpSt) := []
  tpEnd : Nat := 0
  /-- `VDDIO_S` is low (R565). -/
  vddLow : Bool := false
  /-- The last `SPB CHECK` line sent on `SVC` (R306): check value and states of car U and car L. -/
  svc : Option (Word × Nat × Nat) := none
deriving DecidableEq, Repr



/-- What a frame of the engine is (R97, R100, R405). -/
inductive EKind where
  | plain | welcome (c : Nat) | sync | followUp
deriving DecidableEq, Repr

/-- A frame CVE or TBS has queued for a port: identifier, payload, launch time (R97, R389). -/
structure EFrm where
  id : Nat
  data : List Nat
  launch : Option Nat := none
  kind : EKind := .plain
deriving DecidableEq, Repr

/-- A bus port beside its registers (R352 to R376). -/
structure Port where
  /-- `BOR_REQ` written since BUS_OFF (R358). -/
  borReq : Bool := false
  /-- Real time at which the 200 ms of RESTRICTED began. -/
  restrAt : Nat := 0
  /-- Another node's frame is in progress. -/
  busy : Bool := false
  /-- `EN` was written 0 while a frame was in progress. -/
  closing : Bool := false
  /-- End of `ALONE_GAP` (R370). -/
  gapUntil : Nat := 0
  /-- An abort is latched on the ACTIVE buffer (R368). -/
  abort : Bool := false
  /-- Retries used by each buffer (R367). -/
  err0 : Nat := 0
  err1 : Nat := 0
  err2 : Nat := 0
  /-- Frames waiting for TXB0 and TXB1, and the engine's frames in them (R412). -/
  q0 : List EFrm := []
  q1 : List EFrm := []
  cur0 : Option EFrm := none
  cur1 : Option EFrm := none
deriving DecidableEq, Repr

/-- A data frame accepted from a partner (R391, R414). -/
structure HeldFrm where
  seq : Nat
  stream : Nat
  prio : Nat
  leg : Nat
  stamp : Nat
  data : List Nat
deriving DecidableEq, Repr

/-- A delivery that waits for a slot (R417). -/
inductive QEnt where
  | gap (first len stamp : Nat) | msg (f : HeldFrm)
deriving DecidableEq, Repr

/-- A data frame of the LH6160, outstanding or waiting (R396, R412). -/
structure OutFrm where
  seq : Nat
  stream : Nat
  prio : Nat
  data : List Nat
  sent : Bool := false
  sentAt : Nat := 0
  tries : Nat := 0
  /-- Marked in `HELD` of the last `ACK`. -/
  mark : Bool := false
deriving DecidableEq, Repr

/-- A context beside its registers (R388 to R423). Times are real times. -/
structure Ctx where
  /-- H of the control space and the record of H − 64 to H: bit k for number H − k (R390). -/
  h : Option Nat := none
  acc : Nat := 0
  /-- The same of the data space (R391). -/
  hD : Nat := 0
  accD : Nat := 0
  held : List HeldFrm := []
  /-- Gap timer and the `NEXT` that started it (R392). -/
  gapAt : Option Nat := none
  gapNext : Nat := 0
  /-- Next control number toward the partner. -/
  txCtl : Nat := 0
  /-- Last number all up to which are covered; numbers covered beyond it (R396). -/
  cov : Nat := 0xFFFF
  naked : List Nat := []
  out : List OutFrm := []
  waitq : List QEnt := []
  inviteAt : Option Nat := none
  /-- Start of the loss timer; last frame on each leg (R408, R409). -/
  lastAt : Nat := 0
  heardA : Option Nat := none
  heardB : Option Nat := none
  /-- Serial of the live partner; a `WELCOME` is on its way. -/
  serial : Word := 0#32
  welcoming : Bool := false
  ackOwed : Bool := false
  lastAck : Option Nat := none
  lastNak : Option Nat := none
  lastBar : Option Nat := none
  /-- Release positions of the pairs and entries freed, counted from `EN` (R416). -/
  rel0 : Nat := 0
  rel1 : Nat := 0
  freed : Nat := 0
deriving DecidableEq, Repr

/-- CVE beside its registers. -/
structure Cve where
  /-- The roster: contexts with `EN` = 1, ascending (R403). -/
  on : List Nat := []
  /-- The next invitation slot (R407). -/
  slotAt : Option Nat := none
  /-- Next broadcast control and data numbers of each network (R388). -/
  bcCtl : List (Nat × Nat) := []
  bcData : List (Nat × Nat) := []
  /-- Last broadcast heartbeat of each network with a usable leg; last `NAK` to a stranger (R401, R409). -/
  hbAt : List (Nat × Option Nat) := []
  strNak : List (Nat × Option Nat) := []
  ctxs : List (Nat × Ctx) := []
deriving DecidableEq, Repr


/-- An Ethernet port beside its registers (R535 to R546). -/
structure Bni where
  /-- Credit of each class in 1/1000 bit, and the real time up to which it is counted (R542). -/
  credit : List (Nat × Nat) := []
  creditAt : Nat := 0
  /-- Real times at which frames of each receive class were taken within the last 1 ms (R541). -/
  taken : List (Nat × List Nat) := []
  /-- A received pause lasts until this real time (R535). -/
  pauseUntil : Nat := 0
deriving DecidableEq, Repr

/-- The state of the LH6160. `State.reset` is every default below. -/
structure State where
  /-- Fuse: the order code is LH6161 (R1). -/
  lh6161 : Bool := false
  /-- Strap `PMODE` as sampled (R487). -/
  pmode : Bool := false
  /-- The register file: words that differ from their reset value, by address. -/
  regs : List (Nat × Word) := []
  /-- Bytes of SRAM, MRAM, OTP, xSPI flash and LPDDR4X that differ from 0, by address (R64, R513 to R522). -/
  mem : List Host.Cell := []
  /-- `_HI` words latched by a read of `_LO` (R14, R96). -/
  latches : List (Nat × Word) := []
  /-- Interrupt sources pended at the controllers of the APX pairs: pair and source number (R79, R80). -/
  pends : List (Nat × Nat) := []
  /-- Reply to the last access. -/
  bus : Bus := .idle
  tbs : Tbs := {}
  nets : List (Nat × TbsNet) := []
  rdm : Rdm := {}
  pair0 : Pair := {}
  pair1 : Pair := {}
  ikw : Ikw := {}
  pcr : Pcr := {}
  memc : Mem := {}
  /-- Free values drawn so far (the model's own counter). -/
  fresh : Nat := 0
  /-- The commands waiting, first in, first out. -/
  pending : List Instr := []
  fbs : List (Nat × Fb) := []
  pos : List (Nat × Po) := []
  /-- Compare events pulsed and not yet seen by the executors: channel and unit (R135). -/
  pulses : List (Nat × Nat) := []
  hoist : Hoist := {}
  dlks : List (Nat × Dlk) := []
  clg : Clg := {}
  doors : List (Nat × Door) := []
  safe : Safe := {}
  ports : List (Nat × Port) := []
  cve : Cve := {}
  bnis : List (Nat × Bni) := []
deriving DecidableEq, Repr

/-- The LH6160 right after power-on reset: every register at its reset value, nothing listed in any table
(log entries 1 and 2). -/
def State.reset : State := {}

end Sys2Proof.Machine
end

