-- ==== Sys2Proof/Machine/Ops.lean ====
section
/-! DEFINITION. The named operations every block uses: registers and their fields, stamps, interrupts, counters,
Inkwell offers and fault-window occurrences. -/

namespace Sys2Proof.Machine

/-! ### Fields and words -/

/-- The value of a field in a word. -/
def fget (f : Fld) (w : Word) : Nat := w.toNat / 2 ^ f.lo % 2 ^ f.w

/-- The word with the field set to `v` (its low bits). -/
def fput (f : Fld) (w : Word) (v : Nat) : Word :=
  BitVec.ofNat 32 (w.toNat / 2 ^ (f.lo + f.w) * 2 ^ (f.lo + f.w) + v % 2 ^ f.w * 2 ^ f.lo + w.toNat % 2 ^ f.lo)

/-- Two's complement reading of `n` as a `w`-bit signed number (R13). -/
def toS (w n : Nat) : Int := if n % 2 ^ w < 2 ^ (w - 1) then (n % 2 ^ w : Nat) else ((n % 2 ^ w : Nat) : Int) - (2 ^ w : Nat)

/-- The `w`-bit two's complement pattern of an integer (R13). -/
def ofS (w : Nat) (i : Int) : Nat := (i % (2 ^ w : Nat)).toNat

/-- A number as a register word. -/
abbrev wd (n : Nat) : Word := BitVec.ofNat 32 n

/-- An integer as a register word. -/
abbrev wdI (i : Int) : Word := BitVec.ofNat 32 (ofS 32 i)

/-- The low and high words of a 64-bit value. -/
def lo32 (n : Nat) : Word := BitVec.ofNat 32 n
def hi32 (n : Nat) : Word := BitVec.ofNat 32 (n / 2 ^ 32)

/-- Bit `i` of `n`. -/
def bitOf (n i : Nat) : Bool := n / 2 ^ i % 2 == 1

/-- 1 for true. -/
def b2n (b : Bool) : Nat := if b then 1 else 0

/-- The mask of a list of bit numbers. -/
def maskOf (bits : List Nat) : Nat := bits.foldl (fun m i => Nat.lor m (2 ^ i)) 0

/-- Ceiling of a division of naturals. -/
def cdiv (a b : Nat) : Nat := (a + b - 1) / b

/-- Floor division with a positive divisor, the sign kept in the dividend. -/
def fdiv (a : Int) (b : Nat) : Int := Int.fdiv a b

/-- Ceiling division with a positive divisor. -/
def cdivI (a : Int) (b : Nat) : Int := -(Int.fdiv (-a) b)

/-- Division rounded to nearest, halves away from zero (R145). -/
def rdiv (a : Int) (b : Nat) : Int :=
  if 0 ≤ a then (2 * a + b) / (2 * b) else -((-(2 * a) + b) / (2 * b))

/-- Little-endian bytes of a number. -/
def bytesLE : Nat → Nat → List Nat
  | 0, _ => []
  | n + 1, v => v % 256 :: bytesLE n (v / 256)

/-- The number of little-endian bytes. -/
def ofBytesLE : List Nat → Nat
  | [] => 0
  | b :: bs => b % 256 + 256 * ofBytesLE bs

/-- The bytes of words, little-endian. -/
def wordsBytes (ws : List Word) : List Nat := ws.flatMap fun w => bytesLE 4 w.toNat

/-- The first `n` little-endian words of a string of bytes. -/
def bytesWords (n : Nat) (bs : List Nat) : List Word := (List.range n).map fun i => BitVec.ofNat 32 (ofBytesLE ((bs.drop (4 * i)).take 4))

/-- One bit step of CRC-32C, reflected (R175). -/
def crcBit (c : Nat) : Nat := if c % 2 = 1 then Nat.xor (c / 2) 0x82F63B78 else c / 2

/-- One byte of CRC-32C. -/
def crcByte (c b : Nat) : Nat :=
  crcBit (crcBit (crcBit (crcBit (crcBit (crcBit (crcBit (crcBit (Nat.xor c (b % 256)))))))))

/-- CRC-32C of a byte string (R175). -/
def crc32c (bs : List Nat) : Word := BitVec.ofNat 32 (Nat.xor (bs.foldl crcByte 0xFFFFFFFF) 0xFFFFFFFF)

/-- Insert a keyed entry after the entries of no larger key. -/
def insKey {α : Type} (x : Nat × α) : List (Nat × α) → List (Nat × α)
  | [] => [x]
  | y :: ys => if x.1 < y.1 then x :: y :: ys else y :: insKey x ys

/-- Sort by key, equal keys in their given order. -/
def sortKeys {α : Type} (l : List (Nat × α)) : List (Nat × α) := l.foldl (fun m x => insKey x m) []

/-! ### Registers -/

/-- The register word at an address. -/
def State.rd (s : State) (a : Nat) : Word := Tab.get resetOf s.regs a

/-- Store a register word. -/
def State.wr (s : State) (a : Nat) (v : Word) : State := { s with regs := Tab.set resetOf s.regs a v }

/-- The value of a field of a page. -/
def State.g (s : State) (pg : Nat) (f : Fld) : Nat := fget f (s.rd (pg + f.off))

/-- The value of a field, signed. -/
def State.gs (s : State) (pg : Nat) (f : Fld) : Int := toS f.w (s.g pg f)

/-- Whether a one-bit field is 1. -/
def State.b (s : State) (pg : Nat) (f : Fld) : Bool := s.g pg f == 1

/-- Set a field. -/
def State.p (s : State) (pg : Nat) (f : Fld) (v : Nat) : State :=
  s.wr (pg + f.off) (fput f (s.rd (pg + f.off)) v)

/-- Set a field to a signed value. -/
def State.pI (s : State) (pg : Nat) (f : Fld) (v : Int) : State := s.p pg f (ofS f.w v)

/-- Set a one-bit field. -/
def State.pB (s : State) (pg : Nat) (f : Fld) (v : Bool) : State := s.p pg f (b2n v)

/-- Count `n` more, saturating at all ones (R81). -/
def State.inc (s : State) (pg : Nat) (f : Fld) (n : Nat := 1) : State :=
  s.p pg f (min (s.g pg f + n) (2 ^ f.w - 1))

/-- Record a new maximum. -/
def State.peak (s : State) (pg : Nat) (f : Fld) (n : Nat) : State :=
  s.p pg f (max (s.g pg f) (min n (2 ^ f.w - 1)))

/-- Count a discarded write or block fault of the page (R69, R71). -/
def State.flt (s : State) (pg : Nat) : State := s.inc pg R.Hdr.FAULT_CNT

/-- One write counts in `FAULT_CNT` of the page at most once, however many of its actions were refused (R71): `t` is the
state after them all. -/
def State.fltOnce (s : State) (pg : Nat) (t : State) : State :=
  if t.g pg R.Hdr.FAULT_CNT = s.g pg R.Hdr.FAULT_CNT then t
  else t.p pg R.Hdr.FAULT_CNT (min (s.g pg R.Hdr.FAULT_CNT + 1) (2 ^ 32 - 1))

/-! ### Time and stamps -/

/-- The AON counter (R501): 32,768 Hz ticks since power-on, modulo 2⁴⁸. -/
def State.aon (s : State) : Nat := s.tbs.el * 32768 / 1000000000 % 2 ^ 48

/-- The timebase value at an event (R90, R95; in HIBERNATE R106). -/
def State.stamp (s : State) : Nat :=
  if s.tbs.hib then (s.tbs.t0 + (s.aon + 2 ^ 48 - s.tbs.a0) % 2 ^ 48 * 15625000 / 512) % 2 ^ 64
  else s.tbs.acc / 2 ^ 32 % 2 ^ 64

/-- The timebase `d` ns of real time before it read `now`, the steps `l` since left out, newest first: no stamp lies in
an interval that a step skipped (R91, R93). -/
def stampBack : List (Nat × Nat) → Nat → Nat → Nat
  | [], now, d => now - d
  | (before, after) :: l, now, d => if d ≤ now - after then now - d else stampBack l before (d - (now - after) - 10)

/-- How many ns of real time back the timebase read `ts`: the inverse of `stampBack`. -/
def ageBack : List (Nat × Nat) → Nat → Nat → Nat
  | [], now, ts => now - ts
  | (before, after) :: l, now, ts => if after ≤ ts then now - ts else now - after + 10 + ageBack l before ts

/-- The timebase at an event that lies `d` ns back (R93, R95). -/
def State.stampAgo (s : State) (d : Nat) : Nat := if s.tbs.hib then s.stamp - d else stampBack s.tbs.steps s.stamp d

/-- Set a `_LO` and `_HI` pair. -/
def State.pTs (s : State) (pg : Nat) (lo hi : Fld) (t : Nat) : State :=
  (s.wr (pg + lo.off) (lo32 t)).wr (pg + hi.off) (hi32 t)

/-- The 64-bit value of a `_LO` and `_HI` pair. -/
def State.gTs (s : State) (pg : Nat) (lo hi : Fld) : Nat :=
  (s.rd (pg + lo.off)).toNat + 2 ^ 32 * (s.rd (pg + hi.off)).toNat

/-- Set the word `STAT` of a page; a change of value stamps the page (R69). -/
def State.wrStat (s : State) (pg : Nat) (v : Word) : State :=
  if s.rd (pg + 0x00C) = v then s
  else ((s.wr (pg + 0x00C) v).wr (pg + 0x028) (lo32 s.stamp)).wr (pg + 0x02C) (hi32 s.stamp)

/-- Set a field of `STAT`; a change stamps the page (R69). -/
def State.ps (s : State) (pg : Nat) (f : Fld) (v : Nat) : State :=
  s.wrStat pg (fput f (s.rd (pg + 0x00C)) v)

/-- Set a one-bit field of `STAT`. -/
def State.psB (s : State) (pg : Nat) (f : Fld) (v : Bool) : State := s.ps pg f (b2n v)

/-- Set a field of `MPG_MAP_STAT`; a change stamps the MPG common page (R44). -/
def State.pm (s : State) (f : Fld) (v : Nat) : State :=
  let w := fput f (s.rd (mpgC + 0x048)) v
  if s.rd (mpgC + 0x048) = w then s
  else ((s.wr (mpgC + 0x048) w).wr (mpgC + 0x028) (lo32 s.stamp)).wr (mpgC + 0x02C) (hi32 s.stamp)

/-! ### Power domains and initiators -/

/-- Whether a power domain serves accesses: ON or at reduced clock (R60). One held in reset by limp clock answers as one that
is off (DESIGN CHOICE, log entry 165). -/
def State.domOn (s : State) (d : Nat) : Bool :=
  let v := s.g (pcrP d) R.Pcr.STAT_DSTATE
  v == 1 || v == 3

/-- Whether PD_FAB sleeps and its occurrences are held in PD_AON (R87). -/
def State.fabAsleep (s : State) : Bool :=
  match s.pcr.power with
  | .standby | .hibernate | .wakeStandby | .wakeHibernate => true
  | _ => false

/-- `PSTATE` of a pair (R429): 0 OFF, 1 BOOT, 2 JOINING, 3 STANDBY, 4 DUTY, 5 FAILED. -/
def State.pst (s : State) (p : Nat) : Nat := s.g (apxP p) R.Apx.STAT_PSTATE

/-- A pair is live while STANDBY or DUTY (R429). -/
def State.live (s : State) (p : Nat) : Bool := s.pst p == 3 || s.pst p == 4

/-- The duty pair, if any. -/
def State.duty (s : State) : Option Nat :=
  if s.pst 0 == 4 then some 0 else if s.pst 1 == 4 then some 1 else none

/-- A pair's hidden state. -/
def State.pair (s : State) (p : Nat) : Pair := if p = 0 then s.pair0 else s.pair1

/-- Set a pair's hidden state. -/
def State.setPair (s : State) (p : Nat) (x : Pair) : State := if p = 0 then { s with pair0 := x } else { s with pair1 := x }

/-- TBS network n beside its registers. -/
def State.net (s : State) (n : Nat) : TbsNet := Tab.get (fun _ => (TbsNet.mk .none .none 0 0 false false 0)) s.nets n
def State.setNet (s : State) (n : Nat) (x : TbsNet) : State :=
  { s with nets := Tab.set (fun _ => (TbsNet.mk .none .none 0 0 false false 0)) s.nets n x }

/-! ### Interrupts -/

/-- Cores leave wait-for-interrupt when an interrupt reaches them (R491). -/
def State.resumeCores (s : State) : State :=
  { s with pair0 := { s.pair0 with wfi0 := false, wfi1 := false },
           pair1 := { s.pair1 with wfi0 := false, wfi1 := false } }

/-- The interrupt number of a page (R79). -/
def irqNo (pg : Nat) : Nat := (pg - 0x40000000) / 0x100000 * 256 + (pg % 0x100000) / 0x1000

/-- Pend a source at one pair's controller. -/
def pendAt (p n : Nat) (l : List (Nat × Nat)) : List (Nat × Nat) := if l.contains (p, n) then l else (p, n) :: l

/-- A rising line, or the pulse of a new `IRQ_STAT` bit while it is high, pends the source at both controllers (R80); the
cores leave wait-for-interrupt (R491). -/
def State.pend (s : State) (n : Nat) : State := { s with pends := pendAt 0 n (pendAt 1 n s.pends) }.resumeCores

/-- `IRQ_STAT` of a page is cleared: its request is withdrawn at the duty pair, whose handler clears it (R56, R58, R80).
The standby pair keeps its own controller's pending state. -/
def State.withdraw (s : State) (n : Nat) : State :=
  { s with pends := s.pends.filter fun e => !(s.duty == some e.1 && e.2 == n) }

/-- Set bits of `IRQ_RAW`; every bit of `IRQ_STAT` that newly sets pends the page's interrupt (R78, R80). -/
def State.irqM (s : State) (pg m : Nat) : State :=
  let raw := (s.rd (pg + 0x010)).toNat
  let en := (s.rd (pg + 0x014)).toNat
  let s1 := s.wr (pg + 0x010) (wd (Nat.lor raw m))
  if Nat.land (Nat.lor raw m) en = Nat.land raw en then s1 else s1.pend (irqNo pg)

/-- Raise the event of bit `i` (R78). -/
def State.irq (s : State) (pg i : Nat) : State := s.irqM pg (2 ^ i)

/-- Count one occurrence and raise the event of bit `i` of page `ipg` with it; a saturated counter raises no further
event (R81, R82). -/
def State.incIrq (s : State) (pg : Nat) (f : Fld) (ipg i : Nat) : State :=
  if s.g pg f = 2 ^ f.w - 1 then s else (s.inc pg f).irq ipg i

/-! ### Free values -/

/-- Draw a free number. -/
def State.free (s : State) : Nat := Config.freeNat s.fresh

/-- Draw a free word. -/
def State.freeW (s : State) : Word := Config.freeWord s.fresh

/-- Advance the counter of free values. -/
def State.drew (s : State) (n : Nat := 1) : State := { s with fresh := s.fresh + n }

/-! ### Inkwell offers (R465 to R470) -/

/-- Source word of a record: block and instance (R462). -/
abbrev srcOf (b n : Nat) : Nat := b * 256 + n

/-- Operating time in ms (R463, R507), saturating at 48 bits (R81). -/
def State.optime (s : State) : Nat :=
  min (s.pcr.optimeBase + (s.tbs.el - s.pcr.lifeAt) / 1000000) (2 ^ 48 - 1)

/-- `FLAGS` of a record without `SUMMARY` (R462). -/
def State.recFlags (s : State) : Nat :=
  b2n s.tbs.hib + 2 * s.g tbsC R.TbsC.STAT_RESEEDED + 4 * s.g tbsC R.TbsC.STAT_LIMP

/-- Occupancy of the staging FIFO shown in the registers (R480). -/
def State.ikwShow (s : State) : State :=
  let n := s.ikw.fifo.length
  let s := s.p ikwC R.IkwC.FIFO_USED n
  let s := s.peak ikwC R.IkwC.FIFO_PEAK n
  let s := s.psB ikwC R.IkwC.STAT_FULL (decide (128 ≤ n))
  s.psB ikwC R.IkwC.STAT_RES_ONLY (decide (112 ≤ n))

/-- The place of a record among the staged ones: in stamp order, equal stamps by source sequence, that is `SRC` and then
the order in which the source offered them (R94, R465, R466, R476). -/
def recIn (r : IkwRec) : List IkwRec → List IkwRec
  | [] => [r]
  | x :: l => if x.stamp = r.stamp ∧ r.src < x.src then r :: x :: l else x :: recIn r l

/-- A record enters the staging FIFO (R465); reaching 112 or 128 entries raises `RES_ONLY` or `FULL` (R483). -/
def State.ikwEnter (s : State) (r : IkwRec) : State :=
  let s := { s with ikw := { s.ikw with fifo := recIn r s.ikw.fifo } }
  let s := if s.ikw.fifo.length = 112 then s.irq ikwC 3 else s
  let s := if s.ikw.fifo.length = 128 then s.irq ikwC 4 else s
  s.ikwShow

/-- Whether the FIFO accepts a record of a severity (R468; R475 in power-fail mode). -/
def State.ikwAccepts (s : State) (sev : Nat) : Bool :=
  (if sev = 3 then decide (s.ikw.fifo.length < 128) else decide (s.ikw.fifo.length < 112)) &&
    (!s.b ikwC R.IkwC.STAT_PFW || decide (2 ≤ sev))

/-- Next `SSEQ` of a source; the source's number advances (R466). -/
def State.ikwSeq (s : State) (src : Nat) : Nat × State :=
  let n := Tab.get (fun _ => 0) s.ikw.sseq src
  (n, { s with ikw := { s.ikw with sseq := Tab.set (fun _ => 0) s.ikw.sseq src ((n + 1) % 65536) } })

/-- Add the tokens due by now to the bucket of code `c` (R467, R479: an addition in the clock applies first). -/
def State.ikwRefill (s : State) (c : Nat) : State :=
  let pg := ikwCodeP c
  let burst := s.g pg R.IkwCode.BURST
  let tok := s.g pg R.IkwCode.TOKENS
  if burst ≤ tok then s else
  let per := s.g pg R.IkwCode.REFILL * 1000000
  let start := Tab.get (fun _ => 0) s.ikw.refill c
  let k := (s.stamp - start) / per
  let s1 := s.p pg R.IkwCode.TOKENS (min burst (tok + k))
  { s1 with ikw := { s1.ikw with refill := Tab.set (fun _ => 0) s1.ikw.refill c (start + k * per) } }

/-- Take a token of code `c`; the refill clock starts when the bucket first falls below `BURST` (R467). -/
def State.ikwTake (s : State) (c : Nat) : State :=
  let pg := ikwCodeP c
  let tok := s.g pg R.IkwCode.TOKENS
  let s1 := s.p pg R.IkwCode.TOKENS (tok - 1)
  if s.g pg R.IkwCode.BURST ≤ tok then
    { s1 with ikw := { s1.ikw with refill := Tab.set (fun _ => 0) s1.ikw.refill c s.stamp } }
  else s1

/-- Suppress a record of code `c`: reason bit 0 `RATE`, 1 `FULL` (R468). -/
def State.ikwSuppress (s : State) (c reason : Nat) : State :=
  let pg := ikwSupP c
  let first := s.g pg R.IkwSup.PEND = 0
  let s1 := s.inc ikwC R.IkwC.IKW_SUP_CNT
  let s1 := if first then (s1.pTs pg R.IkwSup.FIRST_TS_LO R.IkwSup.FIRST_TS_HI s.stamp).irq ikwC 1 else s1
  let s1 := s1.inc pg R.IkwSup.PEND
  let s1 := s1.p pg (if reason = 0 then R.IkwSup.RATE else R.IkwSup.FULL) 1
  let s1 := s1.pTs pg R.IkwSup.LAST_TS_LO R.IkwSup.LAST_TS_HI s.stamp
  s1.p (ikwCodeP c) R.IkwCode.PENDING 1

/-- The summary of code `c` enters when it is due (R469). -/
def State.ikwSummary (s : State) (c : Nat) : State :=
  let pg := ikwSupP c
  let sev := s.g (ikwCodeP c) R.IkwCode.SEV
  if s.g pg R.IkwSup.PEND = 0 || s.g (ikwCodeP c) R.IkwCode.TOKENS = 0 || !s.ikwAccepts sev then s else
  let s1 := s.ikwTake c
  let (n, s2) := s1.ikwSeq 0x0300
  let data := [wd (c + s.g pg R.IkwSup.RATE * 0x10000 + s.g pg R.IkwSup.FULL * 0x20000),
    s.rd (pg + R.IkwSup.PEND.off), s.rd (pg + R.IkwSup.FIRST_TS_LO.off), s.rd (pg + R.IkwSup.FIRST_TS_HI.off),
    s.rd (pg + R.IkwSup.LAST_TS_LO.off), s.rd (pg + R.IkwSup.LAST_TS_HI.off), 0#32, 0#32]
  let s3 := s2.ikwEnter ⟨s.stamp, 0x060, sev, 0x0300, n, s.recFlags + 8, s.pcr.pcycle, s.optime, data⟩
  let s4 := ((((((s3.wr pg 0#32).wr (pg + 4) 0#32).wr (pg + 8) 0#32).wr (pg + 0xC) 0#32).wr (pg + 0x10) 0#32).wr
    (pg + 0x14) 0#32).p (ikwCodeP c) R.IkwCode.PENDING 0
  s4

/-- `DATA` of a record: the items as words, then zeros to eight words (R464). -/
def recData (items : List Word) : List Word := (items ++ List.replicate 8 0#32).take 8

/-- A source offers a record (R465 to R469): due tokens are added, a due summary goes first, the record takes a
token, and is staged or suppressed. -/
def State.ikwOffer (s : State) (c src : Nat) (items : List Word) : State :=
  let (n, s1) := s.ikwSeq src
  let s2 := (s1.ikwRefill c).ikwSummary c
  let sev := s2.g (ikwCodeP c) R.IkwCode.SEV
  if s2.g (ikwCodeP c) R.IkwCode.TOKENS = 0 then s2.ikwSuppress c 0
  else if !s2.ikwAccepts sev then s2.ikwSuppress c 1
  else (s2.ikwTake c).ikwEnter ⟨s.stamp, c, sev, src, n, s.recFlags, s.pcr.pcycle, s.optime, recData items⟩

/-! ### Fault-window filters (R83 to R87) -/

/-- The window in force of filter `f`: a written `W` applies from the next occurrence (R86). -/
def State.fwWin (s : State) (f : Nat) : Nat := Tab.get (fun _ => 1000) s.rdm.win f

/-- The occurrences of filter `f` within `w` ms at tick `t` (R83): ticks, newest first. -/
def State.fwWithin (s : State) (f w t : Nat) : List Nat := (Tab.get (fun _ => []) s.rdm.occ f).filter fun ti => t - ti < w

/-- The occurrences of filter `f` within its window in force at tick `t` (R83, R86). -/
def State.fwIn (s : State) (f t : Nat) : List Nat := s.fwWithin f (s.fwWin f) t

/-- Occurrences that have left the window in force are gone, whatever `W` is written next (R86). -/
def State.fwPrune (s : State) (f : Nat) : State :=
  { s with rdm := { s.rdm with occ := Tab.set (fun _ => []) s.rdm.occ f (s.fwIn f (s.stamp / 1000000)) } }

/-- Whether a filter is lasting. -/
def State.fwLasting (s : State) (f : Nat) : Bool := s.b (fwP f) R.Fw.LASTING

/-- An occurrence with a given stamp is applied to filter `f` (R83, R86). -/
def State.fwApply (s : State) (f ts : Nat) : State :=
  let t := ts / 1000000
  let w := s.g (fwP f) R.Fw.W
  let earlier := s.fwWithin f w t
  let was := s.fwLasting f
  let last := !was && decide (s.g (fwP f) R.Fw.K ≤ earlier.length + 1)
  let s := { s with rdm := { s.rdm with occ := Tab.set (fun _ => []) s.rdm.occ f ((t :: earlier).take 255),
                                        win := Tab.set (fun _ => 1000) s.rdm.win f w } }
  let s := (s.inc (fwP f) R.Fw.OCC_CNT).pTs (fwP f) R.Fw.TS_LO R.Fw.TS_HI ts
  let s := if last then (s.p (fwP f) R.Fw.LASTING 1).irq rdmC 0 else s
  s.ikwOffer (if last then 0x041 else 0x040) (srcOf 2 0)
    [wd f, wd (s.g (fwP f) R.Fw.OCC_CNT), wd (min 255 (earlier.length + 1)), lo32 ts, hi32 ts]

/-- A source feeds one occurrence to filter `f` now; while PD_FAB sleeps it is held, up to 32 (R83, R87). -/
def State.fwOccur (s : State) (f : Nat) : State :=
  if s.fabAsleep then
    if s.rdm.held.length < 32 then { s with rdm := { s.rdm with held := s.rdm.held ++ [⟨f, s.stamp⟩] } }
    else s.ps rdmC R.RdmC.STAT_QOVF 1
  else s.fwApply f s.stamp

/-- Whether the step from `s` to `t` made filter `f` lasting (R83): the owning block then takes its action. -/
def becameLasting (f : Nat) (s t : State) : Bool := !s.fwLasting f && t.fwLasting f

end Sys2Proof.Machine
end

