-- ==== Sys2Proof/Machine/Time.lean ====
section
/-! DEFINITION. The passage of time: ticks of `CK_TB`, slews and steps of the timebase (R88 to R94), the discard of
an offset (R92), and the advance to a deadline. -/

namespace Sys2Proof.Machine

/-- Frequency trim per tick in 2⁻³² ns; 0 while discipline is disabled (R90). -/
def State.rate (s : State) : Int := if s.b tbsC R.Hdr.CTRL_EN then s.gs tbsC R.TbsC.TBS_RATE else 0

/-- Slew per tick in 2⁻³² ns (R90). -/
def State.slewInc (s : State) : Nat := if s.b tbsC R.Hdr.CTRL_EN then s.g tbsC R.TbsC.SLEW_PPM * 42949 else 0

/-- The part of the remaining slew taken in `n` ticks: at the slew rate, the last tick takes the remainder (R90). -/
def slewIn (slew : Int) (inc n : Nat) : Int :=
  if 0 ≤ slew then min slew (inc * n) else max slew (-(inc * n : Nat))

/-- The remaining slew in ns, rounded away from zero (R111). -/
def slewNs (slew : Int) : Int := if 0 ≤ slew then cdivI slew (2 ^ 32) else -(cdivI (-slew) (2 ^ 32))

/-- `n` ticks: the accumulator gains `INC` on each (R90). -/
def State.ticksRun (s : State) (n : Nat) : State :=
  if s.tbs.stopped then { s with tbs := { s.tbs with el := s.tbs.el + 10 * n } } else
  let d := slewIn s.tbs.slew s.slewInc n
  let acc' := ((s.tbs.acc : Int) + (10 * 2 ^ 32 + s.rate) * n + d) % ((2 ^ 96 : Nat) : Int)
  { s with tbs := { s.tbs with acc := acc'.toNat, el := s.tbs.el + 10 * n, slew := s.tbs.slew - d } }

/-- Ticks until the remaining slew has run down to 0; 0 while none runs (R90). -/
def State.slewTicks (s : State) : Nat :=
  if s.tbs.stopped || s.tbs.slew == 0 || s.slewInc == 0 then 0 else cdiv s.tbs.slew.natAbs s.slewInc

/-- `n` ticks without a committed offset; on the tick on which the slew has run down to 0, `SLEWING` clears and
`SLEW_DONE` is raised (R91, R95). -/
def State.ticks (s : State) (n : Nat) : State :=
  let k := s.slewTicks
  if 0 < k ∧ k ≤ n then (((s.ticksRun k).psB tbsC R.TbsC.STAT_SLEWING false).irq tbsC 2).ticksRun (n - k)
  else s.ticksRun n

/-- A committed offset of at most 1 ms replaces the remaining slew; 0 cancels it without `SLEW_DONE` (R91). -/
def State.slewBy (s : State) (ofs : Int) : State :=
  let s1 := { s with tbs := { s.tbs with slew := ofs * 2 ^ 32 } }
  s1.psB tbsC R.TbsC.STAT_SLEWING (decide (ofs ≠ 0))

/-- The tick on which a step lands (R91): the timebase advances by `INC` + `OFS`, the remaining slew is discarded, and
the `TB_STEP` record carries the values before and after. -/
def State.stepTick (s : State) (ofs : Int) : State :=
  let before := s.stamp
  let s1 := { s with tbs := { s.tbs with slew := 0 } }
  let s2 := s1.ticks 1
  let s2 := { s2 with tbs := { s2.tbs with acc := (s2.tbs.acc + ofs.toNat * 2 ^ 32) % 2 ^ 96 } }
  let s3 := { s2 with tbs := { s2.tbs with steps := (before, s2.stamp) :: s2.tbs.steps } }.psB tbsC R.TbsC.STAT_SLEWING false
  let s4 := s3.pTs tbsC R.TbsC.TBS_STEP_LO R.TbsC.TBS_STEP_HI (ofS 64 ofs)
  let s5 := (s4.inc tbsC R.TbsC.STEP_CNT).irq tbsC 0
  let s6 := (List.range 4).foldl (fun (m : State) n => m.setNet n { m.net n with stepped := true }) s5
  s6.ikwOffer 0x020 (srcOf 1 0) [lo32 before, hi32 before, lo32 s6.stamp, hi32 s6.stamp]

/-- Whether a committed offset is a step: above 1,000,000 ns (R91). -/
def isStep (ofs : Int) : Bool := decide (1000000 < ofs)

/-- One `CK_TB` tick (R88, R90, R91): the oldest committed offset acts, else the timebase advances by `INC`. -/
def State.tick (s : State) : State :=
  if s.tbs.stopped then s.ticks 1 else
  match s.tbs.ofs with
  | [] => s.ticks 1
  | o :: rest =>
    let s1 := { s with tbs := { s.tbs with ofs := rest } }
    if isStep o then s1.stepTick o else (s1.slewBy o).ticks 1

/-- Let the committed offsets act, one per tick, for at most `n` ticks (R91). -/
def State.ticksOfs : Nat → State → Nat × State
  | 0, s => (0, s)
  | n + 1, s =>
    if s.tbs.stopped || s.tbs.ofs.isEmpty then (n + 1, s) else State.ticksOfs n s.tick

/-- Advance by `n` ticks: committed offsets act on their own ticks first. -/
def State.advance (s : State) (n : Nat) : State :=
  let k := min n s.tbs.ofs.length
  let (left, s1) := State.ticksOfs k s
  s1.ticks (n - k + left)

/-- Ticks until the accumulator has gained `d`, no offset committed: during a slew at its rate, after it at the trim's
(R90). -/
def State.ticksFor (s : State) (d : Int) : Nat :=
  let base := (10 * 2 ^ 32 + s.rate).toNat
  let per (x : Int) (i : Nat) : Nat := (cdivI x i).toNat
  let k := s.slewTicks
  if k = 0 then per d base else
  let n := per d (if 0 ≤ s.tbs.slew then base + s.slewInc else base - s.slewInc)
  if n < k then n else max k (per (d - s.tbs.slew) base)

/-- Committed offsets act, one per tick, until the timebase has reached `t`: at most `n` of them. -/
def State.offsTo : Nat → State → Nat → State
  | 0, s, _ => s
  | n + 1, s, t => if t ≤ s.stamp || s.tbs.stopped || s.tbs.ofs.isEmpty then s else State.offsTo n s.tick t

/-- Advance to the first tick on which the timebase has reached `t` (R90, R91, R97). -/
def State.untilStamp (s : State) (t : Nat) : State :=
  let s := State.offsTo s.tbs.ofs.length s t
  if t ≤ s.stamp || s.tbs.stopped then s else s.ticks (s.ticksFor (((t - s.stamp) * 2 ^ 32 : Nat) - (s.tbs.acc % 2 ^ 32 : Nat)))

/-- Advance to real time `d` (ns since power-on) when it is not yet reached; an event that is already due changes no
time (log entry 3). -/
def State.advanceTo (s : State) (d : Nat) : State :=
  if d ≤ s.tbs.el then s else s.advance (cdiv (d - s.tbs.el) 10)

end Sys2Proof.Machine
end

