-- ==== Sys2Proof/Machine/Access.lean ====
section
/-! DEFINITION. Accesses to the register pages: who may write where (R50 to R52, R60, R64, R68), the page locks (R73,
R74), the access types (R70, R71), the interrupt registers (R78), reads with their latches (R14, R96), and the
hardware's view of a register word. -/

namespace Sys2Proof.Machine

/-! ### OTP-derived facts -/

/-- The byte of a memory at an address; unlisted bytes read 0 (log entry 2). -/
def State.byte (s : State) (a : Nat) : Nat := (Tab.get (fun _ => 0#8) s.mem a).toNat

/-- Store a byte. -/
def State.setByte (s : State) (a v : Nat) : State :=
  { s with mem := Tab.set (fun _ => 0#8) s.mem a (BitVec.ofNat 8 v) }

/-- `n` bytes from `a`, little-endian. -/
def State.mget (s : State) (a : Nat) : Nat → Nat
  | 0 => 0
  | n + 1 => s.byte a + 256 * State.mget s (a + 1) n

/-- Store bytes from `a` on. -/
def State.mput (s : State) (a : Nat) : List Nat → State
  | [] => s
  | b :: bs => State.mput (s.setByte a b) (a + 1) bs

/-- Check bits of a range are written anew (R514, R518). -/
def State.eccClean (s : State) (a len : Nat) : State :=
  { s with memc := { s.memc with bad := s.memc.bad.filter fun e => !(decide (a ≤ e.1) && decide (e.1 < a + len)) } }

/-- Bytes stored by the hardware itself, with new check bits. -/
def State.mputEcc (s : State) (a : Nat) (bs : List Nat) : State := (s.mput a bs).eccClean a bs.length

/-- Address of the OTP aperture (R522). -/
abbrev otpBase : Nat := 0x40480000

/-- An OTP word (R522). -/
def State.otpWord (s : State) (off : Nat) : Nat := s.mget (otpBase + off) 4

/-- Number of set bits of a 32-bit number. -/
def popcount (n : Nat) : Nat := (List.range 32).foldl (fun c i => c + b2n (bitOf n i)) 0

/-- Lifecycle (R522): 0 FACTORY, 1 FIELD, 2 SEALED. -/
def State.lifecycle (s : State) : Nat := min 2 (popcount (s.otpWord 0x188) - 1)

/-- The anti-rollback entries as 64-bit values (R525). -/
def State.arb (s : State) (n : Nat) : Nat := s.mget (otpBase + 0x200 + 8 * n) 8

/-- Entries used: the highest-numbered non-zero entry and those below it (R525). -/
def State.arbUsed (s : State) : Nat :=
  (List.range 32).foldl (fun m n => if s.arb n ≠ 0 then n + 1 else m) 0

/-- The anti-rollback counter (R525). -/
def State.arbCounter (s : State) : Nat := if s.arbUsed = 0 then 0 else s.arb (s.arbUsed - 1)

/-- Whether a car of the SPB in force is COMMISSIONED (`STAT.COMM` of its SAG page, R303, R313: 3). -/
def State.commissioned (s : State) (car : Nat) : Bool := s.g (sagP car) R.Sag.STAT_COMM == 3

/-- Whether debug access is open (R530, R531). -/
def State.dbgOpen (s : State) : Bool :=
  match s.lifecycle with
  | 0 => true
  | 1 => (!s.commissioned 0 && !s.commissioned 1) || s.memc.dbgUnlocked
  | _ => false

/-- Whether the open debug access covers memory and registers (scope bit 0, R531). -/
def State.dbgScope (s : State) : Bool :=
  match s.lifecycle with
  | 0 => true
  | 1 => (!s.commissioned 0 && !s.commissioned 1) ||
      (s.memc.dbgUnlocked && bitOf (s.g memC R.MemC.MEM_DBG_STAT_SCOPE) 0)
  | _ => false

/-! ### Verdict on an access -/

/-- What becomes of an access (R3, R50, R51, R60, R64, R441). -/
inductive Verdict where
  /-- Permitted. -/
  | ok
  /-- Discarded silently and counted in `SB_WR_CNT` of pair `p` (R51, R431). -/
  | silent (p : Nat)
  /-- Bus error, counted in `FAULT_CNT` of the APX common page (R50). -/
  | errCount
  /-- Bus error, no effect (R60, R64, R68). -/
  | err
  /-- Completes without error or effect: a fused-off page (R3). -/
  | fused
  /-- The initiator's ports are blocked (R441): nothing happens. -/
  | blocked
deriving DecidableEq, Repr

/-- Whether an offset of a page is a command port that only Nib may write (R50, R52, R432). -/
def nibOnly (k : Kind) (rel : Nat) : Bool :=
  match k with
  | .channel 0x08 _ | .group 0x08 _ | .bcast 0x08 => (0x100 ≤ rel && rel < 0x10C) || (0x200 ≤ rel && rel < 0x214)
  | .channel 0x0A _ | .group 0x0A _ | .bcast 0x0A => 0x100 ≤ rel && rel < 0x10C
  | .common 0x0F => 0x100 ≤ rel && rel < 0x120
  | .common 0x0E | .channel 0x0E _ | .group 0x0E _ | .bcast 0x0E => 0x100 ≤ rel && rel < 0x148
  | _ => false

/-- The SAG key and parameter load registers (R50, R304, R312). -/
def sagLoadReg (rel : Nat) : Bool :=
  rel == 0x040 || rel == 0x044 || rel == 0x048 || rel == 0x04C || rel == 0x058 || rel == 0x064

/-- A pair whose ports are blocked: OFF or FAILED (R429, R441). -/
def State.pairBlocked (s : State) (p : Nat) : Bool := s.pst p == 0 || s.pst p == 5

/-- Whether a unit's channel page is fused off (R3). -/
def State.fusedPage (s : State) (k : Kind) : Bool :=
  match k with
  | .channel b n => decide (nchanPresent s.lh6161 b ≤ n)
  | _ => false

/-- A pair's right to write an "all other register pages" register (R50, R51, R431). -/
def State.pairRight (s : State) (p : Nat) : Verdict :=
  match s.pst p with
  | 4 => .ok
  | 0 | 5 => .blocked
  | _ => .silent p

/-- The verdict on a 32-bit write by initiator `i` at address `a` (R50 to R52, R60, R64, R68). -/
def State.verdictW (s : State) (i : Ini) (a : Nat) : Verdict :=
  match locate a with
  | none => .err
  | some l =>
    if a % 4 ≠ 0 then .err
    else if !s.domOn 5 || !s.domOn (blkDomain l.block) then .err
    else if s.fusedPage l.kind then .fused
    else
      match l.kind with
      | .otp => .errCount
      | .win q =>
        match i with
        | .pair p => if p.val = q then (if s.pairBlocked q then .blocked else .ok) else .errCount
        | _ => .errCount
      | k =>
        if nibOnly k l.rel then (if i = .nib then .ok else .errCount)
        else if k = .common 0x06 && 0x100 ≤ l.rel && l.rel < 0x300 then
          match i with
          | .pair p => if s.pairBlocked p.val then .blocked
                       else if l.rel / 0x100 - 1 = p.val then .ok else .errCount
          | _ => .errCount
        else
          match i with
          | .pair p => s.pairRight p.val
          | .debug =>
            if k = .common 0x04 && 0x400 ≤ l.rel && l.rel ≤ 0x4A0 then .ok
            else if (k = .common 0x07 && sagLoadReg l.rel) || (k = .common 0x02 && l.rel = 0x060) then .errCount
            else if s.dbgOpen && s.dbgScope then .ok else .errCount
          | _ => .errCount

/-- A half-open lock closes on any write to another register of its page (R73). -/
def State.breakHalf (s : State) (a : Nat) : State :=
  match locate a with
  | some l =>
    if l.kind.isPage && l.rel ≠ 0x020 && s.b l.base R.Hdr.LOCK_HALF then s.p l.base R.Hdr.LOCK_HALF 0 else s
  | none => s

/-- A write by `i` at `a` whose effect, when it is permitted, is `k`. -/
def State.onWrite (s : State) (i : Ini) (a : Nat) (k : State → State) : State :=
  match s.verdictW i a with
  | .ok => k ({ s with bus := .done 0 }.breakHalf a)
  | .silent p =>
    ({ s with bus := .done 0 }.inc (apxP p) R.Apx.SB_WR_CNT).wr (apxP p + R.Apx.SB_WR_ADDR.off) (wd a)
  | .errCount => { s with bus := .error }.flt apxC
  | .err => { s with bus := .error }
  | .fused => { s with bus := .done 0 }
  | .blocked => s

/-! ### The lock (R73, R74) -/

/-- Whether `LOCK.OPEN` of a page is 1. -/
def State.lockOpen (s : State) (pg : Nat) : Bool := s.b pg R.Hdr.LOCK_OPEN

/-- A write of `LOCK.KEY` (R73). -/
def State.lockWrite (s : State) (pg : Nat) (v : Word) : State :=
  let key := fget R.Hdr.LOCK_KEY v
  let half := s.b pg R.Hdr.LOCK_HALF
  if key = 0x1ACC then s.wr (pg + 0x020) 0x20000#32
  else if half && key = 0xB10C then s.wr (pg + 0x020) 0x10000#32
  else s.wr (pg + 0x020) 0#32

/-! ### Access types (R70, R71) -/

/-- One field of a landing word: its new value. -/
def landField (opn : Bool) (old v : Word) (r : RF) (w : Word) : Word :=
  match r.acc with
  | .rw => fput r.f w (fget r.f v)
  | .ro => w
  | .w1cFlag => fput r.f w (Nat.land (fget r.f old) (Nat.xor (2 ^ r.f.w - 1) (fget r.f v)))
  | .w1cCnt => if fget r.f v = 2 ^ r.f.w - 1 then fput r.f w 0 else w
  | .w1s => fput r.f w (Nat.lor (fget r.f old) (fget r.f v))
  | .wo => fput r.f w (fget r.f v)
  | .rwl => if opn then fput r.f w (fget r.f v) else w

/-- The word after a write, field by field. -/
def landWord (rows : List RF) (rel : Nat) (opn : Bool) (old v : Word) : Word :=
  (rows.filter fun r => r.covers rel).foldl (fun w r => landField opn old v r w) old

/-- Whether a write would change an RWL field (R71). -/
def rwlChange (rows : List RF) (rel : Nat) (old v : Word) : Bool :=
  rows.any fun r => r.covers rel && r.acc == .rwl && fget r.f old != fget r.f v

/-- The rows of a location: those of its table and of the header. -/
def rowsOf (l : Loc) : List RF :=
  l.kind.tbl ++ if l.kind.isPage then hdrTbl (match l.kind with | .channel _ _ => true | _ => false) else []

/-- A write of `IRQ_EN`: bits it brings into `IRQ_STAT` pend the interrupt (R78, R80). -/
def State.irqEnable (s : State) (pg : Nat) (v : Word) : State :=
  let raw := (s.rd (pg + 0x010)).toNat
  let old := (s.rd (pg + 0x014)).toNat
  let s1 := s.wr (pg + 0x014) v
  if Nat.land raw (Nat.lor old v.toNat) = Nat.land raw old then s1 else s1.pend (irqNo pg)

/-- A W1C write of `IRQ_STAT` (R78): the bits clear in both registers; with none left the line falls and the request is
withdrawn (R56). -/
def State.irqClear (s : State) (pg : Nat) (v : Word) : State :=
  let s1 := s.wr (pg + 0x010) (s.rd (pg + 0x010) &&& ~~~v)
  if s1.rd (pg + 0x010) &&& s1.rd (pg + 0x014) = 0#32 then s1.withdraw (irqNo pg) else s1

/-- The write of a word under the access types of its fields (R70, R71), the lock (R73) and the interrupt rules
(R78). -/
def State.land (s : State) (a : Nat) (v : Word) : State :=
  match locate a with
  | none => s
  | some l =>
    if l.kind.isPage && l.rel = 0x014 then s.irqEnable l.base v
    else if l.kind.isPage && l.rel = 0x018 then s.irqClear l.base v
    else if l.kind.isPage && l.rel = 0x01C then s.irqM l.base v.toNat
    else if l.kind.isPage && l.rel = 0x020 then s.lockWrite l.base v
    else
      let opn := s.lockOpen l.lock
      let old := s.rd a
      let new := landWord (rowsOf l) l.rel opn old v
      let s1 := if !opn && rwlChange (rowsOf l) l.rel old v then s.flt l.lock else s
      if l.kind.isPage && l.rel = 0x00C then s1.wrStat l.base new else s1.wr a new

/-- A write discarded as a whole by a rule of its block (R71): counted once. -/
def State.discard (s : State) (a : Nat) : State :=
  match locate a with
  | none => s
  | some l => s.flt l.lock

/-! ### Reads -/

/-- The `ID` and `CAP` words (R69); the block part of `CAP` is given nowhere and reads 0 (log entry 8). -/
def State.capWord (s : State) (k : Kind) : Nat :=
  match k with
  | .common b => nchanPresent s.lh6161 b * 0x100 + 1
  | _ => 1

/-- Mask out the write-only fields, which read 0 (R70). -/
def maskWo (rows : List RF) (rel : Nat) (w : Word) : Word :=
  (rows.filter fun r => r.covers rel && r.acc == .wo).foldl (fun w r => fput r.f w 0) w

/-- The bitmap of `LASTING` of filters 32 × i to 32 × i + 31 (R85). -/
def State.lastingMap (s : State) (i : Nat) : Nat :=
  (List.range 32).foldl (fun m b => m + b2n (s.fwLasting (32 * i + b)) * 2 ^ b) 0

/-- Stream shown at `NIB_SQ_NEXT` and `NIB_SQ_PAIR` (R455). -/
def State.stream (s : State) (t : Nat) : NibStream := Tab.get (fun _ => (NibStream.mk 0 0 0 [])) s.rdm.streams t
def State.setStream (s : State) (t : Nat) (x : NibStream) : State :=
  { s with rdm := { s.rdm with streams := Tab.set (fun _ => (NibStream.mk 0 0 0 [])) s.rdm.streams t x } }

/-- A bitmap over channel pages. -/
def mapOver (n : Nat) (f : Nat → Bool) : Nat := (List.range n).foldl (fun m i => m + b2n (f i) * 2 ^ i) 0

/-- `STAT` of MEM, with `DBG_OPEN` and `LIFECYCLE` as they are now (R522, R530). -/
def State.memStat (s : State) : Word :=
  fput R.MemC.STAT_LIFECYCLE (fput R.MemC.STAT_DBG_OPEN (s.rd (memC + 0x00C)) (b2n s.dbgOpen)) s.lifecycle

/-- A change of `DBG_OPEN` or `LIFECYCLE` since `old` stamps the page (R69). -/
def State.memShow (s old : State) : State :=
  if s.memStat = old.memStat then s else s.pTs memC R.Hdr.TS_LO R.Hdr.TS_HI s.stamp

/-- The registers whose value is computed from other state, by page kind and offset. -/
def State.mirror (s : State) (k : Kind) (rel : Nat) : Option Word :=
  match k, rel with
  | .common 0x00, 0x040 => some (if s.lh6161 then 0x61610A01#32 else 0x61600A01#32)
  | .common 0x00, 0x044 => some (wd (b2n s.pmode))
  | .common 0x00, 0x078 => some (wd s.pcr.pcycle)
  | .common 0x00, 0x07C => some (lo32 s.optime)
  | .common 0x00, 0x080 => some (hi32 s.optime)
  | .common 0x01, 0x040 => some (lo32 s.stamp)
  | .common 0x01, 0x044 => some (hi32 s.stamp)
  | .common 0x01, 0x054 => some (lo32 (ofS 64 (slewNs s.tbs.slew)))
  | .common 0x01, 0x058 => some (hi32 (ofS 64 (slewNs s.tbs.slew)))
  | .common 0x01, 0x074 => some (lo32 s.aon)
  | .common 0x01, 0x078 => some (hi32 s.aon)
  | .common 0x03, 0x044 => some 0x04100000#32
  | .common 0x04, 0x00C => some s.memStat
  | .common 0x04, 0x078 => some (lo32 s.arbCounter)
  | .common 0x04, 0x07C => some (hi32 s.arbCounter)
  | .common 0x04, 0x088 => some (fput R.MemC.MEM_ARB_STAT_USED (s.rd (memC + 0x088)) s.arbUsed)
  | .common 0x06, 0x040 => some Config.slpKver
  | .common 0x0E, 0x090 => some 0x11764000#32
  | .common 0x0F, 0x044 => some 0x11700000#32
  | .common 0x11, 0x060 => some (wd (s.stream (s.g apxC R.ApxC.NIB_SQ_SEL)).next)
  | .common 0x11, 0x064 =>
    let t := s.stream (s.g apxC R.ApxC.NIB_SQ_SEL)
    some (wd ((if s.live 1 then t.p1 else 0) * 65536 + if s.live 0 then t.p0 else 0))
  | .common 0x0A, 0x040 => some (wd (mapOver 8 fun n => s.g (dmcP n) R.Dmc.STAT_DSTATE == 9))
  | .common 0x0D, 0x040 => some (wd
      (mapOver 8 (fun n => s.b (sbcP n) R.Sbc.CTRL_OOS) * 0x1000000 +
        mapOver 8 (fun n => s.b (sbcP n) R.Sbc.STAT_FAULT) * 0x10000 +
        mapOver 8 (fun n => s.b (sbcP n) R.Sbc.STAT_ALONE) * 0x100 +
        mapOver 8 (fun n => s.g (sbcP n) R.Sbc.STAT_OPMODE == 3)))
  | .channel 0x0D n, 0x06C => some (wd (mapOver 32 fun m => s.b (sbcP n + 0x50 * m) R.Sbc.MBX_CTRL_NEW))
  | .channel 0x0D n, 0x070 =>
    if s.g (sbcP n) R.Sbc.STAT_OPMODE == 2 && !s.b (sbcP n) R.Sbc.STAT_HELD then
      some (wd (200 - (s.tbs.el - (Tab.get (fun _ => ({} : Port)) s.ports n).restrAt) / 1000000))
    else some 0#32
  | .common 0x0E, 0x04C =>
    let cnt (v : Nat) : Nat := (s.cve.on.filter fun c => s.g (ctxP c) R.Ctx.STAT_CSTATE == v).length
    some (wd (cnt 6 * 0x1000000 + cnt 5 * 0x10000 + cnt 4 * 0x100 + cnt 3))
  | .common 0x02, r => if 0x040 ≤ r ∧ r < 0x060 then some (wd (s.lastingMap ((r - 0x040) / 4))) else none
  | .fw, r =>
    if r % 16 = 4 then
      some (fput R.Fw.IN_WIN (s.rd (fwP (r / 16) + 4)) (min 255 (s.fwIn (r / 16) (s.stamp / 1000000)).length))
    else none
  | _, _ => none

/-- The word a read of address `a` shows (without the latch of R14). -/
def State.look (s : State) (a : Nat) : Word :=
  match locate a with
  | none => 0#32
  | some l =>
    if l.kind.isPage && l.rel = 0 then wd (idWord l.kind)
    else if s.fusedPage l.kind then 0#32
    else
      match l.kind with
      | .group _ _ | .bcast _ => 0#32
      | .otp => if 0x300 ≤ l.rel ∧ l.rel < 0x320 then 0#32 else wd (s.otpWord l.rel)
      | k =>
        if k.isPage && l.rel = 0x004 then wd (s.capWord k)
        else if k.isPage && l.rel = 0x018 then s.rd (l.base + 0x010) &&& s.rd (l.base + 0x014)
        else
          match s.mirror k l.rel with
          | some w => w
          | none => maskWo (rowsOf l) l.rel (s.rd a)

/-- Code of an initiator, for its own `_HI` latch of `TBS_NOW` (R96). -/
def iniCode : Ini → Nat
  | .pair p => 1 + p.val | .quill => 3 | .cve => 4 | .ikw => 5 | .bni => 6 | .crypto => 7 | .nib => 8 | .debug => 9

/-- Whether an address is the `_LO` word of a 64-bit time or counter pair (R14). -/
def isTimeLo (a : Nat) : Bool :=
  match locate a with
  | none => false
  | some l =>
    match l.kind with
    | .group _ _ | .bcast _ => false
    | _ => (l.kind.isPage && l.rel = 0x028) || l.kind.tbl.any fun r => r.lo64 && r.covers l.rel

/-- Whether an address lies in a fused-off page, which holds no latch (R3). -/
def State.fusedAt (s : State) (a : Nat) : Bool :=
  match locate a with
  | some l => s.fusedPage l.kind
  | none => false

/-- The latch that holds the `_HI` word at address `a` for initiator `i` (R14, R96). -/
def latchKey (i : Ini) (a : Nat) : Nat := if a = tbsC + 0x044 then a + iniCode i * 2 ^ 32 else a

/-- The verdict on a 32-bit read by `i` at `a` (R50, R60, R64, R68, R441, R522, R530). -/
def State.verdictR (s : State) (i : Ini) (a : Nat) : Verdict :=
  match locate a with
  | none => .err
  | some l =>
    if a % 4 ≠ 0 then .err
    else if !s.domOn 5 || !s.domOn (blkDomain l.block) then .err
    else
      match i with
      | .pair p => if s.pairBlocked p.val then .blocked else .ok
      | .debug =>
        if l.kind = .common 0x04 && 0x400 ≤ l.rel && l.rel ≤ 0x4A0 then .ok
        else if s.dbgOpen && s.dbgScope && l.kind ≠ .otp then .ok else .err
      | _ => if l.kind = .otp then .err else .ok

/-- The word initiator `i` reads at `a`: `CLG_VIEW` and `VIEW_VALID` show the reading pair's own V (R230, R235). -/
def State.lookBy (s : State) (i : Ini) (a : Nat) : Word :=
  if a = clgC + 0x068 then
    match i with
    | .pair p =>
      match if p.val = 0 then s.clg.v0 else s.clg.v1 with
      | some v => wd (0x10000 + v % 65536)
      | none => 0#32
    | _ => 0#32
  else s.look a

/-- A read of a register word by `i`: a `_LO` word latches its `_HI` word, and a `_HI` word returns the latched one
(R14, R96). -/
def State.readReg (s : State) (i : Ini) (a : Nat) : State :=
  match s.verdictR i a with
  | .ok =>
    if s.fusedAt a then { s with bus := .done (s.lookBy i a).toNat }
    else if isTimeLo a then
      { s with bus := .done (s.look a).toNat,
               latches := Tab.set (fun _ => 0#32) s.latches (latchKey i (a + 4)) (s.look (a + 4)) }
    else if isTimeLo (a - 4) then
      { s with bus := .done (Tab.get (fun _ => 0#32) s.latches (latchKey i a)).toNat }
    else { s with bus := .done (s.lookBy i a).toNat }
  | .blocked => s
  | _ => { s with bus := .error }

end Sys2Proof.Machine
end

