-- ==== Sys2Proof/Machine/Pfi.lean ====
section
/-! DEFINITION. PFI, the position feedback interfaces: quadrature and serial counting, the reported position, speed,
index, probes, compares, faults and pulse outputs (R114 to R146). The commands end in `State.settle`
(Machine/Executor.lean), which lets the executors and generators see compare events and lost sources. -/

namespace Sys2Proof.Machine

/-- A feedback channel's hidden state. -/
def State.fb (s : State) (n : Nat) : Fb := Tab.get (fun _ => ({} : Fb)) s.fbs n
def State.setFb (s : State) (n : Nat) (x : Fb) : State := { s with fbs := Tab.set (fun _ => ({} : Fb)) s.fbs n x }
def State.po (s : State) (k : Nat) : Po := Tab.get (fun _ => ({} : Po)) s.pos k
def State.setPo (s : State) (k : Nat) (x : Po) : State := { s with pos := Tab.set (fun _ => ({} : Po)) s.pos k x }

/-- PFI runs on the keeper clock (R55, R115). -/
def State.pfiKeeper (s : State) : Bool := s.b pfiC R.PfiC.STAT_KEEPER

/-- Filter clock period in ns (R117). -/
def State.pfiTf (s : State) : Nat := if s.pfiKeeper then 125 else 5

/-- N of an input's edge filter on the clock in force: `A`, `B`, `Z`, or a probe (R115). -/
def State.filtN (s : State) (n : Nat) (probe : Bool) : Nat :=
  if s.pfiKeeper then s.g (fbP n) R.Fb.FILT_NK else if probe then s.g (fbP n) R.Fb.PRB_N else s.g (fbP n) R.Fb.FILT_N

/-- `DELAY_CORR` in ns for an input: `A`, `B`, `Z` or a probe (R117). -/
def State.delayCorr (s : State) (n : Nat) (probe : Bool) : Nat := (2 * s.filtN n probe + 5) * s.pfiTf / 2

/-- Stamp of a filtered edge that was accepted `k` filter clocks ago, corrected (R117). -/
def State.edgeStamp (s : State) (n : Nat) (probe : Bool) (k : Nat) : Nat := s.stampAgo (s.delayCorr n probe + k * s.pfiTf)

/-- An input stands at `lvl` for `clks` more samples (R115): a change of level starts the count anew; a level that has
stood for `N` consecutive samples is accepted. The count outlives a switch of the filter clock and is compared with the
new N from the next sample (R116). The second part: how many samples before the last the level was accepted, if it was. -/
def EdgeIn.see (x : EdgeIn) (lvl : Bool) (clks N : Nat) : EdgeIn × Option Nat :=
  let old := if x.raw = lvl then x.cnt else 0
  let y : EdgeIn := { x with raw := lvl, cnt := if clks = 0 ∧ x.raw ≠ lvl then 0 else old + clks }
  if 0 < clks ∧ lvl ≠ x.lvl ∧ N ≤ old + clks then ({ y with lvl := lvl }, some (clks - max 1 (N - old))) else (y, none)

/-- A channel in a serial mode. -/
def State.fbSerial (s : State) (n : Nat) : Bool := s.g (fbP n) R.Fb.MODE != 0

/-- `VALID` (R124). -/
def State.fbValidate (s : State) (n : Nat) : State :=
  s.psB (fbP n) R.Fb.STAT_VALID (s.b (fbP n) R.Hdr.CTRL_EN && !s.b (fbP n) R.Fb.STAT_FAULT &&
    s.b (fbP n) R.Fb.STAT_ORG_SET && (!s.fbSerial n || s.b (fbP n) R.Fb.STAT_SER_OK))

/-- Compare unit `c` of a channel, as a page shift. -/
abbrev cmpP (n c : Nat) : Nat := fbP n + 16 * (c % 4)

/-- Latch set `k` of the probes, as a page shift. -/
abbrev prbP (n k : Nat) : Nat := fbP n + 16 * (k % 4)

/-- A compare fires (R135): disarmed, flagged, stamped, its event pulsed. -/
def State.cmpFire (s : State) (n c stamp : Nat) : State :=
  let s := (s.p (cmpP n c) R.Fb.CMP_ARMED 0).p (cmpP n c) R.Fb.CMP_FIRED 1
  let s := s.pTs (cmpP n c) R.Fb.CMP_TS_LO R.Fb.CMP_TS_HI stamp
  let s := s.irq (fbP n) (12 + c)
  { s with pulses := s.pulses ++ [(n, c)] }

/-- A compare is missed (R134, R136, R137). -/
def State.cmpMiss (s : State) (n c : Nat) : State :=
  ((s.p (cmpP n c) R.Fb.CMP_ARMED 0).p (cmpP n c) R.Fb.CMP_MISSED 1).irq (fbP n) (16 + c)

/-- The behind rule (R133). -/
def behind (dir : Nat) (pos val : Int) (known up : Bool) : Bool :=
  match dir with
  | 1 => decide (val ≤ pos)
  | 2 => decide (pos ≤ val)
  | 3 => decide (pos = val) || (known && ((up && decide (val < pos)) || (!up && decide (pos < val))))
  | _ => false

/-- Whether unit `c` is behind at the present position (R133). -/
def State.cmpBehind (s : State) (n c : Nat) : Bool :=
  behind (s.g (cmpP n c) R.Fb.CMP_DIR) (s.gs (fbP n) R.Fb.PFI_POS) (s.gs (cmpP n c) R.Fb.CMP_VAL)
    (s.b (fbP n) R.Fb.STAT_DIR_KNOWN) (s.b (fbP n) R.Fb.STAT_DIRH)

/-- A unit found behind: it fires at once with `FIRE_IF_PASSED`, else it is missed (R134). -/
def State.cmpLate (s : State) (n c stamp : Nat) : State :=
  if s.b (cmpP n c) R.Fb.CMP_FIRE_IF_PASSED then (s.cmpFire n c stamp).p (cmpP n c) R.Fb.CMP_PASSED 1
  else s.cmpMiss n c

/-- Whether a change of position from `p` to `q` crosses `val` (R133). -/
def crosses (dir : Nat) (p q val : Int) : Bool :=
  let up := decide (p < val) && decide (val ≤ q)
  let down := decide (val < p) && decide (q ≤ val)
  match dir with
  | 1 => up
  | 2 => down
  | 3 => up || down
  | _ => false

/-- The compares see a change of `PFI_POS` from `p` (R133, R135). -/
def State.cmpCheck (s : State) (n : Nat) (p : Int) (stamp : Nat) : State :=
  (List.range 4).foldl (fun m c =>
    if m.b (cmpP n c) R.Fb.CMP_ARMED &&
        crosses (m.g (cmpP n c) R.Fb.CMP_DIR) p (m.gs (fbP n) R.Fb.PFI_POS) (m.gs (cmpP n c) R.Fb.CMP_VAL)
    then m.cmpFire n c stamp else m) s

/-- Armed units are tested again under the behind rule after an origin moves the position (R136). -/
def State.cmpRetest (s : State) (n : Nat) : State :=
  (List.range 4).foldl (fun m c =>
    if m.b (cmpP n c) R.Fb.CMP_ARMED && m.cmpBehind n c then m.cmpLate n c s.stamp else m) s

/-- The reported position before the soft limits (R122). -/
def State.posCalc (s : State) (n : Nat) : Int :=
  (s.fb n).posOrg + fdiv (((s.fb n).hcnt - (s.fb n).hOrg) * s.gs (fbP n) R.Fb.PFI_SCALE) 65536

/-- The reported position is computed: clamped to the soft limits, `LIMIT` live and its event raised on entry
(R122, R123). While `FAULT` is 1 `PFI_POS` is frozen and only `LIMIT` follows (R123, R137). -/
def State.posUpdate (s : State) (n : Nat) : State :=
  let c := s.posCalc n
  let lo := s.gs (fbP n) R.Fb.PFI_SOFTMIN
  let hi := s.gs (fbP n) R.Fb.PFI_SOFTMAX
  let out := decide (c < lo) || decide (hi < c)
  let s1 := if s.b (fbP n) R.Fb.STAT_FAULT then s else s.pI (fbP n) R.Fb.PFI_POS (max lo (min c hi))
  let s2 := if out && !s.b (fbP n) R.Fb.STAT_LIMIT then s1.irq (fbP n) 3 else s1
  s2.psB (fbP n) R.Fb.STAT_LIMIT out

/-- The position follows a change of the count; the compares see it (R122, R133). -/
def State.posMoved (s : State) (n stamp : Nat) : State :=
  let p := s.gs (fbP n) R.Fb.PFI_POS
  let t := s.posUpdate n
  if t.gs (fbP n) R.Fb.PFI_POS = p then t else t.cmpCheck n p stamp

/-- An origin is set (R122): it moves the position without firing a compare; armed units are tested again when the
position has moved (R136). `ORG_SET` sets also while `EN` = 0, and is then still 1 when `EN` sets: only a change of `EN`
to 0 clears it (DESIGN CHOICE, log entry 152). -/
def State.setOrigin (s : State) (n : Nat) (pos hOrg : Int) : State :=
  let s := s.setFb n { s.fb n with posOrg := pos, hOrg := hOrg }
  let s := (s.psB (fbP n) R.Fb.STAT_ORG_SET true).fbValidate n
  let t := s.posUpdate n
  if t.g (fbP n) R.Fb.PFI_POS = s.g (fbP n) R.Fb.PFI_POS then t else t.cmpRetest n

/-- The pulse outputs divide a change of their source's raw count (R141, R142): `ACC` takes it, whole steps go to
`PEND`, steps beyond its range are dropped and counted. -/
def State.poFeed (s : State) (k n : Nat) (delta : Int) : State :=
  if !s.b (poP k) R.Hdr.CTRL_EN || s.g (poP k) R.Po.SRC != n then s else
  let M := max 1 (s.g (poP k) R.Po.M)
  let acc := (s.po k).acc + delta * s.g (poP k) R.Po.N
  let steps : Int := if 0 ≤ acc then acc / M else -((-acc) / M)
  let want := s.gs (poP k) R.Po.PFI_PO_PEND + steps
  let kept := max (-32767) (min want 32767)
  let s1 := (s.setPo k { s.po k with acc := acc - steps * M }).pI (poP k) R.Po.PFI_PO_PEND kept
  let s2 := s1.psB (poP k) R.Po.STAT_SAT (decide (kept.natAbs = 32767))
  if want = kept then s2
  else if s2.g (poP k) R.Po.PFI_PO_LOST = 2 ^ R.Po.PFI_PO_LOST.w - 1 then s2
  else (s2.inc (poP k) R.Po.PFI_PO_LOST (want - kept).natAbs).irq (poP k) 0

/-- The raw count of a channel changes (R119, R121, R141). -/
def State.fbRaw (s : State) (n : Nat) (raw : Int) (stamp : Nat) : State :=
  let x := s.fb n
  let h := min (max x.hcnt raw) (raw + 1)
  let s1 := (s.setFb n { x with raw := raw, hcnt := h }).pI (fbP n) R.Fb.PFI_RAW raw
  let s2 := (s1.poFeed 0 n (raw - x.raw)).poFeed 1 n (raw - x.raw)
  if h = x.hcnt then s2 else
  let up := decide (x.hcnt < h)
  let rev := s2.b (fbP n) R.Fb.STAT_DIR_KNOWN && s2.b (fbP n) R.Fb.STAT_DIRH != up
  let s3 := s2.setFb n { s2.fb n with idxRev := (s2.fb n).idxRev || rev }
  let s4 := (s3.psB (fbP n) R.Fb.STAT_DIRH up).psB (fbP n) R.Fb.STAT_DIR_KNOWN true
  s4.posMoved n stamp

/-- The channel's filter turns lasting (R137): frozen, compares missed, MPG sees the lost source. -/
def State.fbFault (s : State) (n : Nat) : State :=
  let s := ((s.psB (fbP n) R.Fb.STAT_FAULT true).irq (fbP n) 4).fbValidate n
  let s := { s with hoist := { s.hoist with lost := s.hoist.lost ++ [n] } }
  (List.range 4).foldl (fun m c => if m.b (cmpP n c) R.Fb.CMP_ARMED then m.cmpMiss n c else m) s

/-- A fault of the channel feeds filter 0xA0 + n (R84, R137). -/
def State.fbOccur (s : State) (n : Nat) : State :=
  let t := s.fwOccur (0xA0 + n)
  if becameLasting (0xA0 + n) s t then t.fbFault n else t

/-- Position of the level pair in the cycle 00, 10, 11, 01 (`A` leading `B` counts up). -/
def quadPos (a b : Bool) : Nat :=
  match a, b with
  | false, false => 0 | true, false => 1 | true, true => 2 | false, true => 3

/-- The filtered levels of `A` and `B` step from position `p` to `q` of the cycle, `k` filter clocks ago (R119, R120). -/
def State.quadEdge (s : State) (n p q k : Nat) : State :=
  let d := (q + 4 - p) % 4
  if !s.b (fbP n) R.Hdr.CTRL_EN || s.fbSerial n || d = 0 then s
  else if d = 2 then (s.incIrq (fbP n) R.Fb.ILLEGAL_CNT (fbP n) 0).fbOccur n
  else
    let up := (d == 1) != s.b (fbP n) R.Fb.CNT_INV
    s.fbRaw n ((s.fb n).raw + if up then 1 else -1) (s.edgeStamp n false k)

/-- `A` and `B` stand at `a`, `b` for `clks` samples (R115, R119, R120): levels accepted with the same sample make one
transition, an illegal one; else each makes its own, the earlier first. -/
def State.quadStep (s : State) (n : Nat) (a b : Bool) (clks : Nat) : State :=
  let x := s.fb n
  let (fa, ta) := x.fA.see a clks (s.filtN n false)
  let (fb, tb) := x.fB.see b clks (s.filtN n false)
  let s1 := s.setFb n { x with fA := fa, fB := fb }
  let p := quadPos x.fA.lvl x.fB.lvl
  match ta, tb with
  | none, none => s1
  | some i, none => s1.quadEdge n p (quadPos a x.fB.lvl) i
  | none, some j => s1.quadEdge n p (quadPos x.fA.lvl b) j
  | some i, some j =>
    if i = j then s1.quadEdge n p (quadPos a b) i
    else if j < i then (s1.quadEdge n p (quadPos a x.fB.lvl) i).quadEdge n (quadPos a x.fB.lvl) (quadPos a b) j
    else (s1.quadEdge n p (quadPos x.fA.lvl b) j).quadEdge n (quadPos x.fA.lvl b) (quadPos a b) i

/-- Request period of a serial channel in ns: `PERIOD` × 0.5 µs, or the hoist period with `SYNC` (R128); on a channel
that Sage drives, Sage's cycle of 100 µs, whatever the registers hold (R140, R274). -/
def State.serPeriod (s : State) (n : Nat) : Nat :=
  if (s.fb n).sageTap then 100000 else if s.b (fbP n) R.Fb.SYNC then 62500 else s.g (fbP n) R.Fb.PERIOD * 500

/-- A serial request starts (R128): the period before it counts as missed when it brought no good word (R129). -/
def State.serStart (s : State) (n : Nat) : State :=
  let x := s.fb n
  let missed := if x.lastGood then 0 else x.missed + 1
  let s1 := s.setFb n { x with
      reqAt := s.tbs.el, reqStamp := s.stamp, reqNext := s.tbs.el + s.serPeriod n,
      reqDue := false, lastGood := false, missed := missed }
  if 2 ≤ missed && s.b (fbP n) R.Fb.STAT_SER_OK then
    (s1.psB (fbP n) R.Fb.STAT_SER_OK false).fbValidate n
  else s1

/-- Serial reception runs: enabled, a serial mode, `CK_ENC` not off (R53, R139). -/
def State.serRuns (s : State) (n : Nat) : Bool :=
  s.b (fbP n) R.Hdr.CTRL_EN && s.fbSerial n && !s.pfiKeeper

/-- A write of `CTRL` of a feedback channel (R121, R122, R126, R128). The load of `HCNT` may move `PFI_POS`, which the
compares see as any change of it (R133). -/
def State.fbCtrl (s : State) (n : Nat) (v : Word) : State :=
  let was := s.b (fbP n) R.Hdr.CTRL_EN
  let s1 := s.land (fbP n + 0x008) v
  let now := s1.b (fbP n) R.Hdr.CTRL_EN
  if !was && now then
    let x := s1.fb n
    let s2 := s1.setFb n { x with
      hcnt := x.raw, gotWord := false, noCheck := true, idx := none, idxRev := false,
      winOpen := !s1.fbSerial n, winAt := s1.tbs.el, winRaw := x.raw, missed := 0, lastGood := true }
    let s3 := (s2.psB (fbP n) R.Fb.STAT_DIR_KNOWN false).fbValidate n
    let s4 := s3.posMoved n s3.stamp
    if s4.serRuns n && !s4.b (fbP n) R.Fb.SYNC && !(s4.fb n).sageTap then s4.serStart n else s4
  else if was && !now then
    let s2 := (s1.psB (fbP n) R.Fb.STAT_ORG_SET false).psB (fbP n) R.Fb.STAT_SER_OK false
    (s2.setFb n { s2.fb n with winOpen := false }).fbValidate n
  else s1

/-- Speed window in half microseconds: `WIN`, in the serial modes rounded up to whole request periods (R126, R127). -/
def State.winHalf (s : State) (n : Nat) : Nat :=
  let w := 2 * s.g (fbP n) R.Fb.WIN
  if s.fbSerial n then
    let p := max 1 (s.serPeriod n / 500)
    cdiv w p * p
  else w

/-- The end of a speed window (R126, R127); while `FAULT` is 1 only `PFI_SPD` is frozen (R137). -/
def State.spdWindow (s : State) (n : Nat) : State :=
  let x := s.fb n
  if !s.b (fbP n) R.Hdr.CTRL_EN || !x.winOpen then s else
  let s1 := s.advanceTo (x.winAt + s.winHalf n * 500)
  let x := s1.fb n
  if s1.fbSerial n && !x.lastGood then s1.setFb n { x with winOpen := false }
  else
    let cnt := x.raw - x.winRaw
    let s2 := s1.setFb n { x with winAt := s1.tbs.el, winRaw := x.raw }
    let spd := Int.tdiv (cnt * s2.gs (fbP n) R.Fb.PFI_SCALE * 2000000) (s2.winHalf n * 65536 : Nat)
    let s3 := s2.pI (fbP n) R.Fb.PFI_SPD_CNT cnt
    (if s2.b (fbP n) R.Fb.STAT_FAULT then s3 else s3.pI (fbP n) R.Fb.PFI_SPD spd).irq (fbP n) 11

/-- One bit of the serial CRC, MSB first, initial value 0 (R128). -/
def serCrcBit (poly len c : Nat) (bit : Bool) : Nat :=
  let top := bitOf c (len - 1) != bit
  let c' := c * 2 % 2 ^ len
  if top then Nat.xor c' (poly % 2 ^ len) else c'

/-- The CRC bits a BiSS-C frame carries: over data, `nE`, `nW`, sent inverted (R128). -/
def serCrc (poly len dataLen data : Nat) (nE nW : Bool) : Nat :=
  let bits := ((List.range dataLen).map fun i => bitOf data (dataLen - 1 - i)) ++ [nE, nW]
  Nat.xor (bits.foldl (serCrcBit poly len) 0) (2 ^ len - 1)

/-- Gray code to binary over `n` bits (R128). -/
def grayDecode (n v : Nat) : Nat :=
  (List.range n).foldl (fun acc i =>
    let k := n - 1 - i
    let above := k + 1 < n && bitOf acc (k + 1)
    acc + b2n (bitOf v k != above) * 2 ^ k) 0

/-- A good serial word (R122, R128): the first loads the count and the origin, later ones advance it. -/
def State.serGood (s : State) (n field : Nat) : State :=
  let x := s.fb n
  let len := s.g (fbP n) R.Fb.POS_LEN
  let s1 := s.pTs (fbP n) R.Fb.PFI_SER_TS_LO R.Fb.PFI_SER_TS_HI x.reqStamp
  let s1 := s1.psB (fbP n) R.Fb.STAT_SER_OK true
  let s1 := s1.setFb n { s1.fb n with
      gotWord := true, noCheck := false, field := field, lastGood := true, missed := 0,
      goodAt := x.reqAt }
  let s2 :=
    if !x.gotWord then
      let raw : Int := (field : Nat)
      let s2 := (s1.setFb n { s1.fb n with raw := raw, hcnt := raw }).pI (fbP n) R.Fb.PFI_RAW raw
      let s2 := (s2.poFeed 0 n (raw - x.raw)).poFeed 1 n (raw - x.raw)
      s2.setOrigin n (s.gs (fbP n) R.Fb.PFI_HOME_POS) 0
    else (s1.fbRaw n (x.raw + toS len (field + 2 ^ len - x.field % 2 ^ len)) x.reqStamp).fbValidate n
  let y := s2.fb n
  if y.winOpen then s2 else s2.setFb n { y with winOpen := true, winAt := s2.tbs.el, winRaw := y.raw }

/-- A bad serial word (R129): counted, raised and fed to the filter. -/
def State.serBad (s : State) (n : Nat) (cnt : Fld) (bit : Nat) : State :=
  (s.incIrq (fbP n) cnt (fbP n) bit).fbOccur n

/-- A serial word is received and classified (R128, R129). `PFI_SER_WORD` shows the whole data word, after the Gray
decoding, which runs over all `DATA_LEN` bits (DESIGN CHOICE, log entry 153). -/
def State.serWord (s : State) (n : Nat) (started : Bool) (data : Nat) (nE nW : Bool) (crc delay : Nat) : State :=
  if !s.serRuns n then s else
  let biss := s.g (fbP n) R.Fb.MODE == 2
  let dl := s.g (fbP n) R.Fb.DATA_LEN
  let cl := s.g (fbP n) R.Fb.CRC_LEN
  let raw := data % 2 ^ dl
  let word := if !biss && s.b (fbP n) R.Fb.GRAY then grayDecode dl raw else raw
  let field := word / 2 ^ s.g (fbP n) R.Fb.POS_LSB % 2 ^ s.g (fbP n) R.Fb.POS_LEN
  if !started then s.serBad n R.Fb.TMO_CNT 6 else
  let s := (s.wr (fbP n + R.Fb.PFI_SER_WORD_LO.off) (lo32 word)).wr (fbP n + R.Fb.PFI_SER_WORD_HI.off) (hi32 word)
  let s := if biss && !(s.fb n).sageTap then s.p (fbP n) R.Fb.PFI_SER_DELAY (min delay 65535) else s
  let len := s.g (fbP n) R.Fb.POS_LEN
  let x := s.fb n
  let diff := toS len (field + 2 ^ len - x.field % 2 ^ len)
  if biss && cl != 0 && crc % 2 ^ cl != serCrc (s.g (fbP n) R.Fb.PFI_SER_POLY) cl dl raw nE nW then
    s.serBad n R.Fb.CRC_CNT 6
  else if biss && !nE then s.serBad n R.Fb.NE_CNT 6
  else if x.gotWord && !x.noCheck && decide (s.g (fbP n) R.Fb.MAXSTEP < diff.natAbs) then s.serBad n R.Fb.JUMP_CNT 8
  else (if biss && !nW then s.irq (fbP n) 7 else s).serGood n field

/-- The index latch of a rising edge of the selected index, accepted `k` filter clocks ago (R122, R130). -/
def State.indexLatch (s : State) (n : Nat) (probe : Bool) (k : Nat) : State :=
  let x := s.fb n
  let up := s.b (fbP n) R.Fb.STAT_DIRH
  let s1 := (s.pI (fbP n) R.Fb.PFI_IDX_LATCH x.raw).pTs (fbP n) R.Fb.PFI_IDX_TS_LO R.Fb.PFI_IDX_TS_HI (s.edgeStamp n probe k)
  let s1 := s1.irq (fbP n) 1
  let s2 := match x.idx with
    | some (prev, d) =>
      if d == up && !x.idxRev then
        let iv := x.raw - prev
        let t := s1.pI (fbP n) R.Fb.PFI_IDX_INTERVAL iv
        let sp := s.g (fbP n) R.Fb.IDX_SPACING
        if sp ≠ 0 ∧ s.g (fbP n) R.Fb.DRIFT_LIMIT < ((iv.natAbs : Int) - sp).natAbs then
          (t.incIrq (fbP n) R.Fb.DRIFT_CNT (fbP n) 2).fbOccur n
        else t
      else s1
    | none => s1
  let s3 := s2.setFb n { s2.fb n with idx := some (x.raw, up), idxRev := false }
  if s3.b (fbP n) R.Fb.CTRL_ORG_ARM then
    ((s3.setOrigin n (s.gs (fbP n) R.Fb.PFI_HOME_POS) x.hcnt).p (fbP n) R.Fb.CTRL_ORG_ARM 0).irq (fbP n) 5
  else s3

/-- The input `Z` stands at `lvl` for `clks` samples (R115, R130): `Z_LVL` follows the accepted level whatever `ZSRC`
selects. -/
def State.zLevel (s : State) (n : Nat) (lvl : Bool) (clks : Nat) : State :=
  let (f, t) := (s.fb n).fZ.see lvl clks (s.filtN n false)
  let s1 := s.setFb n { s.fb n with fZ := f }
  match t with
  | none => s1
  | some k =>
    let inv := s.b (fbP n) R.Fb.Z_INV
    let was := s.b (fbP n) R.Fb.STAT_Z_LVL != inv
    let s2 := s1.psB (fbP n) R.Fb.STAT_Z_LVL lvl
    if s.b (fbP n) R.Hdr.CTRL_EN && s.g (fbP n) R.Fb.ZSRC == 0 && !was && (lvl != inv) then s2.indexLatch n false k else s2

/-- The latched position of a probe edge and whether it is stale (R131, R132). -/
def State.probePos (s : State) (n stamp : Nat) : Int × Bool :=
  let p := s.gs (fbP n) R.Fb.PFI_POS
  if !s.fbSerial n then (p, false) else
  let tw := s.gTs (fbP n) R.Fb.PFI_SER_TS_LO R.Fb.PFI_SER_TS_HI
  if (s.fb n).gotWord && decide (stamp ≤ tw + 2 * s.serPeriod n) then
    (p + Int.tdiv (s.gs (fbP n) R.Fb.PFI_SPD * ((stamp : Int) - tw)) 1000000000, false)
  else (p, true)

/-- An edge accepted `i` filter clocks ago finds probe latch `k` free and fills it, or is counted (R131); while `FAULT` is 1
no latch fills (R137). -/
def State.probeLatch (s : State) (n k i : Nat) : State :=
  let full := s.g (fbP n) R.Fb.FULL
  if bitOf full k then s.incIrq (fbP n) R.Fb.OVR_CNT (fbP n) 10
  else if s.b (fbP n) R.Fb.STAT_FAULT then s
  else
    let st := s.edgeStamp n true i
    let (p, stale) := s.probePos n st
    let pg := prbP n k
    let s1 := ((s.pI pg R.Fb.PRB_RAW (s.fb n).raw).pI pg R.Fb.PRB_POS p).pTs pg R.Fb.PRB_TS_LO R.Fb.PRB_TS_HI st
    let s2 := s1.p (fbP n) R.Fb.FULL (Nat.lor full (2 ^ k))
    let sl := s.g (fbP n) R.Fb.STALE
    let s3 := s2.p (fbP n) R.Fb.STALE
      (if stale then Nat.lor sl (2 ^ k) else Nat.land sl (Nat.xor 15 (2 ^ k)))
    s3.irq (fbP n) 9

/-- An accepted level of probe input 0 or 1, before `INV`, `k` filter clocks ago (R130, R131). -/
def State.probeEdge (s : State) (n q : Nat) (lvl : Bool) (k : Nat) : State :=
  let inv := s.b (fbP n) (if q = 0 then R.Fb.P0_INV else R.Fb.P1_INV)
  let fld := if q = 0 then R.Fb.STAT_P0_LVL else R.Fb.STAT_P1_LVL
  let was := s.b (fbP n) fld
  let now := lvl != inv
  let s1 := s.psB (fbP n) fld now
  if was == now || !s.b (fbP n) R.Hdr.CTRL_EN then s1 else
  let rise := s.b (fbP n) (if q = 0 then R.Fb.P0_RISE else R.Fb.P1_RISE)
  let fall := s.b (fbP n) (if q = 0 then R.Fb.P0_FALL else R.Fb.P1_FALL)
  let s2 := if now && rise then s1.probeLatch n (2 * q) k else if !now && fall then s1.probeLatch n (2 * q + 1) k else s1
  if now && s.g (fbP n) R.Fb.ZSRC == 1 + q then s2.indexLatch n true k else s2

/-- A probe input stands at `lvl` for `clks` samples (R115). -/
def State.probeLevel (s : State) (n q : Nat) (lvl : Bool) (clks : Nat) : State :=
  let x := s.fb n
  let (f, t) := (if q = 0 then x.f0 else x.f1).see lvl clks (s.filtN n true)
  let s1 := s.setFb n (if q = 0 then { x with f0 := f } else { x with f1 := f })
  match t with
  | none => s1
  | some k => s1.probeEdge n q lvl k

/-- A write of a compare's control word: its fields take the write, then `DISARM`, then `ARM` (R133, R134, R136). -/
def State.cmpWrite (s : State) (n c : Nat) (v : Word) : State :=
  let s1 := s.land (cmpP n c + 0x104) v
  let s2 := (s1.p (cmpP n c) R.Fb.CMP_ARM 0).p (cmpP n c) R.Fb.CMP_DISARM 0
  let s3 := if fget R.Fb.CMP_DISARM v = 1 then s2.p (cmpP n c) R.Fb.CMP_ARMED 0 else s2
  if fget R.Fb.CMP_ARM v = 0 then s3
  else if s3.g (cmpP n c) R.Fb.CMP_DIR = 0 then s3.flt (fbP n)
  else if !s3.b (fbP n) R.Fb.STAT_VALID then s3.cmpMiss n c
  else if s3.cmpBehind n c then s3.cmpLate n c s3.stamp
  else s3.p (cmpP n c) R.Fb.CMP_ARMED 1

/-- A write of a channel's `STAT` (R138). -/
def State.fbStatWrite (s : State) (n : Nat) (v : Word) : State :=
  if fget R.Fb.STAT_FAULT v = 1 && s.fwLasting (0xA0 + n) then s.flt (fbP n)
  else if fget R.Fb.STAT_FAULT v = 1 && s.b (fbP n) R.Fb.STAT_FAULT then
    let s1 := s.psB (fbP n) R.Fb.STAT_FAULT false
    if s.fbSerial n then s1 else (s1.psB (fbP n) R.Fb.STAT_ORG_SET false).fbValidate n
  else s

/-- A write of `PFI_SNAP` (R143). -/
def State.fbSnap (s : State) (v : Word) : State :=
  (List.range 8).foldl (fun m n =>
    if bitOf v.toNat n then
      ((m.pI (fbP n) R.Fb.PFI_SNAP_RAW (m.fb n).raw).p (fbP n) R.Fb.PFI_SNAP_POS (m.g (fbP n) R.Fb.PFI_POS)).pTs
        (fbP n) R.Fb.PFI_SNAP_TS_LO R.Fb.PFI_SNAP_TS_HI m.stamp
    else m) s

/-- A pulse output makes one step towards zero `PEND` (R141, R142). -/
def State.poStep (s : State) (k : Nat) : State :=
  let src := s.g (poP k) R.Po.SRC
  let pend := s.gs (poP k) R.Po.PFI_PO_PEND
  if !s.b (poP k) R.Hdr.CTRL_EN || !s.b (fbP src) R.Hdr.CTRL_EN || s.b (fbP src) R.Fb.STAT_FAULT || pend == 0 then s else
  let s1 := s.advanceTo ((s.po k).lastEdge + s.g (poP k) R.Po.MIN_GAP * s.pfiTf)
  let up := decide (0 < pend) != s.b (poP k) R.Po.INV
  let s2 := s1.setPo k { s1.po k with phase := ((s1.po k).phase + if up then 1 else 3) % 4, lastEdge := s1.tbs.el }
  (s2.pI (poP k) R.Po.PFI_PO_PEND (if 0 < pend then pend - 1 else pend + 1)).psB (poP k) R.Po.STAT_SAT false

end Sys2Proof.Machine
end

