-- ==== Sys2Proof/Machine/Map.lean ====
section
/-! DEFINITION. The shaft map of MPG: zones, arming checks and `WHERE` (R16 to R47), and the signals the safety lanes
give to the hoist. -/

namespace Sys2Proof.Machine

/-! ### Signals of the lanes -/

/-- `LOCKED` of a car (R206, R335). -/
def State.locked (s : State) (c : Nat) : Bool :=
  s.b sioC (if c = 0 then R.SioC.STAT_LOCKED_U else R.SioC.STAT_LOCKED_L)

/-- The re-levelling permission of a car (R340). -/
def State.rlvOk (s : State) (c : Nat) : Bool :=
  s.b sioC (if c = 0 then R.SioC.STAT_RLV_OK_U else R.SioC.STAT_RLV_OK_L)

/-- The door-opening permission of a car (R339). -/
def State.sioOk (s : State) (c : Nat) : Bool :=
  s.b sioC (if c = 0 then R.SioC.STAT_SIO_OK_U else R.SioC.STAT_SIO_OK_L)

/-- Both switches of both outputs of a group are closed. -/
def State.groupOn (s : State) (g : Nat) : Bool :=
  s.b (sogP g) R.Sog.STAT_HS0 && s.b (sogP g) R.Sog.STAT_LS0 &&
  s.b (sogP g) R.Sog.STAT_HS1 && s.b (sogP g) R.Sog.STAT_LS1

/-- A lane holds the main contactor group of a car de-energised (R163, R168): a switch of the group is open. -/
def State.mainOpen (s : State) (c : Nat) : Bool := !s.groupOn (3 * c)

/-- A group is released (R334). -/
def State.released (s : State) (g : Nat) : Bool := s.b (sogP g) R.Sog.STAT_REL

/-! ### The SPB in force -/

/-- Bytes of an SPB image that differ from 0. -/
abbrev SpbT := List (Nat × Nat)
/-- A byte, a little-endian number, a signed word of an SPB image. -/
def tB (t : SpbT) (off : Nat) : Nat := Tab.get (fun _ => 0) t off
def tN (t : SpbT) (off : Nat) : Nat → Nat
  | 0 => 0
  | n + 1 => tB t off + 256 * tN t (off + 1) n
def tI (t : SpbT) (off : Nat) : Int := toS 32 (tN t off 4)

/-- A byte of the SPB in force (R293). -/
def State.spbB (s : State) (off : Nat) : Nat := Tab.get (fun _ => 0) s.safe.spb off

/-- `n` bytes of the SPB in force, little-endian. -/
def State.spbN (s : State) (off : Nat) : Nat → Nat
  | 0 => 0
  | n + 1 => s.spbB off + 256 * State.spbN s (off + 1) n

/-- Offset of a car section (R293). -/
abbrev spbCar (c : Nat) : Nat := 0x0C0 + 0x180 * c

/-- A signed word of the SPB. -/
def State.spbI (s : State) (off : Nat) : Int := toS 32 (s.spbN off 4)

/-- `CARS` of the SPB in force (R294). -/
def State.spbCars (s : State) : Nat := s.spbB 0x006

/-! ### The motion copy -/

/-- Page shift of a car's geometry registers (R46). -/
abbrev carP (c : Nat) : Nat := mpgC + 0x40 * (c % 2)

/-- The two cars of a twin-car shaft are declared (R31). -/
def State.twin (s : State) : Bool := s.g mpgC R.MpgC.CARS == 3

/-- Highest landing (R42). -/
def State.ldgLast (s : State) : Nat := s.g mpgC R.MpgC.LDG_LAST

/-- Sill of a landing. -/
def State.sill (s : State) (n : Nat) : Int := s.gs (ldgP n) R.Ldg.SILL

/-- Whether a car serves a landing (R23). -/
def State.serves (s : State) (c n : Nat) : Bool :=
  s.b (ldgP n) (if c = 0 then R.Ldg.SERVE_U else R.Ldg.SERVE_L)

/-- Whether a car is armed (R44). -/
def State.armed (s : State) (c : Nat) : Bool :=
  s.b mpgC (if c = 0 then R.MpgC.MAP_ARMED_U else R.MpgC.MAP_ARMED_L)

/-- In the door zone of landing n (R19). -/
def State.inDz (s : State) (n : Nat) (p : Int) : Bool :=
  decide (s.sill n - s.g (ldgP n) R.Ldg.DZ_LO ≤ p) && decide (p ≤ s.sill n + s.g (ldgP n) R.Ldg.DZ_HI)

/-- In the unlocking zone of landing n (R19). -/
def State.inUz (s : State) (n : Nat) (p : Int) : Bool :=
  decide (s.sill n - s.g (ldgP n) R.Ldg.UZ_LO ≤ p) && decide (p ≤ s.sill n + s.g (ldgP n) R.Ldg.UZ_HI)

/-- Whether the bottom and the top terminal zone are in force for a car (R27, R32). -/
def State.botZone (s : State) (c : Nat) : Bool := !s.twin || c == 1
def State.topZone (s : State) (c : Nat) : Bool := !s.twin || c == 0

/-- In a terminal zone in force (R24). -/
def State.inTz (s : State) (c : Nat) (p : Int) : Bool :=
  (s.botZone c && decide (p ≤ s.gs (carP c) R.MpgC.CAR_TZ_BOT)) ||
  (s.topZone c && decide (s.gs (carP c) R.MpgC.CAR_TZ_TOP ≤ p))

/-- The landing with the nearest sill, the lower on a tie (R40). -/
def State.nearest (s : State) (p : Int) : Nat :=
  (List.range (s.ldgLast + 1)).foldl (fun m n =>
    if (p - s.sill n).natAbs < (p - s.sill m).natAbs then n else m) 0

/-! ### Sources -/

/-- The channel of a car's source: primary or secondary (R165). -/
def State.srcPri (s : State) (c : Nat) : Nat := s.g (mpgP c) R.Mpg.MPG_SRC_SRC_PRI
def State.srcSec (s : State) (c : Nat) : Nat := s.g (mpgP c) R.Mpg.MPG_SRC_SRC_SEC

/-- `VALID` of a feedback channel (R124). -/
def State.chValid (s : State) (n : Nat) : Bool := s.b (fbP n) R.Fb.STAT_VALID

/-- The source in use: the primary while it is `VALID`, else the secondary while that is; with neither, the primary
until it is lost (R40, R165, R166; log entry 20). -/
def State.srcUse (s : State) (c : Nat) : Nat :=
  if s.chValid (s.srcPri c) then s.srcPri c
  else if s.chValid (s.srcSec c) then s.srcSec c
  else if s.b (mpgP c) R.Mpg.STAT_PRI_LOST then s.srcSec c else s.srcPri c

/-- Position and speed of the source in use. -/
def State.carPos (s : State) (c : Nat) : Int := s.gs (fbP (s.srcUse c)) R.Fb.PFI_POS
def State.carSpd (s : State) (c : Nat) : Int := s.gs (fbP (s.srcUse c)) R.Fb.PFI_SPD

/-- The source in use is `VALID`. -/
def State.carValid (s : State) (c : Nat) : Bool := s.chValid (s.srcUse c)

/-- `WHERE` of a car (R40). While the source in use is not `VALID` after a new arming, the other fields read 0, not the
last resolution made before the disarming (DESIGN CHOICE, log entry 163). -/
def State.whereUpdate (s : State) (c : Nat) : State :=
  if !s.armed c then s.wr (carP c + R.MpgC.CAR_WHERE_LDG.off) 0#32
  else if !s.carValid c then s.p (carP c) R.MpgC.CAR_WHERE_VALID 0
  else
    let p := s.carPos c
    let n := s.nearest p
    s.wr (carP c + R.MpgC.CAR_WHERE_LDG.off)
      (wd (n + b2n (s.inDz n p) * 0x100 + b2n (s.inUz n p) * 0x200 + b2n (s.inTz c p) * 0x400 + 0x1000))

/-! ### Arming checks (R34) -/

/-- A failed check: `ERR`, `ERR_LDG`, `ERR_CAR`. -/
structure MapErr where
  err : Nat
  ldg : Nat := 0
  car : Bool := false
deriving DecidableEq, Repr

/-- The first landing that fails a row. -/
def State.firstLdg (s : State) (err : Nat) (bad : Nat → Bool) : Option MapErr :=
  ((List.range (s.ldgLast + 1)).find? bad).map fun n => ⟨err, n, false⟩

/-- The static distance G (R29, R30). -/
def State.sepG (s : State) : Int :=
  s.g (carP 0) R.MpgC.CAR_OFS_BOT + s.g (carP 1) R.MpgC.CAR_OFS_TOP + s.g mpgC R.MpgC.DSEP

/-- Zone distances of a landing in range and order (R20). -/
def State.zoneBad (s : State) (n : Nat) : Bool :=
  let z := [s.g (ldgP n) R.Ldg.DZ_LO, s.g (ldgP n) R.Ldg.DZ_HI, s.g (ldgP n) R.Ldg.UZ_LO, s.g (ldgP n) R.Ldg.UZ_HI]
  z.any (fun d => d < 1000 || 200000 < d) ||
  decide (s.g (ldgP n) R.Ldg.UZ_LO < s.g (ldgP n) R.Ldg.DZ_LO) ||
  decide (s.g (ldgP n) R.Ldg.UZ_HI < s.g (ldgP n) R.Ldg.DZ_HI)

/-- Unlocking zones of landings n and n + 1 touch (R21). -/
def State.overlapBad (s : State) (n : Nat) : Bool :=
  decide (n < s.ldgLast) &&
  decide (s.sill (n + 1) - s.g (ldgP (n + 1)) R.Ldg.UZ_LO ≤ s.sill n + s.g (ldgP n) R.Ldg.UZ_HI)

/-- The car registers break R18 or R25, an ignored edge of R27 left out: of a twin-car shaft car U is then held to
`TRAVEL_MIN` < `TZ_TOP` ≤ `TRAVEL_MAX` and car L to `TRAVEL_MIN` ≤ `TZ_BOT` < `TRAVEL_MAX` (DESIGN CHOICE, log entry 25). -/
def State.travelBad (s : State) (c : Nat) : Bool :=
  let lo := s.gs (carP c) R.MpgC.CAR_TRAVEL_MIN
  let hi := s.gs (carP c) R.MpgC.CAR_TRAVEL_MAX
  let bot := s.gs (carP c) R.MpgC.CAR_TZ_BOT
  let top := s.gs (carP c) R.MpgC.CAR_TZ_TOP
  let order :=
    if !s.botZone c then decide (lo < top) && decide (top ≤ hi)
    else if !s.topZone c then decide (lo ≤ bot) && decide (bot < hi)
    else decide (lo ≤ bot) && decide (bot < top) && decide (top ≤ hi)
  decide (1000000000 < hi - lo) || !order

/-- R26 for a landing that the car serves. -/
def State.sillBad (s : State) (c n : Nat) : Bool :=
  s.serves c n && (decide (s.sill n < s.gs (carP c) R.MpgC.CAR_TRAVEL_MIN) ||
    decide (s.gs (carP c) R.MpgC.CAR_TRAVEL_MAX < s.sill n))

/-- R30, or R32 in a single-car shaft. -/
def State.reachBad (s : State) (n : Nat) : Bool :=
  if s.twin then
    (s.serves 0 n && decide (s.sill n - s.gs (carP 1) R.MpgC.CAR_TRAVEL_MIN < s.sepG)) ||
    (s.serves 1 n && decide (s.gs (carP 0) R.MpgC.CAR_TRAVEL_MAX - s.sill n < s.sepG))
  else s.serves 1 n

/-- A landing served by the car has a side the car lacks, or no side. -/
def State.doorBad (s : State) (c n : Nat) : Bool :=
  let fr := s.b (ldgP n) R.Ldg.FRONT
  let re := s.b (ldgP n) R.Ldg.REAR
  s.serves c n && ((fr && !s.b (carP c) R.MpgC.CAR_DOORS_FRONT) || (re && !s.b (carP c) R.MpgC.CAR_DOORS_REAR) ||
    (!fr && !re))

/-- Car registers that differ from the SPB, or a section not COMMISSIONED (R34). A terminal zone edge that R27 has ignored
is compared all the same (DESIGN CHOICE, log entry 162). -/
def State.spbCarBad (s : State) (c : Nat) : Bool :=
  let o := spbCar c
  let differs (f : Fld) (off : Nat) : Bool := s.g (carP c) f != s.spbN (o + off) 4
  differs R.MpgC.CAR_TRAVEL_MIN 0x000 || differs R.MpgC.CAR_TRAVEL_MAX 0x004 || differs R.MpgC.CAR_TZ_BOT 0x008 ||
  differs R.MpgC.CAR_TZ_TOP 0x00C || differs R.MpgC.CAR_OFS_TOP 0x010 || differs R.MpgC.CAR_OFS_BOT 0x014 ||
  !s.commissioned c

/-- Whether bit n of the SPB service flags of a car is set (R296). -/
def State.spbServes (s : State) (c n : Nat) : Bool := bitOf (s.spbB (spbCar c + 0x048 + n / 8)) (n % 8)

/-- A landing that differs from the SPB (R298). -/
def State.spbLdgBad (s : State) (c n : Nat) : Bool :=
  let o := 0x3C0 + 12 * n
  s.g (ldgP n) R.Ldg.SILL != s.spbN o 4 || s.g (ldgP n) R.Ldg.DZ_LO != 4 * s.spbN (o + 4) 2 ||
  s.g (ldgP n) R.Ldg.DZ_HI != 4 * s.spbN (o + 6) 2 || s.g (ldgP n) R.Ldg.UZ_LO != 4 * s.spbN (o + 8) 2 ||
  s.g (ldgP n) R.Ldg.UZ_HI != 4 * s.spbN (o + 10) 2 || s.serves c n != s.spbServes c n

/-- R31 and R33. -/
def State.carsBad (s : State) (c : Nat) : Bool :=
  let cars := s.g mpgC R.MpgC.CARS
  cars == 0 || cars == 2 || (c == 1 && cars == 1) || !s.safe.spbIn || cars != s.spbCars || (s.lh6161 && cars == 3)

/-- A row of the check table that tests the car. -/
def carRow (err : Nat) (bad : Bool) : Option MapErr := if bad then some ⟨err, 0, true⟩ else none

/-- The first failure of the checks for a car, row by row (R34). -/
def State.mapCheck (s : State) (c : Nat) : Option MapErr :=
  (if s.carsBad c then some ⟨1, 0, false⟩ else none)
  <|> ((List.range s.ldgLast).find? fun n => decide (s.sill (n + 1) ≤ s.sill n)).map (fun n => ⟨2, n + 1, false⟩)
  <|> s.firstLdg 3 s.zoneBad
  <|> s.firstLdg 4 s.overlapBad
  <|> carRow 5 (s.travelBad c)
  <|> s.firstLdg 5 (s.sillBad c)
  <|> s.firstLdg 6 s.reachBad
  <|> s.firstLdg 7 (s.doorBad c)
  <|> carRow 8 (s.spbCarBad c)
  <|> s.firstLdg 8 (s.spbLdgBad c)

end Sys2Proof.Machine
end

