-- ==== Sys2Proof/Machine/Doors.lean ====
section
/-! DEFINITION. The door motor channels of DMC: profiles, how motions end, out of service, obstructions, permissions
(R237 to R271). -/

namespace Sys2Proof.Machine

/-- A channel's hidden state. -/
def State.door (s : State) (n : Nat) : Door := Tab.get (fun _ => ({} : Door)) s.doors n
def State.setDoor (s : State) (n : Nat) (x : Door) : State := { s with doors := Tab.set (fun _ => ({} : Door)) s.doors n x }

/-- `DSTATE` (R259): 0 OFF, 1 UNHOMED, 2 HOMING, 3 IDLE, 4 OPENING, 5 CLOSING, 6 STOPPING, 7 REVERSING, 8 CAL, 9 OUT. -/
def State.dst (s : State) (n : Nat) : Nat := s.g (dmcP n) R.Dmc.STAT_DSTATE

/-- Channels present (R3). -/
def State.doorCount (s : State) : Nat := if s.lh6161 then 4 else 8

/-! ### Arithmetic -/

/-- Integer square root, bit by bit. -/
def sqrtBits (x : Nat) : Nat → Nat → Nat
  | 0, r => r
  | n + 1, r => let t := r + 2 ^ n; sqrtBits x n (if t * t ≤ x then t else r)
def sqrtN (x : Nat) : Nat := sqrtBits x 64 0

/-- cos and sin of 2^i / 1,024 revolution, in 2⁻⁴⁰. -/
def cisBase : List (Int × Int) :=
  [(1099490929780, 6746476518), (1099428836573, 13492699036), (1099180475430, 26983366121),
   (1098187217867, 53950478471), (1094217178761, 107770985514), (1078384820155, 214504077523),
   (1015816288660, 420764883643), (777472127994, 777472127994), (0, 1099511627776),
   (-1099511627776, 0)]

/-- cos and sin of `k` / 1,024 revolution, in 2⁻⁴⁰. -/
def cis (k : Nat) : Int × Int :=
  ((cisBase.zip (List.range 10)).foldl (fun (p : Int × Int) (q, i) =>
    if bitOf k i then ((p.1 * q.1 - p.2 * q.2) / 2 ^ 40, (p.1 * q.2 + p.2 * q.1) / 2 ^ 40) else p) (2 ^ 40, 0))

/-- The whole part of atan2(y, x) in 1/1,024 revolution, 0 to 1,023. -/
def atan2u (x y : Int) : Nat :=
  let low := decide (y < 0) || (y == 0 && decide (x < 0))
  let (x, y) := if low then (-x, -y) else (x, y)
  ([256, 128, 64, 32, 16, 8, 4, 2, 1].foldl (fun (t : Nat) b =>
    let c := cis (t + b)
    if t + b < 512 ∧ 0 ≤ c.1 * y - c.2 * x then t + b else t) 0) + if low then 512 else 0

/-- Wrap to −512 .. 511. -/
def wrap1024 (d : Int) : Int := (d + 512) % 1024 - 512

/-! ### Registers that follow the motion -/

/-- Whole microsteps of the commanded position. -/
def Door.ustep (x : Door) : Int := fdiv x.pos (2 ^ 16)

/-- Position, speed, energy and `STALL_VALID` follow the hidden state (R242, R246, R247, R250). -/
def State.doorShow (s : State) (n : Nat) : State :=
  let pg := dmcP n
  let x := s.door n
  let v : Nat := x.v / 2 ^ 16
  let rest := x.v = 0 && [1, 3, 8].contains (s.dst n)
  let s := (s.pI pg R.Dmc.DMC_POS x.ustep).pI pg R.Dmc.DMC_POS_UM (fdiv (x.ustep * s.g pg R.Dmc.DMC_GEOM_UM_PER_STEP) 256)
  let ekin : Nat := min (s.g pg R.Dmc.DMC_MASS * v * v / 2000000000) (2 ^ 32 - 1)
  let vs : Int := if x.up then v else -v
  let s := (s.pI pg R.Dmc.DMC_SPEED vs).p pg R.Dmc.DMC_EKIN ekin
  let s := (s.psB pg R.Dmc.STAT_AT_OPEN (rest && x.ustep == s.gs pg R.Dmc.DMC_OPEN_POS)).psB pg
    R.Dmc.STAT_AT_CLOSED (rest && x.ustep == s.gs pg R.Dmc.DMC_CLOSED_POS)
  let valid := x.v != 0 && decide (s.g pg R.Dmc.STALL_VMIN ≤ v)
  let s := s.psB pg R.Dmc.STAT_STALL_VALID valid
  if valid then s
  else ((s.p pg R.Dmc.LOAD_ANGLE 0).p pg R.Dmc.DMC_F_EST 0).setDoor n { s.door n with stallFrom := none, fCount := 0 }

/-! ### Profiles (R246, R247) -/

/-- Microsteps of 2⁻¹⁶ as µm of 2⁻¹⁶, and back. -/
def State.toUm (s : State) (n d : Nat) : Nat := d * s.g (dmcP n) R.Dmc.DMC_GEOM_UM_PER_STEP / 256
def State.toStep (s : State) (n d : Nat) : Nat := d * 256 / max 1 (s.g (dmcP n) R.Dmc.DMC_GEOM_UM_PER_STEP)

/-- The speed of a stretch after `t` ns, and the way made in it, in 2⁻¹⁶ µm/s and 2⁻¹⁶ µm. -/
def DSeg.speed (g : DSeg) (t : Nat) : Nat := ((g.v : Int) + fdiv (g.a * t * 2 ^ 16) 1000000000).toNat
def DSeg.way (g : DSeg) (t : Nat) : Nat := (fdiv ((g.v : Int) * t) 1000000000 + fdiv (g.a * t * t * 2 ^ 15) 1000000000000000000).toNat

/-- Where a profile stands. -/
structure DPt where
  /-- Way made toward larger positions less way made toward smaller ones, and the sum of both, in 2⁻¹⁶ µm. -/
  net : Int := 0
  path : Nat := 0
  v : Nat := 0
  up : Bool := false
  done : Bool := false
deriving DecidableEq, Repr

/-- Where the profile stands after `t` ns. -/
def profileAt : List DSeg → Nat → DPt → DPt
  | [], _, p => { p with v := 0, done := true }
  | g :: rest, t, p =>
    let w := g.way (min t g.ns)
    let q : DPt := { p with net := if g.up then p.net + w else p.net - w, path := p.path + w, up := g.up }
    if t < g.ns then { q with v := g.speed t } else profileAt rest (t - g.ns) q

/-- The length of a profile in ns. -/
def profileNs (gs : List DSeg) : Nat := gs.foldl (fun t g => t + g.ns) 0

/-- The tick at or before a real time, and the one at or after it (R246). -/
def State.tickOf (s : State) (t : Nat) : Nat := s.hoist.base + (t - s.hoist.base) / 10000 * 10000
def State.tickFrom (s : State) (t : Nat) : Nat := s.hoist.base + cdiv (t - s.hoist.base) 10000 * 10000

/-- The tick on which the profile in force is over. -/
def State.doorEnd (s : State) (n : Nat) : Nat := s.tickFrom ((s.door n).startAt + profileNs (s.door n).segs)

/-- Where the channel stands at the tick `t`: position in 2⁻¹⁶ microstep, speed, travel of homing. At its end a move
stands at its target (R246). -/
def State.doorAt (s : State) (n t : Nat) : Door :=
  let x := s.door n
  if x.segs.isEmpty || decide (t < x.startAt) then x else
  let p := profileAt x.segs (t - x.startAt) { up := x.up }
  let k : Nat := s.toStep n p.net.natAbs
  let pos := if p.done && (s.dst n == 4 || s.dst n == 5) then x.target * 2 ^ 16
    else if 0 ≤ p.net then x.org + k else x.org - k
  { x with pos := pos, v := p.v, up := p.up, travel := x.travel0 + s.toStep n p.path, segs := if p.done then [] else x.segs,
           settleAt := if p.done && (s.dst n == 4 || s.dst n == 5) then some (s.doorEnd n) else x.settleAt }

/-- The channel stands where its profile is at the last tick. -/
def State.doorSync (s : State) (n : Nat) : State :=
  if (s.door n).segs.isEmpty then s else (s.setDoor n (s.doorAt n (s.tickOf s.tbs.el))).doorShow n

/-- A new profile from the position at the last tick. -/
def State.doorSegs (s : State) (n : Nat) (gs : List DSeg) : State :=
  let x := s.door n
  s.setDoor n { x with segs := gs, startAt := if x.v = 0 then s.tbs.el else s.tickOf s.tbs.el, org := x.pos, travel0 := x.travel }

/-- Time in ns in which the speed changes by `dv` (2⁻¹⁶ µm/s) at `a` µm/s². -/
def rampNs (dv a : Nat) : Nat := dv * 1000000000 / (max 1 a * 2 ^ 16)

/-- Way in 2⁻¹⁶ µm from one speed to a higher one at `a`. -/
def rampWay (v w a : Nat) : Nat := (w * w - v * v) / (2 * max 1 a * 2 ^ 16)

/-- A stretch that slows from `v` to `w` at `dec`; one at constant speed over a way. -/
def slowSeg (v w dec : Nat) (up : Bool) : DSeg := { ns := rampNs (v - w) dec, v := v, a := -(dec : Int), up := up }
def evenSeg (v way : Nat) (up : Bool) : DSeg := { ns := way * 1000000000 / max 1 v, v := v, up := up }

/-- The profile of `r` (2⁻¹⁶ µm) in one direction from speed `v`: rise at `acc` to Vc, fall at `dec` to `V_CREEP` exactly
`creep` before the target, creep (R246). A speed above Vc first falls to it; one from which `V_CREEP` comes too late falls
at once (DESIGN CHOICE, log entry 158). -/
def planFwd (acc dec creep vc vcreep v r : Nat) (up : Bool) : List DSeg :=
  let c := vc * 2 ^ 16
  let w := vcreep * 2 ^ 16
  let slow := rampWay w v dec
  if r ≤ creep then
    if w < v then [slowSeg v w dec up, evenSeg w (r - slow) up] else [evenSeg w r up]
  else
    let S := r - creep
    let peak := sqrtN ((2 * acc * dec * S * 2 ^ 16 + dec * v * v + acc * w * w) / max 1 (acc + dec))
    if S < slow then [slowSeg v w dec up, evenSeg w (r - slow) up]
    else if c < v then
      [slowSeg v c dec up, evenSeg c (S - rampWay c v dec - rampWay w c dec) up, slowSeg c w dec up, evenSeg w creep up]
    else if min c peak ≤ w then
      let p := min c (sqrtN (v * v + 2 * acc * S * 2 ^ 16))
      [{ ns := rampNs (p - v) acc, v := v, a := acc, up := up }, evenSeg p (S - rampWay v p acc) up, evenSeg w creep up]
    else
      let p := min c peak
      [{ ns := rampNs (p - v) acc, v := v, a := acc, up := up }, evenSeg p (S - rampWay v p acc - rampWay w p dec) up,
       slowSeg p w dec up, evenSeg w creep up]

/-- Whether a direction is the closing one. -/
def State.closingDir (s : State) (n : Nat) (up : Bool) : Bool :=
  decide (s.gs (dmcP n) R.Dmc.DMC_OPEN_POS < s.gs (dmcP n) R.Dmc.DMC_CLOSED_POS) == up

/-- `v` limited to v_E for motion in a direction (R247). -/
def State.capSpeed (s : State) (n v : Nat) (up : Bool) : Nat :=
  let pg := dmcP n
  let E := if s.closingDir n up then s.g pg R.Dmc.DMC_E_CLOSE else s.g pg R.Dmc.DMC_E_OPEN
  if !s.closingDir n up && E = 0 then v else min v (sqrtN (2000000000 * E / max 1 (s.g pg R.Dmc.DMC_MASS)))

/-- The profile of a move to a target from rest at a position, with its Vc and `V_CREEP` (R246, R247). -/
def State.planRest (s : State) (n : Nat) (pos target : Int) : List DSeg × Nat × Nat :=
  let pg := dmcP n
  let up := decide (pos < target * 2 ^ 16)
  let vc := s.capSpeed n (s.g pg (if s.closingDir n up then R.Dmc.V_CLOSE else R.Dmc.V_OPEN)) up
  let cr := s.capSpeed n (s.g pg R.Dmc.V_CREEP) up
  let r := s.toUm n (target * 2 ^ 16 - pos).natAbs
  (if r = 0 then [] else
    planFwd (s.g pg R.Dmc.DMC_ACC) (s.g pg R.Dmc.DMC_DEC) (s.toUm n (s.g pg R.Dmc.CREEP_DIST * 2 ^ 16)) vc cr 0 r up, vc, cr)

/-- The profile of a move from the present motion (R246): against it, or where the target comes before `V_CREEP` is
reached, the speed first falls to 0 at `DEC`. -/
def State.planMove (s : State) (n : Nat) (target : Int) : List DSeg × Nat × Nat :=
  let pg := dmcP n
  let x := s.door n
  let D := s.g pg R.Dmc.DMC_DEC
  let up := decide (x.pos < target * 2 ^ 16)
  let r := s.toUm n (target * 2 ^ 16 - x.pos).natAbs
  let (_, vc, cr) := s.planRest n x.pos target
  if x.v = 0 then s.planRest n x.pos target
  else if x.up = up && decide (rampWay (cr * 2 ^ 16) x.v D ≤ r) then
    (planFwd (s.g pg R.Dmc.DMC_ACC) D (s.toUm n (s.g pg R.Dmc.CREEP_DIST * 2 ^ 16)) vc cr x.v r up, vc, cr)
  else
    let b : Nat := s.toStep n (rampWay 0 x.v D)
    let (gs, vc, cr) := s.planRest n (if x.up then x.pos + b else x.pos - b) target
    (slowSeg x.v 0 D x.up :: gs, vc, cr)

/-- A ramp to rest at `DEC`. -/
def State.doorBrake (s : State) (n : Nat) : State :=
  let x := s.door n
  s.doorSegs n (if x.v = 0 then [] else [slowSeg x.v 0 (s.g (dmcP n) R.Dmc.DMC_DEC) x.up])

/-- The commanded speed is 0 from the next tick on (R251, R262). -/
def State.doorHalt (s : State) (n : Nat) : State :=
  let x := s.door n
  s.doorSegs n (if x.v = 0 then [] else [{ ns := 10000, v := x.v, up := x.up }])

/-- The motion is over at once. -/
def State.doorFreeze (s : State) (n : Nat) : State := s.setDoor n { s.door n with v := 0, segs := [] }

/-- The motor is de-energised: all eight gate outputs are 0 (R238). -/
def State.doorDark (s : State) (n : Nat) : State :=
  s.setDoor n { s.door n with held := false, energised := false, gates := [0, 0, 0, 0, 0, 0, 0, 0], dutyA := 0, dutyB := 0 }

/-- `DMC_SIDE_OUT` (R265): each rising bit raises `SIDE_OUT`. -/
def State.sideOut (s : State) : State :=
  let m := (List.range s.doorCount).foldl (fun m n =>
    if s.b (dmcP n) R.Hdr.CTRL_EN && s.dst n = 9 then
      Nat.lor m (2 ^ (2 * s.g (dmcP n) R.Dmc.CAR + s.g (dmcP n) R.Dmc.SIDE)) else m) 0
  let was := s.g dmcC R.DmcC.DMC_SIDE_OUT
  let s := s.p dmcC R.DmcC.DMC_SIDE_OUT m
  if Nat.lor was m = was then s else s.irq dmcC 0

/-- Write `DMC_RESULT`; a code other than `OK` raises `RESULT` (R255, R271). -/
def State.doorResult (s : State) (n code tag : Nat) : State :=
  let s := (s.p (dmcP n) R.Dmc.DMC_RESULT_CODE code).p (dmcP n) R.Dmc.DMC_RESULT_TAG tag
  if code = 0 then s else s.irq (dmcP n) 8

/-- Set `DSTATE`. -/
def State.setDst (s : State) (n v : Nat) : State := (s.ps (dmcP n) R.Dmc.STAT_DSTATE v).sideOut

/-- The channel starts calibration (R264): the motor is de-energised first. -/
def State.calStart (s : State) (n tag : Nat) (pend : Bool) : State :=
  let held := (s.door n).held
  let s := (s.doorFreeze n).doorDark n
  let s := s.setDoor n { s.door n with
    calPrev := s.dst n, calTag := tag, calAt := s.tbs.el, calPend := pend, calHeld := held, calRun := false }
  let s := if pend then s.ps (dmcP n) R.Dmc.STAT_CAL_PEND 0 else s
  (s.setDst n 8).doorShow n

/-- The channel enters IDLE or UNHOMED; a pending calibration starts (R259, R264). -/
def State.doorEnter (s : State) (n st : Nat) : State :=
  let s := if st = 1 then s.ps (dmcP n) R.Dmc.STAT_HOMED 0 else s
  let s := (s.setDst n st).doorShow n
  if s.b (dmcP n) R.Dmc.STAT_CAL_PEND then s.calStart n (s.door n).pendTag true else s

/-- A pending calibration that started in this clock gives way to a command of the same clock: the channel is back in the
state it entered, with `CAL_PEND` set (R258). -/
def State.calBack (s : State) (n : Nat) : State :=
  let x := s.door n
  if s.dst n = 8 && x.calPend && x.calAt = s.tbs.el then
    ((s.setDoor n { x with calPend := false, held := x.calHeld }).ps (dmcP n) R.Dmc.STAT_CAL_PEND 1).setDst n x.calPrev
  else s

/-- The channel comes to rest in a state, IDLE or UNHOMED. -/
def State.doorRest (s : State) (n st : Nat) : State :=
  (s.setDoor n { s.door n with settleAt := none, hstep := 0, stallFrom := none, fCount := 0 }).doorEnter n st

/-- The channel enters OUT (R265): a moving panel coasts. -/
def State.doorOut (s : State) (n reason : Nat) : State :=
  let pg := dmcP n
  let s := (s.doorFreeze n).doorDark n
  let s := s.setDoor n { s.door n with settleAt := none, hstep := 0, stallFrom := none, fCount := 0 }
  let s := ((s.ps pg R.Dmc.STAT_HOMED 0).ps pg R.Dmc.STAT_OOS 1).ps pg R.Dmc.STAT_OOS_REASON reason
  let s := ((s.setDst n 9).doorShow n).irq pg 7
  s.ikwOffer 0x141 (srcOf 0x0A n) [wd reason]

/-- The partner named by a channel, when the link holds (R257). -/
def State.doorLink (s : State) (n : Nat) : Option Nat :=
  let m := s.g (dmcP n) R.Dmc.LINK
  if s.b (dmcP n) R.Dmc.LINK_EN && s.b (dmcP m) R.Dmc.LINK_EN && s.g (dmcP m) R.Dmc.LINK == n && m != n &&
    s.g (dmcP n) R.Dmc.CAR == s.g (dmcP m) R.Dmc.CAR && s.g (dmcP n) R.Dmc.SIDE == s.g (dmcP m) R.Dmc.SIDE &&
    decide (m < s.doorCount) then some m else none

/-- OUT, and the partner of a link ramps to rest and follows with reason `PARTNER` (R257). -/
def State.doorOutLinked (s : State) (n reason : Nat) : State :=
  let s := s.doorOut n reason
  match s.doorLink n with
  | none => s
  | some m =>
    if s.dst m = 0 || s.dst m = 9 then s else
    let s := s.doorSync m
    if (s.door m).v = 0 then s.doorOut m 3
    else ((s.setDoor m { s.door m with endState := 9, endCode := 0, settleAt := none }).doorBrake m).setDst m 6

/-- One occurrence to filter 0xD4 + n; a lasting filter takes the channel OUT (R265). -/
def State.doorOccur (s : State) (n : Nat) : State :=
  let t := s.fwOccur (0xD4 + n)
  if becameLasting (0xD4 + n) s t && t.dst n ≠ 0 && t.dst n ≠ 9 then t.doorOutLinked n 1 else t

/-- A move to a target is planned (R246, R247). -/
def State.doorPlan (s : State) (n : Nat) (target : Int) (st tag : Nat) : State :=
  let (gs, vc, cr) := s.planMove n target
  let s := s.doorSegs n gs
  let s := s.setDoor n { s.door n with
    target := target, vc := vc, vcreep := cr, tag := tag, held := true,
    settleAt := if gs.isEmpty then some (s.tickFrom s.tbs.el) else none }
  (s.setDst n st).doorShow n

/-- The direction toward the home end (R261). -/
def State.homeUp (s : State) (n : Nat) : Bool :=
  let openUp := decide (s.gs (dmcP n) R.Dmc.DMC_CLOSED_POS < s.gs (dmcP n) R.Dmc.DMC_OPEN_POS)
  if s.b (dmcP n) R.Dmc.HOME_END then openUp else !openUp

/-- The motion of a step of homing (R261): `HOME_V`, capped, away from the home end in step 2, toward it in step 3, until
something ends it; a motion the other way first falls to 0. -/
def State.homeGo (s : State) (n step : Nat) : State :=
  let pg := dmcP n
  let x := s.door n
  let up := if step = 2 then !s.homeUp n else s.homeUp n
  let v := s.capSpeed n (s.g pg R.Dmc.HOME_V) up * 2 ^ 16
  let v0 := if x.up = up then min x.v v else 0
  let slow := if v0 < x.v then [slowSeg x.v v0 (s.g pg R.Dmc.DMC_DEC) x.up] else []
  let rise : DSeg := { ns := rampNs (v - v0) (s.g pg R.Dmc.DMC_ACC), v := v0, a := s.g pg R.Dmc.DMC_ACC, up := up }
  let s := s.doorSegs n (slow ++ [rise, { ns := 2 ^ 64, v := v, up := up }])
  s.setDoor n { s.door n with hstep := step }

/-- Time in ns in which a stretch makes a way, when it does (R246). -/
def DSeg.timeOf (g : DSeg) (way : Nat) : Option Nat :=
  let t := if g.a = 0 then cdiv (way * 1000000000) (max 1 g.v) else
    let w := sqrtN (((g.v * g.v : Nat) + g.a * 2 * way * 2 ^ 16).toNat)
    cdiv ((if 0 < g.a then w - g.v else g.v - w) * 1000000000) (g.a.natAbs * 2 ^ 16)
  if way ≤ g.way g.ns then some (min t g.ns) else none

/-- Time in ns from the start of a profile in which it makes a way. -/
def pathNs : List DSeg → Nat → Option Nat
  | [], _ => none
  | g :: rest, way =>
    match g.timeOf way with
    | some t => some t
    | none => (pathNs rest (way - g.way g.ns)).map fun t => t + g.ns

/-- The tick by which the profile in force has made a path (2⁻¹⁶ microstep) since its start. -/
def State.doorPathAt (s : State) (n d : Nat) : Option Nat :=
  let x := s.door n
  (pathNs x.segs (s.toUm n d)).map fun t => s.tickFrom (x.startAt + t)

/-! ### Events -/

/-- The obstruction of one channel (R251). -/
def State.obstruct1 (s : State) (n : Nat) : State :=
  let pg := dmcP n
  let x := s.door n
  let st := s.dst n
  if !(st = 2 || st = 4 || st = 5) then s else
  let f := s.rd (pg + R.Dmc.DMC_F_EST.off)
  let s := (s.inc pg R.Dmc.STALL_CNT).pTs pg R.Dmc.DMC_OBST_TS_LO R.Dmc.DMC_OBST_TS_HI s.stamp
  let s := (s.irq pg 2).ikwOffer 0x140 (srcOf 0x0A n) [s.rd (pg + R.Dmc.DMC_POS.off), f]
  let s := s.doorHalt n
  match st with
  | 5 => ((s.setDoor n { s.door n with revAt := s.tbs.el, settleAt := none, stallFrom := none, fCount := 0 }).setDst n 7).doorShow n
  | 4 => (s.doorResult n 0x10 x.tag).doorRest n 3
  | _ => ((s.doorResult n 0x10 x.tag).irq pg 5).doorRest n 1

/-- An obstruction, decided in both channels of a link (R251, R257). -/
def State.obstruct (s : State) (n : Nat) : State :=
  let s := s.obstruct1 n
  match s.doorLink n with
  | some m => (s.doorSync m).obstruct1 m
  | none => s

/-- The angle has stayed above `STALL_MARGIN` through `STALL_N` × 1,024 microsteps, or the force above its limit for 16
PWM periods (R251). -/
def State.stallDone (s : State) (n : Nat) : Bool :=
  let pg := dmcP n
  let x := s.door n
  let far := match x.stallFrom with
    | some p => decide (s.g pg R.Dmc.STALL_N * 1024 ≤ (x.ustep - p).natAbs)
    | none => false
  [2, 4, 5].contains (s.dst n) && s.b pg R.Dmc.STAT_STALL_VALID && (far || decide (16 ≤ x.fCount))

/-- The obstruction is decided once it is due (R251). -/
def State.stallCheck (s : State) (n : Nat) : State := if s.stallDone n then s.obstruct n else s

/-- LOST_STEP of a channel (R252): it holds at `I_HOLD`. -/
def State.lostStep (s : State) (n : Nat) : State :=
  let tag := (s.door n).tag
  (((((s.doorFreeze n).doorResult n 0x17 tag).irq (dmcP n) 12).doorRest n 1).doorOccur n)

/-- The permissions of a channel as they stand (R256). -/
def State.exePermit (s : State) (n : Nat) : Bool :=
  let c := s.g (dmcP n) R.Dmc.CAR
  s.b (mpgP c) (if s.g (dmcP n) R.Dmc.SIDE = 0 then R.Mpg.EXE_STAT_PERMIT_F else R.Mpg.EXE_STAT_PERMIT_R) &&
    (c == 0 || s.twin)
def State.sioPermit (s : State) (n : Nat) : Bool := s.sioOk (s.g (dmcP n) R.Dmc.CAR)

/-- The SIO permission drops during OPENING (R256): a ramp to rest with `PERMIT_LOST`. -/
def State.permitLost (s : State) (n : Nat) : State :=
  let s := s.doorSync n
  ((s.setDoor n { s.door n with endCode := 0x11, endState := 3, settleAt := none }).doorBrake n).setDst n 6

/-- The channels see their permissions (R256). -/
def State.doorSignals (s : State) : State :=
  if !s.domOn 6 then s else
  (List.range s.doorCount).foldl (fun (m : State) n =>
    let was := m.b (dmcP n) R.Dmc.STAT_SIO_OK
    let now := m.sioPermit n
    let m := (m.psB (dmcP n) R.Dmc.STAT_PERMIT (m.exePermit n)).psB (dmcP n) R.Dmc.STAT_SIO_OK now
    if was && !now && m.dst n = 4 then m.permitLost n else m) s

end Sys2Proof.Machine
end

