-- ==== Sys2Proof/Machine/Hoist.lean ====
section
/-! DEFINITION. The motion profile generators of MPG: profiles, stops, levelling and degraded operation (R147 to
R173). -/

namespace Sys2Proof.Machine

/-! ### Fixed-point arithmetic (R155; log entry 21) -/

/-- Integer square root, bit by bit, for roots below 2^n. -/
def isqrtN (x : Nat) : Nat → Nat → Nat
  | 0, r => r
  | n + 1, r => let t := r + 2 ^ n; isqrtN x n (if t * t ≤ x then t else r)

/-- Integer square root. -/
def isqrt (x : Nat) : Nat := isqrtN x 80 0

/-- A profile point: position, velocity and acceleration in 2⁻²⁴ units. -/
structure Pt where
  p : Int
  v : Int
  a : Int
deriving DecidableEq, Repr

/-- The point `t` (2⁻⁴⁰ s) after `x` under jerk `j` (R153). -/
def ptAt (x : Pt) (j : Int) (t : Nat) : Pt where
  a := x.a + fdiv (j * t) (2 ^ 16)
  v := x.v + fdiv (x.a * t) (2 ^ 40) + fdiv (j * t * t) (2 ^ 57)
  p := x.p + fdiv (x.v * t) (2 ^ 40) + fdiv (x.a * t * t) (2 ^ 81) + fdiv (j * t * t * t) (6 * 2 ^ 96)

/-- The point at time `t` within the segments; none: the end is passed (R155). -/
def segAt : List (Nat × Int) → Pt → Nat → Option Pt
  | [], _, _ => none
  | (d, j) :: r, x, t => if t < d then some (ptAt x j t) else segAt r (ptAt x j d) (t - d)

/-- The point at the end of the segments. -/
def segEnd : List (Nat × Int) → Pt → Pt
  | [], x => x
  | (d, j) :: r, x => segEnd r (ptAt x j d)

/-- Effective acceleration or deceleration for speed `V`: min(ACC, sqrt(V × J)), in 2⁻²⁴ µm/s² (R154). -/
def effAcc (V acc J : Nat) : Nat := max 1 (min (acc * 2 ^ 24) (isqrt (V * J * 2 ^ 48)))

/-- `d_acc` or `d_dec` in 2⁻²⁴ µm (R153). -/
def rampDist (V a24 J : Nat) : Nat := (V * V * 2 ^ 48 / a24 + V * a24 / J) / 2

/-- Whether the ramps of speed `V` fit into `L` µm (R154). -/
def fits (acc dec J L V : Nat) : Bool :=
  decide (rampDist V (effAcc V acc J) J + rampDist V (effAcc V dec J) J ≤ L * 2 ^ 24)

/-- Bisection for the largest speed that fits (R154). -/
def bisect (acc dec J L : Nat) : Nat → Nat → Nat → Nat
  | 0, lo, _ => lo
  | n + 1, lo, hi =>
    if hi ≤ lo then lo else
    let mid := (lo + hi + 1) / 2
    if fits acc dec J L mid then bisect acc dec J L n mid hi else bisect acc dec J L n lo (mid - 1)

/-- The speed of a move (R154). -/
def moveSpeed (VM acc dec J L : Nat) : Nat := if fits acc dec J L VM then VM else bisect acc dec J L 25 1 VM

/-- The seven segments of a move over `L` µm (R153). -/
def moveSegs (V acc dec J L : Nat) : List (Nat × Int) :=
  let A := effAcc V acc J
  let D := effAcc V dec J
  let t1 := A * 2 ^ 16 / J
  let t2 := V * 2 ^ 64 / A - t1
  let t4 := (L * 2 ^ 24 - rampDist V A J - rampDist V D J) * 2 ^ 16 / max 1 V
  let t5 := D * 2 ^ 16 / J
  let t6 := V * 2 ^ 64 / D - t5
  [(t1, J), (t2, 0), (t1, -J), (t4, 0), (t5, -J), (t6, 0), (t5, J)]

/-- Phases of a slowdown from `w`, `a` to rest with ramp `D`, `J` that is not INFEASIBLE (R159). -/
def rampSegs (w a : Int) (D J : Nat) : List (Nat × Int) :=
  let Dp : Nat := max 1 (min (D * 2 ^ 24) (isqrt ((J : Int) * w * 2 ^ 24 + a * a / 2).toNat))
  let (t1, j1) : Nat × Int :=
    if -(Dp : Int) ≤ a then (((a + Dp).toNat) * 2 ^ 16 / J, -(J : Int)) else ((-a - Dp).toNat * 2 ^ 16 / J, (J : Int))
  let v1 := (ptAt ⟨0, w, a⟩ j1 t1).v
  let t2 := ((v1 - (Dp * Dp / (2 * J) / 2 ^ 24 : Nat)) * 2 ^ 40 / (Dp : Int)).toNat
  let t3 := Dp * 2 ^ 16 / J
  [(t1, j1), (t2, 0), (t3, (J : Int))]

/-- Phases of a slowdown from `v`, `a` to speed `vf` with ramp `D`, `J` (R159 with `vf` = 0, R166); none: INFEASIBLE. A
profile built with jerk `own` reaches rest from its every point with any `J` not below it (R159), whatever the last bits
of the point say. -/
def stopSegs (v a : Int) (D J : Nat) (vf : Int := 0) (own : Option Nat := none) : Option (List (Nat × Int)) :=
  let w := v - vf
  if w ≤ 0 ∧ a ≤ 0 then some []
  else if a < 0 ∧ 2 * (J : Int) * w * 2 ^ 24 < a * a ∧ own.all (J < ·) then none
  else some (rampSegs w a D J)

/-- Distance of a slowdown in 2⁻²⁴ µm. -/
def segDist (segs : List (Nat × Int)) (v a : Int) : Int := (segEnd segs ⟨0, v, a⟩).p

/-! ### The generator -/

/-- A car's generator and executor beside their registers. -/
def State.gen (s : State) (c : Nat) : Gen := if c = 0 then s.hoist.gen0 else s.hoist.gen1
def State.setGen (s : State) (c : Nat) (g : Gen) : State :=
  if c = 0 then { s with hoist := { s.hoist with gen0 := g } } else { s with hoist := { s.hoist with gen1 := g } }
def State.exe (s : State) (c : Nat) : Exe := if c = 0 then s.hoist.exe0 else s.hoist.exe1
def State.setExe (s : State) (c : Nat) (e : Exe) : State :=
  if c = 0 then { s with hoist := { s.hoist with exe0 := e } } else { s with hoist := { s.hoist with exe1 := e } }

/-- `STATE` (R169): 0 OFF, 1 READY, 2 MOVING, 3 STOPPING, 4 SETTLING, 5 RELEVEL, 6 HALTED. -/
def State.gst (s : State) (c : Nat) : Nat := s.g (mpgP c) R.Mpg.STAT_STATE
def State.setGst (s : State) (c v : Nat) : State := s.ps (mpgP c) R.Mpg.STAT_STATE v

/-- MOVING or RELEVEL. -/
def State.gMoving (s : State) (c : Nat) : Bool := s.gst c == 2 || s.gst c == 5

/-- The direction of the motion is upward. -/
def State.gUp (s : State) (c : Nat) : Bool := s.b (mpgP c) R.Mpg.STAT_DIR_UP

/-- A signed distance in the direction of motion as a change of position. -/
def State.gSgn (s : State) (c : Nat) (x : Int) : Int := if s.gUp c then x else -x

/-- Write `RESULT`; a code other than `OK` raises `RESULT` (R173). -/
def State.genResult (s : State) (c code tag : Nat) : State :=
  let s := (s.p (mpgP c) R.Mpg.RESULT_CODE code).p (mpgP c) R.Mpg.RESULT_TAG tag
  if code = 0 then s else s.irq (mpgP c) 8

/-- The reference holds the present setpoint at rest. -/
def State.refHold (s : State) (c : Nat) : State :=
  let p := rdiv (s.gen c).pos (2 ^ 24)
  let s := (s.pI (mpgP c) R.Mpg.MPG_REF_POS p).pI (mpgP c) R.Mpg.MPG_STOP_POINT p
  (s.p (mpgP c) R.Mpg.MPG_REF_VEL 0).p (mpgP c) R.Mpg.MPG_REF_ACC 0

/-- The reference is held at the source in use (R163, R168, R169). -/
def State.refFollow (s : State) (c : Nat) : State :=
  (s.setGen c { s.gen c with pos := s.carPos c * 2 ^ 24, v := 0, a := 0 }).refHold c

/-- A point inside a profile becomes the reference, rounded, the position within 1 µm of the equations (R148, R155). -/
def State.refPoint (s : State) (c : Nat) (x : Pt) : State :=
  let s := s.setGen c { s.gen c with pos := x.p, v := x.v, a := x.a }
  let s := s.pI (mpgP c) R.Mpg.MPG_REF_POS (rdiv x.p (2 ^ 24) + ((s.free % 3 : Nat) : Int) - 1)
  let s := s.pI (mpgP c) R.Mpg.MPG_REF_VEL (s.gSgn c (rdiv x.v (2 ^ 24)))
  (s.pI (mpgP c) R.Mpg.MPG_REF_ACC (s.gSgn c (rdiv x.a (2 ^ 24)))).drew

/-- A position in 2⁻²⁴ µm rounded away from the start of the motion (R160). -/
def State.roundAway (s : State) (c : Nat) (p : Int) : Int :=
  if s.gUp c then cdivI p (2 ^ 24) else fdiv p (2 ^ 24)

/-- The end of a stop from the present setpoint with a ramp, in µm, rounded as `MPG_STOP_POINT` (R160); none:
INFEASIBLE. -/
def State.stopEnd (s : State) (c D J : Nat) : Option Int :=
  let g := s.gen c
  (stopSegs g.v g.a D J 0 (some g.jerk)).map fun segs => s.roundAway c (g.pos + s.gSgn c (segDist segs g.v g.a))

/-- Set the bit of a cause in `MPG_CAUSE_SEEN` (R158). -/
def State.causeSeen (s : State) (c cause : Nat) : State :=
  s.p (mpgP c) R.Mpg.MPG_CAUSE_SEEN (Nat.lor (s.g (mpgP c) R.Mpg.MPG_CAUSE_SEEN) (2 ^ (cause - 1)))

/-- A stop has begun: reported by `STOP_START` and a record (R158). -/
def State.stopStart (s : State) (c : Nat) : State :=
  (s.irq (mpgP c) 3).ikwOffer 0x100 (srcOf 8 c)
    [wd (s.g (mpgP c) R.Mpg.STAT_STOP_CAUSE), s.rd (mpgP c + R.Mpg.MPG_STOP_POINT.off)]

/-- The generator enters HALTED (R163, R169). -/
def State.enterHalted (s : State) (c cause : Nat) : State :=
  let s := if s.gst c = 6 then s else s.ps (mpgP c) R.Mpg.STAT_STOP_CAUSE cause
  let s := (s.gen c).reqs.foldl (fun m r => if r.cause = 1 || r.cause = 2 then m.genResult c 8 r.tag else m) s
  let s := (s.setGst c 6).refHold c
  let s := s.setGen c { s.gen c with start := false, reqs := [], relevel := [], replan := false, okAt := none }
  s.irq (mpgP c) 7

/-- A safety lane de-energises the main group (R163): HALTED from any state except OFF, any plan abandoned. -/
def State.safetyHalt (s : State) (c : Nat) : State :=
  if s.gst c = 0 then s else
  let was := s.gst c
  let g := s.gen c
  let s := s.causeSeen c 8
  if was = 6 then s.setGen c { g with follow := true } else
  let s := s.setGen c { g with follow := true, v := 0, a := 0, ended := if was = 2 || was = 3 || was = 4 || was = 5 then some .stopped else g.ended }
  let s := s.enterHalted c 8
  if was = 2 || was = 5 then s.stopStart c else s

/-- A stop cause arises (R158, R162): the command or executor stops 0x1 and 0x2 are answered at once where no motion
follows; an internal cause 0x5 to 0x7 halts from READY and SETTLING; in motion the stop waits for the next boundary. -/
def State.genStop (s : State) (c : Nat) (r : StopReq) : State :=
  let asked := r.cause = 1 || r.cause = 2
  let s := s.causeSeen c r.cause
  match s.gst c with
  | 0 => if r.cause = 1 then s.genResult c 2 r.tag else s
  | 2 | 3 | 5 =>
    s.setGen c { s.gen c with reqs := (s.gen c).reqs ++ [{ r with at_ := s.tbs.el }], halt := (s.gen c).halt || 5 ≤ r.cause }
  | _ =>
    let s := if s.gst c = 1 then s.setGen c { s.gen c with caused := true } else s
    if asked then s.genResult c 8 r.tag
    else if s.gst c ≠ 6 && 5 ≤ r.cause then
      (s.setGen c { s.gen c with ended := if s.gst c = 4 then some .stopped else (s.gen c).ended }).enterHalted c r.cause
    else s

/-- The checks of R151, in table order, `BUSY` first where a stop cause arose in READY in the same clock (R162). -/
def State.moveCheck (s : State) (c : Nat) (vmax acc dec jerk : Nat) (target : Int) (ldg : Option Nat) : Nat :=
  let pg := mpgP c
  let st := s.gst c
  if (s.gen c).caused then 0x01
  else if st = 0 || st = 6 then 0x02
  else if st ≠ 1 then 0x01
  else if !s.chValid (s.srcPri c) && !s.chValid (s.srcSec c) then 0x09
  else if vmax < 1000 || s.g pg R.Mpg.MPG_VRATED < vmax || acc < 10000 || 2500000 < acc || dec < 10000 ||
      2500000 < dec || jerk < 10000 || 5000000 < jerk then 0x03
  else if dec < s.g pg R.Mpg.MPG_STOP_DEC_MIN || jerk < s.g pg R.Mpg.MPG_STOP_JERK_MIN then 0x04
  else if (match ldg with | some n => !s.serves c n | none => false) then 0x06
  else if target < s.gs (carP c) R.MpgC.CAR_TRAVEL_MIN || s.gs (carP c) R.MpgC.CAR_TRAVEL_MAX < target then 0x05
  else 0x00

/-- A motion to a target is accepted (R149, R156, R157): it begins at the next boundary. -/
def State.moveTake (s : State) (c st tag dec jerk : Nat) (target : Int) (ldg : Option Nat) (rlv : Bool) : State :=
  let pg := mpgP c
  let s := ((s.ps pg R.Mpg.STAT_LEVELLED 0).ps pg R.Mpg.STAT_LEVEL_MISS 0).ps pg R.Mpg.STAT_RLV_NEED 0
  let s := (s.pI pg R.Mpg.MPG_TARGET target).setGst c st
  let g := s.gen c
  s.setGen c { g with
    start := true, rlv := rlv, tag := tag, dec := dec, jerk := jerk, dest := ldg, kept := none, reqs := [], relevel := [],
    halt := false, noTerm := false, replan := false, okAt := none, ended := none, v := 0, a := 0 }

/-- A move reaches the generator (R151): its result code and, when accepted, the move in force. -/
def State.genMove (s : State) (c tag vmax acc dec jerk : Nat) (target : Int) (ldg : Option Nat) : Nat × State :=
  let code := s.moveCheck c vmax acc dec jerk target ldg
  if code ≠ 0 then (code, s.genResult c code tag) else
  let pg := mpgP c
  let s := (((s.p pg R.Mpg.MPG_ACT_VMAX vmax).p pg R.Mpg.MPG_ACT_ACC acc).p pg R.Mpg.MPG_ACT_DEC dec).p
    pg R.Mpg.MPG_ACT_JERK jerk
  (0, (s.moveTake c 2 tag dec jerk target ldg false).genResult c 0 tag)

/-- Speed and ramp of the motion in force: VM, A, D, J (R154, R157). -/
def State.moveVals (s : State) (c : Nat) : Nat × Nat × Nat × Nat :=
  let pg := mpgP c
  let (v, a, d, j) := if (s.gen c).rlv then
      (s.g pg R.Mpg.MPG_RLV_SPEED, s.g pg R.Mpg.MPG_RLV_ACC, s.g pg R.Mpg.MPG_RLV_ACC, s.g pg R.Mpg.MPG_RLV_JERK)
    else (s.g pg R.Mpg.MPG_ACT_VMAX, s.g pg R.Mpg.MPG_ACT_ACC, s.g pg R.Mpg.MPG_ACT_DEC, s.g pg R.Mpg.MPG_ACT_JERK)
  (if s.b pg R.Mpg.STAT_DEGRADED then min v (s.g pg R.Mpg.MPG_VDEG) else v, a, d, max 1 j)

/-- The generator enters SETTLING at the target (R155). -/
def State.enterSettling (s : State) (c : Nat) : State :=
  let t := s.gs (mpgP c) R.Mpg.MPG_TARGET
  let s := s.setGen c { s.gen c with pos := t * 2 ^ 24, v := 0, a := 0, settleAt := s.tbs.el, okAt := none, segs := [] }
  (s.setGst c 4).refHold c

/-- The motion begins (R152): start position, direction, segments; a move to the present position completes at once. -/
def State.moveStart (s : State) (c : Nat) : State :=
  let p0 := s.carPos c
  let t := s.gs (mpgP c) R.Mpg.MPG_TARGET
  let L := (t - p0).natAbs
  let g := s.gen c
  let s := s.setGen c { g with start := false, startAt := s.tbs.el, org := p0 * 2 ^ 24, pos := p0 * 2 ^ 24 }
  let s := s.ikwOffer 0x101 (srcOf 8 c) [wdI t, wd g.tag]
  if L = 0 then s.enterSettling c else
  let s := s.psB (mpgP c) R.Mpg.STAT_DIR_UP (decide (p0 < t))
  let (VM, A, D, J) := s.moveVals c
  let V := moveSpeed (max 1 VM) A D J L
  s.setGen c { s.gen c with segs := moveSegs V A D J L, v0 := 0, a0 := 0 }

/-- Time of the next boundary since the profile began, in 2⁻⁴⁰ s (R148). -/
def State.profTime (s : State) (c : Nat) : Nat :=
  (s.tbs.el + 62500 - (s.gen c).startAt + 31250) / 62500 * 62500 * 2 ^ 40 / 1000000000

/-- The profile point of this period; none: the end is passed. -/
def State.profPoint (s : State) (c : Nat) : Option Pt :=
  let g := s.gen c
  (segAt g.segs ⟨0, g.v0, g.a0⟩ (s.profTime c)).map fun x => ⟨g.org + s.gSgn c x.p, x.v, x.a⟩

/-- A new profile from the present setpoint, beginning at this boundary. -/
def State.profFrom (s : State) (c : Nat) (segs : List (Nat × Int)) : State :=
  let g := s.gen c
  s.setGen c { g with startAt := s.tbs.el, org := g.pos, v0 := g.v, a0 := g.a, segs := segs }

/-- A stop request that carries values is checked (R161) against the frozen point; a `RESULT` answers each command and
executor stop. -/
def State.stopReq (s : State) (c : Nat) (r : StopReq) : State :=
  let asked := r.cause = 1 || r.cause = 2
  let answer (s : State) (code : Nat) : State := if asked then s.genResult c code r.tag else s
  match r.vals with
  | none => answer s 0
  | some (D, J) =>
    if D < 10000 || 2500000 < D || J < 10000 || 5000000 < J then answer s 3
    else if D < s.g (mpgP c) R.Mpg.MPG_STOP_DEC_MIN || J < s.g (mpgP c) R.Mpg.MPG_STOP_JERK_MIN then answer s 4
    else
      let frozen := s.gs (mpgP c) R.Mpg.MPG_STOP_POINT
      match s.stopEnd c D J with
      | none => answer (s.irq (mpgP c) 5) 7
      | some e =>
        if (if s.gUp c then frozen < e else e < frozen) then answer (s.irq (mpgP c) 5) 7
        else
          let s := s.profFrom c ((stopSegs (s.gen c).v (s.gen c).a D J 0 (some (s.gen c).jerk)).getD [])
          let s := s.setGen c { s.gen c with dec := D, jerk := J }
          answer (s.pI (mpgP c) R.Mpg.MPG_STOP_POINT e) 0

/-- The stop reference reaches rest (R169). -/
def State.stopDone (s : State) (c : Nat) : State :=
  let halt := (s.gen c).halt
  let s := s.setGen c { s.gen c with segs := [], reqs := [], ended := some .stopped }
  let s := s.irq (mpgP c) 4
  if halt then ((s.setGst c 6).refHold c).irq (mpgP c) 7
  else ((s.setGst c 1).ps (mpgP c) R.Mpg.STAT_LEVELLED 0).refHold c

/-- The reference of a period in STOPPING (R159). -/
def State.stopPeriod (s : State) (c : Nat) : State :=
  match s.profPoint c with
  | some x => s.refPoint c x
  | none =>
    let g := s.gen c
    let e := g.org + s.gSgn c (segDist g.segs g.v0 g.a0)
    (s.setGen c { g with pos := e, v := 0, a := 0 }).stopDone c

/-- The cause that begins the stop: the first, or the highest code of those of its clock (R158, R162). -/
def leadCause : List StopReq → Nat
  | [] => 0
  | r :: rs => ((r :: rs).filter fun x => x.at_ == r.at_).foldl (fun m x => max m x.cause) 0

/-- A controlled stop begins (R159): the ramp in force is frozen, then the requests act in landing order. -/
def State.stopBegin (s : State) (c : Nat) (due : List StopReq) : State :=
  let g := s.gen c
  let e := (s.stopEnd c g.dec g.jerk).getD (rdiv g.pos (2 ^ 24))
  let s := (s.pI (mpgP c) R.Mpg.MPG_STOP_POINT e).ps (mpgP c) R.Mpg.STAT_STOP_CAUSE (leadCause due)
  let s := s.profFrom c ((stopSegs g.v g.a g.dec g.jerk 0 (some g.jerk)).getD [])
  let s := (s.setGst c 3).setGen c { (s.setGst c 3).gen c with start := false, replan := false }
  let s := due.foldl (fun m r => m.stopReq c r) s
  (s.stopStart c).stopPeriod c

/-- The replan of R166: slow down to `MPG_VDEG`, cruise, and brake to the same target, if that fits. -/
def State.replanTest (s : State) (c : Nat) : State :=
  let g := s.gen c
  let s := s.setGen c { g with replan := false }
  let vd := s.g (mpgP c) R.Mpg.MPG_VDEG
  if s.gst c ≠ 2 || g.v ≤ vd * 2 ^ 24 then s else
  match stopSegs g.v g.a g.dec g.jerk (vd * 2 ^ 24) with
  | none => s
  | some slow =>
    let D := effAcc vd g.dec g.jerk
    let left := s.gSgn c (s.gs (mpgP c) R.Mpg.MPG_TARGET * 2 ^ 24 - g.pos)
    let used := segDist slow g.v g.a + rampDist vd D g.jerk
    if left < used then s else
    let t4 := ((left - used) * 2 ^ 16 / (max 1 vd : Nat)).toNat
    let t5 := D * 2 ^ 16 / g.jerk
    let t6 := vd * 2 ^ 64 / D - t5
    let J : Int := g.jerk
    s.profFrom c (slow ++ [(t4, 0), (t5, -J), (t6, 0), (t5, J)])

/-- The terminal check of R164. -/
def State.terminalBad (s : State) (c : Nat) : Bool :=
  let g := s.gen c
  if g.noTerm then false else
  let v := max 0 (s.gSgn c (s.carSpd c)) * 2 ^ 24
  let a := rdiv g.a (2 ^ 24) * 2 ^ 24
  let d := match stopSegs v a g.dec g.jerk with
    | some segs => segDist segs v a
    | none => v * a.natAbs / 2 ^ 24 / g.jerk
  let e := s.carPos c * 2 ^ 24 + s.gSgn c d
  if s.gUp c then decide (s.gs (carP c) R.MpgC.CAR_TRAVEL_MAX * 2 ^ 24 < e)
  else decide (e < s.gs (carP c) R.MpgC.CAR_TRAVEL_MIN * 2 ^ 24)

/-- The causes that a boundary in MOVING or RELEVEL itself finds; they act at the next boundary (R159, R164, R167). -/
def State.ownCauses (s : State) (c : Nat) : List StopReq :=
  (if !s.chValid (s.srcPri c) && !s.chValid (s.srcSec c) then [{ cause := 6 }] else []) ++
  (if !(s.gen c).start && s.terminalBad c then [{ cause := 4 }] else [])

/-- The reference of a boundary in MOVING or RELEVEL, with the stops due there (R152, R155, R159, R160, R162). -/
def State.moveRef (s : State) (c : Nat) (due : List StopReq) : State :=
  let s := if (s.gen c).replan then s.replanTest c else s
  if (s.gen c).start then s.stopBegin c due else
  match s.profPoint c with
  | none => due.foldl (fun m r => m.genStop c r) (s.enterSettling c)
  | some x =>
    if due.isEmpty then
      (s.pI (mpgP c) R.Mpg.MPG_STOP_POINT ((s.stopEnd c (s.gen c).dec (s.gen c).jerk).getD (rdiv (s.gen c).pos (2 ^ 24)))).refPoint c x
    else s.stopBegin c due

/-- A boundary in MOVING or RELEVEL (R152, R155, R159, R160, R162, R164, R167). -/
def State.movePeriod (s : State) (c : Nat) (due : List StopReq) : State :=
  let s := if (s.gen c).start && due.isEmpty then s.moveStart c else s
  if !s.gMoving c then s else
  let own := s.ownCauses c
  let s := if own.any (fun r => r.cause == 6) then s.setGen c { s.gen c with noTerm := true } else s
  own.foldl (fun m r => m.genStop c r) (s.moveRef c due)

/-- Whether the source in use stands within `LVL_TOL` of the target (R156). -/
def State.inTol (s : State) (c : Nat) : Bool :=
  decide ((s.carPos c - s.gs (mpgP c) R.Mpg.MPG_TARGET).natAbs ≤ s.g (mpgP c) R.Mpg.LVL_TOL)

/-- A boundary in SETTLING: the stay within `LVL_TOL` begins, goes on or ends (R156). -/
def State.settlePeriod (s : State) (c : Nat) : State :=
  let g := s.gen c
  (s.setGen c { g with okAt := if s.inTol c then (match g.okAt with | some t => some t | none => some s.tbs.el) else none }).refHold c

/-- The decision of R157 for one re-level: `cmd` is the `TAG` of the command, none for one due by itself; `sep` asks
SEP. -/
def State.relevelDecide (s : State) (c n : Nat) (cmd : Option Nat) (sep : State → Nat → Int → Bool × State) : State :=
  let pg := mpgP c
  let tag := cmd.getD 0
  if s.gst c ≠ 1 then s.genResult c 0x01 tag
  else if !s.inDz n (s.carPos c) then
    let s := (((s.ps pg R.Mpg.STAT_RLV_NEED 1).irq pg 2).ps pg R.Mpg.STAT_LEVELLED 0).genResult c 0x0A tag
    s.setGen c { s.gen c with kept := none }
  else if !s.b pg R.Mpg.RLV_AUTO && cmd.isNone then (s.ps pg R.Mpg.STAT_RLV_NEED 1).irq pg 2
  else if !s.rlvOk c then ((s.ps pg R.Mpg.STAT_RLV_NEED 1).irq pg 2).genResult c 0x0B tag
  else if s.g pg R.Mpg.MPG_RLV_ACC < s.g pg R.Mpg.MPG_STOP_DEC_MIN ||
      s.g pg R.Mpg.MPG_RLV_JERK < s.g pg R.Mpg.MPG_STOP_JERK_MIN then s.genResult c 0x04 tag
  else
    let (ok, s) := if s.twin then sep s tag (s.sill n) else (true, s)
    if !ok then s.genResult c 0x0D tag
    else (s.moveTake c 5 tag (s.g pg R.Mpg.MPG_RLV_ACC) (s.g pg R.Mpg.MPG_RLV_JERK) (s.sill n) (some n) true).genResult c 0 tag

/-- A boundary in READY (R157). -/
def State.relevelPeriod (s : State) (c : Nat) (sep : State → Nat → Int → Bool × State) : State :=
  let g := s.gen c
  let s := s.refHold c
  match g.kept with
  | none => g.relevel.foldl (fun m t => m.genResult c 0x0A t) (s.setGen c { g with relevel := [] })
  | some n =>
    if !s.carValid c then s else
    let s := s.setGen c { g with relevel := [] }
    if !g.relevel.isEmpty then g.relevel.foldl (fun m t => m.relevelDecide c n (some t) sep) s
    else if decide (s.g (mpgP c) R.Mpg.RLV_START < (s.carPos c - s.sill n).natAbs) then s.relevelDecide c n none sep
    else s

/-- The difference of the sources and its filter (R165). -/
def State.srcDiff (s : State) (c : Nat) : State :=
  if !s.chValid (s.srcPri c) || !s.chValid (s.srcSec c) then s else
  let tol := s.g (mpgP c) R.Mpg.SRC_TOL
  let was := (s.gs (mpgP c) R.Mpg.MPG_SRC_DIFF).natAbs
  let d := s.gs (fbP (s.srcPri c)) R.Fb.PFI_POS - s.gs (fbP (s.srcSec c)) R.Fb.PFI_POS
  let s := s.pI (mpgP c) R.Mpg.MPG_SRC_DIFF d
  if was ≤ tol && tol < d.natAbs then
    let t := s.fwOccur (0xF4 + c)
    if becameLasting (0xF4 + c) s t then t.genStop c { cause := 5 } else t
  else s

/-- A source signals lasting loss (R166, R167). -/
def State.srcLost (s : State) (c : Nat) (pri : Bool) : State :=
  let pg := mpgP c
  let s := (s.ps pg (if pri then R.Mpg.STAT_PRI_LOST else R.Mpg.STAT_SEC_LOST) 1).ps pg R.Mpg.STAT_DEGRADED 1
  let s := s.irq pg 6
  let s := if s.gst c = 2 && !(s.gen c).start && s.g pg R.Mpg.MPG_VDEG * 2 ^ 24 < (s.gen c).v.toNat then
      s.setGen c { s.gen c with replan := true } else s
  if s.chValid (if pri then s.srcSec c else s.srcPri c) then s
  else (s.setGen c { s.gen c with noTerm := true }).genStop c { cause := 6 }

/-- The lasting losses that the channels have signalled reach the generator (R137, R166). -/
def State.srcScan (s : State) (c : Nat) : State :=
  s.hoist.lost.foldl (fun m n =>
    let m := if m.srcPri c = n then m.srcLost c true else m
    if m.srcSec c = n then m.srcLost c false else m) s

/-- `DEGRADED` clears when both sources are `VALID` again (R166). -/
def State.degClear (s : State) (c : Nat) : State :=
  if s.chValid (s.srcPri c) && s.chValid (s.srcSec c) then
    ((s.ps (mpgP c) R.Mpg.STAT_DEGRADED 0).ps (mpgP c) R.Mpg.STAT_PRI_LOST 0).ps (mpgP c) R.Mpg.STAT_SEC_LOST 0
  else s

/-- The generator returns to OFF (R169): the reference output stops. -/
def State.genOff (s : State) (c : Nat) : State :=
  (s.setGst c 0).setGen c { (s.setGst c 0).gen c with relevel := [], follow := false, ended := none }

/-- OFF to READY (R169): `EN` = 1, the car armed, a source `VALID`. -/
def State.genWake (s : State) (c : Nat) : State :=
  if s.gst c = 0 && s.b (mpgP c) R.Hdr.CTRL_EN && s.armed c && s.carValid c then
    ((s.setGst c 1).setGen c { (s.setGst c 1).gen c with follow := false, ended := none }).refFollow c
  else s

/-- A car's `ARMED` bit clears (R37, R38): `WHERE` reads 0 and a generator at rest goes OFF (R169). -/
def State.disarm (s : State) (c : Nat) : State :=
  let s := (s.pm (if c = 0 then R.MpgC.MAP_ARMED_U else R.MpgC.MAP_ARMED_L) 0).whereUpdate c
  if s.gst c = 1 || s.gst c = 6 then s.genOff c else s

/-- At rest with its executor idle (R37). -/
def State.restIdle (s : State) (c : Nat) : Bool :=
  (s.gst c == 0 || s.gst c == 1 || s.gst c == 6) && s.g (mpgP c) R.Mpg.EXE_STAT_XSTATE == 0

/-- The generator's part of a boundary (R148, R165, R169): the stops that arose before it are due; those that arise at it
are due at the next. -/
def State.genPeriod (s : State) (c : Nat) (sep : State → Nat → Int → Bool × State) : State :=
  let due := (s.gen c).reqs
  let s := (s.setGen c { s.gen c with reqs := [] }).srcDiff c
  match s.gst c with
  | 1 => s.relevelPeriod c sep
  | 2 | 5 => s.movePeriod c due
  | 3 => (due.foldl (fun m r => m.stopReq c r) s).stopPeriod c
  | 4 => s.settlePeriod c
  | 6 => if (s.gen c).follow then s.refFollow c else s.refHold c
  | _ => s

end Sys2Proof.Machine
end

