-- ==== Sys2Proof/Machine/Executor.lean ====
section
/-! DEFINITION. SEP and the stop plan executors (R188 to R216), and `State.settle`: what the generators and executors
make of compare events, lost sources, finished motions and `LOCKED`, at the end of a command that can bring them. -/

namespace Sys2Proof.Machine

/-! ### Stopping distance and margins (R188, R190, R196) -/

/-- S in µm, rounded up, from speed `v` with reaction time `t` ms, the main group engaged (R188). -/
def stopDist (v t AR D J : Nat) : Nat :=
  let U1 := 1000 * v + AR * t
  let U2 := 2 * J * U1 + 1000 * AR * AR
  cdiv (24000 * v * t * J * J * D + 12 * AR * t * t * J * J * D + 24000 * U1 * AR * J * D + 8000000 * AR * AR * AR * D +
    3 * U2 * U2 + 6000 * U2 * D * D) (24000000 * J * J * D)

/-- S in 2⁻²⁴ µm, rounded up, from a planned speed `n` in 2⁻²⁴ µm/s (R188, R196, R200; log entry 156). -/
def stopDist24 (n t AR D J : Nat) : Nat :=
  let q := 2 ^ 24
  let U1 := 1000 * n + AR * t * q
  let U2 := 2 * J * U1 + 1000 * AR * AR * q
  cdiv (24000 * n * t * J * J * D * q + 12 * AR * t * t * J * J * D * q * q + 24000 * U1 * AR * J * D * q +
    8000000 * AR * AR * AR * D * q * q + 3 * U2 * U2 + 6000 * U2 * D * D * q) (24000000 * J * J * D * q)

/-- T_HARD and T_SOFT_X of a car in ms (R189). -/
def State.tHard (s : State) (c : Nat) : Nat := s.g sepC (if c = 0 then R.SepC.SEP_U_TH_T_HARD else R.SepC.SEP_L_TH_T_HARD)
def State.tSoft (s : State) (c : Nat) : Nat :=
  s.tHard c + s.g sepC (if c = 0 then R.SepC.SEP_U_TH_T_SOFT_X else R.SepC.SEP_L_TH_T_SOFT_X)

/-- S of a car with its commissioned ramp and reaction acceleration. -/
def State.stopOf (s : State) (c v t : Nat) : Nat :=
  stopDist v t (s.g sepC (if c = 0 then R.SepC.SEP_U_AR else R.SepC.SEP_L_AR))
    (max 1 (s.g (mpgP c) R.Mpg.MPG_STOP_DEC_MIN)) (max 1 (s.g (mpgP c) R.Mpg.MPG_STOP_JERK_MIN))

/-- S at a planned speed, in 2⁻²⁴ units. -/
def State.stopOf24 (s : State) (c n t : Nat) : Nat :=
  stopDist24 n t (s.g sepC (if c = 0 then R.SepC.SEP_U_AR else R.SepC.SEP_L_AR))
    (max 1 (s.g (mpgP c) R.Mpg.MPG_STOP_DEC_MIN)) (max 1 (s.g (mpgP c) R.Mpg.MPG_STOP_JERK_MIN))

/-- S, 0 for a car that stands with its main group released (R188). -/
def State.sepS (s : State) (c v t : Nat) : Nat := if v = 0 && s.released (3 * c) then 0 else s.stopOf c v t

/-- A speed toward the other car (R188). -/
def toward (c : Nat) (v : Int) : Nat := if c = 0 then (-v).toNat else v.toNat

/-- Measured speed toward the other car, and the larger of it and the reference (R192). -/
def State.vMeas (s : State) (c : Nat) : Nat := toward c (s.carSpd c)
def State.vSoft (s : State) (c : Nat) : Nat := max (s.vMeas c) (toward c (s.gs (mpgP c) R.Mpg.MPG_REF_VEL))

/-- GAP for two car positions (R28). -/
def State.gapAt (s : State) (pu pl : Int) : Int :=
  (pu - s.g (carP 0) R.MpgC.CAR_OFS_BOT) - (pl + s.g (carP 1) R.MpgC.CAR_OFS_TOP)

/-- SEP is active (R192). -/
def State.sepActive (s : State) : Bool := s.b sepC R.Hdr.CTRL_EN && s.twin && s.armed 0 && s.armed 1

/-- A generator moves toward the other car; an accepted move not yet begun has the direction to its target (R193). -/
def State.movesToward (s : State) (c : Nat) : Bool :=
  let t := s.gs (mpgP c) R.Mpg.MPG_TARGET
  s.gMoving c && if (s.gen c).start then (if c = 0 then decide (t < s.carPos c) else decide (s.carPos c < t))
    else s.gUp c != (c == 0)

/-- Stop cause `SEP` to each car that moves toward the other (R193). -/
def State.sepSignal (s : State) : State :=
  let s := if s.movesToward 0 then s.genStop 0 { cause := 3 } else s
  if s.movesToward 1 then s.genStop 1 { cause := 3 } else s

/-- The comparison with Sage's margin (R197). -/
def State.sepCompare (s : State) : State :=
  if !s.hoist.snap then s else
  let s := { s with hoist := { s.hoist with snap := false } }
  let sage := s.gs sagC R.SagC.SAG_MARGIN_H
  let d := s.gs sepC R.SepC.SEP_MARGIN_H - sage
  let s := (s.pI sepC R.SepC.SEP_SAGE_MARGIN sage).pI sepC R.SepC.SEP_MARGIN_DIFF d
  let out := decide (s.g sepC R.SepC.SEP_TOL_ENV < d.natAbs)
  let was := s.b sepC R.SepC.STAT_TOL_OUT
  let s := s.psB sepC R.SepC.STAT_TOL_OUT out
  if out && !was then
    let s := s.incIrq sepC R.SepC.DIS_CNT sepC 1
    let t := s.fwOccur 0xF6
    if becameLasting 0xF6 s t then (t.ps sepC R.SepC.STAT_DISAGREE 1).irq sepC 2 else t
  else s

/-- `STAT` shows whether SEP is active and which cars are released (R192, R212). -/
def State.sepShow (s : State) : State :=
  ((s.psB sepC R.SepC.STAT_ACTIVE s.sepActive).psB sepC R.SepC.STAT_REL_U (s.released 0)).psB sepC R.SepC.STAT_REL_L
    (s.released 3)

/-- An evaluation of SEP (R192, R193, R194, R197). -/
def State.sepEval (s : State) : State :=
  let s := s.sepShow
  if !s.sepActive then s else
  let noPos := !s.carValid 0 || !s.carValid 1
  let s := s.psB sepC R.SepC.STAT_NO_POS noPos
  let s :=
    if noPos then s else
    let gap := s.gapAt (s.carPos 0) (s.carPos 1)
    let su := s.sepS 0 (s.vSoft 0) (s.tSoft 0)
    let sl := s.sepS 1 (s.vSoft 1) (s.tSoft 1)
    let ms := gap - s.g mpgC R.MpgC.DSEP - su - sl
    let mh := gap - s.g mpgC R.MpgC.DSEP - s.sepS 0 (s.vMeas 0) (s.tHard 0) - s.sepS 1 (s.vMeas 1) (s.tHard 1)
    let was := s.b sepC R.SepC.STAT_SOFT_TRIP
    let s := ((s.pI sepC R.SepC.SEP_GAP gap).p sepC R.SepC.SEP_S_U su).p sepC R.SepC.SEP_S_L sl
    let s := (s.pI sepC R.SepC.SEP_MARGIN_S ms).pI sepC R.SepC.SEP_MARGIN_H mh
    let s := s.psB sepC R.SepC.STAT_SOFT_TRIP (decide (ms < 0))
    let s := if decide (ms < 0) && !was then
        let s := ((s.inc sepC R.SepC.SOFT_CNT).pTs sepC R.SepC.SEP_TRIP_TS_LO R.SepC.SEP_TRIP_TS_HI s.stamp).irq sepC 0
        s.ikwOffer 0x120 (srcOf 9 0) [wdI ms, wdI gap]
      else s
    s.sepCompare
  if noPos || s.b sepC R.SepC.STAT_SOFT_TRIP || s.b sepC R.SepC.STAT_DISAGREE then s.sepSignal else s

/-- The claim point of a car toward the asking car (R199). -/
def State.claim (s : State) (o : Nat) : Int :=
  let p := s.carPos o
  let q := match s.gst o with
    | 2 | 4 | 5 => s.gs (mpgP o) R.Mpg.MPG_TARGET
    | 3 => s.gs (mpgP o) R.Mpg.MPG_STOP_POINT
    | _ => p
  if o = 0 then min p q else max p q

/-- max g over the 17 instants of R200 in 2⁻²⁴ µm, for a plan of speed `V`, effective deceleration `D` (2⁻²⁴) and jerk
`J`. -/
def State.maxG (s : State) (c V D J : Nat) : Int :=
  let t5 := D * 2 ^ 16 / J
  let t6 := V * 2 ^ 64 / D - t5
  let segs : List (Nat × Int) := [(t5, -(J : Int)), (t6, 0), (t5, (J : Int))]
  let x0 : Pt := ⟨0, V * 2 ^ 24, 0⟩
  let len := (segEnd segs x0).p
  let g (i : Nat) : Int :=
    match segAt segs x0 (i * (2 * t5 + t6) / 16) with
    | some x => s.stopOf24 c x.v.toNat (s.tSoft c) - (len - x.p)
    | none => s.stopOf24 c 0 (s.tSoft c)
  (List.range 16).foldl (fun m i => max m (g i)) (s.stopOf24 c 0 (s.tSoft c) : Int)

/-- The check of a request in table order: `WHY` and the approach margin when it was computed (R199, R200). -/
def State.sepWhy (s : State) (c : Nat) (target : Int) (VM A D J : Nat) : Nat × Option Int :=
  let p := s.carPos c
  if !s.sepActive then (1, none)
  else if (if c = 0 then decide (p ≤ target) else decide (target ≤ p)) then (2, none)
  else if !s.carValid 0 || !s.carValid 1 then (3, none)
  else if s.b sepC R.SepC.STAT_SOFT_TRIP || s.b sepC R.SepC.STAT_DISAGREE then (4, none)
  else
    let o := 1 - c
    let gapT := if c = 0 then s.gapAt target (s.claim 1) else s.gapAt (s.claim 0) target
    let m := gapT - s.g mpgC R.MpgC.DSEP - s.sepS o (s.vSoft o) (s.tSoft o)
    let permit := s.g sepC R.SepC.SEP_D_PERMIT
    if m < permit then (5, none)
    else
      let V := moveSpeed (max 1 VM) A D (max 1 J) (target - p).natAbs
      let am := fdiv (m * 2 ^ 24 - s.maxG c V (effAcc V D (max 1 J)) (max 1 J)) (2 ^ 24)
      (if am < permit then 6 else 0, some am)

/-- SEP answers a request (R199): granted or refused, recorded in `SEP_ASK`. -/
def State.sepAsk (s : State) (c tag : Nat) (target : Int) (VM A D J : Nat) : Bool × State :=
  let (why, am) := s.sepWhy c target VM A D J
  let ok := why = 0 || why = 2
  let s := s.wr (sepC + R.SepC.SEP_ASK_TAG.off) (wd (tag * 0x10000 + why * 0x1000 + b2n ok * 0x100 + c))
  let s := match am with
    | some m => s.pI sepC R.SepC.SEP_ASK_MARGIN m
    | none => s
  (ok, if ok then s else s.incIrq sepC R.SepC.DENY_CNT sepC 3)

/-- SEP is asked for a re-level (R157, R199). -/
def State.sepRelevel (c : Nat) (s : State) (tag : Nat) (target : Int) : Bool × State :=
  let pg := mpgP c
  let v := s.g pg R.Mpg.MPG_RLV_SPEED
  let vm := if s.b pg R.Mpg.STAT_DEGRADED then min v (s.g pg R.Mpg.MPG_VDEG) else v
  s.sepAsk c tag target vm (s.g pg R.Mpg.MPG_RLV_ACC) (s.g pg R.Mpg.MPG_RLV_ACC) (s.g pg R.Mpg.MPG_RLV_JERK)

/-! ### The executor -/

/-- `XSTATE` (R205): 0 IDLE, 1 ASK, 2 RUN, 3 WAIT, 4 DWELL, 5 DOORS, 6 CLOSING, 7 HELD. -/
def State.xst (s : State) (c : Nat) : Nat := s.g (mpgP c) R.Mpg.EXE_STAT_XSTATE
def State.setXst (s : State) (c v : Nat) : State := s.p (mpgP c) R.Mpg.EXE_STAT_XSTATE v

/-- `CURRENT`. -/
def State.xcur (s : State) (c : Nat) : Nat := s.g (mpgP c) R.Mpg.EXE_STAT_CURRENT

/-- Entry `e` of a car's stop plan (R202), as a page shift. -/
abbrev entP (c e : Nat) : Nat := mpgP c + e % 64 * 16

/-- Word `k` of entry `e`. -/
def State.entW (s : State) (c e k : Nat) : Word := s.rd (entP c e + (0x400 + 4 * k))

/-- Fields of word 0 of the current entry (R202). -/
def State.entF (s : State) (c lo w : Nat) : Nat := (s.entW c (s.xcur c) 0).toNat / 2 ^ lo % 2 ^ w

/-- Raise an executor event in the common page (R216). -/
def State.xirq (s : State) (c i : Nat) : State := s.irq mpgC (i + 16 * c)

/-- Write `EXE_ENTRY_RESULT` for the current entry. -/
def State.entResult (s : State) (c code : Nat) : State :=
  s.wr (mpgP c + R.Mpg.EXE_ENTRY_RESULT_CODE.off) (wd (s.xcur c * 0x1000000 + s.entF c 16 16 * 0x100 + code))

/-- The executor enters HELD (R205). -/
def State.xHeld (s : State) (c : Nat) : State :=
  let s := ((s.setXst c 7).p (mpgP c) R.Mpg.EXE_STAT_HOLD_PEND 0).xirq c 2
  s.setExe c { s.exe c with again := false, evStop := false }

/-- The executor enters HELD with a code. -/
def State.xFail (s : State) (c code : Nat) : State := (s.entResult c code).xHeld c

/-- The executor enters IDLE (R205). -/
def State.xIdle (s : State) (c : Nat) : State :=
  ((s.setXst c 0).p (mpgP c) R.Mpg.EXE_STAT_HOLD_PEND 0).setExe c {}

/-- A cancel reaches IDLE (R207). -/
def State.xCancelled (s : State) (c code : Nat) : State := ((s.entResult c code).xIdle c).xirq c 5

/-- Target, landing and values of the current entry (R202). -/
def State.entMove (s : State) (c : Nat) : Int × Option Nat × Nat × Nat × Nat × Nat :=
  let e := s.xcur c
  let arg := (s.entW c e 1).toNat
  let (t, l) : Int × Option Nat := if s.entF c 0 4 = 1 then (s.sill (arg % 256), some (arg % 256)) else (toS 32 arg, none)
  let w2 := (s.entW c e 2).toNat
  let w3 := (s.entW c e 3).toNat
  let pg := mpgP c
  if s.entF c 7 1 = 1 then (t, l, w2 % 65536 * 1000, w2 / 65536 * 1000, w3 % 65536 * 1000, w3 / 65536 * 1000)
  else (t, l, s.g pg R.Mpg.MPG_P_VMAX, s.g pg R.Mpg.MPG_P_ACC, s.g pg R.Mpg.MPG_P_DEC, s.g pg R.Mpg.MPG_P_JERK)

/-- The ramp that an executor stop of the current entry carries: its own `DEC` and `JERK` if `STOPV` (R202). -/
def State.stopVals (s : State) (c : Nat) : Option (Nat × Nat) :=
  let w3 := (s.entW c (s.xcur c) 3).toNat
  if s.entF c 8 1 = 1 then some (w3 % 65536 * 1000, w3 / 65536 * 1000) else none

/-- The executor in ASK (R205). -/
def State.xAsk (s : State) (c : Nat) : State :=
  if !s.armed c then s.xFail c 0x10
  else if !s.locked c then s.xFail c 0x11
  else
    let (t, l, v, a, d, j) := s.entMove c
    let tag := s.entF c 16 16
    let vm := if s.b (mpgP c) R.Mpg.STAT_DEGRADED then min v (s.g (mpgP c) R.Mpg.MPG_VDEG) else v
    let (ok, s) := if s.twin then s.sepAsk c tag t vm a d j else (true, s)
    if !ok then
      let tmo := s.g (mpgP c) R.Mpg.EXE_CFG_ASK_TMO
      if tmo = 0 || (s.exe c).startAt + tmo * 1000000 ≤ s.tbs.el then s.xFail c 0x0D
      else s.setExe c { s.exe c with again := true }
    else
      let (code, s) := s.genMove c tag v a d j t l
      if code ≠ 0 then s.xFail c code
      else (s.setXst c 2).setExe c { s.exe c with again := false }

/-- Entry `CURRENT` starts (R205). -/
def State.xStart (s : State) (c : Nat) : State :=
  let s := s.setExe c { startAt := s.tbs.el }
  match s.entF c 0 4 with
  | 1 | 2 => (s.setXst c 1).xAsk c
  | 3 => s.setXst c 3
  | 4 => s.setXst c 4
  | _ => (s.xIdle c).xirq c 3

/-- The current entry completes (R205). -/
def State.xComplete (s : State) (c : Nat) : State :=
  let e := s.xcur c
  let s := s.entResult c 0
  let s := s.wr (entP c e + 0x400) (wd ((s.entW c e 0).toNat / 16 * 16))
  let s := (s.inc (mpgP c) R.Mpg.EXE_DONE_CNT).xirq c 1
  let s := s.p (mpgP c) R.Mpg.EXE_STAT_CURRENT ((e + 1) % 64)
  if s.b (mpgP c) R.Mpg.EXE_STAT_HOLD_PEND then s.xHeld c else s.xStart c

/-- The door permissions of the entry are set (R208). -/
def State.xPermit (s : State) (c : Nat) : State :=
  let s := if s.entF c 4 1 = 1 then s.p (mpgP c) R.Mpg.EXE_STAT_PERMIT_F 1 else s
  let s := if s.entF c 5 1 = 1 then s.p (mpgP c) R.Mpg.EXE_STAT_PERMIT_R 1 else s
  s.xirq c 0

/-- The executor in RUN when its motion has ended (R205, R207). -/
def State.xRunEnd (s : State) (c : Nat) (e : GenEnd) : State :=
  let x := s.exe c
  match e with
  | .stopped =>
    if x.cancel then s.xCancelled c (if x.late then 0x16 else 0x15)
    else s.xFail c (if x.evStop then 0x18 else 0x17)
  | .missed => if x.cancel then s.xCancelled c 0x16 else s.xFail c 0x1A
  | .levelled =>
    if x.cancel then s.xCancelled c 0x16
    else if s.entF c 4 2 ≠ 0 then (s.xPermit c).setXst c 5
    else s.xComplete c

/-- `LOCKED` seen in CLOSING, HELD or IDLE clears the permissions; in CLOSING the entry completes or the cancel ends
(R205, R207, R208). -/
def State.xLocked (s : State) (c : Nat) : State :=
  let s := s.p (mpgP c) R.Mpg.EXE_STAT_LOCKED (b2n (s.locked c))
  let x := s.xst c
  if !s.locked c || !(x == 0 || x == 6 || x == 7) then s else
  let s := (s.p (mpgP c) R.Mpg.EXE_STAT_PERMIT_F 0).p (mpgP c) R.Mpg.EXE_STAT_PERMIT_R 0
  if x = 6 then (if (s.exe c).cancel then s.xCancelled c 0x15 else s.xComplete c) else s

/-- The selected compare of the current entry is among the events (R135, R202). -/
def State.xEvent (s : State) (c : Nat) : Bool :=
  s.entF c 9 1 == 1 && s.pulses.contains (s.entF c 10 3, s.entF c 13 2)

/-- `WAIT_EVT` entries whose event is present complete, one after another (R205). -/
def State.xWait (c : Nat) : Nat → State → State
  | 0, s => s
  | n + 1, s => if s.xst c = 3 && s.xEvent c then State.xWait c n (s.xComplete c) else s

/-- The executor sees the events of this command (R205, R209). -/
def State.xSettle (s : State) (c : Nat) : State :=
  let e := (s.gen c).ended
  let s := s.setGen c { s.gen c with ended := none }
  let s :=
    if s.xst c = 2 then
      match e with
      | some e => s.xRunEnd c e
      | none =>
        if s.gst c = 6 then s.xRunEnd c .stopped
        else if s.gst c = 2 && !(s.exe c).evStop && s.xEvent c then
          (s.genStop c { cause := 2, vals := s.stopVals c, tag := s.entF c 16 16 }).setExe c { s.exe c with evStop := true }
        else s
    else s
  (State.xWait c 64 s).xLocked c

/-- The cars whose units are present and powered (R3). -/
def State.cars (s : State) : List Nat := if !s.domOn 6 then [] else if s.lh6161 then [0] else [0, 1]

/-- What the generators, executors and doors make of lost sources, finished motions, compare events and the lanes'
signals. -/
def State.settle (s : State) : State :=
  let s := s.cars.foldl (fun m c => (m.srcScan c).genWake c) s
  let s := { s with hoist := { s.hoist with lost := [] } }
  let s := s.cars.foldl (fun m c => m.xSettle c) s
  let s := s.cars.foldl (fun m c => m.setGen c { m.gen c with caused := false }) s
  let s := if s.domOn 6 then s.sepShow else s
  { s with pulses := [] }.doorSignals

/-- The executor's part of a boundary: a refused request is asked again; pre-opening (R205, R208). -/
def State.xPeriod (s : State) (c : Nat) : State :=
  let s := if s.xst c = 1 && (s.exe c).again then (s.setExe c { s.exe c with again := false }).xAsk c else s
  let w := (s.rd (carP c + R.MpgC.CAR_WHERE_LDG.off)).toNat
  let v := (s.gs (mpgP c) R.Mpg.MPG_REF_VEL).natAbs
  let lim := s.g (mpgP c) R.Mpg.EXE_PREOPEN_V
  let have_ := (s.g (mpgP c) R.Mpg.EXE_STAT_PERMIT_F) + 2 * (s.g (mpgP c) R.Mpg.EXE_STAT_PERMIT_R)
  if s.xst c = 2 && s.entF c 6 1 = 1 && s.entF c 0 4 = 1 && s.gst c = 2 && bitOf w 12 && bitOf w 8 &&
      w % 256 = (s.entW c (s.xcur c) 1).toNat % 256 && lim ≠ 0 && v ≤ lim && Nat.lor have_ (s.entF c 4 2) ≠ have_ then
    s.xPermit c
  else s

/-- The serial requests with `SYNC` = 1 that a car's boundary paces fall due (R128, R147). -/
def State.markSync (s : State) (c : Nat) : State :=
  (if c = 0 then [0, 1, 6, 4, 5] else [2, 3, 7]).foldl (fun m n =>
    if m.serRuns n && m.b (fbP n) R.Fb.SYNC && !(m.fb n).sageTap then m.setFb n { m.fb n with reqDue := true } else m) s

/-- Real time of the first boundary of a car at or after `t`; on the LH6161 car L's have phase 0 (R147). -/
def State.bndFrom (s : State) (c t : Nat) : Nat :=
  let b := s.hoist.base + if c = 0 || s.lh6161 then 0 else s.g (mpgP 1) R.Mpg.PHASE * 5
  if t ≤ b then b else b + (t - b + 62499) / 62500 * 62500

/-- Real time of a car's next boundary: the first that has not been run (R147). -/
def State.nextBoundary (s : State) (c : Nat) : Nat :=
  let k := s.bndFrom c s.tbs.el
  if (s.gen c).bndAt = some k then k + 62500 else k

/-- A hoist period boundary of a car (R40, R147, R148, R192, R205). -/
def State.hoistBoundary (s : State) (c : Nat) : State :=
  if !s.domOn 6 then s else
  let k := s.nextBoundary c
  let s := ((s.advanceTo k).setGen c { s.gen c with bndAt := some k }).markSync c
  if s.lh6161 && c = 1 then s else
  let s := (s.pTs (mpgP c) R.Mpg.MPG_REF_TS_LO R.Mpg.MPG_REF_TS_HI s.stamp).whereUpdate c
  let s := (s.genWake c).genPeriod c (State.sepRelevel c)
  (s.sepEval.xPeriod c).settle

end Sys2Proof.Machine
end

