-- ==== Sys2Proof/Machine/DriveLink.lean ====
section
/-! DEFINITION. DLK, the drive links (R174 to R187). -/

namespace Sys2Proof.Machine

/-- A link's hidden state. -/
def State.dlk (s : State) (n : Nat) : Dlk := Tab.get (fun _ => ({} : Dlk)) s.dlks n
def State.setDlk (s : State) (n : Nat) (x : Dlk) : State := { s with dlks := Tab.set (fun _ => ({} : Dlk)) s.dlks n x }

/-- `LSTATE` (R183): 0 OFF, 1 SYNC, 2 HELLO, 3 TRIAL, 4 RUN, 5 LOST. -/
def State.lst (s : State) (n : Nat) : Nat := s.g (dlkP n) R.Dlk.STAT_LSTATE
def State.setLst (s : State) (n v : Nat) : State := s.ps (dlkP n) R.Dlk.STAT_LSTATE v

/-- The link drops to LOST with a reason, a stop cause of its car (R183). -/
def State.dlkDrop (s : State) (n reason : Nat) : State :=
  let s := (((s.setLst n 5).setDlk n { s.dlk n with lostAt := some s.tbs.el }).ps (dlkP n) R.Dlk.STAT_LOSS_REASON
    reason).genStop n { cause := 7 }
  (s.irq (dlkP n) 1).ikwOffer 0x180 (srcOf 0x0C n) [wd reason]

/-- A loss condition arises: from RUN the link enters LOST (R183); in the clock of that entry the lower `LOSS_REASON`
stands (R184). -/
def State.dlkLost (s : State) (n reason : Nat) : State :=
  if s.lst n = 4 then (s.dlkDrop n reason).settle
  else if s.lst n = 5 && (s.dlk n).lostAt == some s.tbs.el && decide (reason < s.g (dlkP n) R.Dlk.STAT_LOSS_REASON) then
    s.ps (dlkP n) R.Dlk.STAT_LOSS_REASON reason
  else s

/-- A period is missed (R181, R183). -/
def State.dlkMiss (s : State) (n : Nat) : State :=
  let x := s.dlk n
  let s := s.setDlk n { x with decided := true, misses := x.misses + 1, goods := 0 }
  let s := s.incIrq (dlkP n) R.Dlk.MISS_CNT (dlkP n) 2
  let t := s.fwOccur (0xDC + n)
  if t.g (dlkP n) R.Dlk.LOSS_N ≤ (t.dlk n).misses then t.dlkLost n 1
  else if becameLasting (0xDC + n) s t then t.dlkLost n 2
  else t

/-- Real time of the reply deadline (R181). -/
def State.dlkDeadline (s : State) (n : Nat) : Nat := (s.dlk n).txAt + s.g (dlkP n) R.Dlk.RESP_MAX * 1000

/-- The deadline of an undecided period passes. -/
def State.dlkExpire (s : State) (n : Nat) : State :=
  if (s.dlk n).decided then s else (s.advanceTo (s.dlkDeadline n)).dlkMiss n

/-- `ENABLE` as it will be sent (R178). -/
def State.dlkEnable (s : State) (n : Nat) : Bool :=
  s.b (dlkP n) R.Dlk.CTRL_ENABLE_REQ && s.lst n == 4 && s.gst n != 0 && s.gst n != 6 && !s.mainOpen n

/-- The 28 bytes of a down frame before its CRC (R177, R178): a `HELLO` has its own bytes 4 to 7 in every state of the
generator (log entry 155). -/
def State.dlkBody (s : State) (n seq : Nat) : List Nat :=
  let pg := mpgP n
  let valid := s.gst n != 0
  let flags := b2n valid + 2 * b2n (s.dlkEnable n) + 4 * b2n (s.gst n == 3) + 8 * b2n (s.gst n == 6 || s.lst n == 5) +
    16 * b2n (s.mainOpen n)
  let bnd := s.gTs (mpgP (if s.lh6161 then 0 else n)) R.Mpg.MPG_REF_TS_LO R.Mpg.MPG_REF_TS_HI
  let hello := s.lst n == 2
  let ref (f : Fld) : List Nat := bytesLE 4 (if valid then s.g pg f else 0)
  let pos := if hello then bytesLE 4 (1 + n * 256) else ref R.Mpg.MPG_REF_POS
  [if hello then 2 else 1, flags] ++ bytesLE 2 seq ++ pos ++ ref R.Mpg.MPG_REF_VEL ++ ref R.Mpg.MPG_REF_ACC ++
    bytesLE 8 bnd ++ bytesLE 4 0

/-- Real time of byte 0 of the next down frame (R177): 3.4 µs after a boundary, one frame a period. -/
def State.dlkDue (s : State) (n : Nat) : Nat :=
  let t := s.bndFrom n (s.tbs.el - 3400) + 3400
  if t = (s.dlk n).txAt then t + 62500 else t

/-- DOWN_FRAME: one per hoist period in HELLO, TRIAL, RUN and LOST (R177). -/
def execDownFrame (n : Fin 2) (s : State) : Host.Outcome State Fault Refusal :=
  .next (
    let n := n.val
    if s.lst n < 2 || !s.domOn 6 then s else
    let s := (s.dlkExpire n).advanceTo ((s.dlkExpire n).dlkDue n)
    let seq := (s.g (dlkP n) R.Dlk.TX_SEQ + 1) % 65536
    let body := s.dlkBody n seq
    let frame := body ++ bytesLE 4 (crc32c body).toNat
    let s := s.setDlk n { s.dlk n with
      sent := true, txStamp := s.stamp, txAt := s.tbs.el, decided := false, got := false, frame := frame }
    let s := (s.psB (dlkP n) R.Dlk.STAT_ENABLE (s.dlkEnable n)).p (dlkP n) R.Dlk.TX_SEQ seq
    s.pTs (dlkP n) R.Dlk.DLK_TX_TS_LO R.Dlk.DLK_TX_TS_HI s.stamp)

/-- Bytes `i` to `i + k − 1` of a received frame as a number. -/
def frameN (bytes : List Byte) (i k : Nat) : Nat := ofBytesLE (((bytes.drop i).take k).map BitVec.toNat)

/-- A handshake fails (R183). -/
def State.dlkHsFail (s : State) (n : Nat) : State :=
  ((s.inc (dlkP n) R.Dlk.HS_FAIL_CNT).irq (dlkP n) 5).setLst n 1

/-- A good period (R180, R182, R183): a `HELLO` reply brings no speed and no torque. -/
def State.dlkGood (s : State) (n : Nat) (b : List Byte) : State :=
  let pg := dlkP n
  let x := s.dlk n
  let hello := s.lst n = 2
  let st := frameN b 1 1
  let s := s.setDlk n { x with decided := true, misses := 0, goods := x.goods + 1 }
  let s := ((s.psB pg R.Dlk.STAT_DRV_READY (bitOf st 0)).psB pg R.Dlk.STAT_DRV_ENERGISED (bitOf st 1)).psB pg
    R.Dlk.STAT_DRV_FAULT (bitOf st 2)
  let s := (s.p pg R.Dlk.RX_ECHO (frameN b 4 2)).pTs pg R.Dlk.DLK_RX_TS_LO R.Dlk.DLK_RX_TS_HI s.stamp
  let s := s.pTs pg R.Dlk.DLK_FB_TS_LO R.Dlk.DLK_FB_TS_HI (s.stamp - 10 * frameN b 20 2)
  let s := (s.p pg R.Dlk.DLK_RTT (s.stamp - x.txStamp)).p pg R.Dlk.DLK_DRV_CODE (frameN b 6 2)
  let s := if hello then s else (s.p pg R.Dlk.DLK_FB_VEL (frameN b 8 4)).p pg R.Dlk.DLK_FB_TORQUE (frameN b 12 4)
  let s := (s.p pg R.Dlk.VDC (frameN b 16 2)).p pg R.Dlk.TEMP (frameN b 18 1)
  let s := (s.p pg R.Dlk.DLK_FB_AUX0 (frameN b 22 4)).p pg R.Dlk.DLK_FB_AUX1 (frameN b 26 2)
  let s := s.irq pg 4
  let s := if bitOf st 2 then s.irq pg 3 else s
  match s.lst n with
  | 2 =>
    if frameN b 8 1 = 1 then
      (((s.p pg R.Dlk.DLK_DRV_ID (frameN b 12 4)).p pg R.Dlk.DLK_DRV_VER (frameN b 8 1)).setLst n 3).setDlk n
        { s.dlk n with goods := 0 }
    else s.dlkHsFail n
  | 3 => if s.g pg R.Dlk.RUN_N ≤ (s.dlk n).goods then (s.setLst n 4).irq pg 0 else s
  | _ => if bitOf st 2 then s.dlkLost n 4 else s

/-- UP_FRAME: the 32 data bytes of a frame whose byte 0 arrives `dt` ns after byte 0 of the down frame (R180, R181). -/
def execUpFrame (n : Fin 2) (bytes : List Byte) (dt : Nat) (s : State) : Host.Outcome State Fault Refusal :=
  .next (
    let n := n.val
    let pg := dlkP n
    if s.lst n = 0 || !(s.dlk n).sent || !s.domOn 6 then s else
    let at_ := (s.dlk n).txAt + dt
    let s := if s.dlkDeadline n < at_ then s.dlkExpire n else s
    let s := s.advanceTo at_
    let x := s.dlk n
    if x.got then s.inc pg R.Dlk.EXTRA_CNT else
    let s := s.setDlk n { x with got := true }
    let late := decide (x.txStamp + s.g pg R.Dlk.RESP_MAX * 1000 < s.stamp) || x.decided
    let crc := crc32c ((bytes.take 28).map BitVec.toNat) ≠ wd (frameN bytes 28 4) || bytes.length ≠ 32
    let echo := frameN bytes 4 2 ≠ s.g pg R.Dlk.TX_SEQ
    let s := if crc then s.inc pg R.Dlk.CRC_CNT else s
    let s := if echo then s.inc pg R.Dlk.ECHO_CNT else s
    let s := if late then s.inc pg R.Dlk.LATE_CNT else s
    if crc || echo || late || frameN bytes 0 1 ≠ (if s.lst n = 2 then 0x82 else 0x81) then s else s.dlkGood n bytes)

/-- PERIOD_MISS: `RESP_MAX` passes without a good up frame (R181). -/
def execPeriodMiss (n : Fin 2) (s : State) : Host.Outcome State Fault Refusal := .next (if s.domOn 6 then s.dlkExpire n.val else s)

/-- SYMBOL_LOCK (R183). -/
def execSymbolLock (n : Fin 2) (s : State) : Host.Outcome State Fault Refusal :=
  .next (
    let n := n.val
    if s.lst n = 0 || !s.domOn 6 then s else
    let s := s.ps (dlkP n) R.Dlk.STAT_LOCK 1
    if s.lst n = 1 then (s.setLst n 2).setDlk n { s.dlk n with helloAt := s.tbs.el } else s)

/-- SYMBOL_LOCK_LOSS (R183). -/
def execSymbolLockLoss (n : Fin 2) (s : State) : Host.Outcome State Fault Refusal :=
  .next (
    let n := n.val
    if s.lst n = 0 || !s.domOn 6 then s else
    let s := s.ps (dlkP n) R.Dlk.STAT_LOCK 0
    s.dlkLost n 3)

/-- HELLO_TIMEOUT (R183). -/
def execHelloTimeout (n : Fin 2) (s : State) : Host.Outcome State Fault Refusal :=
  .next (
    let n := n.val
    if s.lst n = 2 && s.domOn 6 then
      (s.advanceTo ((s.dlk n).helloAt + s.g (dlkP n) R.Dlk.DLK_HELLO_HELLO_TMO * 1000000)).dlkHsFail n
    else s)

/-- A write of `CTRL` of a link (R183, R184, R185). -/
def State.dlkCtrl (s : State) (n : Nat) (v : Word) : State :=
  let pg := dlkP n
  let w := v.toNat
  if !bitOf w 0 && s.b pg R.Hdr.CTRL_EN && (2 ≤ s.gst n && s.gst n ≤ 5) then s.flt pg else
  let s := (s.pB pg R.Hdr.CTRL_EN (bitOf w 0)).pB pg R.Dlk.CTRL_ENABLE_REQ (bitOf w 1)
  let s :=
    if bitOf w 2 then
      if s.lst n = 5 && (s.gst n = 0 || s.gst n = 1 || s.gst n = 6) && !s.fwLasting (0xDC + n) then
        (s.setLst n 1).setDlk n { s.dlk n with misses := 0 }
      else s.flt pg
    else s
  if !bitOf w 0 then (((s.setLst n 0).ps pg R.Dlk.STAT_ENABLE 0).ps pg R.Dlk.STAT_LOCK 0).setDlk n
    { s.dlk n with sent := false, decided := true, misses := 0, goods := 0 }
  else if s.lst n = 0 then s.setLst n 1
  else s

/-- LOSS_CLR (R184). -/
def execLossClr (ini : Ini) (n : Fin 2) (v : Word) (s : State) : Host.Outcome State Fault Refusal :=
  .next (s.onWrite ini (dlkP n.val + 0x008) fun s => s.dlkCtrl n.val (v ||| 4#32))

/-- DLK_ENABLE (R183). -/
def execDlkEnable (ini : Ini) (n : Fin 2) (v : Word) (s : State) : Host.Outcome State Fault Refusal :=
  .next (s.onWrite ini (dlkP n.val + 0x008) fun s => s.dlkCtrl n.val v)

end Sys2Proof.Machine
end

