-- ==== Sys2Proof/Machine/HoistCmd.lean ====
section
/-! DEFINITION. The commands of the shaft map, the generators, SEP and the executors (R34 to R40, R147 to R216). -/

namespace Sys2Proof.Machine

/-- Nib lands a burst on a command port; `k` is the effect of its last word (R50, R432). -/
def State.onPort (s : State) (a : Nat) (k : State → State) : State := s.onWrite .nib a k

/-! ### The map -/

/-- A write of `MPG_MAP_CTRL` (R34, R35, R37): a word that arms and disarms one car is ignored as a whole; arm bits
are ignored while `BUSY`. -/
def State.mapCtrl (s : State) (v : Word) : State :=
  let w := v.toNat
  let armU := bitOf w 0
  let armL := bitOf w 1
  let disU := bitOf w 4
  let disL := bitOf w 5
  if (armU && disU) || (armL && disL) then s.pm R.MpgC.MAP_WR_REJ 1 else
  let busy := s.b mpgC R.MpgC.MAP_BUSY
  let dis (s : State) (c : Nat) (d : Bool) : State :=
    if d && s.armed c then (if s.restIdle c then s.disarm c else s.pm R.MpgC.MAP_DIS_REJ 1) else s
  let arm (s : State) (c : Nat) (a : Bool) : State :=
    if !a || busy || (c = 1 && s.lh6161) then s
    else if s.armed c && !s.restIdle c then s.pm R.MpgC.MAP_WR_REJ 1
    else ({ s with hoist := { s.hoist with arming := s.hoist.arming ++ [c] } }).pm R.MpgC.MAP_BUSY 1
  (arm (arm (dis (dis s 0 disU) 1 disL) 0 armU) 1 armL).sepShow

/-- Set or clear a car's `ARMED` bit by the result of its check. -/
def State.armResult (s : State) (c : Nat) (ok : Bool) : State :=
  if ok then s.pm (if c = 0 then R.MpgC.MAP_ARMED_U else R.MpgC.MAP_ARMED_L) 1
  else if s.armed c then s.disarm c else s

/-- The results of the map check (R34, R35): the first failure is reported. -/
def State.armOutcome (s : State) : State :=
  let rs := s.hoist.arming.map fun c => (c, s.mapCheck c)
  let e := ((rs.filterMap fun r => r.2).head?).getD ⟨0, 0, false⟩
  let s := ((s.pm R.MpgC.MAP_ERR e.err).pm R.MpgC.MAP_ERR_LDG e.ldg).pm R.MpgC.MAP_ERR_CAR (b2n e.car)
  let s := rs.foldl (fun m r => m.armResult r.1 r.2.isNone) s
  let s := { s with hoist := { s.hoist with arming := [] } }
  (s.pm R.MpgC.MAP_BUSY 0).pm R.MpgC.MAP_DONE 1

/-- The map check ends. -/
def State.armDone (s : State) : State := s.armOutcome.settle

/-- ARM_U: `v` is the word written; its `ARM_U` bit is 1 (R34). -/
def execArmU (ini : Ini) (v : Word) (s : State) : Host.Outcome State Fault Refusal :=
  .next (s.onWrite ini (mpgC + 0x044) fun s => s.mapCtrl (v ||| 1#32))

/-- ARM_L (R34). -/
def execArmL (ini : Ini) (v : Word) (s : State) : Host.Outcome State Fault Refusal :=
  .next (s.onWrite ini (mpgC + 0x044) fun s => s.mapCtrl (v ||| 2#32))

/-- ARM_CHECK_DONE (R34): only while a check runs and PD_MOT is clocked. -/
def execArmCheckDone (s : State) : Host.Outcome State Fault Refusal :=
  .next (if s.b mpgC R.MpgC.MAP_BUSY && s.domOn 6 then s.armDone else s)

/-- DISARM_U (R37). -/
def execDisarmU (ini : Ini) (v : Word) (s : State) : Host.Outcome State Fault Refusal :=
  .next (s.onWrite ini (mpgC + 0x044) fun s => s.mapCtrl (v ||| 16#32))

/-- DISARM_L (R37). -/
def execDisarmL (ini : Ini) (v : Word) (s : State) : Host.Outcome State Fault Refusal :=
  .next (s.onWrite ini (mpgC + 0x044) fun s => s.mapCtrl (v ||| 32#32))

/-! ### The generators -/

/-- HOIST_PERIOD_BOUNDARY of a car (R147). -/
def execHoistPeriodBoundary (c : Fin 2) (s : State) : Host.Outcome State Fault Refusal :=
  .next (s.hoistBoundary c.val)

/-- Real times at which SETTLING ends levelled, if the car stands within `LVL_TOL`, and unlevelled (R156). -/
def State.lvlOkAt (s : State) (c : Nat) : Option Nat :=
  if s.inTol c then some (((s.gen c).okAt.getD s.tbs.el) + s.g (mpgP c) R.Mpg.LVL_SETTLE * 1000000) else none
def State.lvlTmoAt (s : State) (c : Nat) : Nat := (s.gen c).settleAt + s.g (mpgP c) R.Mpg.LVL_TMO * 1000000

/-- Whether SETTLING will end levelled as the car stands now. -/
def State.willLevel (s : State) (c : Nat) : Bool :=
  match s.lvlOkAt c with
  | some t => decide (t ≤ s.lvlTmoAt c)
  | none => false

/-- SETTLING ends levelled (R156). -/
def State.levelEnd (s : State) (c : Nat) : State :=
  let pg := mpgP c
  let s := s.advanceTo ((s.lvlOkAt c).getD 0)
  let s := ((s.ps pg R.Mpg.STAT_LEVELLED 1).irq pg 0).genResult c 0 (s.gen c).tag
  let s := s.setGst c 1
  let g := s.gen c
  (s.setGen c { g with kept := g.dest, okAt := none, ended := some .levelled }).refHold c

/-- SETTLING ends unlevelled (R156). -/
def State.missEnd (s : State) (c : Nat) : State :=
  let pg := mpgP c
  let s := s.advanceTo (s.lvlTmoAt c)
  let s := ((s.ps pg R.Mpg.STAT_LEVEL_MISS 1).irq pg 1).irq pg 0
  let s := s.setGst c 1
  (s.setGen c { s.gen c with kept := none, okAt := none, ended := some .missed }).refHold c

/-- LEVELLED (R156): in SETTLING, with the car within `LVL_TOL` until `LVL_SETTLE` has passed. -/
def execLevelled (c : Fin 2) (s : State) : Host.Outcome State Fault Refusal :=
  .next (if s.domOn 6 && s.gst c = 4 && s.willLevel c then (s.levelEnd c).settle else s)

/-- LEVEL_MISS (R156): `LVL_TMO` passes in SETTLING without levelling. -/
def execLevelMiss (c : Fin 2) (s : State) : Host.Outcome State Fault Refusal :=
  .next (if s.domOn 6 && s.gst c = 4 && !s.willLevel c then (s.missEnd c).settle else s)

/-- Words of an MPG command burst (R172). -/
def State.mpgWords (s : State) (c : Nat) (d j op : Word) : State :=
  ((s.wr (mpgP c + 0x100) d).wr (mpgP c + 0x104) j).wr (mpgP c + 0x108) op

/-- The generator takes a command word (R158, R157, R161, R162, R172). -/
def State.mpgOp (s : State) (c : Nat) (d j op : Word) : State :=
  let s := s.mpgWords c d j op
  let tag := fget R.Mpg.MPG_CMD_OP_TAG op
  match fget R.Mpg.MPG_CMD_OP_OP op with
  | 1 => (s.genStop c { cause := 1, tag := tag }).settle
  | 2 => (s.genStop c { cause := 1, vals := some (d.toNat, j.toNat), tag := tag }).settle
  | 3 =>
    match s.gst c with
    | 0 | 6 => s.genResult c 0x02 tag
    | 1 => if (s.gen c).kept.isSome then s.setGen c { s.gen c with relevel := (s.gen c).relevel ++ [tag] }
           else s.genResult c 0x0A tag
    | _ => s.genResult c 0x01 tag
  | _ => s.genResult c 0x0C tag

/-- An MPG command word (R172). -/
def mpgWord (tag : BitVec 16) (op : Nat) : Word := wd (tag.toNat * 0x10000 + op)

/-- MPG_STOP (R158). -/
def execMpgStop (c : Fin 2) (tag : BitVec 16) (s : State) : Host.Outcome State Fault Refusal :=
  .next (s.onPort (mpgP c.val + 0x108) fun s => s.mpgOp c.val 0 0 (mpgWord tag 1))

/-- MPG_STOP_RAMP (R161). -/
def execMpgStopRamp (c : Fin 2) (d j : Word) (tag : BitVec 16) (s : State) : Host.Outcome State Fault Refusal :=
  .next (s.onPort (mpgP c.val + 0x108) fun s => s.mpgOp c.val d j (mpgWord tag 2))

/-- MPG_RELEVEL (R157). -/
def execMpgRelevel (c : Fin 2) (tag : BitVec 16) (s : State) : Host.Outcome State Fault Refusal :=
  .next (s.onPort (mpgP c.val + 0x108) fun s => s.mpgOp c.val 0 0 (mpgWord tag 3))

/-- The conditions of R168. -/
def State.haltClrOk (s : State) (c : Nat) : Bool :=
  let still (n : Nat) : Bool := s.chValid n && s.gs (fbP n) R.Fb.PFI_SPD == 0
  !s.mainOpen c && !s.fwLasting (0xF4 + c) && (still (s.srcPri c) || still (s.srcSec c))

/-- `HALT_CLR` acts in HALTED when its conditions hold; else it is discarded and counted (R168). -/
def State.haltClear (s : State) (c : Nat) : State :=
  if s.gst c = 6 && s.haltClrOk c then
    let s := (s.setGst c 1).ps (mpgP c) R.Mpg.STAT_LEVELLED 0
    ((s.setGen c { s.gen c with kept := none, follow := false, halt := false, noTerm := false }).refFollow c).degClear c
  else s.flt (mpgP c)

/-- What a write of `CTRL` that is not discarded does to the generator (R168, R169, R170). -/
def State.mpgCtrlAct (s : State) (c : Nat) (v : Word) : State :=
  let s := s.pB (mpgP c) R.Hdr.CTRL_EN (bitOf v.toNat 0)
  let s := if bitOf v.toNat 1 then s.haltClear c else s
  if !bitOf v.toNat 0 then (if s.gst c = 0 then s else s.genOff c).degClear c else s

/-- A write of `CTRL` of a generator page (R168, R169, R170): clearing `EN` in motion is discarded. -/
def State.mpgCtrl (s : State) (c : Nat) (v : Word) : State :=
  if !bitOf v.toNat 0 && (2 ≤ s.gst c && s.gst c ≤ 5) then s.flt (mpgP c) else (s.mpgCtrlAct c v).settle

/-- HALT_CLR (R168): `v` is the word written to `CTRL`; its `HALT_CLR` bit is 1. -/
def execHaltClr (ini : Ini) (c : Fin 2) (v : Word) (s : State) : Host.Outcome State Fault Refusal :=
  .next (s.onWrite ini (mpgP c.val + 0x008) fun s => s.mpgCtrl c.val (v ||| 2#32))

/-- MPG_ENABLE (R169): `v` is the word written to `CTRL`. -/
def execMpgEnable (ini : Ini) (c : Fin 2) (v : Word) (s : State) : Host.Outcome State Fault Refusal :=
  .next (s.onWrite ini (mpgP c.val + 0x008) fun s => s.mpgCtrl c.val v)

/-! ### SEP -/

/-- A W1C write of SEP `STAT` (R197). -/
def State.sepStatWrite (s : State) (v : Word) : State :=
  if !bitOf v.toNat 2 then s
  else if s.fwLasting 0xF6 then s.flt sepC
  else s.ps sepC R.SepC.STAT_DISAGREE 0

/-- SEP_DISAGREE_CLEAR (R197). -/
def execSepDisagreeClear (ini : Ini) (v : Word) (s : State) : Host.Outcome State Fault Refusal :=
  .next (s.onWrite ini (sepC + 0x00C) fun s => s.sepStatWrite v)

/-! ### The executors -/

/-- Write `EXE_CMD_RESULT`; a code other than `OK` raises `CMD_REJ` (R204, R216). -/
def State.xCmd (s : State) (c code tag : Nat) : State :=
  let s := s.wr (mpgP c + R.Mpg.EXE_CMD_RESULT_CODE.off) (wd (tag * 0x100 + code))
  if code = 0 then s else s.xirq c 4

/-- Whether the words are no valid entry (R203). -/
def State.badEntry (s : State) (c : Nat) (w0 w1 : Word) : Bool :=
  let op := w0.toNat % 16
  let f := bitOf w0.toNat 4
  let r := bitOf w0.toNat 5
  let n := w1.toNat % 256
  decide (4 < op) || (op == 3 && !bitOf w0.toNat 9) || (op == 4 && w1 == 0#32) ||
  (op == 1 && decide (s.ldgLast < n)) || (op == 2 && (f || r)) ||
  (f && !s.b (carP c) R.MpgC.CAR_DOORS_FRONT) || (r && !s.b (carP c) R.MpgC.CAR_DOORS_REAR) ||
  (op == 1 && ((f && !s.b (ldgP n) R.Ldg.FRONT) || (r && !s.b (ldgP n) R.Ldg.REAR)))

/-- `LOAD` (R203, R204); the reserved bit 15 of W0 stays 0 (R70). -/
def State.xLoad (s : State) (c idx : Nat) (w0 w1 w2 w3 : Word) (tag : Nat) : State :=
  if idx = s.xcur c && s.xst c ≠ 0 && s.xst c ≠ 7 then s.xCmd c 0x13 tag
  else if s.badEntry c w0 w1 then s.xCmd c 0x12 tag
  else
    let a := entP c idx
    ((((s.wr (a + 0x400) (w0 &&& 0xFFFF7FFF#32)).wr (a + 0x404) w1).wr (a + 0x408) w2).wr (a + 0x40C) w3).xCmd c 0 tag

/-- `GO` (R204). -/
def State.xGo (s : State) (c idx tag : Nat) : State :=
  if !s.armed c then s.xCmd c 0x10 tag
  else if s.xst c ≠ 0 then s.xCmd c 0x14 tag
  else ((s.xCmd c 0 tag).p (mpgP c) R.Mpg.EXE_STAT_CURRENT idx).xStart c

/-- `HOLD` (R204). -/
def State.xHold (s : State) (c tag : Nat) : State :=
  let s := s.xCmd c 0 tag
  if s.xst c = 0 || s.xst c = 7 then s else s.p (mpgP c) R.Mpg.EXE_STAT_HOLD_PEND 1

/-- `RESUME` (R204). -/
def State.xResume (s : State) (c tag : Nat) : State :=
  if !s.armed c then s.xCmd c 0x10 tag
  else if s.xst c ≠ 7 then s.xCmd c 0x14 tag
  else (s.xCmd c 0 tag).xStart c

/-- `CANCEL` (R204, R207). -/
def State.xCancel (s : State) (c : Nat) (w0 w1 : Word) (tag : Nat) : State :=
  match s.xst c with
  | 0 => s.xCmd c 0 tag
  | 2 =>
    if s.gst c = 4 then (s.xCmd c 0x16 tag).setExe c { s.exe c with cancel := true, late := true }
    else
      let s := (s.xCmd c 0 tag).setExe c { s.exe c with cancel := true }
      let vals := if w0 ≠ 0 ∧ w1 ≠ 0 then some (w0.toNat, w1.toNat) else s.stopVals c
      s.genStop c { cause := 2, vals := vals, tag := s.entF c 16 16 }
  | 5 | 6 => ((s.xCmd c 0 tag).setXst c 6).setExe c { s.exe c with cancel := true }
  | _ => (s.xCmd c 0 tag).xCancelled c 0x15

/-- `RELEASE` (R204). -/
def State.xRelease (s : State) (c tag : Nat) : State :=
  if s.xst c ≠ 5 then s.xCmd c 0x14 tag else (s.xCmd c 0 tag).setXst c 6

/-- The executor takes a command word (R204). -/
def State.xOp (s : State) (c : Nat) (w0 w1 w2 w3 op : Word) : State :=
  let pg := mpgP c
  let s := ((((s.wr (pg + 0x200) w0).wr (pg + 0x204) w1).wr (pg + 0x208) w2).wr (pg + 0x20C) w3).wr (pg + 0x210) op
  let tag := fget R.Mpg.EXE_CMD_OP_TAG op
  let idx := fget R.Mpg.EXE_CMD_OP_INDEX op
  State.settle (match fget R.Mpg.EXE_CMD_OP_OP op with
    | 1 => s.xLoad c idx w0 w1 w2 w3 tag
    | 2 => s.xGo c idx tag
    | 3 => s.xHold c tag
    | 4 => s.xResume c tag
    | 5 => s.xCancel c w0 w1 tag
    | 6 => s.xRelease c tag
    | _ => s.xCmd c 0x0C tag)

/-- An executor command word (R214). -/
def exeWord (tag : BitVec 16) (idx op : Nat) : Word := wd (tag.toNat * 0x10000 + idx * 0x100 + op)

/-- EXE_LOAD (R204). -/
def execExeLoad (c : Fin 2) (idx : Fin 64) (w0 w1 w2 w3 : Word) (tag : BitVec 16) (s : State) :
    Host.Outcome State Fault Refusal :=
  .next (s.onPort (mpgP c.val + 0x210) fun s => s.xOp c.val w0 w1 w2 w3 (exeWord tag idx.val 1))

/-- EXE_GO (R204). -/
def execExeGo (c : Fin 2) (idx : Fin 64) (tag : BitVec 16) (s : State) : Host.Outcome State Fault Refusal :=
  .next (s.onPort (mpgP c.val + 0x210) fun s => s.xOp c.val 0 0 0 0 (exeWord tag idx.val 2))

/-- EXE_HOLD (R204). -/
def execExeHold (c : Fin 2) (tag : BitVec 16) (s : State) : Host.Outcome State Fault Refusal :=
  .next (s.onPort (mpgP c.val + 0x210) fun s => s.xOp c.val 0 0 0 0 (exeWord tag 0 3))

/-- EXE_RESUME (R204). -/
def execExeResume (c : Fin 2) (tag : BitVec 16) (s : State) : Host.Outcome State Fault Refusal :=
  .next (s.onPort (mpgP c.val + 0x210) fun s => s.xOp c.val 0 0 0 0 (exeWord tag 0 4))

/-- EXE_CANCEL (R207). -/
def execExeCancel (c : Fin 2) (w0 w1 : Word) (tag : BitVec 16) (s : State) : Host.Outcome State Fault Refusal :=
  .next (s.onPort (mpgP c.val + 0x210) fun s => s.xOp c.val w0 w1 0 0 (exeWord tag 0 5))

/-- EXE_RELEASE (R204). -/
def execExeRelease (c : Fin 2) (tag : BitVec 16) (s : State) : Host.Outcome State Fault Refusal :=
  .next (s.onPort (mpgP c.val + 0x210) fun s => s.xOp c.val 0 0 0 0 (exeWord tag 0 6))

/-- Time at which the `DWELL` or `WAIT_EVT` entry in force runs out (R205). -/
def State.xDue (s : State) (c : Nat) : Nat := (s.exe c).startAt + (s.entW c (s.xcur c) 1).toNat * 1000000

/-- DWELL_DONE (R205): `ARG` ms have passed since the `DWELL` entry started. -/
def execDwellDone (c : Fin 2) (s : State) : Host.Outcome State Fault Refusal :=
  .next (if s.xst c = 4 && s.domOn 6 then ((s.advanceTo (s.xDue c)).xComplete c).settle else s)

/-- EVT_TIMEOUT (R205): the timeout of a `WAIT_EVT` entry passes. -/
def execEvtTimeout (c : Fin 2) (s : State) : Host.Outcome State Fault Refusal :=
  .next (if s.xst c = 3 && s.entW c (s.xcur c) 1 ≠ 0#32 && s.domOn 6 then
    ((s.advanceTo (s.xDue c)).xFail c 0x19).settle else s)

end Sys2Proof.Machine
end

