-- ==== Sys2Proof/Machine/Crypto.lean ====
section
/-! DEFINITION. The signatures and hashes of MEM: SHA-512 and Ed25519 (R308, R524, R528, R529, R531), as their standards
(FIPS 180-4, RFC 8032) define them; log entry 159. -/

namespace Sys2Proof.Machine

/-! ### SHA-512 -/

/-- The round constants. -/
def shaK1 : List Nat :=
  [
   0x428A2F98D728AE22, 0x7137449123EF65CD, 0xB5C0FBCFEC4D3B2F, 0xE9B5DBA58189DBBC,
   0x3956C25BF348B538, 0x59F111F1B605D019, 0x923F82A4AF194F9B, 0xAB1C5ED5DA6D8118,
   0xD807AA98A3030242, 0x12835B0145706FBE, 0x243185BE4EE4B28C, 0x550C7DC3D5FFB4E2,
   0x72BE5D74F27B896F, 0x80DEB1FE3B1696B1, 0x9BDC06A725C71235, 0xC19BF174CF692694,
   0xE49B69C19EF14AD2, 0xEFBE4786384F25E3, 0x0FC19DC68B8CD5B5, 0x240CA1CC77AC9C65,
   0x2DE92C6F592B0275, 0x4A7484AA6EA6E483, 0x5CB0A9DCBD41FBD4, 0x76F988DA831153B5,
   0x983E5152EE66DFAB, 0xA831C66D2DB43210, 0xB00327C898FB213F, 0xBF597FC7BEEF0EE4,
   0xC6E00BF33DA88FC2, 0xD5A79147930AA725, 0x06CA6351E003826F, 0x142929670A0E6E70,
   0x27B70A8546D22FFC, 0x2E1B21385C26C926, 0x4D2C6DFC5AC42AED, 0x53380D139D95B3DF,
   0x650A73548BAF63DE, 0x766A0ABB3C77B2A8, 0x81C2C92E47EDAEE6, 0x92722C851482353B]
def shaK2 : List Nat :=
  [
   0xA2BFE8A14CF10364, 0xA81A664BBC423001, 0xC24B8B70D0F89791, 0xC76C51A30654BE30,
   0xD192E819D6EF5218, 0xD69906245565A910, 0xF40E35855771202A, 0x106AA07032BBD1B8,
   0x19A4C116B8D2D0C8, 0x1E376C085141AB53, 0x2748774CDF8EEB99, 0x34B0BCB5E19B48A8,
   0x391C0CB3C5C95A63, 0x4ED8AA4AE3418ACB, 0x5B9CCA4F7763E373, 0x682E6FF3D6B2B8A3,
   0x748F82EE5DEFB2FC, 0x78A5636F43172F60, 0x84C87814A1F0AB72, 0x8CC702081A6439EC,
   0x90BEFFFA23631E28, 0xA4506CEBDE82BDE9, 0xBEF9A3F7B2C67915, 0xC67178F2E372532B,
   0xCA273ECEEA26619C, 0xD186B8C721C0C207, 0xEADA7DD6CDE0EB1E, 0xF57D4F7FEE6ED178,
   0x06F067AA72176FBA, 0x0A637DC5A2C898A6, 0x113F9804BEF90DAE, 0x1B710B35131C471B,
   0x28DB77F523047D84, 0x32CAAB7B40C72493, 0x3C9EBE0A15C9BEBC, 0x431D67C49C100D4C,
   0x4CC5D4BECB3E42B6, 0x597F299CFC657E2A, 0x5FCB6FAB3AD6FAEC, 0x6C44198C4A475817]

/-- The initial hash value. -/
def shaH : List Nat :=
  [
   0x6A09E667F3BCC908, 0xBB67AE8584CAA73B, 0x3C6EF372FE94F82B, 0xA54FF53A5F1D36F1,
   0x510E527FADE682D1, 0x9B05688C2B3E6C1F, 0x1F83D9ABFB41BD6B, 0x5BE0CD19137E2179]

/-- 64-bit rotation, and the four sums of rotations and shifts. -/
def ror64 (x n : Nat) : Nat := x / 2 ^ n + x % 2 ^ n * 2 ^ (64 - n)
def xor3 (a b c : Nat) : Nat := Nat.xor (Nat.xor a b) c
def shaS0 (x : Nat) : Nat := xor3 (ror64 x 28) (ror64 x 34) (ror64 x 39)
def shaS1 (x : Nat) : Nat := xor3 (ror64 x 14) (ror64 x 18) (ror64 x 41)
def shaT0 (x : Nat) : Nat := xor3 (ror64 x 1) (ror64 x 8) (x / 2 ^ 7)
def shaT1 (x : Nat) : Nat := xor3 (ror64 x 19) (ror64 x 61) (x / 2 ^ 6)

/-- The message schedule of a block, newest word first, from its 16 words. -/
def shaSched : Nat → List Nat → List Nat
  | 0, w => w
  | n + 1, w =>
    shaSched n ((shaT1 (w.getD 1 0) + w.getD 6 0 + shaT0 (w.getD 14 0) + w.getD 15 0) % 2 ^ 64 :: w)

/-- One round on the working variables a to h. -/
def shaRound (v : List Nat) (k w : Nat) : List Nat :=
  match v with
  | [a, b, c, d, e, f, g, h] =>
    let ch := Nat.xor (Nat.land e f) (Nat.land (2 ^ 64 - 1 - e) g)
    let t1 := h + shaS1 e + ch + k + w
    let maj := xor3 (Nat.land a b) (Nat.land a c) (Nat.land b c)
    [(t1 + shaS0 a + maj) % 2 ^ 64, a, b, c, (d + t1) % 2 ^ 64, e, f, g]
  | _ => v

/-- One block of 16 words. -/
def shaBlock (h ws : List Nat) : List Nat :=
  let w := (shaSched 64 ws.reverse).reverse
  let v := ((shaK1 ++ shaK2).zip w).foldl (fun v x => shaRound v x.1 x.2) h
  (h.zip v).map fun x => (x.1 + x.2) % 2 ^ 64

/-- Big-endian number of some bytes, and back. -/
def ofBytesBE (bs : List Nat) : Nat := bs.foldl (fun n b => n * 256 + b) 0
def bytesBE (n v : Nat) : List Nat := (bytesLE n v).reverse

/-- The first `n` blocks of 128 bytes. -/
def shaBlocks : Nat → List Nat → List Nat → List Nat
  | 0, h, _ => h
  | n + 1, h, bs =>
    shaBlocks n (shaBlock h ((List.range 16).map fun i => ofBytesBE ((bs.drop (8 * i)).take 8))) (bs.drop 128)

/-- SHA-512 of a string of bytes, 64 bytes. -/
def sha512 (bs : List Nat) : List Nat :=
  let n := bs.length
  let pad := (239 - n % 128) % 128
  let msg := bs ++ 0x80 :: List.replicate pad 0 ++ bytesBE 16 (8 * n)
  (shaBlocks (msg.length / 128) shaH msg).flatMap (bytesBE 8)

/-! ### Ed25519 -/

/-- The field, the order of the base point, the curve's constant and a square root of −1. -/
def edP : Nat := 2 ^ 255 - 19
def edL : Nat := 2 ^ 252 + 27742317777372353535851937790883648493
def edD : Nat := 0x52036CEE2B6FFE738CC740797779E89800700A4D4141D8AB75EB4DCA135978A3
def edI : Nat := 0x2B8324804FC1DF0B2B4D00993DFBD7A72F431806AD2FE478C4EE1B274A0EA0B0

/-- Powers in the field by the low `n` bits of the exponent. -/
def powP (b e : Nat) : Nat → Nat
  | 0 => 1
  | n + 1 =>
    let r := powP (b * b % edP) (e / 2) n
    if e % 2 = 1 then r * b % edP else r
def invP (x : Nat) : Nat := powP x (edP - 2) 255

/-- A point in extended coordinates (X : Y : Z : T). -/
structure EdPt where
  x : Nat
  y : Nat
  z : Nat
  t : Nat
deriving DecidableEq, Repr

def edZero : EdPt := ⟨0, 1, 1, 0⟩
def edBase : EdPt :=
  ⟨0x216936D3CD6E53FEC0A4E231FDD6DC5C692CC7609525A7B2C9562D608F25D51A, 0x6666666666666666666666666666666666666666666666666666666666666658, 1,
   0x67875F0FD78B766566EA4E8E64ABE37D20F09F80775152F56DDE8AB3A5B7DDA3⟩

/-- The sum of two points, and the opposite of one. -/
def edAdd (p q : EdPt) : EdPt :=
  let a := (p.y + edP - p.x) * (q.y + edP - q.x) % edP
  let b := (p.y + p.x) * (q.y + q.x) % edP
  let c := p.t * 2 * edD % edP * q.t % edP
  let d := p.z * 2 * q.z % edP
  let e := b + edP - a
  let f := d + edP - c
  let g := d + c
  let h := b + a
  ⟨e * f % edP, g * h % edP, f * g % edP, e * h % edP⟩
def edNeg (p : EdPt) : EdPt := ⟨(edP - p.x) % edP, p.y, p.z, (edP - p.t) % edP⟩

/-- A multiple of a point by the low `n` bits of the scalar. -/
def edMul (p : EdPt) (k : Nat) : Nat → EdPt
  | 0 => edZero
  | n + 1 =>
    let r := edMul (edAdd p p) (k / 2) n
    if k % 2 = 1 then edAdd r p else r

/-- A point as 32 bytes, and back; none: the bytes are no point. -/
def edEnc (p : EdPt) : List Nat :=
  let zi := invP p.z
  bytesLE 32 (p.y * zi % edP + p.x * zi % edP % 2 * 2 ^ 255)
def edDec (bs : List Nat) : Option EdPt :=
  let n := ofBytesLE bs
  let y := n % 2 ^ 255
  let sign := n / 2 ^ 255 % 2
  if edP ≤ y then none else
  let u := (y * y + edP - 1) % edP
  let v := (edD * (y * y % edP) + 1) % edP
  let v3 := v * v % edP * v % edP
  let x := u * v3 % edP * powP (u * (v3 * v3 % edP * v % edP) % edP) ((edP - 5) / 8) 255 % edP
  let vxx := v * (x * x % edP) % edP
  let root := if vxx = u then some x else if vxx = (edP - u) % edP then some (x * edI % edP) else none
  match root with
  | none => none
  | some x =>
    if x = 0 && sign == 1 then none else
    let x := if x % 2 = sign then x else edP - x
    some ⟨x, y, 1, x * y % edP⟩

/-- The scalar that a hash stands for. -/
def edScalar (bs : List Nat) : Nat := ofBytesLE (sha512 bs) % edL

/-- A signature of 64 bytes over a message verifies under a public key of 32 bytes. -/
def edVerify (pk sig msg : List Nat) : Bool :=
  let r := sig.take 32
  let k := ofBytesLE (sig.drop 32)
  match edDec pk with
  | none => false
  | some a =>
    decide (k < edL) && pk.length == 32 && sig.length == 64 &&
      edEnc (edAdd (edMul edBase k 253) (edMul (edNeg a) (edScalar (r ++ pk ++ msg)) 253)) == r

/-- The signature of a message under a private key of 32 bytes. -/
def edSign (sk msg : List Nat) : List Nat :=
  let h := sha512 sk
  let a := ofBytesLE (h.take 32) % 2 ^ 254 / 8 * 8 + 2 ^ 254
  let pk := edEnc (edMul edBase a 255)
  let r := edScalar (h.drop 32 ++ msg)
  let re := edEnc (edMul edBase r 253)
  re ++ bytesLE 32 ((r + edScalar (re ++ pk ++ msg) * a) % edL)

end Sys2Proof.Machine
end

