-- ==== Sys2Proof/Machine/Lanes.lean ====
section
/-! DEFINITION. The safety lanes and SIO: inputs, door zones, causes, permits, switches, lane exchange (R272 to R292,
R315 to R346). Lane 0 is SLP, lane 1 Sage. -/

namespace Sys2Proof.Machine

/-! ### Access to the lane state -/

def State.lane (s : State) (l : Nat) : LaneSt := if l = 0 then s.safe.lane0 else s.safe.lane1
def State.setLane (s : State) (l : Nat) (x : LaneSt) : State :=
  { s with safe := if l = 0 then { s.safe with lane0 := x } else { s.safe with lane1 := x } }
def State.lcar (s : State) (l c : Nat) : LaneCar := if c = 0 then (s.lane l).car0 else (s.lane l).car1
def State.setLcar (s : State) (l c : Nat) (x : LaneCar) : State :=
  s.setLane l (if c = 0 then { s.lane l with car0 := x } else { s.lane l with car1 := x })
def State.lin (s : State) (l i : Nat) : LaneIn := Tab.get (fun _ => ({} : LaneIn)) s.safe.ins (l * 32 + i)
def State.setLin (s : State) (l i : Nat) (x : LaneIn) : State :=
  { s with safe := { s.safe with ins := Tab.set (fun _ => ({} : LaneIn)) s.safe.ins (l * 32 + i) x } }
def State.lout (s : State) (l o : Nat) : LaneOut := Tab.get (fun _ => ({} : LaneOut)) s.safe.outs (l * 12 + o)
def State.setLout (s : State) (l o : Nat) (x : LaneOut) : State :=
  { s with safe := { s.safe with outs := Tab.set (fun _ => ({} : LaneOut)) s.safe.outs (l * 12 + o) x } }
def State.sw (s : State) (o : Nat) : OutSw := Tab.get (fun _ => ({} : OutSw)) s.safe.sws o
def State.setSw (s : State) (o : Nat) (x : OutSw) : State :=
  { s with safe := { s.safe with sws := Tab.set (fun _ => ({} : OutSw)) s.safe.sws o x } }

/-- Whether a lane has its supply (R61): PD_SLP or PD_SAGE. -/
def State.laneUp (s : State) (l : Nat) : Bool := s.domOn (if l = 0 then 2 else 1)

/-- Registers of input i and of output o. -/
abbrev inP (i : Nat) : Nat := sibP (i / 4) + 0x20 * (i % 4)
abbrev outP (o : Nat) : Nat := sogP (o / 2) + 0x10 * (o % 2)
/-- A bit of `STAT` of a group for one of its outputs: 0 HS, 1 LS, 2 RB, 3 FB, 4 PERMIT, 5 PERMIT_SG (R350). -/
abbrev outBit (o b : Nat) : Fld := ⟨0x00C, b + 8 * (o % 2), 1⟩
/-- A bit of `STAT` of a bank for position m (R349): 0 EVAL, 4 EVAL_SG, 8 FAULT, 12 DISC, 16 SAFE_SEEN. -/
abbrev inBit (i b : Nat) : Fld := ⟨0x00C, b + i % 4, 1⟩

def State.hs (s : State) (o : Nat) : Bool := s.b (sogP (o / 2)) (outBit o 0)
def State.ls (s : State) (o : Nat) : Bool := s.b (sogP (o / 2)) (outBit o 1)
/-- Commanded state of an output (R331). -/
def State.outOn (s : State) (o : Nat) : Bool := s.hs o && s.ls o

/-- Cars declared by the SPB in force. -/
def State.spbCarList (s : State) : List Nat := if !s.safe.spbIn then [] else if s.spbCars = 3 then [0, 1] else [0]
def State.spbTwin (s : State) : Bool := s.safe.spbIn && s.spbCars == 3

/-- The SPB as a lane holds it (R272). -/
def State.lspb (s : State) (l : Nat) : SpbT := if l = 0 then s.safe.spb else s.safe.spbSg

/-- Commissioning state of a car (R303); `DBG_OPEN` of MEM may follow it (R530). -/
def State.comm (s : State) (c : Nat) : Nat := s.g sagC (if c = 0 then R.SagC.SAG_COMM_STATE_U else R.SagC.SAG_COMM_STATE_L)
/-- The state of a car as a lane holds it. -/
def State.lcomm (s : State) (l c : Nat) : Nat := (s.lane l).comm / 4 ^ c % 4
def State.setComm (s : State) (c v : Nat) : State :=
  let t := ((s.p sagC (if c = 0 then R.SagC.SAG_COMM_STATE_U else R.SagC.SAG_COMM_STATE_L) v).ps (sagP c) R.Sag.STAT_COMM v).memShow s
  let b := t.comm 0 + 4 * t.comm 1
  (t.setLane 0 { t.lane 0 with comm := b }).setLane 1 { t.lane 1 with comm := b }

/-! ### Inputs (R315 to R325) -/

def State.inForm (s : State) (i : Nat) : Nat := s.g (inP i) R.Sib.IN_CFG_FORM
def State.inUsed (s : State) (i : Nat) : Bool := s.inForm i == 1 || s.inForm i == 2

/-- Channels at the permissive levels, at the safe levels (R315). -/
def State.inPerm (s : State) (l i : Nat) : Bool :=
  let x := s.lin l i
  x.a && (if s.inForm i = 2 then !x.b else x.b)
def State.inSafe (s : State) (l i : Nat) : Bool :=
  let x := s.lin l i
  !x.a && (if s.inForm i = 2 then x.b else !x.b)

/-- Evaluated state of an input in a lane (R316; held at 0 while `VDDIO_S` is low, R565). -/
def State.inEval (s : State) (l i : Nat) : Bool :=
  !s.safe.vddLow && s.inUsed i && s.inPerm l i && (s.lin l i).fault == 0

/-- Used inputs of a role that apply to a car (R317). -/
def State.roleIns (s : State) (role c : Nat) : List Nat :=
  (List.range 32).filter fun i => s.inUsed i && s.g (inP i) R.Sib.IN_CFG_ROLE == role &&
    (s.g (inP i) R.Sib.IN_CFG_CAR == 0 || s.g (inP i) R.Sib.IN_CFG_CAR == c + 1)

/-- All inputs of a role are 1 in a lane. -/
def State.roleAll (s : State) (l role c : Nat) : Bool := (s.roleIns role c).all fun i => s.inEval l i

/-- `LOCKED` (R335). -/
def State.lockedNow (s : State) (c : Nat) : Bool :=
  [1, 2, 3].all (fun r => s.roleAll 0 r c && s.roleAll 1 r c) && !(s.roleIns 1 c).isEmpty && !(s.roleIns 3 c).isEmpty

/-- Inspection selected in a lane (R342); the hold-to-run button. -/
def State.inspSel (s : State) (l c : Nat) : Bool := (s.roleIns 6 c).any fun i => !s.inEval l i
def State.inspRun (s : State) (l c : Nat) : Bool := !(s.roleIns 7 c).isEmpty && s.roleAll l 7 c

/-- A fault is latched on an input in a lane (R321 to R323); the page shows it and raises `FAULT`. -/
def State.inFault (s : State) (l i reason : Nat) : State :=
  if (s.lin l i).fault ≠ 0 || !s.inUsed i then s else
  let s := s.setLin l i { s.lin l i with fault := reason, seen := false }
  if (s.lin (1 - l) i).fault ≠ 0 then s
  else (((s.p (inP i) R.Sib.IN_REASON reason).ps (sibP (i / 4)) (inBit i 8) 1).irq (sibP (i / 4)) (4 + i % 4))

/-- A lane's discrepancy tick for an input (R323, R324); the counters follow the SLP lane. -/
def State.discTick (s : State) (l i : Nat) : State :=
  if !s.inUsed i then s else
  let x := s.lin l i
  let valid := s.inPerm l i || s.inSafe l i
  let s := if x.fault ≠ 0 && !x.seen && s.inSafe l i then s.setLin l i { x with seen := true } else s
  let x := s.lin l i
  if valid then
    if x.disc = 0 then s else
    let s := s.setLin l i { x with disc := 0 }
    if l = 1 then s else
    let s := (s.p (inP i) R.Sib.IN_DISC_NOW 0).incIrq (inP i) R.Sib.IN_EPISODE_CNT (sibP (i / 4)) (8 + i % 4)
    let t := s.fwOccur (0xA8 + i)
    if becameLasting (0xA8 + i) s t then t.inFault l i 2 else t
  else
    let d := min (x.disc + 1) 8191
    let s := s.setLin l i { x with disc := d }
    let s := if l = 0 then s.p (inP i) R.Sib.IN_DISC_NOW d else s
    if d = s.g (inP i) R.Sib.IN_CFG_T_DISC then s.inFault l i 1 else s

/-! ### Outputs -/

/-- Both lanes see both outputs of the group released (R334). -/
def State.relNow (s : State) (g : Nat) : Bool :=
  [2 * g, 2 * g + 1].all fun o => !s.outOn o && (s.lout 0 o).fb && (s.lout 1 o).fb

/-- `REL` of the groups (R334, R350). -/
def State.relShow (s : State) : State :=
  (List.range 6).foldl (fun (m : State) g =>
    let r := m.relNow g
    let was := m.released g
    let m := m.psB (sogP g) R.Sog.STAT_REL r
    if r && !was then m.irq (sogP g) 1 else m) s

/-- A switch of an output opens or closes; a change of the commanded state restarts the feedback timers (R328, R331). -/
def State.setSwitch (s : State) (l o : Nat) (on : Bool) : State :=
  let was := s.outOn o
  let s := s.psB (sogP (o / 2)) (outBit o l) on
  if s.outOn o = was then s else
  let s := (s.setLout 0 o { s.lout 0 o with tmr := 0 }).setLout 1 o { s.lout 1 o with tmr := 0 }
  if s.outOn o then (s.setSw o { s.sw o with darkAt := s.tbs.el, darkSg := false }).irq (sogP (o / 2)) 2 else s

/-- Whether latched causes and reasons open an output (R279, R343). -/
def causeOpens (cause reasons o : Nat) : Bool :=
  let mb := decide (o / 2 % 3 < 2)
  let bypass := o / 2 % 3 == 2 && o % 2 == 0
  bitOf cause 5 || bitOf cause 6 || bitOf cause 8 ||
  (mb && (bitOf cause 0 || bitOf cause 1 || bitOf cause 2 || bitOf cause 3 || bitOf cause 4)) ||
  (bitOf cause 7 && (bitOf reasons 0 || bitOf reasons 1 || (bitOf reasons 2 && (mb || bypass)) || (bitOf reasons 3 && mb)))

/-- The car of an output. -/
abbrev outCar (o : Nat) : Nat := o / 6

/-- A lane latches causes of a car (R279, R343): shown, stamped, recorded; the switches they open are opened. -/
def State.laneLatch (s : State) (l c bits reasons : Nat) : State :=
  let x := s.lcar l c
  let cause := Nat.lor x.cause bits
  let why := Nat.lor x.reasons reasons
  if cause = x.cause && why = x.reasons then s else
  let s := s.setLcar l c { x with cause := cause, reasons := why }
  let s := if cause = x.cause then s else
    let s := if l = 0 then s.p slpC (if c = 0 then R.SlpC.SLP_CAUSE_U else R.SlpC.SLP_CAUSE_L) cause
      else ((s.p (sagP c) R.Sag.SAG_CAUSE_SAGE cause).pTs (sagP c) R.Sag.SAG_TRIP_TS_LO R.Sag.SAG_TRIP_TS_HI s.stamp).irq (sagP c) 0
    let s := (s.psB sagC (if c = 0 then R.SagC.STAT_SAFE_U else R.SagC.STAT_SAFE_L) true).irq sagC 0
    let s := if bitOf cause 4 && !bitOf x.cause 4 then (s.psB sagC R.SagC.STAT_MISMATCH true).irq sagC 1 else s
    s.ikwOffer 0x0E2 (srcOf 7 0) [wd c, wd l, wd cause]
  let f := if c = 0 then R.SioC.SIO_SAFE_SAFE_U else R.SioC.SIO_SAFE_SAFE_L
  let shown := s.g sioC f
  let s := s.p sioC f (Nat.lor shown why)
  let s := s.irqM sioC ((Nat.lor shown why - shown) / 2)
  (List.range 6).foldl (fun (m : State) k =>
    let o := 6 * c + k
    if causeOpens cause why o && (if l = 0 then m.hs o else m.ls o) then m.setSwitch l o false else m) s

/-- Latch for both cars. -/
def State.laneLatchAll (s : State) (l bits : Nat) : State := (s.laneLatch l 0 bits 0).laneLatch l 1 bits 0

/-- A group fault in a lane (R332). -/
def State.groupFault (s : State) (l g k reason : Nat) : State :=
  if bitOf (s.lane l).grpF g then s else
  let first := !s.b (sogP g) R.Sog.STAT_FAULT
  let s := s.setLane l { s.lane l with grpF := Nat.lor (s.lane l).grpF (2 ^ g) }
  let s := if first then ((s.ps (sogP g) R.Sog.STAT_FAULT 1).ps (sogP g) R.Sog.STAT_FREASON reason).ps (sogP g) R.Sog.STAT_FOUT k
    else s
  let s := ((s.fwOccur (0xC8 + 2 * g + k)).irq (sogP g) 0).ikwOffer 0x0A0 (srcOf 5 g) [wd g, wd k, wd reason]
  s.laneLatch l (g / 3) 0x80 1

/-- The door-bypass output of a car is energised (R327, R340). -/
def State.bypassOn (s : State) (c : Nat) : Bool := s.outOn (6 * c + 4)

/-- Speed toward the sill (positive) of the landing whose door zone holds, and the bypass speed rule (R338). -/
def State.bypassRule (s : State) (l c : Nat) : Bool :=
  let x := s.lcar l c
  let sill := tI (s.lspb l) (0x3C0 + 12 * x.dzLdg)
  let towards := decide (0 < (sill - x.pos) * x.spd)
  x.dzPos && x.spdOk && decide (x.spd.natAbs ≤ if towards then (if x.ceilLow then 300000 else 800000) else 10000)

/-- Both main outputs of a car are energised with `SOo_FB` at 0 in a lane. -/
def State.mainIn (s : State) (l c : Nat) : Bool :=
  [6 * c, 6 * c + 1].all fun o => s.outOn o && !(s.lout l o).fb

/-- The main permit beside the conditions of every permit (R327, R342). -/
def State.mainPermit (s : State) (l c : Nat) : Bool :=
  s.roleAll l 4 c && s.roleAll l 5 c && (s.locked c || s.bypassOn c) && (!s.inspSel l c || s.inspRun l c)

/-- A lane's permit for an output (R327). -/
def State.permit (s : State) (l o : Nat) : Bool :=
  let g := o / 2
  let c := outCar o
  s.b slpC R.SlpC.STAT_READY && !s.safe.vddLow && s.lcomm l c == 3 && !bitOf (s.lane l).grpF g &&
    s.b (sogP g) R.Hdr.CTRL_EN && s.b (sogP g) (if o % 2 = 0 then R.Sog.CTRL_ON_REQ0 else R.Sog.CTRL_ON_REQ1) &&
    !causeOpens (s.lcar l c).cause (s.lcar l c).reasons o &&
    match g % 3 with
    | 0 => s.mainPermit l c
    | 1 => s.mainPermit l c && s.mainIn l c
    | _ => o % 2 == 1 || ((s.lcar l c).dz && s.bypassRule l c && !s.inspSel l c)

/-- A lane drives its switch of an output (R327, R328): `SOo_HS` closes with both switches open and the feedback
agreeing; `SOo_LS` after 300 µs of `SOo_HS` = 1 with `SOo_RB` = 0. -/
def State.driveOne (s : State) (l o : Nat) : State :=
  let ok := s.permit l o
  let s := s.psB (sogP (o / 2)) (outBit o (4 + l)) ok
  let fb := (s.lout l o).fb
  if l = 0 then
    if s.hs o && !ok then (s.setSwitch 0 o false).setSw o { s.sw o with wait := false, lsWait := none }
    else if !s.hs o && ok && !s.ls o && fb then (s.setSwitch 0 o true).setSw o { s.sw o with wait := true, lsWait := none }
    else s
  else
    let rb := (s.lout 1 o).rb
    if s.ls o then (if ok then s else (s.setSwitch 1 o false).setSw o { s.sw o with lsWait := none })
    else if s.hs o && rb then
      let s := s.setSw o { s.sw o with lsWait := none }
      if (s.sw o).wait then s.groupFault 1 (o / 2) (o % 2) 6 else s
    else if s.hs o then
      match (s.sw o).lsWait with
      | none => s.setSw o { s.sw o with lsWait := some s.tbs.el }
      | some t =>
        if ok && fb && t + 300000 ≤ s.tbs.el then
          (s.setSwitch 1 o true).setSw o { (s.setSwitch 1 o true).sw o with wait := false, lsWait := none }
        else s
    else s

/-- A lane drives all its switches. -/
def State.drive (s : State) (l : Nat) : State := (List.range 12).foldl (fun m o => m.driveOne l o) s

/-- A lane samples `SOo_RB` and `SOo_FB` (R326); the page shows the SLP lane's, stamped, and the count at which a
de-energised output showed release (R331). -/
def State.sampleOut (s : State) (l rb fb : Nat) : State :=
  (List.range 12).foldl (fun (m : State) o =>
    let was := (m.lout l o).fb
    let m := m.setLout l o { m.lout l o with rb := bitOf rb o, fb := bitOf fb o }
    if l = 1 then m else
    let m := (m.psB (sogP (o / 2)) (outBit o 2) (bitOf rb o)).psB (sogP (o / 2)) (outBit o 3) (bitOf fb o)
    let m := if bitOf fb o && !was && !m.outOn o then m.p (outP o) R.Sog.SO_REL_TIME (m.lout 0 o).tmr else m
    if was = bitOf fb o then m else m.pTs (outP o) R.Sog.SO_TS_LO R.Sog.SO_TS_HI m.stamp) s

/-- A lane's 1 kHz feedback tick of an output (R331). -/
def State.fbTick (s : State) (l o : Nat) : State :=
  let x := s.lout l o
  let on := s.outOn o
  if x.fb != on then
    s.setLout l o { x with tmr := 0 }
  else
    let s := s.setLout l o { x with tmr := min (x.tmr + 1) 65535 }
    if x.tmr + 1 = s.g (outP o) R.Sog.SO_T_FB then s.groupFault l (o / 2) (o % 2) (if on then 2 else 1) else s

/-- A lane's 1 kHz tick (R323, R331; held while `VDDIO_S` is low, R565). De-energised outputs come first: of two faults in
one group the lower reason is recorded (R344). -/
def State.laneTick (s : State) (l : Nat) : State :=
  if s.safe.vddLow then s else
  let s := (List.range 32).foldl (fun m i => m.discTick l i) s
  let on := (List.range 12).partition s.outOn
  (on.2 ++ on.1).foldl (fun m o => m.fbTick l o) s

/-! ### Cars -/

/-- The landing in whose door zone a position lies, among those the car serves in the SPB (R19, R336). -/
def State.spbDz (s : State) (l c : Nat) (p : Int) : Option Nat :=
  let t := s.lspb l
  (List.range (tB t 0x007 + 1)).find? fun n =>
    let o := 0x3C0 + 12 * n
    bitOf (tB t (spbCar c + 0x048 + n / 8)) (n % 8) && decide (tI t o - 4 * tN t (o + 4) 2 ≤ p) &&
      decide (p ≤ tI t o + 4 * tN t (o + 6) 2)

/-- Stopping distance of a lane (R188, R196): each of the three terms rounded up to a multiple of `k` µm. -/
def laneDist (k v t AR D J : Nat) : Nat :=
  let U1 := 1000 * v + AR * t
  let U2 := 2 * J * U1 + 1000 * AR * AR
  k * (cdiv (2000 * v * t + AR * t * t) (2000000 * k) +
    cdiv (3 * J * U1 * AR + 1000 * AR * AR * AR) (3000 * J * J * k) +
    cdiv (U2 * U2 + 2000 * D * D * U2) (8000000 * J * J * D * k))

/-- S as Sage works it out (R188, R196): speed in whole mm/s, the constants of the SPB in units of 2⁻¹⁶ (of mm, mm/s, ms and
ms²/mm; log entry 157), each of the three terms rounded up to 1 mm. -/
def sageDist (v t AR D J : Nat) : Nat :=
  let k := 2 ^ 16
  let u0 := cdiv v 1000
  let u1 := u0 * k + cdiv (AR * t * k) 1000000
  let u2 := u1 + cdiv (AR * AR * k) (2000 * J)
  1000 * (cdiv (u0 * t * k + 1000 * cdiv (AR * t * t * k) 2000000000) (1000 * k) +
    cdiv (u1 * cdiv (1000 * AR * k) J + 1000 * k * cdiv (AR * AR * AR * k) (3000 * J * J)) (1000 * k * k) +
    cdiv (u2 * u2 * cdiv (1000000000 * k) (2 * D) + 1000 * k * u2 * cdiv (1000 * D * k) (2 * J)) (1000000 * k * k * k))

/-- S of a car in a lane with the SPB values (R188, R189). -/
def State.laneS (s : State) (l c : Nat) : Nat :=
  let o := spbCar c
  let v := toward c (s.lcar l c).spd
  if v = 0 && s.released (3 * c) then 0
  else (if l = 0 then laneDist 1 else sageDist) v (tN (s.lspb l) (o + 0x24) 2) (tN (s.lspb l) (o + 0x20) 4)
    (max 1 (tN (s.lspb l) (o + 0x18) 4)) (max 1 (tN (s.lspb l) (o + 0x1C) 4))

/-- M_H of a lane (R190, R195). -/
def State.laneMargin (s : State) (l : Nat) : Int :=
  ((s.lcar l 0).pos - tN (s.lspb l) (spbCar 0 + 0x14) 4) - ((s.lcar l 1).pos + tN (s.lspb l) (spbCar 1 + 0x10) 4) -
    tN (s.lspb l) 0x008 4 - s.laneS l 0 - s.laneS l 1

/-- The terminal speed limit for a car as Sage sees it, in mm/s, and whether the car exceeds it (R24, R27, R280). -/
def State.etsl (s : State) (c : Nat) : Option (Nat × Bool) :=
  let x := s.lcar 1 c
  let o := spbCar c
  let lim (t d : Nat) : Nat :=
    let i := d / max 1 (tN (s.lspb 1) (o + t) 4) + 1
    tN (s.lspb 1) (o + t + 4 + 2 * min i 63) 2
  let top := tI (s.lspb 1) (o + 0x0C)
  let bot := tI (s.lspb 1) (o + 0x08)
  if 0 < x.spd && top ≤ x.pos && (!s.spbTwin || c = 0) then
    let v := lim 0x068 (x.pos - top).toNat
    some (v, decide (v * 1000 < x.spd.natAbs))
  else if x.spd < 0 && x.pos ≤ bot && (!s.spbTwin || c = 1) then
    let v := lim 0x0EC (bot - x.pos).toNat
    some (v, decide (v * 1000 < x.spd.natAbs))
  else none

/-- Door zone, bypass ceiling and their fault of a car in a lane (R336 to R338); `moved` is its travel. -/
def State.laneZone (s : State) (l c moved : Nat) (vane : Bool) : State :=
  let x := s.lcar l c
  let dz := if x.valid then s.spbDz l c x.pos else none
  let pos := dz.isSome
  let sum := if pos == vane then 0 else x.dzSum + moved
  let f := !x.dzF && decide (10000 < sum)
  let on := pos && vane && !(x.dzF || f)
  let low := on && ((x.dz && x.ceilLow) || (x.spdOk && decide (x.spd.natAbs ≤ 300000)))
  let s := s.setLcar l c { x with
    dzPos := pos, dzVane := vane, dzSum := sum, dzF := x.dzF || f, dz := on, ceilLow := low,
    dzLdg := dz.getD x.dzLdg }
  if f then (s.irq sioC 3).ikwOffer 0x0A1 (srcOf 5 0) [wd c, wd l] else s

/-- `SIO_UCMP_DISP` of a car (R341). -/
abbrev ucmpDisp (c : Nat) : Fld := if c = 0 then R.SioC.SIO_UCMP_DISP_U else R.SioC.SIO_UCMP_DISP_L

/-- The UCMP watch of a car in a lane (R341): A follows the position while the bypass output is energised and the car moves
toward the sill. -/
def State.laneUcmp (s : State) (l c : Nat) : State :=
  let x := s.lcar l c
  match x.ucmp with
  | none => s
  | some a =>
    let sill := tI (s.lspb l) (0x3C0 + 12 * x.dzLdg)
    let a := if s.bypassOn c && decide (0 < (sill - x.pos) * x.spd) then x.pos else a
    let d := (x.pos - a).natAbs
    let s := s.setLcar l c { x with ucmp := some a }
    let s := if l = 0 then s.p sioC (ucmpDisp c) d else s
    if tN (s.lspb l) (spbCar c + 0x2C) 4 < d then s.laneLatch l c 0x80 2 else s

/-- `LOCKED` of a car has changed (R341): its fall arms the watch of each lane whose door zone by position is 1, at the
lane's position; its return disarms both. -/
def State.ucmpArm (s : State) (c : Nat) : State :=
  if s.locked c then ((s.setLcar 0 c { s.lcar 0 c with ucmp := none }).setLcar 1 c { s.lcar 1 c with ucmp := none }).p sioC (ucmpDisp c) 0
  else [0, 1].foldl (fun (m : State) l =>
    let x := m.lcar l c
    if x.dzPos && x.ucmp.isNone then m.setLcar l c { x with ucmp := some x.pos } else m) s

/-- A `RESET` input that has become 1 asks for the reset of its car's or cars' faults (R317, R344). -/
def State.resetPress (s : State) (i : Nat) : State :=
  let car := s.g (inP i) R.Sib.IN_CFG_CAR
  let cars := if car = 0 then [0, 1] else [car - 1]
  let ins := mapOver 32 fun k => ((s.lin 0 k).fault != 0 || (s.lin 1 k).fault != 0) &&
    (car == 0 || s.g (inP k) R.Sib.IN_CFG_CAR == 0 || s.g (inP k) R.Sib.IN_CFG_CAR == car)
  let outs := mapOver 6 fun g => cars.contains (g / 3) && s.b (sogP g) R.Sog.STAT_FAULT
  let dzs := mapOver 2 fun c => cars.contains c && ((s.lcar 0 c).dzF || (s.lcar 1 c).dzF)
  { s with safe := { s.safe with
    rstIn := Nat.lor s.safe.rstIn ins, rstOut := Nat.lor s.safe.rstOut outs, rstDz := Nat.lor s.safe.rstDz dzs } }

/-- Cause conditions of a car present in a lane beside `ENVELOPE` (R279). -/
def State.laneCond (s : State) (l c : Nat) : Nat :=
  let x := s.lcar l c
  let sensor := if l = 0 then !x.valid else decide (3 ≤ x.bad) || (bitOf x.cause 3 && !x.spdOk)
  let os := x.spdOk && decide (tN (s.lspb l) (spbCar c + 0x28) 4 < x.spd.natAbs)
  let et := l == 1 && x.valid && x.spdOk && (match s.etsl c with | some (_, t) => t | none => false)
  b2n et * 2 + b2n os * 4 + b2n sensor * 8

/-- A lane evaluates the cars: rest, door zones, causes, demands (R279, R288, R336 to R343). -/
def State.laneEval (s : State) (l : Nat) (moved : Nat → Nat) (vane : Nat → Bool) : State :=
  let cars := s.spbCarList
  let s := cars.foldl (fun (m : State) c =>
    let x := m.lcar l c
    let m := m.setLcar l c { x with
      restN := if x.spdOk && decide (x.spd.natAbs ≤ 10000) then min (x.restN + 1) 1000 else 0 }
    (m.laneZone l c (moved c) (vane c)).laneUcmp l c) s
  let conds := cars.map fun c => (c, s.laneCond l c)
  let ok := s.spbTwin && (s.lcar l 0).valid && (s.lcar l 1).valid
  let mh := s.laneMargin l
  let env := s.spbTwin && ((ok && decide (mh < 0)) || conds.any fun x => bitOf x.2 3)
  let s := s.setLane l { s.lane l with mh := if ok then mh else (s.lane l).mh, mhOk := ok }
  conds.foldl (fun (m : State) (c, k) =>
    let k := k + b2n env
    let m := (m.setLcar l c { m.lcar l c with cond := k }).laneLatch l c k 0
    let x := m.lcar l c
    let m := if m.bypassOn c && x.dzPos && x.spdOk && !m.bypassRule l c then m.laneLatch l c 0x80 4 else m
    if m.inspSel l c && x.spdOk && decide (630000 < x.spd.natAbs) then m.laneLatch l c 0x80 8 else m) s

/-- A lane's judgement that a car is at rest (R288). -/
def State.laneRest (s : State) (l c : Nat) : Bool := decide ((if l = 0 then 100 else 1000) ≤ (s.lcar l c).restN)

/-- A car is at rest for the safety lanes (R288); a car that no SPB declares has no evaluation. -/
def State.atRest (s : State) (c : Nat) : Bool := !s.spbCarList.contains c || (s.laneRest 0 c && s.laneRest 1 c)

/-! ### What the registers show -/

/-- A bit over both cars' `STAT` fields of SIO. -/
def State.psCar (s : State) (c : Nat) (fu fl : Fld) (v : Bool) : State := s.psB sioC (if c = 0 then fu else fl) v

/-- The evaluated states, faults and interlocks as SIO shows them (R316, R335 to R342, R348, R349). A `RESET` input acts as
its state in the SLP lane becomes 1 (R317; DEDUCED, log entry 168). -/
def State.sioShow (s : State) : State :=
  let map (f : Nat → Bool) : Nat := mapOver 32 f
  let e0 := map (s.inEval 0)
  let e1 := map (s.inEval 1)
  let fl := map fun i => (s.lin 0 i).fault != 0 || (s.lin 1 i).fault != 0
  let rise := (List.range 32).filter fun i => bitOf e0 i && !bitOf (s.g sioC R.SioC.SIO_IN_STATE) i && s.g (inP i) R.Sib.IN_CFG_ROLE == 8
  let chg := Nat.lor (Nat.xor e0 (s.g sioC R.SioC.SIO_IN_STATE)) (Nat.xor e1 (s.g sioC R.SioC.SIO_IN_STATE_SG))
  let ds := map fun i => s.inUsed i && !s.inPerm 0 i && !s.inSafe 0 i
  let sn := map fun i => (s.lin 0 i).seen
  let s := ((s.p sioC R.SioC.SIO_IN_STATE e0).p sioC R.SioC.SIO_IN_STATE_SG e1).p sioC R.SioC.SIO_IN_FAULT fl
  let s := (List.range 8).foldl (fun (m : State) n =>
    let four (x : Nat) : Nat := x / 16 ^ n % 16
    let m := m.wrStat (sibP n) (wd (four e0 + 16 * four e1 + 0x100 * four fl + 0x1000 * four ds + 0x10000 * four sn))
    if four chg = 0 then m else m.irqM (sibP n) (four chg)) s
  let s := rise.foldl (fun m i => m.resetPress i) s
  let l0 := s.locked 0
  let l1 := s.locked 1
  let s := [0, 1].foldl (fun (m : State) c =>
    let both (f : LaneCar → Bool) : Bool := f (m.lcar 0 c) && f (m.lcar 1 c)
    let rule := m.bypassRule 0 c && m.bypassRule 1 c
    let lock := m.lockedNow c
    let m := m.psCar c R.SioC.STAT_LOCKED_U R.SioC.STAT_LOCKED_L lock
    let m := if lock == (if c = 0 then l0 else l1) then m else m.ucmpArm c
    let m := m.psCar c R.SioC.STAT_DZ_U R.SioC.STAT_DZ_L (both LaneCar.dz)
    let m := m.psCar c R.SioC.STAT_SIO_OK_U R.SioC.STAT_SIO_OK_L (both LaneCar.dz && rule)
    let bp := m.bypassOn c && !(m.lout 0 (6 * c + 4)).fb && !(m.lout 1 (6 * c + 4)).fb
    let m := m.psCar c R.SioC.STAT_RLV_OK_U R.SioC.STAT_RLV_OK_L (both LaneCar.dz && rule && both LaneCar.ceilLow && (lock || bp))
    let m := m.psCar c R.SioC.STAT_DZF_U R.SioC.STAT_DZF_L ((m.lcar 0 c).dzF || (m.lcar 1 c).dzF)
    m.psCar c R.SioC.STAT_INSP_U R.SioC.STAT_INSP_L (m.inspSel 0 c || m.inspSel 1 c)) s
  let s := if s.locked 0 != l0 || s.locked 1 != l1 then s.irq sioC 5 else s
  s.relShow

/-- The switches of a car's main and brake groups of Sage are open (R313). -/
def State.sageOpenShow (s : State) : State :=
  [0, 1].foldl (fun (m : State) c =>
    m.psB (sagP c) R.Sag.STAT_SAGE_OPEN ((List.range 4).all fun k => !m.ls (6 * c + k))) s

/-- The end of a lane step `f`: what SIO shows; a main group that opened halts its car's generator (R163); the blocks
that read the lanes' signals act. -/
def State.laneDone (s : State) (f : State → State) : State :=
  let on0 := s.groupOn 0
  let on1 := s.groupOn 3
  let t := ((f s).sioShow).sageOpenShow
  let t := if on0 && !t.groupOn 0 && t.domOn 6 then t.safetyHalt 0 else t
  let t := if on1 && !t.groupOn 3 && t.domOn 6 && !t.lh6161 then t.safetyHalt 1 else t
  t.settle

/-! ### Lane exchange (R283 to R287) -/

/-- Consecutive disagreements of a quantity. -/
def State.disN (s : State) (k : Nat) : Nat := Tab.get (fun _ => 0) s.safe.dis k
/-- A quantity is compared: disagreement counts, its first one is raised (R285). -/
def State.disCmp (s : State) (k : Nat) (bad : Bool) : State :=
  let n := s.disN k
  let s := { s with safe := { s.safe with dis := Tab.set (fun _ => 0) s.safe.dis k (if bad then min (n + 1) 255 else 0) } }
  if bad && n = 0 then s.incIrq sagC R.SagC.DIS_CNT sagC 2 else s

/-- What a lane's record says of a car (R283). -/
def State.recCar (s : State) (l c : Nat) : RecCar :=
  let x := s.lcar l c
  { pos := x.pos, spd := x.spd, valid := x.valid, stamp := x.stamp, rest := s.laneRest l c, cause := x.cause, reasons := x.reasons }

/-- The bytes of a record under its CRC-32C; their order is the model's (DESIGN CHOICE, log entry 160). -/
def RecCar.bytes (x : RecCar) : List Nat :=
  bytesLE 4 (ofS 32 x.pos) ++ bytesLE 4 (ofS 32 x.spd) ++ bytesLE 8 x.stamp ++ [b2n x.valid + 2 * b2n x.rest] ++
    bytesLE 2 x.cause ++ [x.reasons % 256]
def LaneRec.body (r : LaneRec) : List Nat :=
  bytesLE 8 r.n ++ r.u.bytes ++ r.l.bytes ++ bytesLE 4 (ofS 32 r.mh) ++ bytesLE 4 r.ins ++ bytesLE 4 r.faults ++ bytesLE 2 r.sw ++ bytesLE 4 r.check ++ [r.comm]

/-- A lane posts its record of cycle `n` (R283); `ok`: it arrives as posted. -/
def State.postRec (s : State) (l n : Nat) (ok : Bool) : State :=
  let r : LaneRec := {
    n := n, u := s.recCar l 0, l := s.recCar l 1, mh := (s.lane l).mh, ins := mapOver 32 (s.inEval l),
    faults := mapOver 32 (fun i => (s.lin l i).fault != 0), sw := mapOver 12 (if l = 0 then s.hs else s.ls), check := tN (s.lspb l) 0xFFC 4, comm := (s.lane l).comm }
  let c := crc32c r.body
  s.setLane l { s.lane l with post := { r with crc := if ok then c else c ^^^ 1#32 } }

/-- A record is that of cycle `n` and its CRC holds; else it is missing (R285). -/
def LaneRec.sound (r : LaneRec) (n : Nat) : Bool := r.n == n && r.crc == crc32c r.body
def LaneRec.car (r : LaneRec) (c : Nat) : RecCar := if c = 0 then r.u else r.l

/-- Position difference Sage less SLP, the earlier sample advanced by its speed (R284). -/
def posDiff (a b : RecCar) : Int :=
  let adv (x : RecCar) (t : Nat) : Int := x.pos + Int.tdiv (x.spd * ((t - x.stamp : Nat) : Int)) 1000000000
  adv b (max a.stamp b.stamp) - adv a (max a.stamp b.stamp)

/-- Compare the two records (R284). Keys: 0 and 1 positions, 2 and 3 speeds, 4 M_H, 5 check value, commissioning states and
selected copies (R301), 8 + i inputs. -/
def State.compare (s : State) (r0 r1 : LaneRec) : State :=
  let s := s.spbCarList.foldl (fun (m : State) c =>
    let a := r0.car c
    let b := r1.car c
    if !(a.valid && b.valid) then m else
    let dp := posDiff a b
    let dv := b.spd - a.spd
    let m := (m.pI (sagP c) R.Sag.SAG_POS_DIFF dp).pI (sagP c) R.Sag.SAG_SPD_DIFF dv
    (m.disCmp c (decide (m.spbN 0x010 4 < dp.natAbs))).disCmp (2 + c) (decide (m.spbN 0x014 4 < dv.natAbs))) s
  let s := if s.spbTwin && r0.u.valid && r0.l.valid && r1.u.valid && r1.l.valid then
      s.disCmp 4 (decide (s.spbN 0x00C 4 < (r0.mh - r1.mh).natAbs)) else s
  let s := s.disCmp 5 (r0.check != r1.check || r0.comm != r1.comm || s.safe.sel0 != s.safe.sel1)
  (List.range 32).foldl (fun (m : State) i =>
    if m.inUsed i then m.disCmp (8 + i) (bitOf r0.ins i != bitOf r1.ins i) else m) s

/-- Disagreements that declare `MISMATCH` (R285). -/
def State.mismatched (s : State) : Bool :=
  (List.range 5).any (fun k => s.safe.spbIn && decide (0 < s.disN k) && decide (s.spbB 0x018 ≤ s.disN k)) ||
  decide (2 ≤ s.disN 5) || (List.range 32).any (fun i => decide (s.spbB 0x019 < s.disN (8 + i)))

/-- Lane `l` reads the other lane's record `r`: causes, group faults and the inputs it flags as faulted are followed, an
input with the same reason (R286, R325, R332). -/
def State.follow (s : State) (l : Nat) (r : LaneRec) : State :=
  let o := 1 - l
  let s := [0, 1].foldl (fun (m : State) c => m.laneLatch l c (r.car c).cause (r.car c).reasons) s
  let s := s.setLane l { s.lane l with grpF := Nat.lor (s.lane l).grpF (s.lane o).grpF }
  (List.range 32).foldl (fun (m : State) i =>
    if bitOf r.faults i then m.inFault l i (m.lin o i).fault else m) s

/-- A missing record of the other lane (R285). -/
def State.missRec (s : State) (l : Nat) : State :=
  let n := (s.lane l).missN + 1
  let s := (s.setLane l { s.lane l with missN := n }).inc sagC R.SagC.MISS_CNT
  if n = 2 then s.laneLatchAll l 0x10 else s

/-- The exchange at the SLP boundary that ends cycle `n` (R283 to R287): both lanes post their records; `up1`: Sage has its
supply; `ok0` and `ok1`: the records of SLP and of Sage arrive as posted. -/
def State.exchange (s : State) (n : Nat) (up1 ok0 ok1 : Bool) : State :=
  let before := s.g sagC R.SagC.DIS_CNT
  let s := s.postRec 0 n ok0
  let s := if up1 then s.postRec 1 n ok1 else s
  let r0 := (s.lane 0).post
  let r1 := (s.lane 1).post
  let ok0 := r0.sound n
  let ok1 := r1.sound n
  let s := if ok1 then s.setLane 0 { s.lane 0 with missN := 0 } else s.missRec 0
  let s := if ok0 then s.setLane 1 { s.lane 1 with missN := 0 } else s.missRec 1
  let s := if ok0 && ok1 then s.compare r0 r1 else s
  let s := if ok0 && ok1 && s.mismatched then (s.laneLatchAll 0 0x10).laneLatchAll 1 0x10 else s
  let t := if ok1 then s.follow 0 r1 else s
  let t := if ok0 then t.follow 1 r0 else t
  let t := if ok0 then [0, 1].foldl (fun (m : State) c => m.p (sagP c) R.Sag.SAG_CAUSE_SLP (r0.car c).cause) t else t
  let clean := ok0 && ok1 && t.g sagC R.SagC.DIS_CNT == before && t.safe.dis.isEmpty
  { t with safe := { t.safe with clean := if clean then min (t.safe.clean + 1) 100 else 0 } }

end Sys2Proof.Machine
end

