-- ==== Sys2Proof/Machine/Spb.lean ====
section
/-! DEFINITION. The safety parameter block: its checks, its two MRAM copies, its selection at start-up, and the
registers that mirror it (R293 to R309). -/

namespace Sys2Proof.Machine

/-! ### Bytes of a staged SPB -/

/-- The bytes of a range. -/
def tBytes (t : SpbT) (off n : Nat) : List Nat := (List.range n).map fun i => tB t (off + i)

/-- The check value and the section CRCs (R293, R299). -/
def spbCrc (t : SpbT) : Word := crc32c (tBytes t 0 0xFFC)
def crcShaftOf (t : SpbT) : Word := crc32c (tBytes t 0 0x0C0 ++ tBytes t 0x3C0 0xC3C)
def crcCarOf (t : SpbT) (c : Nat) : Word := crc32c (tBytes t (spbCar c) 0x180)

/-! ### The checks of R302 -/

/-- Outside a range. -/
abbrev out (v lo hi : Nat) : Bool := decide (v < lo) || decide (hi < v)

/-- Range checks of an input's bytes (R295, R317, R320). -/
def rangeIn (t : SpbT) (i : Nat) : List (Nat × Bool) :=
  let o := 0x020 + 4 * i
  let a := tB t o
  let b := tB t (o + 1)
  let car := b % 4
  let role := b / 16
  let unpulsed (j : Nat) : Bool := tB t (0x0B8 + 2 * j) == 0
  let pulsed := bitOf a 6
  [(o, a % 4 == 3 || bitOf a 7 ||
      (pulsed && (a / 4 % 4 == a / 16 % 4 || unpulsed (a / 4 % 4) || unpulsed (a / 16 % 4)))),
   (o + 1, b / 4 % 4 != 0 || car == 3 || decide (9 ≤ role) || ((role == 1 || role == 6 || role == 7) && car == 0) ||
      (car == 2 && tB t 6 == 1)),
   (o + 2, out (tN t (o + 2) 2) 10 5000)]

/-- Range checks of a terminal speed table (R297). -/
def rangeTable (t : SpbT) (o : Nat) : List (Nat × Bool) :=
  (o, out (tN t o 4) 1000 10000000) :: (List.range 64).map fun i =>
    (o + 4 + 2 * i, decide (24000 < tN t (o + 4 + 2 * i) 2) ||
      (i != 0 && decide (tN t (o + 2 + 2 * i) 2 < tN t (o + 4 + 2 * i) 2)))

/-- Bytes that must be 0. -/
def rangeZero (t : SpbT) (o n : Nat) : List (Nat × Bool) := (List.range n).map fun i => (o + i, tB t (o + i) != 0)

/-- Range checks of a declared car's section (R275, R296). -/
def rangeCar (t : SpbT) (c : Nat) : List (Nat × Bool) :=
  let o := spbCar c
  let mode := tB t (o + 0x34) % 4
  let n := if mode = 1 then tB t (o + 0x35) else tB t (o + 0x35) + tB t (o + 0x38) + 5
  let src := tB t (o + 0x31)
  [(o + 0x18, out (tN t (o + 0x18) 4) 10000 2500000), (o + 0x1C, out (tN t (o + 0x1C) 4) 10000 5000000),
   (o + 0x20, decide (2500000 < tN t (o + 0x20) 4)), (o + 0x24, out (tN t (o + 0x24) 2) 10 2000),
   (o + 0x26, decide (2000 < tN t (o + 0x26) 2)), (o + 0x28, out (tN t (o + 0x28) 4) 100000 30000000),
   (o + 0x2C, out (tN t (o + 0x2C) 4) 1000 200000), (o + 0x30, decide (3 < tB t (o + 0x30))),
   (o + 0x31, decide (5 < src % 8) || bitOf src 3 || decide (5 < src / 16 % 8))] ++ rangeZero t (o + 0x32) 2 ++
  [(o + 0x34, (mode != 1 && mode != 2) || decide (7 < tB t (o + 0x34))), (o + 0x35, out (tB t (o + 0x35)) 8 48),
   (o + 0x37, out (tB t (o + 0x37)) 8 32), (o + 0x38, decide (16 < tB t (o + 0x38))),
   (o + 0x39, tB t (o + 0x39) == 0 || decide (2000 < 2 * (tB t (o + 0x39) + 1) * (n + 2))),
   (o + 0x3C, tN t (o + 0x3C) 4 == 0)] ++ rangeZero t (o + 0x44) 4 ++ rangeTable t (o + 0x068) ++
  rangeTable t (o + 0x0EC) ++ rangeZero t (o + 0x170) 16

/-- The range checks, in the order of their offsets (R294 to R298, R302). -/
def rangeAll (t : SpbT) (lh6161 : Bool) : List (Nat × Bool) :=
  let cars := tB t 6
  [(0x006, (cars != 1 && cars != 3) || (cars == 3 && lh6161)), (0x008, out (tN t 8 4) 500000 20000000),
   (0x00C, out (tN t 0x00C 4) 10000 2000000), (0x010, out (tN t 0x010 4) 1000 2000000),
   (0x014, out (tN t 0x014 4) 10000 2000000), (0x018, out (tB t 0x018) 1 8), (0x019, out (tB t 0x019) 1 20)] ++
  rangeZero t 0x01A 2 ++ (List.range 32).flatMap (rangeIn t) ++
  (List.range 12).map (fun k => (0x0A0 + 2 * k, out (tN t (0x0A0 + 2 * k) 2) 10 500)) ++
  (List.range 4).map (fun j => (0x0B8 + 2 * j, (tB t (0x0B8 + 2 * j) == 0) != (tB t (0x0B9 + 2 * j) == 0))) ++
  rangeCar t 0 ++ (if cars = 3 then rangeCar t 1 else rangeZero t (spbCar 1) 0x180) ++
  (List.range 256).flatMap (fun n => if tB t 7 < n then rangeZero t (0x3C0 + 12 * n) 12 else []) ++ rangeZero t 0xFC0 60

/-- A landing's sill and four times a zone distance (R298). -/
def tSill (t : SpbT) (n : Nat) : Int := tI t (0x3C0 + 12 * n)
def tZone (t : SpbT) (n k : Nat) : Nat := 4 * tN t (0x3C4 + 12 * n + 2 * k) 2
/-- Service flag of a car for a landing (R296). -/
def tServe (t : SpbT) (c n : Nat) : Bool := bitOf (tB t (spbCar c + 0x048 + n / 8)) (n % 8)

/-- A landing that fails R20, R21, R22, R26, R30 or R32. -/
def mapLdgBad (t : SpbT) (n : Nat) : Bool :=
  let twin := tB t 6 == 3
  let last := tB t 7
  let z := (List.range 4).map (tZone t n)
  let g : Int := tN t (spbCar 0 + 0x14) 4 + tN t (spbCar 1 + 0x10) 4 + tN t 8 4
  let outOf (c : Nat) : Bool := tServe t c n &&
    (decide (tSill t n < tI t (spbCar c)) || decide (tI t (spbCar c + 4) < tSill t n))
  z.any (fun d => out d 1000 200000) || decide (tZone t n 2 < tZone t n 0) || decide (tZone t n 3 < tZone t n 1) ||
  (decide (n < last) && (decide (tSill t (n + 1) ≤ tSill t n) ||
    decide (tSill t (n + 1) - tZone t (n + 1) 2 ≤ tSill t n + tZone t n 3))) ||
  outOf 0 || (twin && outOf 1) ||
  (if twin then (tServe t 0 n && decide (tSill t n - tI t (spbCar 1) < g)) ||
      (tServe t 1 n && decide (tI t (spbCar 0 + 4) - tSill t n < g))
   else tServe t 1 n)

/-- A declared car that fails R25, an ignored edge left out (R27). -/
def mapCarBad (t : SpbT) (c : Nat) : Bool :=
  let o := spbCar c
  let twin := tB t 6 == 3
  let lo := tI t o
  let hi := tI t (o + 4)
  let bot := tI t (o + 8)
  let top := tI t (o + 0xC)
  !(if twin && c == 0 then decide (lo < top) && decide (top ≤ hi)
    else if twin then decide (lo ≤ bot) && decide (bot < hi)
    else decide (lo ≤ bot) && decide (bot < top) && decide (top ≤ hi))

/-- The first failed map check of the staged SPB: the offset of the car section or of the landing's entry. -/
def mapFail (t : SpbT) : Option Nat :=
  let cars := if tB t 6 = 3 then [0, 1] else [0]
  match cars.find? (mapCarBad t) with
  | some c => some (spbCar c)
  | none => ((List.range (tB t 7 + 1)).find? (mapLdgBad t)).map fun n => 0x3C0 + 12 * n

/-- The installer signature is required (R308, R522). -/
def State.sigReq (s : State) : Bool := bitOf (s.otpWord 0x184) 0

/-- The installer signature of an image holds (R308): 64 bytes of signature at 0x1000, 32 of key at 0x1040. -/
def State.sigHolds (s : State) (t : SpbT) : Bool :=
  let key := tBytes t 0x1040 32
  sha512 key == ((List.range 64).map fun i => s.byte (otpBase + 0x100 + i)) && edVerify key (tBytes t 0x1000 64) (tBytes t 0 0x1000)

/-- The check of the staged SPB: code and `ERR_OFS` (R302). -/
def State.spbCheck (s : State) (t : SpbT) : Nat × Nat :=
  if tN t 0 4 ≠ 0x31425053 || tN t 4 2 ≠ 1 then (2, 0)
  else if wd (tN t 0xFFC 4) ≠ spbCrc t then (3, 0)
  else match (rangeAll t s.lh6161).find? (fun x => x.2) with
    | some x => (4, x.1)
    | none => match mapFail t with
      | some o => (5, o)
      | none => if s.sigReq && !s.sigHolds t then (6, 0) else (0, 0)

/-! ### The copies (R300, R301, R516) -/

abbrev copyA : Nat := 0x04000000
abbrev copyB : Nat := 0x04002000

/-- An uncorrectable error lies in a range (R518). -/
def State.ueIn (s : State) (a n : Nat) : Bool := s.memc.bad.any fun x => x.2 == 2 && decide (a ≤ x.1 + 7) && decide (x.1 < a + n)

/-- A copy is valid: its record's CRC and its check value hold (R301). -/
def State.copyOk (s : State) (a : Nat) : Bool :=
  !s.ueIn a 0x10A0 && crc32c ((List.range 60).map fun i => s.byte (a + 0x1060 + i)) == wd (s.mget (a + 0x109C) 4) &&
  crc32c ((List.range 0xFFC).map fun i => s.byte (a + i)) == wd (s.mget (a + 0xFFC) 4)

/-- The bytes of a copy. -/
def State.copyBytes (s : State) (a : Nat) : List Nat := (List.range 0x10A0).map fun i => s.byte (a + i)

/-- A copy is rewritten from the other (R301): 0 A, 1 B. -/
def State.copyRepair (s : State) (which : Nat) : State :=
  let (src, dst) := if which = 0 then (copyB, copyA) else (copyA, copyB)
  ((s.mputEcc dst (s.copyBytes src)).irq sagC 6).ikwOffer 0x0E0 (srcOf 7 0) [wd which]

/-- Which copy is used (R301), and the other rewritten as the table says. -/
def State.copySelect (s : State) : Option Nat × State :=
  let a := s.copyOk copyA
  let b := s.copyOk copyB
  let s := (s.p sagC R.SagC.SAG_COMM_COPY_A_OK (b2n a)).p sagC R.SagC.SAG_COMM_COPY_B_OK (b2n b)
  let ga := s.mget (copyA + 0x1060) 4
  let gb := s.mget (copyB + 0x1060) 4
  match a, b with
  | false, false => (none, s)
  | true, false => (some copyA, s.copyRepair 1)
  | false, true => (some copyB, s.copyRepair 0)
  | true, true =>
    if ga < gb then (some copyB, s.copyRepair 0)
    else if gb < ga || s.copyBytes copyA != s.copyBytes copyB then (some copyA, s.copyRepair 1)
    else (some copyA, s)

/-- A non-zero image of `n` bytes of memory. -/
def State.imageAt (s : State) (a n : Nat) : SpbT :=
  s.mem.filterMap fun x => if a ≤ x.1 ∧ x.1 < a + n then some (x.1 - a, x.2.toNat) else none

/-! ### Registers that mirror the SPB -/

/-- Read-only mirrors in MPG and SEP (R45, R151, R189), while PD_MOT is powered. -/
def State.motMirror (s : State) : State :=
  if !s.safe.spbIn || !s.domOn 6 then s else
  let s := (s.p mpgC R.MpgC.DSEP (s.spbN 0x008 4)).p sepC R.SepC.SEP_TOL_ENV (s.spbN 0x00C 4)
  s.cars.foldl (fun (m : State) c =>
    let o := spbCar c
    let m := (m.p (mpgP c) R.Mpg.MPG_STOP_DEC_MIN (m.spbN (o + 0x18) 4)).p (mpgP c) R.Mpg.MPG_STOP_JERK_MIN (m.spbN (o + 0x1C) 4)
    let m := m.p sepC (if c = 0 then R.SepC.SEP_U_AR else R.SepC.SEP_L_AR) (m.spbN (o + 0x20) 4)
    let m := m.p sepC (if c = 0 then R.SepC.SEP_U_TH_T_HARD else R.SepC.SEP_L_TH_T_HARD) (m.spbN (o + 0x24) 2)
    m.p sepC (if c = 0 then R.SepC.SEP_U_TH_T_SOFT_X else R.SepC.SEP_L_TH_T_SOFT_X) (m.spbN (o + 0x26) 2)) s

/-- The channel of a Sage sensor reads the SPB's serial fields (R140). -/
def State.tapMirror (s : State) (c : Nat) : State :=
  let n := 6 + c
  let o := spbCar c
  if !s.spbCarList.contains c then s.setFb n { s.fb n with sageTap := false } else
  let s := s.setFb n { s.fb n with sageTap := true }
  let m := s.spbB (o + 0x34)
  let pg := fbP n
  let s := (s.p pg R.Fb.MODE (m % 4)).p pg R.Fb.GRAY (m / 4 % 2)
  let s := ((s.p pg R.Fb.DATA_LEN (s.spbB (o + 0x35))).p pg R.Fb.POS_LSB (s.spbB (o + 0x36))).p pg R.Fb.POS_LEN (s.spbB (o + 0x37))
  let s := ((s.p pg R.Fb.CRC_LEN (s.spbB (o + 0x38))).p pg R.Fb.CLK_DIV (s.spbB (o + 0x39))).p pg R.Fb.PFI_SER_POLY (s.spbN (o + 0x3A) 2)
  (s.p pg R.Fb.PFI_SER_DELAY 0).fbValidate n

/-- SIO's configuration registers (R295, R349, R350). -/
def State.sioMirror (s : State) : State :=
  let s := (List.range 32).foldl (fun (m : State) i =>
    let o := 0x020 + 4 * i
    let a := m.spbB o
    let b := m.spbB (o + 1)
    m.wr (inP i + 0x40) (wd (m.spbN (o + 2) 2 * 0x10000 + b / 16 * 0x1000 + b % 4 * 0x100 + a % 128))) s
  (List.range 12).foldl (fun (m : State) o => m.p (outP o) R.Sog.SO_T_FB (m.spbN (0x0A0 + 2 * o) 2)) s

/-- Test pulses take new periods at the end of any pulse in progress (R320). -/
def State.tp (s : State) (j : Nat) : TpSt := Tab.get (fun _ => ({} : TpSt)) s.safe.tps j
def State.setTp (s : State) (j : Nat) (x : TpSt) : State :=
  { s with safe := { s.safe with tps := Tab.set (fun _ => ({} : TpSt)) s.safe.tps j x } }
def State.tpPeriod (s : State) (j : Nat) : Nat := if s.safe.spbIn then s.spbB (0x0B8 + 2 * j) else 0
def State.tpRestart (s : State) : State :=
  (List.range 4).foldl (fun (m : State) j => m.setTp j { m.tp j with due := max m.tbs.el m.safe.tpEnd + m.tpPeriod j * 1000000, okN := 0 }) s

/-- All mirrors of a new SPB. -/
def State.mirrorAll (s : State) : State :=
  ((((s.motMirror).tapMirror 0).tapMirror 1).sioMirror).tpRestart

/-! ### Start-up and the record (R300, R301) -/

/-- `STATE` of the record: car U in bits 1:0, car L in bits 3:2. -/
def State.commByte (s : State) : Nat := s.comm 0 + 4 * s.comm 1

/-- The 64 bytes of a commissioning record (R300). -/
def State.recBytes (s : State) : List Nat :=
  let b := bytesLE 4 (s.rd (sagC + R.SagC.SAG_GEN.off)).toNat ++ [s.commByte, 0, 0, 0] ++ bytesLE 4 s.safe.crcShaft.toNat ++
    bytesLE 4 s.safe.crcU.toNat ++ bytesLE 4 s.safe.crcL.toNat ++ bytesLE 4 s.safe.confirmed.toNat ++ List.replicate 36 0
  b ++ bytesLE 4 (crc32c b).toNat

/-- Write both copies' records, `GEN` counted on (R300, R307). -/
def State.recWrite (s : State) : State :=
  let s := s.inc sagC R.SagC.SAG_GEN
  (s.mputEcc (copyA + 0x1060) s.recBytes).mputEcc (copyB + 0x1060) s.recBytes

/-- The lanes read the copies at start-up (R301, R308). -/
def State.spbStart (s : State) : State :=
  let (used, s) := s.copySelect
  match used with
  | none => s
  | some a =>
    let st := s.byte (a + 0x1064)
    let s := { s with safe := { s.safe with
      spb := s.imageAt a 0x1000, spbSg := s.imageAt a 0x1000, sel0 := some a, sel1 := some a, spbIn := true, crcShaft := wd (s.mget (a + 0x1068) 4),
      crcU := wd (s.mget (a + 0x106C) 4), crcL := wd (s.mget (a + 0x1070) 4), confirmed := wd (s.mget (a + 0x1074) 4) } }
    let s := (s.wr (sagC + R.SagC.SAG_GEN.off) (wd (s.mget (a + 0x1060) 4))).wr (sagC + R.SagC.SAG_SAFE_CHECK.off) (wd (s.mget (a + 0xFFC) 4))
    let bad := s.sigReq && !s.sigHolds (s.imageAt a 0x1060)
    let s := if s.sigReq then s.p sagC R.SagC.SAG_COMM_SIG_OK (b2n !bad) else s
    let stOf (c : Nat) : Nat := if c = 1 && s.spbCars = 1 then 0 else if bad then 1 else st / 4 ^ c % 4
    ((s.setComm 0 (stOf 0)).setComm 1 (stOf 1)).mirrorAll

/-- The periodic check of the copies (R290 test 6): one bad is repaired, both bad is cause `SPB` in both lanes. -/
def State.mramCheck (s : State) : State :=
  if !s.safe.spbIn then s else
  let (used, s) := s.copySelect
  if used.isNone then (s.laneLatchAll 0 0x100).laneLatchAll 1 0x100 else s

/-! ### Commit and confirm at an SLP boundary (R306, R307) -/

/-- A commit ends: result, `LOAD_DONE` (R302, R306). -/
def State.loadEnd (s : State) (code ofs : Nat) : State :=
  let s := ((s.p sagC R.SagC.SAG_LOAD_STAT_RESULT code).p sagC R.SagC.SAG_LOAD_STAT_ERR_OFS ofs).p sagC R.SagC.SAG_LOAD_STAT_BUSY 0
  { s with safe := { s.safe with commit := .none } }.irq sagC 3

/-- Cars a staged SPB changes (R306). -/
def State.spbChanged (s : State) (t : SpbT) : List Nat :=
  let shaft := !s.safe.spbIn || crcShaftOf t != s.safe.crcShaft
  let declared := if tB t 6 = 3 then [0, 1] else [0]
  if shaft then (if s.safe.spbIn && s.spbCars = 3 then [0, 1] else declared)
  else declared.filter fun c => crcCarOf t c != (if c = 0 then s.safe.crcU else s.safe.crcL)

/-- Both lanes switch to the checked SPB (R38, R306). -/
def State.spbSwitch (s : State) (t : SpbT) (changed : List Nat) : State :=
  let twin := tB t 6 == 3
  let shaft := !s.safe.spbIn || crcShaftOf t != s.safe.crcShaft
  let st (c : Nat) : Nat :=
    if c = 1 && !twin then 0 else if changed.contains c || s.comm c = 1 then 2 else s.comm c
  let (n0, n1) := (st 0, st 1)
  let was0 := s.comm 0
  let was1 := s.comm 1
  let s := { s with safe := { s.safe with
    spb := t.filter (fun x => decide (x.1 < 0x1000)), spbSg := t.filter (fun x => decide (x.1 < 0x1000)),
    spbIn := true, crcShaft := crcShaftOf t, crcU := crcCarOf t 0,
    crcL := crcCarOf t 1, commit := .writing, cfail := 0 } }
  let s := s.p sagC R.SagC.SAG_COMM_SIG_OK (b2n s.sigReq)
  let s := ((s.setComm 0 n0).setComm 1 n1).mirrorAll
  if !s.domOn 6 then s else
  let s := if s.armed 0 && (shaft || changed.contains 0 || (was0 = 3 && n0 ≠ 3)) then s.disarm 0 else s
  if s.armed 1 && (shaft || changed.contains 1 || (was1 = 3 && n1 ≠ 3)) then s.disarm 1 else s

/-- A checked commit at the boundary (R306, R309). -/
def State.commitBoundary (s : State) : State :=
  match s.safe.commit with
  | .checked _ _ same =>
    let t := s.safe.cand
    let ch := s.spbChanged t
    if ch.any (fun c => !s.atRest c || !s.relNow (3 * c) || !s.relNow (3 * c + 1)) then s.loadEnd 7 0
    else if !same then s.loadEnd 8 0
    else if ch.isEmpty && s.comm 0 ≠ 1 && s.comm 1 ≠ 1 then s.loadEnd 9 0
    else s.spbSwitch t ch
  | _ => s

/-- A confirm is decided (R307). -/
def State.confirmBoundary (s : State) : State :=
  match s.safe.confirm with
  | none => s
  | some v =>
    let s := { s with safe := { s.safe with confirm := none } }
    let fin (s : State) (code : Nat) : State :=
      ((s.p sagC R.SagC.SAG_LOAD_STAT_RESULT code).p sagC R.SagC.SAG_LOAD_STAT_BUSY 0).irq sagC 4
    let pend (c : Nat) : Bool := s.comm c == 2
    if !pend 0 && !pend 1 then fin s 0x0C
    else if v = s.rd (sagC + R.SagC.SAG_SAFE_CHECK.off) then
      let t := if pend 0 then s.setComm 0 3 else s
      let t := if pend 1 then t.setComm 1 3 else t
      let t := { t with safe := { t.safe with confirmed := v, cfail := 0 } }
      fin ((t.recWrite).ikwOffer 0x0E1 (srcOf 7 0) [v, wd t.commByte]) 0
    else
      let n := s.safe.cfail + 1
      let t := s.inc sagC R.SagC.SAG_CFAIL_CNT
      let t := { t with safe := { t.safe with cfail := if n = 3 then 0 else n } }
      if n = 3 then
        let t := if pend 0 then t.setComm 0 1 else t
        fin (if pend 1 then t.setComm 1 1 else t) 0x0B
      else fin t 0x0B

end Sys2Proof.Machine
end

