-- ==== Sys2Proof/Machine/LaneCmd.lean ====
section
/-! DEFINITION. The commands and cycles of the safety lanes (R272 to R314). -/

namespace Sys2Proof.Machine

/-! ### Resets and releases at an SLP boundary (R288, R324, R333, R337) -/

/-- A reset request is accepted or refused (R324, R333, R337). -/
def State.rstOk (s : State) : State := s.inc sioC R.SioC.RST_OK
def State.rstRef (s : State) : State := s.incIrq sioC R.SioC.RST_REF sioC 6

/-- Test pulses that feed an input (R319). -/
def State.inTps (s : State) (i : Nat) : List Nat :=
  if s.b (inP i) R.Sib.IN_CFG_TP_EN then [s.g (inP i) R.Sib.IN_CFG_TP_A, s.g (inP i) R.Sib.IN_CFG_TP_B] else []

/-- `TP_FAULT` bit j. -/
def State.tpFault (s : State) (j : Nat) : Bool := bitOf (s.g sioC R.SioC.TP_FAULT) j
def State.setTpFault (s : State) (j : Nat) (v : Bool) : State := s.pB sioC ⟨R.SioC.TP_FAULT.off, R.SioC.TP_FAULT.lo + j, 1⟩ v

/-- The reset of an input's fault (R322, R324). -/
def State.resetIn (s : State) (i : Nat) : State :=
  let a := s.lin 0 i
  let b := s.lin 1 i
  let s := (s.inTps i).foldl (fun (m : State) j => if m.tpFault j && decide (3 ≤ (m.tp j).okN) then m.setTpFault j false else m) s
  if a.fault = 0 && b.fault = 0 then s else
  let tpBad := (a.fault == 5 || b.fault == 5) && (s.inTps i).any s.tpFault
  if (a.fault = 0 || a.seen) && (b.fault = 0 || b.seen) && !s.fwLasting (0xA8 + i) && !tpBad then
    let s := (s.setLin 0 i { a with fault := 0, seen := false, disc := 0 }).setLin 1 i { b with fault := 0, seen := false, disc := 0 }
    ((s.p (inP i) R.Sib.IN_REASON 0).p (inP i) R.Sib.IN_DISC_NOW 0).rstOk
  else s.rstRef

/-- The reset of a group fault (R333). -/
def State.resetOut (s : State) (g : Nat) : State :=
  if !s.b (sogP g) R.Sog.STAT_FAULT then s else
  let ok := !s.b (sogP g) R.Sog.CTRL_ON_REQ0 && !s.b (sogP g) R.Sog.CTRL_ON_REQ1 &&
    [2 * g, 2 * g + 1].all fun o => (s.lout 0 o).fb && (s.lout 1 o).fb && !s.fwLasting (0xC8 + o)
  if !ok then s.rstRef else
  let clear (s : State) (l : Nat) : State :=
    if bitOf (s.lane l).grpF g then s.setLane l { s.lane l with grpF := (s.lane l).grpF - 2 ^ g } else s
  let s := clear (clear s 0) 1
  (((s.ps (sogP g) R.Sog.STAT_FAULT 0).ps (sogP g) R.Sog.STAT_FREASON 0).ps (sogP g) R.Sog.STAT_FOUT 0).rstOk

/-- The reset of a door-zone fault (R337). -/
def State.resetDz (s : State) (c : Nat) : State :=
  let a := s.lcar 0 c
  let b := s.lcar 1 c
  if !a.dzF && !b.dzF then s
  else if s.atRest c && a.dzPos == a.dzVane && b.dzPos == b.dzVane then
    ((s.setLcar 0 c { a with dzF := false, dzSum := 0 }).setLcar 1 c { b with dzF := false, dzSum := 0 }).rstOk
  else s.rstRef

/-- The pending reset requests are evaluated. -/
def State.resets (s : State) : State :=
  let (i, o, d) := (s.safe.rstIn, s.safe.rstOut, s.safe.rstDz)
  let s := { s with safe := { s.safe with rstIn := 0, rstOut := 0, rstDz := 0 } }
  let s := if i = 0 then s else (List.range 32).foldl (fun (m : State) k => if bitOf i k then m.resetIn k else m) s
  let s := if o = 0 then s else (List.range 6).foldl (fun (m : State) g => if bitOf o g then m.resetOut g else m) s
  [0, 1].foldl (fun (m : State) c => if bitOf d c then m.resetDz c else m) s

/-- The causes latched for a car in either lane; the reasons. -/
def State.causes (s : State) (c : Nat) : Nat := Nat.lor (s.lcar 0 c).cause (s.lcar 1 c).cause
def State.whys (s : State) (c : Nat) : Nat := Nat.lor (s.lcar 0 c).reasons (s.lcar 1 c).reasons

/-- No cause condition is present for a car (R288, R343). -/
def State.noCond (s : State) (c : Nat) : Bool :=
  let k := s.causes c
  let y := s.whys c
  (s.lcar 0 c).cond == 0 && (s.lcar 1 c).cond == 0 &&
  !(bitOf k 4 && (!s.safe.dis.isEmpty || (s.lane 0).missN != 0 || (s.lane 1).missN != 0)) &&
  !(bitOf k 8 && !s.b sagC R.SagC.SAG_COMM_COPY_A_OK && !s.b sagC R.SagC.SAG_COMM_COPY_B_OK) &&
  !(bitOf y 0 && (Nat.lor (s.lane 0).grpF (s.lane 1).grpF / 8 ^ c % 8 != 0)) && (!bitOf y 1 || s.locked c) &&
  (!(bitOf y 2 || bitOf y 3) || s.atRest c)

/-- A car's latch may be released (R288). -/
def State.canRelease (s : State) (c : Nat) : Bool :=
  s.noCond c && s.atRest c && s.relNow (3 * c) && s.relNow (3 * c + 1) && !bitOf (s.causes c) 5 && !bitOf (s.causes c) 6

/-- A car's latch is released in both lanes. -/
def State.release (s : State) (c : Nat) : State :=
  let s := (s.setLcar 0 c { s.lcar 0 c with cause := 0, reasons := 0 }).setLcar 1 c { s.lcar 1 c with cause := 0, reasons := 0 }
  let s := (s.p slpC (if c = 0 then R.SlpC.SLP_CAUSE_U else R.SlpC.SLP_CAUSE_L) 0).p (sagP c) R.Sag.SAG_CAUSE_SAGE 0
  let s := (s.psB sagC (if c = 0 then R.SagC.STAT_SAFE_U else R.SagC.STAT_SAFE_L) false).p sioC
    (if c = 0 then R.SioC.SIO_SAFE_SAFE_U else R.SioC.SIO_SAFE_SAFE_L) 0
  s.psB sagC R.SagC.STAT_MISMATCH (bitOf (s.causes 0) 4 || bitOf (s.causes 1) 4)

/-- A requested release is evaluated (R288, R289). -/
def State.releaseEval (s : State) : State :=
  let w := s.safe.clr
  if w = 0 then s else
  let s := { s with safe := { s.safe with clr := 0 } }
  let sel := [0, 1].filter fun c => bitOf w c && s.causes c != 0
  let good := sel.filter s.canRelease
  let code := if sel.isEmpty then 2 else if good.length < sel.length then 1 else 0
  ((good.foldl (fun m c => m.release c) s).p sagC R.SagC.CLR_RES code).irq sagC 5

/-! ### The mailbox (R311) -/

def State.mb (s : State) (p : Nat) : Option (Nat × Nat) := if p = 0 then s.safe.mb0 else s.safe.mb1
def State.setMb (s : State) (p : Nat) (x : Option (Nat × Nat)) : State :=
  { s with safe := if p = 0 then { s.safe with mb0 := x } else { s.safe with mb1 := x } }
abbrev mbP (p : Nat) : Nat := slpC + 0x100 * (p % 2)

/-- Response words from `RSP_W0` on. -/
def State.mbWords (s : State) (p : Nat) (ws : List Word) : State :=
  (ws.zip (List.range 13)).foldl (fun (m : State) (w, i) => m.wr (mbP p + 0x184 + 4 * i) w) s

/-- A response (R311). -/
def State.mbAnswer (s : State) (p code : Nat) (ws : List Word) : State :=
  match s.mb p with
  | none => s
  | some (seq, _) =>
    (((s.setMb p none).mbWords p ws).wr (mbP p + 0x180) (wd (seq * 0x10000 + 0x100 + code))).irq slpC p

/-- A mailbox waits for a test. -/
def State.mbTesting (s : State) (p : Nat) : Bool := s.safe.testQ.any fun x => x.2.contains p

/-- A test is queued; a request for one that is queued already joins its run (R291). -/
def State.testQueue (s : State) (t p : Nat) : State :=
  let q := s.safe.testQ
  { s with safe := { s.safe with
    testQ := if q.any (fun x => x.1 == t) then q.map fun x => if x.1 = t then (t, x.2 ++ [p]) else x else q ++ [(t, [p])] } }

/-- SLP takes a request at the start of its cycle and answers it, or queues its test (R311). -/
def State.mbServe (s : State) (p : Nat) : State :=
  match s.mb p with
  | none => s
  | some (_, op) =>
    if s.mbTesting p then s else
    let w0 := (s.rd (mbP p + 0x100)).toNat
    let s := s.p (mbP p) R.SlpC.MB_RSP_VALID 0
    match op with
    | 1 => s.mbAnswer p 0 [s.rd (slpC + 0x00C), wd (s.causes 0), wd (s.causes 1), s.rd (sagC + R.SagC.SAG_SAFE_CHECK.off),
        wd s.commByte, wd (s.g sagC R.SagC.DIS_CNT), wd (s.g sagC R.SagC.MISS_CNT)]
    | 2 => if 8 < w0 then s.mbAnswer p 2 [] else s.testQueue w0 p
    | 3 =>
      if w0 % 4 ≠ 0 || 0xFCC < w0 then s.mbAnswer p 2 []
      else s.mbAnswer p 0 (wd w0 :: (List.range 12).map fun i => wd (s.spbN (w0 + 4 * i) 4))
    | _ => s.mbAnswer p 0xFF []

/-- What a failed test brings (R279, R290); the frequency of `CK_SAGE` and the copies have their own outcomes. -/
def State.testOut (s : State) (t : Nat) : State :=
  match t with
  | 0 => s.laneLatchAll 0 0x40
  | 5 | 6 => s
  | 7 | 8 => s.laneLatchAll 1 0x20
  | _ => s.laneLatchAll 0 0x20

/-- A requested test completes (R290, R311): the copies are checked now, the last count of `CK_SAGE` stands for test 5, and
`fails` has the others. -/
def State.testEnd (s : State) (fails : Nat) (e : Nat × List Nat) : State :=
  let bad :=
    if e.1 = 5 then decide (s.g sagC R.SagC.SAG_CLKMON < 38400) || decide (41600 < s.g sagC R.SagC.SAG_CLKMON)
    else if e.1 = 6 then s.safe.spbIn && !(s.copyOk copyA && s.copyOk copyB)
    else bitOf fails e.1
  let s := if e.1 = 6 then s.mramCheck else s
  e.2.foldl (fun (m : State) p => m.mbAnswer p (b2n bad) []) s

/-- The queued tests whose last slice fits this cycle complete (R291); which ones do is free. -/
def State.testRun (s : State) (fails : Nat) : State :=
  let q := s.safe.testQ
  let tagged := q.zip ((List.range q.length).map fun i => Config.freeNat (s.fresh + i) % 2 == 0)
  let fin := tagged.filterMap fun x => if x.2 then some x.1 else none
  let s := { s.drew q.length with safe := { s.safe with testQ := tagged.filterMap fun x => if x.2 then none else some x.1 } }
  fin.foldl (fun (m : State) e => m.testEnd fails e) s

/-- A write of `DOOR` posts a request, unless one waits (R311). -/
def State.mbDoor (s : State) (p : Nat) (v : Word) : State :=
  if (s.mb p).isSome then s.flt slpC
  else (s.wr (mbP p + 0x13C) v).setMb p (some (fget R.SlpC.MB_DOOR_SEQ v, fget R.SlpC.MB_DOOR_OP v))

/-- SLP_GET_STATUS (R311 OP 0x01). -/
def execSlpGetStatus (p : Fin 2) (seq : BitVec 16) (s : State) : Host.Outcome State Fault Refusal :=
  .next (s.onWrite (.pair p) (mbP p.val + 0x13C) fun s => s.mbDoor p.val (wd (seq.toNat * 0x10000 + 1)))

/-- SLP_RUN_TEST (R311 OP 0x02). -/
def execSlpRunTest (p : Fin 2) (seq : BitVec 16) (s : State) : Host.Outcome State Fault Refusal :=
  .next (s.onWrite (.pair p) (mbP p.val + 0x13C) fun s => s.mbDoor p.val (wd (seq.toNat * 0x10000 + 2)))

/-- SLP_READ_SPB (R311 OP 0x03). -/
def execSlpReadSpb (p : Fin 2) (seq : BitVec 16) (s : State) : Host.Outcome State Fault Refusal :=
  .next (s.onWrite (.pair p) (mbP p.val + 0x13C) fun s => s.mbDoor p.val (wd (seq.toNat * 0x10000 + 3)))

/-! ### The SLP cycle -/

/-- The next multiple of a lane's cycle after now. -/
def nextOf (base period now : Nat) : Nat := base + ((now - base) / period + 1) * period

/-- The channel SLP reads for a car (R272). -/
def State.slpSrc (s : State) (c : Nat) : Option Nat :=
  let b := s.spbB (spbCar c + 0x31)
  if s.chValid (b % 8) then some (b % 8)
  else if bitOf b 7 && s.chValid (b / 16 % 8) then some (b / 16 % 8)
  else none

/-- SLP samples a car. -/
def State.slpSample (s : State) (c : Nat) : State :=
  let x := s.lcar 0 c
  match s.slpSrc c with
  | none => s.setLcar 0 c { x with valid := false, spdOk := false }
  | some n => s.setLcar 0 c { x with
      pos := s.gs (fbP n) R.Fb.PFI_POS, spd := s.gs (fbP n) R.Fb.PFI_SPD, valid := true, spdOk := true, stamp := s.stamp }

/-- SLP's vane of a car: `P0` of the channel in use (R336). -/
def State.slpVane (s : State) (c : Nat) : Bool :=
  match s.slpSrc c with
  | none => (s.lcar 0 c).dzVane
  | some n => s.b (fbP n) R.Fb.STAT_P0_LVL

/-- PCR detects a failed clock (R501): counted, filter 0xF0, `IRQ_RAW.CLKMON`. -/
def State.clkDetect (s : State) : State := (s.incIrq pcrC R.PcrC.CLKMON_CNT pcrC 6).fwOccur 0xF0

/-- The `CK_SAGE` count of a cycle (R277, R501). -/
def State.clkMon (s : State) (ck : Nat) : State :=
  let s := s.p sagC R.SagC.SAG_CLKMON (min ck 65535)
  let bad := decide (ck < 38400) || decide (41600 < ck)
  let n := if bad then s.safe.clkBad + 1 else 0
  let s := { s with safe := { s.safe with clkBad := min n 2 } }
  let s := if bad then (s.irq sagC 7).clkDetect else s
  if n = 2 then s.laneLatchAll 0 0x20 else s

/-- SLP's self-tests of a cycle (R290 to R292). -/
def State.slpTests (s : State) (fails : Nat) : State :=
  let s := (List.range 9).foldl (fun (m : State) t => if bitOf fails t then m.testOut t else m) s
  let s := if bitOf fails 9 then s.fwOccur 0xEB else s
  let due := if s.safe.roundDone then decide (s.safe.roundAt + 60000000000 ≤ s.tbs.el) else decide (s.safe.start + 150000000 ≤ s.tbs.el)
  let s := if due then
      { s.inc slpC R.SlpC.TEST_ROUNDS with safe := { s.safe with roundDone := true, roundAt := s.tbs.el } } else s
  let s := if s.safe.mramAt + 60000000000 ≤ s.tbs.el then
      { s with safe := { s.safe with mramAt := s.tbs.el } }.mramCheck else s
  let s := (s.peak slpC R.SlpC.SLP_CYC_MAX (s.free % 1001)).drew
  let ready := s.b slpC R.SlpC.STAT_READY || (s.safe.roundDone && decide (16 ≤ s.safe.sgN) && decide (s.safe.clean = 100))
  let s := s.psB slpC R.SlpC.STAT_READY ready
  let k := s.lcar 0 0 |>.cause
  s.ps slpC R.SlpC.STAT_KSTATE (if bitOf k 6 then 4 else if bitOf k 5 || bitOf k 8 then 3 else if ready then 2 else 1)

/-- The 1 ms cycle of SLP (R272, R283 to R292). -/
def State.slpCycle (s : State) (rb fb ck fails : Nat) (ok0 ok1 : Bool) : State :=
  let at_ := nextOf s.safe.slpAt 1000000 s.tbs.el
  let s := s.advanceTo at_
  let s := { s with safe := { s.safe with slpAt := at_ } }
  let n := s.gTs slpC R.SlpC.SLP_CYCLE_LO R.SlpC.SLP_CYCLE_HI
  let s := s.pTs slpC R.SlpC.SLP_CYCLE_LO R.SlpC.SLP_CYCLE_HI ((n + 1) % 2 ^ 64)
  s.laneDone fun s =>
    let s := s.exchange n (s.laneUp 1) ok0 ok1
    let s := ((s.clkMon ck).resets.confirmBoundary).commitBoundary
    let p (c : Nat) : Int := (s.lcar 0 c).pos
    let s := s.spbCarList.foldl (fun m c => m.slpSample c) s
    let s := (s.sampleOut 0 rb fb).laneTick 0
    let s := s.sioShow
    let s := s.laneEval 0 (fun c => ((s.lcar 0 c).pos - p c).natAbs) s.slpVane
    let s := ((s.slpTests fails).drive 0).releaseEval
    ((s.testRun fails).mbServe 0).mbServe 1

/-- SLP_CYCLE (R272). -/
def execSlpCycle (rb fb : BitVec 12) (ck : Nat) (fails : BitVec 10) (slpRec sgRec : Bool) (s : State) :
    Host.Outcome State Fault Refusal :=
  .next (if s.laneUp 0 then s.slpCycle rb.toNat fb.toNat ck fails.toNat slpRec sgRec else s)

/-! ### The Sage cycle -/

/-- Sage's speed from the positions of this cycle and of the fourth before it, rounded up to 1 mm/s (R276). -/
def sgSpeed (hist : List Int) : Int :=
  match hist with
  | p :: _ :: _ :: _ :: q :: _ =>
    let d := p - q
    let m : Nat := cdiv (d.natAbs * 2500 * 67563) (65536 * 1000) * 1000
    if d < 0 then -m else m
  | _ => 0

/-- A bad word of a Sage sensor (R274, R275): counted in `cnt`; the third in a row makes the position invalid. -/
def State.sgBad (s : State) (c : Nat) (cnt : Fld) : State :=
  let x := s.lcar 1 c
  let s := s.incIrq (sagP c) cnt (sagP c) 1
  let ok := decide (x.bad + 1 < 3)
  s.setLcar 1 c { x with
    bad := min (x.bad + 1) 3, goods := 0, hist := (x.pos :: x.hist).take 5, valid := x.valid && ok, spdOk := x.spdOk && ok,
    spd := sgSpeed ((x.pos :: x.hist).take 5) }

/-- A sensor word is decoded (R128, R274, R276). -/
def State.sgWord (s : State) (c : Nat) (w : SgWord) : State :=
  let o := spbCar c
  let t := s.lspb 1
  let mode := tB t (o + 0x34)
  let biss := mode % 4 == 2
  let dl := tB t (o + 0x35)
  let cl := tB t (o + 0x38)
  let raw := w.data % 2 ^ dl
  let word := if !biss && bitOf mode 2 then grayDecode dl raw else raw
  let field := word / 2 ^ tB t (o + 0x36) % 2 ^ tB t (o + 0x37)
  if !w.started then s.sgBad c R.Sag.SG_TMO_CNT
  else if biss && ((cl != 0 && w.crc % 2 ^ cl != serCrc (tN t (o + 0x3A) 2) cl dl raw w.nE w.nW) || !w.nE) then
    s.sgBad c R.Sag.SG_CRC_CNT
  else
    let x := s.lcar 1 c
    let pos := tI t (o + 0x40) + fdiv (field * tI t (o + 0x3C)) 65536
    let hist := (pos :: x.hist).take 5
    let goods := min (x.goods + 1) 5
    s.setLcar 1 c { x with
      pos := pos, hist := hist, goods := goods, bad := 0, valid := true, stamp := s.stamp,
      spdOk := x.spdOk || (decide (4 ≤ goods) && hist.length == 5), spd := sgSpeed hist }

/-- The snapshot of a car (R313). -/
def State.sgShow (s : State) (c : Nat) : State :=
  let x := s.lcar 1 c
  let lim := if x.valid && x.spdOk then s.etsl c else none
  let s := (s.psB (sagP c) R.Sag.STAT_SENSOR_OK x.valid).psB (sagP c) R.Sag.STAT_ETSL_ZONE lim.isSome
  let s := ((s.pI (sagP c) R.Sag.SAG_POS x.pos).pI (sagP c) R.Sag.SAG_SPD x.spd).p (sagP c) R.Sag.SAG_ETSL_LIM
    (match lim with | some (v, _) => v | none => 0)
  s.p (sagP c) R.Sag.SAG_STOPDIST (s.laneS 1 c)

/-- The snapshot of Sage (R56, R312, R313). -/
def State.snapshot (s : State) : State :=
  let s := s.spbCarList.foldl (fun m c => m.sgShow c) s
  let s := (s.pI sagC R.SagC.SAG_MARGIN_H (s.lane 1).mh).pTs sagC R.SagC.SAG_SNAP_TS_LO R.SagC.SAG_SNAP_TS_HI s.stamp
  { s with hoist := { s.hoist with snap := true } }

/-- The 100 µs cycle of Sage (R272 to R281). -/
def State.sageCycle (s : State) (rb fb vanes : Nat) (w : Nat → Option SgWord) (fail : Bool) : State :=
  let at_ := nextOf s.safe.sgAt 100000 s.tbs.el
  let s := s.advanceTo at_
  let s := { s with safe := { s.safe with sgAt := at_, sgN := s.safe.sgN + 1 } }
  s.laneDone fun s =>
    let p (c : Nat) : Int := (s.lcar 1 c).pos
    let s := s.spbCarList.foldl (fun (m : State) c =>
      let m := if m.serRuns (6 + c) then m.serStart (6 + c) else m
      match w c with
      | none => m
      | some x => (m.sgWord c x).serWord (6 + c) x.started x.data x.nE x.nW x.crc 0) s
    let s := s.sampleOut 1 rb fb
    let s := if s.safe.sgN % 10 = 0 then (s.laneTick 1).sioShow else s
    let s := s.laneEval 1 (fun c => ((s.lcar 1 c).pos - p c).natAbs) (bitOf vanes)
    let s := (if fail then s.laneLatchAll 1 0x20 else s).drive 1
    s.snapshot

/-- SAGE_CYCLE (R272). -/
def execSageCycle (rb fb : BitVec 12) (vanes : BitVec 2) (wordU wordL : Option SgWord) (fail : Bool) (s : State) :
    Host.Outcome State Fault Refusal :=
  .next (if s.laneUp 1 then
    s.sageCycle rb.toNat fb.toNat vanes.toNat (fun c => if c = 0 then wordU else wordL) fail else s)

/-- SAGE_WORD_TIMEOUT (R275): 60 µs after the request of this cycle; the cycle's evaluation and snapshot follow. -/
def execSageWordTimeout (c : Fin 2) (s : State) : Host.Outcome State Fault Refusal :=
  .next (if s.laneUp 1 && s.spbCarList.contains c.val then
    (s.advanceTo (s.safe.sgAt + 60000)).laneDone fun s =>
      let s := s.sgBad c.val R.Sag.SG_TMO_CNT
      let s := if (s.lcar 1 c.val).bad = 3 then
          (s.laneLatch 1 c.val 0x08 0) |> fun s => if s.spbTwin then s.laneLatchAll 1 0x01 else s
        else s
      s.snapshot
    else s)

/-- LOCKSTEP_ERROR (R279): the two SLP cores differ. -/
def execLockstepError (s : State) : Host.Outcome State Fault Refusal :=
  .next (if s.laneUp 0 then
    s.laneDone fun s => (s.laneLatchAll 0 0x40).ps slpC R.SlpC.STAT_KSTATE 4
    else s)

/-- SAGE_RECORD_MISSING (R285): 1.1 ms have passed since the last SLP record, or since the last one counted missing. -/
def execSageRecordMissing (s : State) : Host.Outcome State Fault Refusal :=
  .next (if s.laneUp 1 then
    let at_ := max s.safe.slpAt s.safe.missAt + 1100000
    ({ s.advanceTo at_ with safe := { s.safe with missAt := at_ } }).laneDone fun s => s.missRec 1
    else s)

/-! ### The gate and the staging area (R304 to R307, R312) -/

/-- The gate moves (R304). -/
def State.setGate (s : State) (v : Nat) : State :=
  { s.psB sagC R.SagC.STAT_GATE (v == 2) with safe := { s.safe with gate := v, gateAt := s.tbs.el } }

/-- A SAG write other than to `SAG_SAFE_KEY` closes a half-open gate (R304). -/
def State.sagTouch (s : State) : State := if s.safe.gate = 1 then s.setGate 0 else s

/-- A gated write (R304): discarded and counted while the gate is not open. -/
def State.gated (s : State) (k : State → State) : State :=
  if s.safe.gate = 2 then k s else s.sagTouch.flt sagC

/-- A write of `SAG_SAFE_KEY` (R304). -/
def State.gateKey (s : State) (v : Word) : State :=
  let k := fget R.SagC.SAG_SAFE_KEY v
  s.setGate (if k = 0x5AFE then 1 else if k = 0xC0DE && s.safe.gate = 1 then 2 else 0)

/-- SAG_SAFE_KEY (R304). -/
def execSagSafeKey (ini : Ini) (v : Word) (s : State) : Host.Outcome State Fault Refusal :=
  .next (s.onWrite ini (sagC + 0x040) fun s => s.gateKey v)

/-- GATE_TIMEOUT (R304). -/
def execGateTimeout (s : State) : Host.Outcome State Fault Refusal :=
  .next (if s.safe.gate ≠ 0 && s.laneUp 1 then (s.advanceTo (s.safe.gateAt + 10000000000)).setGate 0 else s)

/-- A gated write of `SAG_LATCH_CLR` (R288, R304). -/
def State.latchClr (s : State) (v : Word) : State :=
  s.gated fun s => { s.setGate 0 with safe := { (s.setGate 0).safe with clr := Nat.lor s.safe.clr (v.toNat % 4) } }

/-- SAG_LATCH_CLR (R288). -/
def execSagLatchClr (ini : Ini) (v : Word) (s : State) : Host.Outcome State Fault Refusal :=
  .next (s.onWrite ini (sagC + 0x064) fun s => s.latchClr v)

/-- A gated write of `SAG_LOAD_ADDR` (R312). -/
def State.loadAddr (s : State) (v : Word) : State :=
  s.gated fun s =>
    let a := fget R.SagC.SAG_LOAD_ADDR v
    if a % 4 ≠ 0 || 0x105C < a then s.flt sagC else s.p sagC R.SagC.SAG_LOAD_ADDR a

/-- A gated write of `SAG_LOAD_DATA` (R312). -/
def State.loadData (s : State) (v : Word) : State :=
  s.gated fun s =>
    let a := s.g sagC R.SagC.SAG_LOAD_ADDR
    if 0x105C < a then s.flt sagC else
    let t := ((bytesLE 4 v.toNat).zip (List.range 4)).foldl (fun t (b, i) => Tab.set (fun _ => 0) t (a + i) b) s.safe.stage
    { s.p sagC R.SagC.SAG_LOAD_ADDR (a + 4) with safe := { s.safe with stage := t } }

/-- SAG_LOAD_DATA (R312). -/
def execSagLoadData (ini : Ini) (v : Word) (s : State) : Host.Outcome State Fault Refusal :=
  .next (s.onWrite ini (sagC + 0x048) fun s => s.loadData v)

/-- A gated write of `SAG_LOAD_CTRL` (R304, R306, R312). -/
def State.loadCtrl (s : State) (v : Word) : State :=
  s.gated fun s =>
    let abort := bitOf v.toNat 1
    let commit := bitOf v.toNat 0
    let s := if abort || commit then s.setGate 0 else s
    let s := if abort then { s with safe := { s.safe with stage := [] } } else s
    if !commit then s
    else if s.b sagC R.SagC.SAG_LOAD_STAT_BUSY then s.flt sagC
    else { s.p sagC R.SagC.SAG_LOAD_STAT_BUSY 1 with safe := { s.safe with commit := .checking, cand := s.safe.stage } }

/-- SAG_LOAD_ABORT: `v` is the word written; its `ABORT` bit is 1 (R312). -/
def execSagLoadAbort (ini : Ini) (v : Word) (s : State) : Host.Outcome State Fault Refusal :=
  .next (s.onWrite ini (sagC + 0x04C) fun s => s.loadCtrl (v ||| 2#32))

/-- SPB_COMMIT: `v` is the word written; its `COMMIT` bit is 1 (R306). -/
def execSpbCommit (ini : Ini) (v : Word) (s : State) : Host.Outcome State Fault Refusal :=
  .next (s.onWrite ini (sagC + 0x04C) fun s => s.loadCtrl (v ||| 1#32))

/-- SPB_CHECK_DONE (R302, R306): lanes that differ are reported after the test for rest. -/
def execSpbCheckDone (same : Bool) (s : State) : Host.Outcome State Fault Refusal :=
  .next (
    if s.safe.commit ≠ .checking then s else
    let (code, ofs) := s.spbCheck s.safe.cand
    if same && code ≠ 0 then s.loadEnd code ofs
    else { s with safe := { s.safe with commit := .checked code ofs same } })

/-- SPB_COPIES_WRITTEN (R306): copy A, then copy B; `okA`, `okB`: the read-back holds. -/
def execSpbCopiesWritten (okA okB : Bool) (s : State) : Host.Outcome State Fault Refusal :=
  .next (
    if s.safe.commit ≠ .writing then s else
    let image := tBytes s.safe.cand 0 0x1060
    let s := ((s.mputEcc copyA image).mputEcc copyB image).recWrite
    let s := (s.p sagC R.SagC.SAG_COMM_COPY_A_OK (b2n okA)).p sagC R.SagC.SAG_COMM_COPY_B_OK (b2n okB)
    let v := wd (s.spbN 0xFFC 4)
    let s := s.wr (sagC + R.SagC.SAG_SAFE_CHECK.off) v
    let s := { s with safe := { s.safe with svc := some (v, s.comm 0, s.comm 1) } }
    s.loadEnd (if okA && okB then 0 else 0x0A) 0)

/-- A gated write of `SAG_SAFE_CONFIRM` (R304, R307). -/
def State.safeConfirm (s : State) (v : Word) : State :=
  s.gated fun s =>
    let s := s.setGate 0
    if s.b sagC R.SagC.SAG_LOAD_STAT_BUSY then (s.p sagC R.SagC.SAG_LOAD_STAT_RESULT 0x0D).irq sagC 4
    else { s.p sagC R.SagC.SAG_LOAD_STAT_BUSY 1 with safe := { s.safe with confirm := some v } }

/-- SAG_SAFE_CONFIRM (R307). -/
def execSagSafeConfirm (ini : Ini) (v : Word) (s : State) : Host.Outcome State Fault Refusal :=
  .next (s.onWrite ini (sagC + 0x058) fun s => s.safeConfirm v)

end Sys2Proof.Machine
end

