-- ==== Sys2Proof/Machine/Bus.lean ====
section
/-! DEFINITION. The shaft bus ports: states, error counters, transmit buffers, selection, and the frames the engine
and TBS load (R97 to R101, R352 to R376). -/

namespace Sys2Proof.Machine

/-- A port beside its registers. -/
def State.port (s : State) (n : Nat) : Port := Tab.get (fun _ => ({} : Port)) s.ports n
def State.setPort (s : State) (n : Nat) (x : Port) : State := { s with ports := Tab.set (fun _ => ({} : Port)) s.ports n x }

/-- `OPMODE` (R358): 0 OFF, 1 INTEGRATING, 2 RESTRICTED, 3 NORMAL, 4 BUS_OFF. -/
def State.opm (s : State) (n : Nat) : Nat := s.g (sbcP n) R.Sbc.STAT_OPMODE
def State.setOpm (s : State) (n v : Nat) : State := s.ps (sbcP n) R.Sbc.STAT_OPMODE v

/-- The port is in ENGINE ownership (R363). -/
def State.engine (s : State) (n : Nat) : Bool := s.b (sbcP n) R.Sbc.SBC_CFG_OWN

/-- A leg is usable: its port is in NORMAL and none of `ALONE`, `FAULT` and `OOS` is set (R420). -/
def State.legUsable (s : State) (n : Nat) : Bool :=
  s.opm n == 3 && !s.b (sbcP n) R.Sbc.STAT_ALONE && !s.b (sbcP n) R.Sbc.STAT_FAULT && !s.b (sbcP n) R.Sbc.CTRL_OOS

/-- Registers of transmit buffer `b`, as a page for the fields of R379. -/
abbrev txbP (n b : Nat) : Nat := sbcP n + 0x60 * (b % 3)

/-- State of a buffer (R379): 0 IDLE, 1 PENDING, 2 ACTIVE. -/
def State.txs (s : State) (n b : Nat) : Nat := s.g (txbP n b) R.Sbc.TXB_STAT_STATE

/-- Payload bytes of a data length code (R352, R386). -/
def dlcLen (d : Nat) : Nat :=
  if d ≤ 8 then d else match d with | 9 => 12 | 10 => 16 | 11 => 20 | 12 => 24 | 13 => 32 | 14 => 48 | _ => 64

/-- The smallest code that carries `n` bytes. -/
def dlcOf (n : Nat) : Nat :=
  if n ≤ 8 then n else if n ≤ 12 then 9 else if n ≤ 16 then 10 else if n ≤ 20 then 11 else if n ≤ 24 then 12
  else if n ≤ 32 then 13 else if n ≤ 48 then 14 else 15

/-- Store up to 64 bytes into the words of registers from `a` on, keeping the bytes beyond them. -/
def State.wrBytes (s : State) (a : Nat) (bs : List Nat) : State :=
  (bs.zip (List.range 64)).foldl (fun m (v, i) => m.p (a + i / 4 * 4) ⟨0, i % 4 * 8, 8⟩ v) s

/-! ### The timebase's own exchange -/

/-- The network and leg of a port: ports 2n and 2n + 1 are legs A and B of Nn. -/
abbrev netOf (n : Nat) : Nat := n / 2

/-- The result of one leg's `SYNC` copy: its stamp, or none when it failed or was abandoned (R99, R100). -/
def State.syncLeg (s : State) (n : Nat) (r : Option Nat) : State :=
  let x := s.net (netOf n)
  let v : SyncLeg := match r with | some t => .done t | none => .lost
  let s := s.setNet (netOf n) (if n % 2 = 0 then { x with legA := v } else { x with legB := v })
  match r with
  | none => s
  | some t =>
    if n % 2 = 0 then s.pTs (tbsP (netOf n)) R.TbsN.TBS_NET_A_LO R.TbsN.TBS_NET_A_HI t
    else s.pTs (tbsP (netOf n)) R.TbsN.TBS_NET_B_LO R.TbsN.TBS_NET_B_HI t

/-- Whether the master role runs on a network and its legs take part (R97, R98): shown after every change. -/
def State.tbsShow (s : State) (k : Nat) : State :=
  let en := s.b (tbsP k) R.Hdr.CTRL_EN
  let a := en && s.engine (2 * k)
  let b := en && s.engine (2 * k + 1)
  let s := s.psB (tbsP k) R.TbsN.STAT_ACTIVE (a || b)
  let s := if a then s else s.ps (tbsP k) R.TbsN.STAT_LEG_A 0
  if b then s else s.ps (tbsP k) R.TbsN.STAT_LEG_B 0

/-! ### Buffers -/

/-- The frame the engine has in a buffer. -/
def Port.cur (x : Port) (b : Nat) : Option EFrm := match b with | 0 => x.cur0 | 1 => x.cur1 | _ => none
def Port.setCur (x : Port) (b : Nat) (f : Option EFrm) : Port :=
  match b with | 0 => { x with cur0 := f } | 1 => { x with cur1 := f } | _ => x
def Port.errs (x : Port) (b : Nat) : Nat := match b with | 0 => x.err0 | 1 => x.err1 | _ => x.err2
def Port.setErrs (x : Port) (b v : Nat) : Port :=
  match b with | 0 => { x with err0 := v } | 1 => { x with err1 := v } | _ => { x with err2 := v }

/-- A buffer returns to IDLE with a result: 1 `TX_DONE`, 2 `ABORTED`, 3 `RETRY_EXHAUSTED` (R367, R368). A `SYNC` copy that
was still PENDING has not started: it stays open until its deadline (R99). -/
def State.txEnd (s : State) (n b res : Nat) : State :=
  let pg := txbP n b
  let waited := s.txs n b == 1
  let s := ((s.p pg R.Sbc.TXB_STAT_STATE 0).p pg R.Sbc.TXB_STAT_RESULT res).irq (sbcP n) b
  let x := s.port n
  let s := s.setPort n (x.setCur b none)
  match x.cur b with
  | some ⟨_, _, _, .sync⟩ =>
    if waited then s else s.syncLeg n (if res = 1 then some (s.gTs pg R.Sbc.TXB_TS_LO R.Sbc.TXB_TS_HI) else none)
  | _ => s

/-- `REQ` of a buffer: PENDING, its results cleared (R364). -/
def State.txPend (s : State) (n b : Nat) : State :=
  let s := s.wr (txbP n b + 0x104) 1#32
  s.setPort n ((s.port n).setErrs b 0)

/-- An abort (R368). -/
def State.txAbort (s : State) (n b : Nat) : State :=
  match s.txs n b with
  | 1 => s.txEnd n b 2
  | 2 => s.setPort n { s.port n with abort := true }
  | _ => s

/-- A PENDING buffer is eligible without `TAT` or once its launch time is reached (R365, R369). -/
def State.eligible (s : State) (n b : Nat) : Bool :=
  s.txs n b == 1 && (!s.b (txbP n b) R.Sbc.TXB_CTRL_TAT ||
    decide (s.gTs (txbP n b) R.Sbc.TXB_LAUNCH_LO R.Sbc.TXB_LAUNCH_HI ≤ s.stamp))

/-- The arbitration field of a frame as a number: the smaller wins (ISO 11898-1; R365). -/
def rankKey (ide rtr : Bool) (id : Nat) : Nat :=
  if ide then id / 2 ^ 18 % 2 ^ 11 * 2 ^ 21 + 2 ^ 20 + 2 ^ 19 + id % 2 ^ 18 * 2 + b2n rtr
  else id % 2 ^ 11 * 2 ^ 21 + b2n rtr * 2 ^ 20

/-- The rank of a buffer. -/
def State.rankOf (s : State) (n b : Nat) : Nat :=
  rankKey (s.b (txbP n b) R.Sbc.TXB_FMT_IDE) (s.b (txbP n b) R.Sbc.TXB_FMT_RTR) (s.g (txbP n b) R.Sbc.TXB_ID)

/-- The buffer that `SEL` picks among the eligible ones (R365). -/
def State.selected (s : State) (n : Nat) : Option Nat :=
  let l := (List.range 3).filter (s.eligible n)
  if s.b (sbcP n) R.Sbc.SBC_CFG_SEL then l.head?
  else l.foldl (fun m b => match m with
    | none => some b
    | some k => if s.rankOf n b < s.rankOf n k then some b else some k) none

/-- The port may start a frame: NORMAL, transmitting (R352), no frame in progress, no `ALONE_GAP` running. -/
def State.canSend (s : State) (n : Nat) : Bool :=
  s.opm n == 3 && s.g (sbcP n) R.Sbc.SBC_CFG_TEST != 1 && !(s.port n).busy && !(s.port n).closing &&
  (List.range 3).all (fun b => s.txs n b != 2) &&
  (!s.b (sbcP n) R.Sbc.STAT_ALONE || decide ((s.port n).gapUntil ≤ s.tbs.el))

/-- A selection (R365): the selected buffer is ACTIVE from its SOF, which begins the attempt (R367). -/
def State.txSelect (s : State) (n : Nat) : State :=
  if !s.canSend n then s else
  match s.selected n with
  | none => s
  | some b =>
    let pg := txbP n b
    let s := (s.p pg R.Sbc.TXB_STAT_STATE 2).inc pg R.Sbc.TXB_STAT_ATTEMPTS
    (s.pTs pg R.Sbc.TXB_TS_LO R.Sbc.TXB_TS_HI s.stamp).setPort n { s.port n with abort := false }

/-! ### Frames of the engine -/

/-- Load a buffer the engine owns and request it (R97, R412): `RETRY` = 3 in TXB1, a free value in TXB0. -/
def State.txLoad (s : State) (n b : Nat) (f : EFrm) : State :=
  let pg := txbP n b
  let (retry, s) := if b = 0 then (s.free % 16, s.drew) else (3, s)
  let s := s.wr (pg + 0x100) (wd (retry * 16 + if f.launch.isSome then 4 else 0))
  let s := (s.wr (pg + 0x108) (wd f.id)).wr (pg + 0x10C) (wd (0x70 + dlcOf f.data.length))
  let s := match f.launch with
    | some t => s.pTs pg R.Sbc.TXB_LAUNCH_LO R.Sbc.TXB_LAUNCH_HI t
    | none => s
  let s := (s.wrBytes (pg + 0x120) f.data).txPend n b
  s.setPort n ((s.port n).setCur b (some f))

/-- The frame that arbitration ranks first, the oldest on a tie, and the rest of the queue (R412). -/
def bestFrm : List EFrm → Option (EFrm × List EFrm)
  | [] => none
  | f :: l =>
    match bestFrm l with
    | none => some (f, [])
    | some (g, r) => if rankKey true false f.id ≤ rankKey true false g.id then some (f, l) else some (g, f :: r)

/-- Load TXB0 and TXB1 from their queues when they are IDLE (R363, R412). -/
def State.txFill (s : State) (n : Nat) : State :=
  if !s.engine n then s else
  let s := match (s.port n).q0 with
    | f :: l => if s.txs n 0 = 0 then (s.setPort n { s.port n with q0 := l }).txLoad n 0 f else s
    | [] => s
  if s.txs n 1 ≠ 0 then s else
  match bestFrm (s.port n).q1 with
  | some (f, l) => (s.setPort n { s.port n with q1 := l }).txLoad n 1 f
  | none => s

/-- Loading, then a selection. -/
def State.txKick (s : State) (n : Nat) : State := (s.txFill n).txSelect n

/-- Queue a frame on one port. -/
def State.enqueue (s : State) (n b : Nat) (f : EFrm) : State :=
  let x := s.port n
  (s.setPort n (if b = 0 then { x with q0 := x.q0 ++ [f] } else { x with q1 := x.q1 ++ [f] })).txKick n

/-- Queue a frame of CVE on each usable leg in ENGINE ownership of a network (R389, R412). -/
def State.sendBoth (s : State) (net : Nat) (f : EFrm) : State :=
  let go (s : State) (n : Nat) : State := if s.legUsable n && s.engine n then s.enqueue n 1 f else s
  go (go s (2 * net)) (2 * net + 1)

/-- A leg becomes unusable: CVE aborts its TXB1 and drops the copies waiting for that leg (R412). -/
def State.dropLeg (s : State) (n : Nat) : State :=
  if !s.engine n then s else (s.setPort n { s.port n with q1 := [] }).txAbort n 1

/-- The identifier of an Elith frame (R384). -/
def elithId (prio type src dst stream : Nat) : Nat := prio * 2 ^ 26 + type * 2 ^ 22 + src * 2 ^ 14 + dst * 2 ^ 6 + stream

/-- Next broadcast control number of a network (R388). -/
def State.bcSeq (s : State) (net : Nat) : Nat × State :=
  let n := Tab.get (fun _ => 0) s.cve.bcCtl net
  (n, { s with cve := { s.cve with bcCtl := Tab.set (fun _ => 0) s.cve.bcCtl net ((n + 1) % 65536) } })

/-! ### States and errors -/

/-- The port goes online in RESTRICTED; `HELD` while `OOS` or `FAULT` is set (R358). -/
def State.portRestrict (s : State) (n : Nat) : State :=
  let held := s.b (sbcP n) R.Sbc.CTRL_OOS || s.b (sbcP n) R.Sbc.STAT_FAULT
  let s := s.setPort n { s.port n with restrAt := s.tbs.el }
  (s.setOpm n 2).psB (sbcP n) R.Sbc.STAT_HELD held

/-- The ACTIVE buffer of a port. -/
def State.active (s : State) (n : Nat) : Option Nat := (List.range 3).find? fun b => s.txs n b == 2

/-- `OOS` or `FAULT` has changed: NORMAL falls to RESTRICTED, held, once an attempt in progress has ended (R358, R374); with
both 0 a held port goes online. -/
def State.portHold (s : State) (n : Nat) : State :=
  let held := s.b (sbcP n) R.Sbc.CTRL_OOS || s.b (sbcP n) R.Sbc.STAT_FAULT
  match s.opm n with
  | 3 => if held && (s.active n).isNone then (s.setOpm n 2).psB (sbcP n) R.Sbc.STAT_HELD true else s
  | 2 =>
    if held then s.psB (sbcP n) R.Sbc.STAT_HELD true
    else if s.b (sbcP n) R.Sbc.STAT_HELD then s.portRestrict n else s
  | _ => s

/-- The port's filter turns lasting (R362). -/
def State.portFault (s : State) (n : Nat) : State :=
  ((s.psB (sbcP n) R.Sbc.STAT_FAULT true).irq (sbcP n) 9).portHold n

/-- A port feeds filter 0xDE + n (R361). -/
def State.portOccur (s : State) (n : Nat) : State :=
  let t := s.fwOccur (0xDE + n)
  if becameLasting (0xDE + n) s t then t.portFault n else t

/-- Error counters set to 0, INTEGRATING (R358). -/
def State.portIntegrate (s : State) (n : Nat) : State :=
  let s := (s.p (sbcP n) R.Sbc.SBC_ERRC_TEC 0).p (sbcP n) R.Sbc.SBC_ERRC_REC 0
  let s := s.setPort n { s.port n with borReq := false, busy := false, closing := false }
  ((s.ps (sbcP n) R.Sbc.STAT_EPASS 0).ps (sbcP n) R.Sbc.STAT_HELD 0).setOpm n 1

/-- The port is OFF. -/
def State.portOff (s : State) (n : Nat) : State :=
  let s := s.setPort n { s.port n with borReq := false, busy := false, closing := false, q0 := [], q1 := [] }
  (s.ps (sbcP n) R.Sbc.STAT_HELD 0).setOpm n 0

/-- A frame that `EN` = 0 left to complete has ended (R358): the port is OFF; with `EN` = 1 again it integrates. -/
def State.portClosed (s : State) (n : Nat) : State :=
  if !(s.port n).closing then s
  else if s.b (sbcP n) R.Hdr.CTRL_EN then (s.portOff n).portIntegrate n
  else s.portOff n

/-- `EN` written 0 (R358): pending buffers end `ABORTED`; a frame being sent or received completes first. -/
def State.portClose (s : State) (n : Nat) : State :=
  let s := (List.range 3).foldl (fun m b => if m.txs n b = 1 then m.txEnd n b 2 else m) s
  if (s.active n).isSome || ((s.port n).busy && (s.opm n == 2 || s.opm n == 3)) then
    s.setPort n { s.port n with closing := true, q0 := [], q1 := [] }
  else s.portOff n

/-- An error is detected (R361): last error, `ERR_CNT`, event `ERR`. -/
def State.portErr (s : State) (n code : Nat) (data : Bool) : State :=
  let s := (s.p (sbcP n) R.Sbc.SBC_LASTERR_CODE code).pB (sbcP n) R.Sbc.SBC_LASTERR_DATA_PHASE data
  s.incIrq (sbcP n) R.Sbc.ERR_CNT (sbcP n) 11

/-- The error state after a change of the counters (ISO 11898-1, R361): error-passive above 127, bus-off above 255. -/
def State.portCounts (s : State) (n : Nat) : State :=
  let tec := s.g (sbcP n) R.Sbc.SBC_ERRC_TEC
  let ep := decide (127 < tec) || decide (127 < s.g (sbcP n) R.Sbc.SBC_ERRC_REC)
  let was := s.b (sbcP n) R.Sbc.STAT_EPASS
  let s := s.psB (sbcP n) R.Sbc.STAT_EPASS ep
  let s := if ep && !was then ((s.inc (sbcP n) R.Sbc.EPASS_CNT).irq (sbcP n) 6).portOccur n else s
  if 255 < tec && (s.opm n == 3 || s.opm n == 2) then
    let s := s.setPort n { s.port n with borReq := false }
    (((s.inc (sbcP n) R.Sbc.BUSOFF_CNT).irq (sbcP n) 7).setOpm n 4).portOccur n
  else s

/-- A valid frame is received (ISO 11898-1): REC falls by 1, from above 127 to a value from 119 to 127 that is free. -/
def State.recDown (s : State) (n : Nat) : State :=
  let r := s.g (sbcP n) R.Sbc.SBC_ERRC_REC
  if r = 0 then s
  else if r ≤ 127 then (s.p (sbcP n) R.Sbc.SBC_ERRC_REC (r - 1)).portCounts n
  else ((s.p (sbcP n) R.Sbc.SBC_ERRC_REC (119 + s.free % 9)).drew).portCounts n

/-- An acknowledged attempt or a valid received frame ends `ALONE` (R370). -/
def State.notAlone (s : State) (n : Nat) : State :=
  (s.p (sbcP n) R.Sbc.SBC_LASTERR_ACK_RUN 0).ps (sbcP n) R.Sbc.STAT_ALONE 0

/-- An attempt ends in an ACK error (R370). -/
def State.ackError (s : State) (n : Nat) : State :=
  let s := s.inc (sbcP n) R.Sbc.SBC_LASTERR_ACK_RUN
  if 16 ≤ s.g (sbcP n) R.Sbc.SBC_LASTERR_ACK_RUN && !s.b (sbcP n) R.Sbc.STAT_ALONE then
    ((s.ps (sbcP n) R.Sbc.STAT_ALONE 1).irq (sbcP n) 5).portOccur n
  else s

/-! ### Receiving -/

/-- Registers of filter `f` and mailbox `m`, as pages for the fields of R380 and R381. -/
abbrev fltP (n f : Nat) : Nat := sbcP n + 0xC * (f % 64)
abbrev mbxP (n m : Nat) : Nat := sbcP n + 0x50 * (m % 32)

/-- A filter may store into its mailbox: both belong to one owner (R363, R371). -/
def State.fltOwn (s : State) (n f : Nat) : Bool :=
  !s.engine n || decide (f < 32) == decide (s.g (fltP n f) R.Sbc.FLT_CFG_MB < 16)

/-- The first filter of a list that matches a frame (R371). -/
def State.fltMatch (s : State) (n : Nat) (fs : List Nat) (f : RxFrame) : Option Nat :=
  fs.find? fun k =>
    let m := s.g (fltP n k) R.Sbc.FLT_MASK
    s.b (fltP n k) R.Sbc.FLT_CFG_EN && s.b (fltP n k) R.Sbc.FLT_CFG_IDE == f.ide &&
    Nat.land (if f.ide then f.id.toNat else f.id.toNat % 2048) m == Nat.land (s.g (fltP n k) R.Sbc.FLT_ID) m && s.fltOwn n k

/-- The data bytes a frame carries (R352). -/
def rxBytes (f : RxFrame) : List Nat :=
  let n := if f.rtr then 0 else if f.fdf then dlcLen f.dlc.val else min 8 f.dlc.val
  ((f.data.map BitVec.toNat) ++ List.replicate n 0).take n

/-- Write a frame into mailbox `m` (R372). -/
def State.mbxStore (s : State) (n m k : Nat) (f : RxFrame) (new ovr : Bool) : State :=
  let pg := mbxP n m
  let s := s.wr (pg + 0x600) (wd (b2n new * 2 ^ 31 + b2n ovr * 2 ^ 30 + k * 2 ^ 16 + b2n f.esi * 256 + b2n f.rtr * 128 +
    b2n f.brs * 64 + b2n f.fdf * 32 + b2n f.ide * 16 + f.dlc.val))
  let s := (s.wr (pg + 0x604) (wd f.id.toNat)).pTs pg R.Sbc.MBX_TS_LO R.Sbc.MBX_TS_HI (s.stampAgo f.age)
  (s.wrBytes (pg + 0x610) (rxBytes f)).inc (sbcP n) R.Sbc.SBC_RX_OK_CNT

/-- A frame for a software mailbox (R371, R372). -/
def State.rxSoft (s : State) (n : Nat) (f : RxFrame) : State :=
  let fs := if s.engine n then (List.range 32).map (· + 32) else List.range 64
  match s.fltMatch n fs f with
  | none => s.inc (sbcP n) R.Sbc.NOMATCH_CNT
  | some k =>
    if s.b (fltP n k) R.Sbc.FLT_CFG_REJECT then s else
    let m := s.g (fltP n k) R.Sbc.FLT_CFG_MB
    let pg := mbxP n m
    if !s.b pg R.Sbc.MBX_CTRL_NEW then (s.mbxStore n m k f true (s.b pg R.Sbc.MBX_CTRL_OVR)).irq (sbcP n) 3
    else if s.b (fltP n k) R.Sbc.FLT_CFG_OVW then ((s.mbxStore n m k f true true).irq (sbcP n) 4).irq (sbcP n) 3
    else (s.p pg R.Sbc.MBX_CTRL_OVR 1).incIrq (sbcP n) R.Sbc.RX_LOST_CNT (sbcP n) 4

end Sys2Proof.Machine
end

