-- ==== Sys2Proof/Machine/Ledger.lean ====
section
/-! DEFINITION. CLG, the call ledger: entries, chains, commands, views and initialisation (R217 to R236). -/

namespace Sys2Proof.Machine

/-- Address of the ledger and conversation SRAM (R217, R516). -/
abbrev clgBase : Nat := 0x11700000

/-- A word of the ledger region after initialisation (R233): heads and tails 0x3FFF, all else 0. -/
def ledDefault (off : Nat) : Nat := if 0x60000 ≤ off ∧ off < 0x62000 ∧ off % 8 = 0 then 0x3FFF3FFF else 0

abbrev Led := List (Nat × Nat)

/-- A word of the region. -/
def ledR (m : Led) (off : Nat) : Nat := Tab.get ledDefault m off
def ledW (m : Led) (off v : Nat) : Led := Tab.set ledDefault m off (v % 2 ^ 32)

/-- Bits `lo` to `lo + w − 1` of a word, and their replacement. -/
def bitsR (x lo w : Nat) : Nat := x / 2 ^ lo % 2 ^ w
def bitsW (x lo w v : Nat) : Nat := x / 2 ^ (lo + w) * 2 ^ (lo + w) + v % 2 ^ w * 2 ^ lo + x % 2 ^ lo

/-- Fields of entry `e` (R219). -/
def entR (m : Led) (e k lo w : Nat) : Nat := bitsR (ledR m (e * 32 + 4 * k)) lo w
def entSet (m : Led) (e k lo w v : Nat) : Led := ledW m (e * 32 + 4 * k) (bitsW (ledR m (e * 32 + 4 * k)) lo w v)

def eState (m : Led) (e : Nat) : Nat := entR m e 0 29 3
def eKind (m : Led) (e : Nat) : Nat := entR m e 0 27 2
def eDir (m : Led) (e : Nat) : Nat := entR m e 0 26 1
def eSide (m : Led) (e : Nat) : Nat := entR m e 0 25 1
def eLdg (m : Led) (e : Nat) : Nat := entR m e 0 16 8
def eDest (m : Led) (e : Nat) : Nat := entR m e 0 8 8
def eCar (m : Led) (e : Nat) : Nat := entR m e 1 14 2
def eNext (m : Led) (e : Nat) : Nat := entR m e 1 0 14
def ePrev (m : Led) (e : Nat) : Nat := entR m e 2 0 14

/-- A neighbour of a chain: none at the end. -/
def link (i : Nat) : Option Nat := if i = 0x3FFF then none else some i

/-- The chain of an entry: landing and group (R221). -/
def chainOf (m : Led) (e : Nat) : Nat × Nat :=
  if eState m e = 3 then (eDest m e, if eCar m e = 1 then 2 else 3) else (eLdg m e, if eDir m e = 1 then 0 else 1)

/-- Offset of a chain head (R217). -/
def headOff (l g : Nat) : Nat := 0x60000 + (l * 4 + g) * 8

/-- Whether sequence number `a` is after `b` (R81). -/
def seqAfter (a b : Nat) : Bool := let d := (a + 65536 - b % 65536) % 65536; 0 < d && d < 32768

/-- The order key of R222: `a` is at or before `b`. -/
def keyLe (m : Led) (a b : Nat) : Bool :=
  let ta := ledR m (a * 32 + 16) + 2 ^ 32 * ledR m (a * 32 + 20)
  let tb := ledR m (b * 32 + 16) + 2 ^ 32 * ledR m (b * 32 + 20)
  let ca := entR m a 0 0 8
  let cb := entR m b 0 0 8
  if ta ≠ tb then decide (ta < tb)
  else if ca ≠ cb then decide (ca < cb)
  else !seqAfter (entR m a 1 16 16) (entR m b 1 16 16)

/-- The members of a chain from a given entry on, head to tail. -/
def chainFrom (m : Led) : Nat → Nat → List Nat
  | 0, _ => []
  | n + 1, i => if i = 0x3FFF then [] else i :: chainFrom m n (eNext m i)

/-- The members of chain (l, g). -/
def chain (m : Led) (l g : Nat) : List Nat :=
  chainFrom m (bitsR (ledR m (headOff l g + 4)) 0 16) (bitsR (ledR m (headOff l g)) 0 14)

/-- The entry after which a new member stands: the walk from the tail stops at a key at or before its own (R222). -/
def placeAfter (m : Led) (e : Nat) : Nat → Nat → Nat
  | 0, i => i
  | n + 1, i => if i = 0x3FFF then i else if keyLe m i e then i else placeAfter m e n (ePrev m i)

/-- Set `COUNT` of a chain and its summary bit (R217, R223). -/
def setCount (m : Led) (l g n : Nat) : Led :=
  let m := ledW m (headOff l g + 4) (bitsW (ledR m (headOff l g + 4)) 0 16 n)
  let o := 0x62000 + l / 4 * 4
  ledW m o (bitsW (ledR m o) (8 * (l % 4) + g) 1 (if n = 0 then 0 else 1))

/-- `TS_CHG` of an entry (R224). -/
def stampChg (m : Led) (e ts : Nat) : Led :=
  ledW (ledW m (e * 32 + 24) (ts % 2 ^ 32)) (e * 32 + 28) (ts / 2 ^ 32 % 2 ^ 32)

/-- Link an entry into its chain (R221, R222). -/
def linkIn (m : Led) (e ts : Nat) : Led :=
  let (l, g) := chainOf m e
  let h := headOff l g
  let n := bitsR (ledR m (h + 4)) 0 16
  let tail := bitsR (ledR m h) 16 14
  let p := placeAfter m e n tail
  let q := if p = 0x3FFF then bitsR (ledR m h) 0 14 else eNext m p
  let m := entSet (entSet m e 1 0 14 q) e 2 0 14 p
  let m := match link p with
    | some p => stampChg (entSet m p 1 0 14 e) p ts
    | none => ledW m h (bitsW (ledR m h) 0 14 e)
  let m := match link q with
    | some q => stampChg (entSet m q 2 0 14 e) q ts
    | none => ledW m h (bitsW (ledR m h) 16 14 e)
  setCount m l g (n + 1)

/-- Take an entry out of its chain. -/
def unlink (m : Led) (e ts : Nat) : Led :=
  let (l, g) := chainOf m e
  let h := headOff l g
  let n := bitsR (ledR m (h + 4)) 0 16
  let p := ePrev m e
  let q := eNext m e
  let m := match link p with
    | some i => stampChg (entSet m i 1 0 14 q) i ts
    | none => ledW m h (bitsW (ledR m h) 0 14 q)
  let m := match link q with
    | some i => stampChg (entSet m i 2 0 14 p) i ts
    | none => ledW m h (bitsW (ledR m h) 16 14 p)
  setCount m l g (n - 1)

/-- The lowest-numbered FREE entry, if any (R225). -/
def lowestFree (m : Led) (used : Nat) : Option Nat :=
  (List.range (min (used + 1) 12288)).find? fun e => eState m e == 0

/-! ### Checks (R226) -/

/-- Whether a car is declared (R31): `CARS` alone decides, so on an LH6161 whose `CARS` reads 0b11 car L counts as declared
for R226, though no car can then be armed (R4; DESIGN CHOICE, log entry 161). -/
def State.declared (s : State) (c : Nat) : Bool := bitOf (s.g mpgC R.MpgC.CARS) c

/-- Whether a landing has a side, and a car has it. -/
def State.ldgSide (s : State) (n side : Nat) : Bool := s.b (ldgP n) (if side = 0 then R.Ldg.FRONT else R.Ldg.REAR)
def State.carSide (s : State) (c side : Nat) : Bool :=
  s.b (carP c) (if side = 0 then R.MpgC.CAR_DOORS_FRONT else R.MpgC.CAR_DOORS_REAR)

/-- Whether a car can take a call: it serves the landings and has the side (R226). -/
def State.canTake (s : State) (c kind ldg dest side : Nat) : Bool :=
  s.declared c && s.carSide c side &&
  match kind with
  | 0 => s.serves c ldg
  | 1 => s.serves c ldg && s.serves c dest
  | _ => s.serves c dest

/-- A line of the ledger region holds an uncorrectable error (R226, R514). -/
def State.lineBad (s : State) (off : Nat) : Bool :=
  s.memc.bad.any fun (a, k) => k = 2 && clgBase + off / 32 * 32 ≤ a && a < clgBase + off / 32 * 32 + 32

/-- The fields of an `INSERT` as written to its entry (R219, R225): W0 to W5 with `STATE`, `DIR`, `PAX`. -/
def insWords (c : ClgCmd) : List Nat :=
  let kind := bitsR c.w0 27 2
  let side := bitsR c.w0 25 1
  let ldg := if kind = 2 then 0 else bitsR c.w0 16 8
  let dest := if kind = 0 then 0 else bitsR c.w0 8 8
  let dir := match kind with
    | 0 => bitsR c.w0 26 1
    | 1 => if ldg < dest then 1 else 0
    | _ => 0
  let st := if kind = 2 then 3 else 1
  let car := if kind = 2 then bitsR c.w1 14 2 else 0
  [st * 2 ^ 29 + kind * 2 ^ 27 + dir * 2 ^ 26 + side * 2 ^ 25 + ldg * 2 ^ 16 + dest * 2 ^ 8 + bitsR c.w0 0 8,
   bitsR c.w1 16 16 * 2 ^ 16 + car * 2 ^ 14, 2 ^ 28 + bitsR c.w2 22 6 * 2 ^ 22, c.w3, c.w4, c.w5]

/-- The entries that the placing of `e` walks past from `i` on, and the one at which it stops (R222). -/
def walked (m : Led) (e : Nat) : Nat → Nat → List Nat
  | 0, _ => []
  | n + 1, i => if i = 0x3FFF then [] else if keyLe m i e then [i] else i :: walked m e n (ePrev m i)

/-- The lines that a command must read beside those it overwrites whole: the entry it names; the head, and the entries
beside it, of a chain it leaves; the head, and the entries searched or walked, of a chain it joins (R222 to R226). -/
def linesRead (m : Led) (c : ClgCmd) : List Nat :=
  let own := c.idx * 32
  let (l, g) := chainOf m c.idx
  let out := [own, headOff l g] ++ ([ePrev m c.idx, eNext m c.idx].filterMap link).map (· * 32)
  match c.op with
  | 1 =>
    let t := insWords c
    let (ld, g) := chainOf (ledW (ledW [] 0 (t.getD 0 0)) 4 (t.getD 1 0)) 0
    headOff ld g :: (chain m ld g).map (· * 32)
  | 4 =>
    if eState m c.idx = 2 ∧ eKind m c.idx = 1 then
      let m' := entSet m c.idx 0 29 3 3
      let (ld, g) := chainOf m' c.idx
      let h := headOff ld g
      out ++ h :: (walked m' c.idx (bitsR (ledR m (h + 4)) 0 16) (bitsR (ledR m h) 16 14)).map (· * 32)
    else out
  | 5 => out
  | _ => [own]

/-- The code of the first failing check of a command, 0 for none (R226). -/
def State.clgCheck (s : State) (c : ClgCmd) : Nat :=
  let m := s.clg.led
  let last := s.ldgLast
  let st := eState m c.idx
  let stateOk := match c.op with
    | 2 => st == 1 || st == 2
    | 3 => st == 2
    | 4 => st == 2 || st == 3
    | 5 | 6 => st == 1 || st == 2 || st == 3
    | _ => true
  let kind := bitsR c.w0 27 2
  let ldg := bitsR c.w0 16 8
  let dest := bitsR c.w0 8 8
  let car := bitsR c.w1 14 2
  let side := bitsR c.w0 25 1
  let badCar := car == 0 || car == 3
  let badField := match c.op with
    | 1 => decide (last < ldg) || decide (last < dest) ||
      match kind with
      | 0 => (bitsR c.w0 26 1 == 0 && ldg == 0) || (bitsR c.w0 26 1 == 1 && ldg == last)
      | 1 => dest == ldg
      | 2 => badCar
      | _ => true
    | 2 => badCar
    | _ => false
  let served := match c.op with
    | 1 =>
      if kind = 2 then s.ldgSide dest side && s.canTake (car - 1) 2 0 dest side
      else s.ldgSide ldg side && (s.canTake 0 kind ldg dest side || s.canTake 1 kind ldg dest side)
    | 2 => s.ldgSide (eLdg m c.idx) (eSide m c.idx) &&
        s.canTake (car - 1) (eKind m c.idx) (eLdg m c.idx) (eDest m c.idx) (eSide m c.idx)
    | _ => true
  if !s.b clgC R.Hdr.CTRL_EN || s.b clgC R.ClgC.STAT_INIT then 7
  else if c.op = 0 || 6 < c.op then 9
  else if c.op ≠ 1 && 12287 < c.idx then 6
  else if !stateOk then 5
  else if badField then 3
  else if !served then 4
  else if (linesRead m c).any s.lineBad then 8
  else 0

/-! ### Effects -/

/-- Number of entries in a state (a field value), by car for ASSIGNED. -/
def State.clgCount (s : State) (f : Fld) (d : Int) : State := s.p clgC f ((s.g clgC f : Int) + d).toNat

/-- `STAT.HIWAT` shows whether `USED` has reached `HIWAT` (R235). -/
def State.hiwatShow (s : State) : State :=
  s.psB clgC R.ClgC.STAT_HIWAT (decide (s.g clgC R.ClgC.CLG_CFG_HIWAT ≤ s.g clgC R.ClgC.USED))

/-- The register counters follow an entry that leaves state `a` (car `ca`) for state `b` (car `cb`). -/
def State.clgMoved (s : State) (a ca b cb : Nat) : State :=
  let step (s : State) (st car : Nat) (d : Int) : State :=
    match st with
    | 1 => s.clgCount R.ClgC.N_OPEN d
    | 2 => s.clgCount (if car = 1 then R.ClgC.N_ASG_U else R.ClgC.N_ASG_L) d
    | 3 => s.clgCount R.ClgC.N_CARRIED d
    | _ => s
  let s := step (step s a ca (-1)) b cb 1
  let was := s.g clgC R.ClgC.USED
  let used := was + (if a = 0 then 1 else 0) + (if b = 0 then 0 else 1) - 1
  let s := (s.p clgC R.ClgC.USED used).peak clgC R.ClgC.PEAK used
  let hi := s.g clgC R.ClgC.CLG_CFG_HIWAT
  let s := if was < hi ∧ hi ≤ used then s.irq clgC 2 else s
  s.hiwatShow.psB clgC R.ClgC.STAT_NOFREE (decide (used = 12288))

/-- The 32-byte lines that differ between two ledgers. -/
def changedLines (a b : Led) : List Nat :=
  (((a.filter fun (k, v) => ledR b k ≠ v) ++ (b.filter fun (k, v) => ledR a k ≠ v)).map fun (k, _) => k / 32 * 32).eraseDups

/-- The words of a line. -/
def lineWords (m : Led) (line : Nat) : List Nat := (List.range 8).map fun k => ledR m (line + 4 * k)

/-- Whether every live pair's view is at or after a number (R231). -/
def State.viewsPast (s : State) (q : Nat) : Bool :=
  let past (p : Nat) (v : Option Nat) : Bool := !s.live p || match v with | some v => !seqAfter q v | none => false
  past 0 s.clg.v0 && past 1 s.clg.v1

/-- Images retire (R231). -/
def State.clgRetire (s : State) : State :=
  let s := { s with clg := { s.clg with images := s.clg.images.filter fun i => !s.viewsPast i.seq } }
  s.p clgC R.ClgC.VIEW_USED s.clg.images.length

/-- The ledger after an accepted command, its result code and index (R224, R225). -/
def ledApply (m : Led) (c : ClgCmd) (ts used reserve : Nat) : Led × Nat × Nat :=
  match c.op with
  | 1 =>
    let w := insWords c
    let kind := bitsR c.w0 27 2
    let t : Led := ledW (ledW [] 0 (w.getD 0 0)) 4 (w.getD 1 0)
    let (l, g) := chainOf t 0
    let same (e : Nat) : Bool :=
      eKind m e == kind && eSide m e == bitsR c.w0 25 1 &&
      match kind with
      | 0 => (eState m e == 1 || eState m e == 2) && eLdg m e == eLdg t 0 && eDir m e == eDir t 0
      | 1 => (eState m e == 1 || eState m e == 2) && eLdg m e == eLdg t 0 && eDest m e == eDest t 0
      | _ => eState m e == 3 && eCar m e == eCar t 0 && eDest m e == eDest t 0
    match (chain m l g).find? same with
    | some e => (stampChg (entSet m e 2 28 4 (min 15 (entR m e 2 28 4 + 1))) e ts, 1, e)
    | none =>
      if kind ≠ 2 ∧ 12288 - used ≤ reserve then (m, 2, 0) else
      match lowestFree m used with
      | none => (m, 2, 0)
      | some e =>
        let m := (w.zip [0, 1, 2, 3, 4, 5]).foldl (fun m (x, k) => ledW m (e * 32 + 4 * k) x) m
        (stampChg (linkIn m e ts) e ts, 0, e)
  | 2 =>
    (stampChg (entSet (entSet m c.idx 1 14 2 (bitsR c.w1 14 2)) c.idx 0 29 3 2) c.idx ts, 0, c.idx)
  | 3 => (stampChg (entSet (entSet m c.idx 1 14 2 0) c.idx 0 29 3 1) c.idx ts, 0, c.idx)
  | 4 =>
    let m1 := unlink m c.idx ts
    if eState m c.idx = 2 ∧ eKind m c.idx = 1 then
      (stampChg (linkIn (entSet m1 c.idx 0 29 3 3) c.idx ts) c.idx ts, 0, c.idx)
    else (stampChg (entSet m1 c.idx 0 29 3 0) c.idx ts, 0, c.idx)
  | 5 => (stampChg (entSet (unlink m c.idx ts) c.idx 0 29 3 0) c.idx ts, 0, c.idx)
  | _ => (stampChg (ledW (entSet m c.idx 2 22 6 (bitsR c.w2 22 6)) (c.idx * 32 + 12) c.w3) c.idx ts, 0, c.idx)

/-! ### Views (R230) -/

/-- V of a pair. -/
def State.viewOf (s : State) (p : Nat) : Option Nat := if p = 0 then s.clg.v0 else s.clg.v1

/-- Set V of a pair; images may retire. -/
def State.setView (s : State) (p q : Nat) : State :=
  (if p = 0 then { s with clg := { s.clg with v0 := some q } } else { s with clg := { s.clg with v1 := some q } }).clgRetire

/-- A pair's read is held: its V has not been applied yet. -/
def State.viewHeld (s : State) (p : Nat) : Bool :=
  match s.viewOf p with
  | none => false
  | some v => !s.b clgC R.ClgC.APPLIED_VALID || seqAfter v (s.g clgC R.ClgC.CLG_APPLIED)

/-- The line a pair sees: the image from before the first change after its V, else the current line. -/
def State.viewLine (s : State) (p line : Nat) : List Nat :=
  let later (i : ClgImg) : Bool := i.line == line && match s.viewOf p with | none => true | some v => seqAfter i.seq v
  match s.clg.images.find? later with
  | some i => i.words
  | none => lineWords s.clg.led line

/-- A byte of the ledger region as initiator `i` sees it: a pair by its view, others as it stands (R230). -/
def State.ledByte (s : State) (i : Ini) (off : Nat) : Nat :=
  let line := off / 32 * 32
  let ws := match i with
    | .pair p => s.viewLine p.val line
    | _ => lineWords s.clg.led line
  ws.getD (off % 32 / 4) 0 / 256 ^ (off % 4) % 256

/-- Held reads whose V has been applied return their lines (R230). -/
def State.viewServe (s : State) : State :=
  let now := s.clg.reads.filter fun x => !s.viewHeld x.1
  now.foldl (fun m (p, a, n) =>
    let i : Ini := .pair ⟨p % 2, Nat.mod_lt _ (by decide)⟩
    let v := ofBytesLE ((List.range n).map fun k => m.ledByte i (a - clgBase + k))
    { m with bus := .done v, clg := { m.clg with rets := Tab.set (fun _ => 0) m.clg.rets p v } })
    { s with clg := { s.clg with reads := s.clg.reads.filter fun x => s.viewHeld x.1 } }

/-- `CLG_CMD_RESULT` and `CLG_APPLIED` (R226, R227). -/
def State.clgAnswer (s : State) (c : ClgCmd) (code idx : Nat) : State :=
  let s := s.wr (clgC + 0x070) (wd (c.tag * 0x10000 + code))
  let s := s.p clgC R.ClgC.CLG_CMD_RESULT_INDEX idx
  let s := s.wr (clgC + 0x064) (wd (0x10000 + c.seq % 65536))
  if code = 0 || code = 1 then s else s.irq clgC 0

/-- A fault of the ledger feeds filter 0xF2 (R228, R229). -/
def State.clgFault (s : State) : State :=
  let t := s.fwOccur 0xF2
  if becameLasting 0xF2 s t then (t.ps clgC R.ClgC.STAT_FAULT 1).irq clgC 3 else t

/-- An accepted command takes effect (R224, R225, R228). -/
def State.clgEffect (s : State) (c : ClgCmd) (m : Led) (code idx : Nat) : State :=
  let old := s.clg.led
  let imgs := (changedLines old m).map fun l => ClgImg.mk (c.seq % 65536) l (lineWords old l)
  let s := { s with clg := { s.clg with led := m, images := s.clg.images ++ imgs } }
  let s := if code = 2 then s else s.clgMoved (eState old idx) (eCar old idx) (eState m idx) (eCar m idx)
  let s := match code, c.op with
    | 1, _ => s.inc clgC R.ClgC.MERGE_CNT
    | 0, 1 => s.inc clgC R.ClgC.INS_CNT
    | 0, 2 => if eState old idx = 2 ∧ eCar old idx ≠ eCar m idx then s.inc clgC R.ClgC.REASSIGN_CNT else s
    | 0, 4 => if eState m idx = 0 then s.inc clgC R.ClgC.SERVED_CNT else s
    | 0, 5 => s.inc clgC R.ClgC.CANCEL_CNT
    | 2, _ =>
      ((s.incIrq clgC R.ClgC.FULL_CNT clgC 1).ikwOffer 0x1E0 (srcOf 0x0F 0)
        [wd (s.g clgC R.ClgC.USED), wd (bitsR c.w0 27 2)]).clgFault
    | _, _ => s
  (s.clgAnswer c code idx).clgRetire

/-- Outcome of a command: the new ledger, code and index. -/
def State.clgPlan (s : State) (c : ClgCmd) : Led × Nat × Nat :=
  let code := s.clgCheck c
  if code ≠ 0 then (s.clg.led, code, if c.op = 1 then 0 else c.idx)
  else ledApply s.clg.led c s.stamp (s.g clgC R.ClgC.USED) (s.g clgC R.ClgC.CLG_CFG_RESERVE)

/-- A command finds room in the view buffer for the lines it changes (R231). -/
def State.clgRoom (s : State) (c : ClgCmd) : Bool :=
  decide (s.clg.images.length + (changedLines s.clg.led (s.clgPlan c).1).length ≤ 2560)

/-- CLG applies a command (R226, R227); reads held for it return (R230). -/
def State.clgApply (s : State) (c : ClgCmd) : State :=
  let code := s.clgCheck c
  State.viewServe <|
    if code ≠ 0 then
      let s := s.clgAnswer c code (if c.op = 1 then 0 else c.idx)
      if code = 8 then s.clgFault else s
    else
      let (m, code, idx) := s.clgPlan c
      s.clgEffect c m code idx

/-- A command that finds too few images is counted (R231). -/
def State.clgStall (s : State) (c : ClgCmd) : State :=
  if s.clgRoom c then s else s.inc clgC R.ClgC.VIEW_STALL_CNT

/-- CLG takes a command (R227, R231): held, its write not answered, while images are wanting or an earlier one is held. -/
def State.clgTake (s : State) (c : ClgCmd) : State :=
  if s.clg.held.isEmpty && s.clgRoom c then s.clgApply c
  else
    let t := if s.clg.held.isEmpty then s.clgStall c else s
    { t with bus := .held, clg := { t.clg with held := t.clg.held ++ [c] } }

/-- The words of a burst at the command port, then its command (R224). -/
def State.clgOp (s : State) (c : ClgCmd) : State :=
  let s := ([c.w0, c.w1, c.w2, c.w3, c.w4, c.w5, c.idx, c.tag * 0x10000 + c.op].zip [0, 1, 2, 3, 4, 5, 6, 7]).foldl
    (fun (m : State) (x, k) => m.wr (clgC + 0x100 + 4 * k) (wd x)) s
  s.clgTake c

/-- A CLG command reaches the port by Nib (R50). -/
def State.clgPort (s : State) (c : ClgCmd) : State := s.onWrite .nib (clgC + 0x11C) fun s => s.clgOp c

/-- A command without entry words. -/
def clgCmd (op idx car flags app tag seq : Nat) : ClgCmd :=
  ⟨0, car * 2 ^ 14, flags * 2 ^ 22, app, 0, 0, idx, op, tag, seq⟩

/-- CLG_INSERT (R225). -/
def execClgInsert (w0 w1 w2 w3 w4 w5 : Word) (tag seq : BitVec 16) (s : State) : Host.Outcome State Fault Refusal :=
  .next (s.clgPort ⟨w0.toNat, w1.toNat, w2.toNat, w3.toNat, w4.toNat, w5.toNat, 0, 1, tag.toNat, seq.toNat⟩)

/-- CLG_ASSIGN (R224). -/
def execClgAssign (idx : BitVec 14) (car : Fin 4) (tag seq : BitVec 16) (s : State) : Host.Outcome State Fault Refusal :=
  .next (s.clgPort (clgCmd 2 idx.toNat car.val 0 0 tag.toNat seq.toNat))

/-- CLG_UNASSIGN (R224). -/
def execClgUnassign (idx : BitVec 14) (tag seq : BitVec 16) (s : State) : Host.Outcome State Fault Refusal :=
  .next (s.clgPort (clgCmd 3 idx.toNat 0 0 0 tag.toNat seq.toNat))

/-- CLG_SERVE (R224). -/
def execClgServe (idx : BitVec 14) (tag seq : BitVec 16) (s : State) : Host.Outcome State Fault Refusal :=
  .next (s.clgPort (clgCmd 4 idx.toNat 0 0 0 tag.toNat seq.toNat))

/-- CLG_CANCEL (R224). -/
def execClgCancel (idx : BitVec 14) (tag seq : BitVec 16) (s : State) : Host.Outcome State Fault Refusal :=
  .next (s.clgPort (clgCmd 5 idx.toNat 0 0 0 tag.toNat seq.toNat))

/-- CLG_SET_APP (R224). -/
def execClgSetApp (idx : BitVec 14) (flags : BitVec 6) (app : Word) (tag seq : BitVec 16) (s : State) :
    Host.Outcome State Fault Refusal :=
  .next (s.clgPort (clgCmd 6 idx.toNat 0 flags.toNat app.toNat tag.toNat seq.toNat))

/-- VIEW_STALL_APPLY: the oldest held command is applied once images have retired, and its write is answered (R227, R231);
the next one is then CLG's to take. -/
def execViewStallApply (s : State) : Host.Outcome State Fault Refusal :=
  .next (
    let s := s.clgRetire
    match s.clg.held with
    | [] => s
    | c :: rest =>
      if s.clgRoom c then
        let t := { s with bus := .done 0, clg := { s.clg with held := rest } }.clgApply c
        match rest with
        | [] => t
        | d :: _ => t.clgStall d
      else s)

/-- A write of `CTRL` (R233, R235); the words that initialisation writes take fresh check bits (R514). -/
def State.clgCtrl (s : State) (v : Word) : State :=
  let was := s.b clgC R.Hdr.CTRL_EN
  let s := s.pB clgC R.Hdr.CTRL_EN (bitOf v.toNat 0)
  let s := if bitOf v.toNat 1 then s.p clgC R.ClgC.PEAK (s.g clgC R.ClgC.USED) else s
  if !was && bitOf v.toNat 0 then
    let s := { s with
      clg := { held := s.clg.held, reads := s.clg.reads, rets := s.clg.rets },
      memc := { s.memc with bad := s.memc.bad.filter fun x => !(clgBase ≤ x.1 && x.1 < 0x11764000) } }
    let s := (s.wr (clgC + 0x064) 0#32).p clgC R.ClgC.VIEW_USED 0
    let s := ((s.p clgC R.ClgC.USED 0).wr (clgC + 0x04C) 0#32).wr (clgC + 0x050) 0#32
    ((s.ps clgC R.ClgC.STAT_HIWAT 0).ps clgC R.ClgC.STAT_NOFREE 0).ps clgC R.ClgC.STAT_INIT 1
  else s

/-- CLG_ENABLE (R233). -/
def execClgEnable (ini : Ini) (v : Word) (s : State) : Host.Outcome State Fault Refusal :=
  .next (s.onWrite ini (clgC + 0x008) fun s => s.clgCtrl v)

/-- CLG_INIT_DONE (R233). -/
def execClgInitDone (s : State) : Host.Outcome State Fault Refusal :=
  .next (if s.b clgC R.ClgC.STAT_INIT && s.domOn 7 then (s.ps clgC R.ClgC.STAT_INIT 0).irq clgC 4 else s)

/-- PEAK_CLR (R235). -/
def execPeakClr (ini : Ini) (v : Word) (s : State) : Host.Outcome State Fault Refusal :=
  .next (s.onWrite ini (clgC + 0x008) fun s => s.clgCtrl (v ||| 2#32))

/-- A W1C write of CLG `STAT` (R229, R234). -/
def State.clgStatWrite (s : State) (v : Word) : State :=
  if bitOf v.toNat 2 && s.fwLasting 0xF2 then s.flt clgC
  else
    let s := if bitOf v.toNat 4 then s.ps clgC R.ClgC.STAT_EMPTIED 0 else s
    if bitOf v.toNat 2 then s.ps clgC R.ClgC.STAT_FAULT 0 else s

/-- CLG_FAULT_CLEAR (R229). -/
def execClgFaultClear (ini : Ini) (v : Word) (s : State) : Host.Outcome State Fault Refusal :=
  .next (s.onWrite ini (clgC + 0x00C) fun s => s.clgStatWrite v)

end Sys2Proof.Machine
end

