-- ==== Sys2Proof/Machine/Conv.lean ====
section
/-! DEFINITION. CVE: the contexts, their numbers, queues and frames (R383 to R428). -/

namespace Sys2Proof.Machine

/-- A context beside its registers. -/
def State.ctx (s : State) (c : Nat) : Ctx := Tab.get (fun _ => ({} : Ctx)) s.cve.ctxs c
def State.setCtx (s : State) (c : Nat) (x : Ctx) : State :=
  { s with cve := { s.cve with ctxs := Tab.set (fun _ => ({} : Ctx)) s.cve.ctxs c x } }

/-- `CSTATE` (R405): 0 FREE, 1 LISTEN, 2 JOIN, 3 LIVE, 4 QUIET, 5 LOST, 6 BARRED. -/
def State.cst (s : State) (c : Nat) : Nat := s.g (ctxP c) R.Ctx.STAT_CSTATE

/-- The context has a live conversation. -/
def State.cLive (s : State) (c : Nat) : Bool := s.cst c == 3 || s.cst c == 4

/-- Network and node of a context (R403). -/
def State.cNet (s : State) (c : Nat) : Nat := s.g (ctxP c) R.Ctx.CVE_ROSTER_NET
def State.cNode (s : State) (c : Nat) : Nat := s.g (ctxP c) R.Ctx.CVE_ROSTER_NODE

/-- The network has a usable leg (R420). -/
def State.netUp (s : State) (net : Nat) : Bool := s.legUsable (2 * net) || s.legUsable (2 * net + 1)

/-- A context awaits an invitation slot (R407). -/
def State.wantsSlot (s : State) (c : Nat) : Bool :=
  s.netUp (s.cNet c) && (s.cst c == 1 || (s.cst c == 5 && match (s.ctx c).inviteAt with
    | none => true
    | some t => decide (t + s.g cveC R.CveC.CVE_CFG_INV_TMO * 1000000 ≤ s.tbs.el)))

/-- `STAT.INVITING` of the common page. -/
def State.invShow (s : State) : State := s.psB cveC R.CveC.STAT_INVITING (s.cve.on.any s.wantsSlot)

/-- A change of `CSTATE` (R405); `START_DONE` when every enabled context is LIVE (R422). -/
def State.setCst (s : State) (c v : Nat) : State :=
  if s.cst c = v then s else
  let s := (s.ps (ctxP c) R.Ctx.STAT_CSTATE v).irq (ctxP c) 1
  let s := if v = 3 && s.cve.on.all (fun k => s.cst k == 3) then s.irq cveC 3 else s
  s.invShow

/-! ### Queue entries (R413 to R417) -/

/-- The counters of shaft network `k` on the CVE common page, as a page shift. -/
abbrev cvnP (k : Nat) : Nat := cveC + 0x10 * (k % 4)

/-- Address of slot 0 of the conversation store (R413). -/
abbrev qStore : Nat := 0x11764000

/-- Free slots of a context's queue. -/
def State.qFree (s : State) (c : Nat) : Nat := s.g (ctxP c) R.Ctx.CVE_RXQ_RXQ_LEN - s.g (ctxP c) R.Ctx.USED

/-- The full state is shown (R417). -/
def State.qShow (s : State) (c : Nat) : State :=
  let full := decide (s.qFree c ≤ 1)
  let s1 := s.psB (ctxP c) R.Ctx.STAT_RXQ_FULL full
  if full && !s.b (ctxP c) R.Ctx.STAT_RXQ_FULL then s1.irq (ctxP c) 6 else s1

/-- Write an entry whole, then advance (R414, R415). -/
def State.qWrite (s : State) (c w0 w1 ts : Nat) (data : List Nat) : State :=
  let pg := ctxP c
  let len := max 1 (s.g pg R.Ctx.CVE_RXQ_RXQ_LEN)
  let slot := s.g pg R.Ctx.CVE_RXQ_RXQ_BASE + (s.g pg R.Ctx.HEAD + s.g pg R.Ctx.USED) % len
  let q := s.g pg R.Ctx.RXQ_QSEQ
  let bytes := bytesLE 4 w0 ++ bytesLE 4 w1 ++ bytesLE 8 ts ++ bytesLE 4 q ++ List.replicate 12 0 ++ data ++
    List.replicate (96 - data.length) 0
  let s := s.mputEcc (qStore + slot * 0x80) bytes
  let s := (s.p pg R.Ctx.RXQ_QSEQ (q + 1)).p pg R.Ctx.USED (s.g pg R.Ctx.USED + 1)
  (s.irq pg 0).qShow c

/-- An EVENT entry, dropped when no slot is free (R414, R417). -/
def State.qEvent (s : State) (c code detail : Nat) : State :=
  if s.qFree c = 0 then s.inc (ctxP c) R.Ctx.EVT_DROP
  else s.qWrite c (3 * 2 ^ 30 + code) (detail * 2 ^ 16) s.stamp []

/-- Write the waiting deliveries that find slots, in order: a gap takes any slot, a message leaves the last one
(R417). -/
def State.qFlush (c : Nat) : List QEnt → State → State
  | [], s => s.setCtx c { s.ctx c with waitq := [] }
  | .gap first len ts :: l, s =>
    if s.qFree c = 0 then s.setCtx c { s.ctx c with waitq := .gap first len ts :: l }
    else State.qFlush c l ((s.qWrite c (2 * 2 ^ 30 + first) (len * 2 ^ 16) ts []).irq (ctxP c) 2)
  | .msg f :: l, s =>
    if s.qFree c ≤ 1 then s.setCtx c { s.ctx c with waitq := .msg f :: l }
    else State.qFlush c l ((s.qWrite c (2 ^ 30 + f.stream * 2 ^ 24 + f.data.length * 2 ^ 16 + f.seq)
      (f.prio * 256 + f.leg) f.stamp f.data).inc (ctxP c) R.Ctx.DELIV_CNT)

/-- Append a delivery. -/
def State.qPut (s : State) (c : Nat) (e : QEnt) : State :=
  s.setCtx c { s.ctx c with waitq := (s.ctx c).waitq ++ [e] }

/-- Write what can be written. -/
def State.qRun (s : State) (c : Nat) : State := State.qFlush c (s.ctx c).waitq s

/-- The release position that frees: that of every live pair (R416). -/
def State.relMin (s : State) (c : Nat) : Nat :=
  match s.live 0, s.live 1 with
  | true, true => min (s.ctx c).rel0 (s.ctx c).rel1
  | true, false => (s.ctx c).rel0
  | false, true => (s.ctx c).rel1
  | false, false => (s.ctx c).freed

/-- Entries are freed, and waiting deliveries take their slots (R416, R417). -/
def State.qRelease (s : State) (c : Nat) : State :=
  let pg := ctxP c
  let n := min (s.g pg R.Ctx.USED) (s.relMin c - (s.ctx c).freed)
  if n = 0 then s else
  let head := (s.g pg R.Ctx.HEAD + n) % max 1 (s.g pg R.Ctx.CVE_RXQ_RXQ_LEN)
  let s := (s.p pg R.Ctx.USED (s.g pg R.Ctx.USED - n)).p pg R.Ctx.HEAD head
  ((s.setCtx c { s.ctx c with freed := (s.ctx c).freed + n }).qRun c).qShow c

/-- Entries pair `p` has not released. -/
def State.unreleased (s : State) (c p : Nat) : Nat :=
  (s.ctx c).freed + s.g (ctxP c) R.Ctx.USED - (if p = 0 then (s.ctx c).rel0 else (s.ctx c).rel1)

/-- A `RELEASE` of pair `p` lands (R416): whether its `COUNT` is good, and the state with the position advanced. -/
def State.relLand (s : State) (c p count : Nat) : Bool × State :=
  if count = 0 || s.unreleased c p < count then (false, s) else
  let x := s.ctx c
  (true, (s.setCtx c (if p = 0 then { x with rel0 := x.rel0 + count } else { x with rel1 := x.rel1 + count })).qRelease c)

/-- Pair `p` takes its release positions: those of the other live pair, else what has been freed (R416). -/
def State.relJoin (s : State) (p : Nat) : State :=
  s.cve.on.foldl (fun m c =>
    let x := m.ctx c
    if p = 0 then m.setCtx c { x with rel0 := if m.live 1 then x.rel1 else x.freed }
    else m.setCtx c { x with rel1 := if m.live 0 then x.rel0 else x.freed }) s

/-- The queues after a pair has left or joined. -/
def State.relAll (s : State) : State := s.cve.on.foldl (fun m c => m.qRelease c) s

/-! ### Sending -/

/-- A control frame to a partner, with the context's next control number (R386, R388). -/
def State.sendCtl (s : State) (c type prio : Nat) (tail : List Nat) (kind : EKind := .plain) : State :=
  let x := s.ctx c
  let s := s.setCtx c { x with txCtl := (x.txCtl + 1) % 65536 }
  s.sendBoth (s.cNet c) { id := elithId prio type 1 (s.cNode c) 0, data := bytesLE 2 x.txCtl ++ tail, kind := kind }

/-- A `NAK` may go to a partner: none has gone in the last 10 ms (R401). -/
def State.nakFree (s : State) (c : Nat) : Bool :=
  match (s.ctx c).lastNak with | none => true | some t => decide (t + 10000000 ≤ s.tbs.el)

/-- A `NAK` to a partner, at most one in 10 ms (R399, R401). -/
def State.nak (s : State) (c ref refType reason detail : Nat) : State :=
  if !s.nakFree c then s.inc (cvnP (s.cNet c)) R.CveC.NAK_SUPP_CNT
  else (s.setCtx c { s.ctx c with lastNak := some s.tbs.el }).sendCtl c 7 2
    (bytesLE 2 ref ++ [refType, reason] ++ bytesLE 2 detail)

/-- A `JOIN` of a stranger is answered `ROSTER`, at most once a second on a network (R400, R401); the frame's number
comes from no space of R388 and is free. -/
def State.nakStranger (s : State) (net node seq : Nat) : State :=
  let ok := match Tab.get (fun _ => none) s.cve.strNak net with | none => true | some t => decide (t + 1000000000 ≤ s.tbs.el)
  if !ok then s.inc (cvnP net) R.CveC.NAK_SUPP_CNT
  else
    let num := s.free % 65536
    let s := { s.drew with cve := { s.cve with strNak := Tab.set (fun _ => none) s.cve.strNak net (some s.tbs.el) } }
    s.sendBoth net { id := elithId 2 7 1 node 0, data := bytesLE 2 num ++ bytesLE 2 seq ++ [3, 7, 0, 0] }

/-- The frame of an outstanding number, padded to a length the DLC expresses (R386). -/
def State.dataFrm (s : State) (c : Nat) (f : OutFrm) : EFrm :=
  let n := f.data.length + 2
  { id := elithId f.prio 8 1 (s.cNode c) f.stream,
    data := bytesLE 2 f.seq ++ f.data ++ List.replicate (dlcLen (dlcOf n) - n) 0 }

/-- `TX_OUT` (R427). -/
def State.txOutShow (s : State) (c : Nat) : State := s.p (ctxP c) R.Ctx.TX_OUT (s.ctx c).out.length

/-- A waiting frame may go: the window of R396 is open, the partner's queue not full, and a leg usable (R412). -/
def State.mayGo (s : State) (c : Nat) (f : OutFrm) : Bool :=
  !f.sent && !s.b (ctxP c) R.Ctx.STAT_PEER_FULL && s.netUp (s.cNet c) &&
  !seqAfter ((f.seq + 65536 - 8) % 65536) (s.ctx c).cov

/-- The waiting frames that may go are queued. -/
def State.trySendL (c : Nat) : List OutFrm → State → List OutFrm × State
  | [], s => ([], s)
  | f :: l, s =>
    let (f', s1) := if s.mayGo c f then
        ({ f with sent := true, sentAt := s.tbs.el }, s.sendBoth (s.cNet c) (s.dataFrm c f))
      else (f, s)
    let (l', s2) := State.trySendL c l s1
    (f' :: l', s2)
def State.trySend (s : State) (c : Nat) : State :=
  let (l, s1) := State.trySendL c (s.ctx c).out s
  (s1.setCtx c { s1.ctx c with out := l }).txOutShow c

/-- A frame is given up (R412). -/
def State.giveUp (s : State) (c : Nat) (f : OutFrm) : State :=
  let s := s.setCtx c { s.ctx c with out := (s.ctx c).out.filter fun g => g.seq ≠ f.seq }
  ((s.qEvent c 3 f.seq).incIrq (ctxP c) R.Ctx.GIVEUP_CNT (ctxP c) 3).txOutShow c

/-- Numbers covered beyond the last contiguous one join it (R396). -/
def covRun : Nat → List Nat → Nat → Nat
  | 0, _, c => c
  | n + 1, l, c => if l.contains ((c + 1) % 65536) then covRun n l ((c + 1) % 65536) else c

/-- Numbers become covered: `cum` and all before it, and the list; covered frames leave. -/
def State.cover (s : State) (c cum : Nat) (more : List Nat) : State :=
  let x := s.ctx c
  let base := if seqAfter cum x.cov then cum else x.cov
  let l := (x.naked ++ more).filter fun n => seqAfter n base
  let cov := covRun l.length l base
  let out := x.out.filter fun f => seqAfter f.seq cov && !l.contains f.seq
  (s.setCtx c { x with cov := cov, naked := l.filter fun n => seqAfter n cov, out := out }).txOutShow c

/-! ### Receiving data (R391 to R393) -/

/-- E of a context. -/
def State.cE (s : State) (c : Nat) : Nat := s.g (ctxP c) R.Ctx.E

/-- `E` and `HOLD_MAP` follow (R427). -/
def State.setE (s : State) (c e : Nat) : State :=
  let m := (s.ctx c).held.foldl (fun m f => Nat.lor m (2 ^ ((f.seq + 65536 - e) % 65536 - 1))) 0
  (s.p (ctxP c) R.Ctx.E e).p (ctxP c) R.Ctx.HOLD_MAP m

/-- Numbers `first` on, `len` of them, are declared lost (R393). -/
def State.lose (s : State) (c first len : Nat) : State :=
  if len = 0 then s else
  let s := (s.inc (ctxP c) R.Ctx.GAP_CNT len).qPut c (.gap first len s.stamp)
  s.nak c first 8 5 len

/-- Deliver the held frames before `tgt` and declare the holes lost, in number order, from `e` on. -/
def State.pass (c tgt : Nat) : List HeldFrm → Nat → State → State
  | [], e, s => (s.setCtx c { s.ctx c with held := [] }).lose c e ((tgt + 65536 - e) % 65536)
  | f :: l, e, s =>
    if (f.seq + 65536 - e) % 65536 < (tgt + 65536 - e) % 65536 then
      State.pass c tgt l ((f.seq + 1) % 65536) ((s.lose c e ((f.seq + 65536 - e) % 65536)).qPut c (.msg f))
    else (s.setCtx c { s.ctx c with held := f :: l }).lose c e ((tgt + 65536 - e) % 65536)

/-- Deliver the held numbers that follow `e` without a hole. -/
def State.dFollow (c : Nat) : List HeldFrm → Nat → State → State
  | [], e, s => (s.setCtx c { s.ctx c with held := [] }).setE c e
  | f :: l, e, s =>
    if f.seq = e then State.dFollow c l ((e + 1) % 65536) (s.qPut c (.msg f))
    else (s.setCtx c { s.ctx c with held := f :: l }).setE c e

/-- The held frames that follow E are delivered and the queue takes what it can. -/
def State.deliver (s : State) (c e : Nat) : State := (State.dFollow c (s.ctx c).held e s).qRun c

/-- E moves to `tgt`: everything before it is delivered or declared lost. -/
def State.passTo (s : State) (c tgt : Nat) : State :=
  let s := State.pass c tgt (s.ctx c).held (s.cE c) s
  s.deliver c tgt

/-- Hold a frame in number order. -/
def insHeld (e : Nat) (f : HeldFrm) : List HeldFrm → List HeldFrm
  | [] => [f]
  | g :: l => if (f.seq + 65536 - e) % 65536 < (g.seq + 65536 - e) % 65536 then f :: g :: l else g :: insHeld e f l

/-- Record of accepted numbers: the new H and bits (R390). -/
def recAccept (h acc seq : Nat) : Nat × Nat :=
  if seqAfter seq h then (seq, (acc * 2 ^ ((seq + 65536 - h) % 65536) + 1) % 2 ^ 65)
  else (h, Nat.lor acc (2 ^ ((h + 65536 - seq) % 65536)))

/-- Where a number falls: 0 acceptable, 1 already accepted, 2 stale (R390). -/
def recClass (h acc seq : Nat) : Nat :=
  if seqAfter seq h then 0
  else
    let k := (h + 65536 - seq) % 65536
    if 64 < k then 2 else if bitOf acc k then 1 else 0

/-- The gap timer after a change: stopped when E has arrived and nothing is held (R392). -/
def State.gapStop (s : State) (c : Nat) : State :=
  if (s.ctx c).held.isEmpty then s.setCtx c { s.ctx c with gapAt := none } else s

/-- An `ACK` is owed (R395). -/
def State.oweAck (s : State) (c : Nat) : State := s.setCtx c { s.ctx c with ackOwed := true }

/-- A duplicate data frame triggers an `ACK` unless one went within 1 ms (R395). -/
def State.dupAck (s : State) (c : Nat) : State :=
  match (s.ctx c).lastAck with
  | some t => if s.tbs.el < t + 1000000 then s else s.oweAck c
  | none => s.oweAck c

/-! ### Conversations -/

/-- A conversation ends (R406) with a reason of R414. -/
def State.convEnd (s : State) (c reason : Nat) : State :=
  let s := match (s.ctx c).held.getLast? with
    | some f => s.passTo c ((f.seq + 1) % 65536)
    | none => s
  let s := (s.ctx c).out.foldl (fun m f => m.giveUp c f) s
  let s := s.qEvent c 2 reason
  let x := s.ctx c
  (s.setCtx c { x with
    h := none, acc := 0, held := [], gapAt := none, naked := [], out := [], welcoming := false, ackOwed := false }).ps
      (ctxP c) R.Ctx.STAT_PEER_FULL 0

/-- The context is barred (R402, R405). -/
def State.ctxBar (s : State) (c : Nat) : State :=
  if s.cst c = 0 || s.cst c = 6 then s else
  let s := s.sendCtl c 0xB 5 ([s.g (ctxP c) R.Ctx.LAST_VIOL] ++ List.replicate 5 0)
  let s := (s.convEnd c 4).ps (ctxP c) R.Ctx.STAT_BAR 1
  (s.irq (ctxP c) 5).setCst c 6

/-- One violation (R402, R419). -/
def State.violation (s : State) (c reason : Nat) : State :=
  let s := (s.p (ctxP c) R.Ctx.LAST_VIOL reason).incIrq (ctxP c) R.Ctx.VIOL_CNT (ctxP c) 4
  let t := s.fwOccur c
  if becameLasting c s t then t.ctxBar c else t

/-- Heartbeat period of a partner in ns (R408). -/
def State.hbPer (s : State) (c : Nat) : Nat := s.g (ctxP c) R.Ctx.CVE_TIMING_HB_PER * 10000000

/-- `HEARD_A` and `HEARD_B`: heard within three periods (R409). -/
def State.heardShow (s : State) (c : Nat) : State :=
  let ok (o : Option Nat) : Bool := match o with | some t => decide (s.tbs.el ≤ t + 3 * s.hbPer c) | none => false
  (s.psB (ctxP c) R.Ctx.STAT_HEARD_A (ok (s.ctx c).heardA)).psB (ctxP c) R.Ctx.STAT_HEARD_B (ok (s.ctx c).heardB)

/-- A frame of the partner that is no violation restarts the loss timer (R408). -/
def State.touch (s : State) (c leg : Nat) : State :=
  let x := s.ctx c
  let x := { x with lastAt := s.tbs.el }
  let s := s.setCtx c (if leg = 0 then { x with heardA := some s.tbs.el } else { x with heardB := some s.tbs.el })
  (s.ps (ctxP c) R.Ctx.STAT_MISS 0).heardShow c

/-- A frame is accepted from the partner: its stamp, and QUIET ends (R405). -/
def State.accepted (s : State) (c leg stamp : Nat) : State :=
  let s := (s.touch c leg).pTs (ctxP c) R.Ctx.CVE_RX_TS_LO R.Ctx.CVE_RX_TS_HI stamp
  if s.cst c = 4 then s.setCst c 3 else s

/-- The first `WELCOME` copy completes (R405). -/
def State.welcomeDone (s : State) (c : Nat) : State :=
  if !(s.ctx c).welcoming then s else
  let s := s.setCtx c { s.ctx c with welcoming := false, lastAt := s.tbs.el }
  (s.ps (ctxP c) R.Ctx.STAT_MISS 0).setCst c 3

/-- A `JOIN` that passes (R397, R405): the data spaces start and `WELCOME` is queued. -/
def State.joinPass (s : State) (c seq : Nat) (serial : Word) (first : Nat) : State :=
  let s := if s.cLive c then s.convEnd c 3 else s
  let next := s.g (ctxP c) R.Ctx.TX_NEXT
  let x := s.ctx c
  let s := s.setCtx c { x with
    h := some seq, acc := 1, hD := (first + 65535) % 65536, accD := 0, held := [], gapAt := none,
    cov := (next + 65535) % 65536, naked := [], out := [], serial := serial, welcoming := true, ackOwed := false }
  let s := (s.setE c first).p (ctxP c) R.Ctx.TX_CUM ((next + 65535) % 65536)
  let s := (s.ps (ctxP c) R.Ctx.STAT_PEER_FULL 0).txOutShow c
  let s := s.sendCtl c 4 5 (bytesLE 2 next ++ bytesLE 2 first ++
    [s.g (ctxP c) R.Ctx.CVE_TIMING_HB_PER, s.g (ctxP c) R.Ctx.CVE_TIMING_P_RTX]) (.welcome c)
  s.qEvent c 1 first

/-- A `JOIN` from a roster node (R400, R402, R404, R405). -/
def State.join (s : State) (c leg seq : Nat) (serial : Word) (ver cls first stamp : Nat) : State :=
  let dup := match (s.ctx c).h with | some h => recClass h (s.ctx c).acc seq == 1 | none => false
  let s := (s.wr (ctxP c + 0x064) serial).wr (ctxP c + 0x060) (wd (cls * 256 + ver))
  if s.cst c = 6 then
    let ok := match (s.ctx c).lastBar with | none => true | some t => decide (t + 10000000000 ≤ s.tbs.el)
    if ok && s.nakFree c then (s.setCtx c { s.ctx c with lastBar := some s.tbs.el }).nak c seq 3 9 0
    else s.inc (cvnP (s.cNet c)) R.CveC.NAK_SUPP_CNT
  else if dup then (s.inc (ctxP c) R.Ctx.DUP_CNT).touch c leg
  else if s.rd (ctxP c + 0x044) ≠ 0#32 ∧ serial ≠ s.rd (ctxP c + 0x044) then s.nak c seq 3 7 0
  else if ver ≠ 1 then s.nak c seq 3 0xA 0
  else if s.cLive c && serial != (s.ctx c).serial then s.nak c seq 3 8 0
  else (s.joinPass c seq serial first).accepted c leg stamp

/-- Whether a payload of `n` bytes, class, stream and destination suit a type a partner may send (R386). -/
def elithOk (type prio stream dst n : Nat) : Bool :=
  dst == 1 && match type with
  | 0x3 => prio == 5 && stream == 0 && n == 12
  | 0x5 => prio == 4 && stream == 0 && n == 8
  | 0x6 | 0x7 => prio == 2 && stream == 0 && n == 8
  | 0xA => prio == 5 && stream == 0 && n == 8
  | 0x8 => (prio == 1 || prio == 3 || prio == 6 || prio == 7) && stream != 0 && decide (2 ≤ n)
  | _ => false

/-- Types a partner may send (R386). -/
def partnerType (t : Nat) : Bool := t == 3 || t == 5 || t == 6 || t == 7 || t == 8 || t == 0xA

/-- Little-endian number of `k` payload bytes from `i`. -/
def payN (b : List Nat) (i k : Nat) : Nat := ofBytesLE ((b.drop i).take k)

/-- `PEER_FULL` follows an `ACK` or a `HEARTBEAT` (R412). -/
def State.peerFull (s : State) (c : Nat) (full : Bool) : State := s.psB (ctxP c) R.Ctx.STAT_PEER_FULL full

/-- An accepted control frame is acted on (R392, R396, R405). -/
def State.ctlAct (s : State) (c type : Nat) (b : List Nat) : State :=
  match type with
  | 5 =>
    let next := payN b 2 2
    let s := s.peerFull c (bitOf (payN b 4 1) 0)
    let s := if seqAfter next (s.cE c) && (s.ctx c).held.isEmpty && (s.ctx c).gapAt.isNone then
        s.setCtx c { s.ctx c with gapAt := some s.tbs.el, gapNext := next } else s
    s.trySend c
  | 6 =>
    let cum := payN b 2 2
    let held := payN b 4 1
    let last := (s.g (ctxP c) R.Ctx.TX_NEXT + 65535) % 65536
    let s := s.peerFull c (bitOf (payN b 5 1) 0)
    let old := s.g (ctxP c) R.Ctx.TX_CUM
    if seqAfter old cum || seqAfter cum last then s.trySend c else
    let s := (s.p (ctxP c) R.Ctx.TX_CUM cum).cover c cum []
    let marked (f : OutFrm) : Bool :=
      let k := (f.seq + 65536 - cum - 1) % 65536
      decide (1 ≤ k) && decide (k ≤ 8) && bitOf held (k - 1)
    let x := s.ctx c
    (s.setCtx c { x with out := x.out.map fun f => { f with mark := marked f } }).trySend c
  | 7 =>
    let ref := payN b 2 2
    match payN b 5 1 with
    | 5 =>
      let x := s.ctx c
      let sent (n : Nat) : Bool := !seqAfter n ((s.g (ctxP c) R.Ctx.TX_NEXT + 65535) % 65536) &&
        !x.out.any fun f => f.seq == n && !f.sent
      let run := ((List.range 8).map fun i => (x.cov + 1 + i) % 65536).filter fun n =>
        decide ((n + 65536 - ref) % 65536 < payN b 6 2) && sent n
      (s.cover c x.cov run).trySend c
    | 6 =>
      let x := s.ctx c
      s.setCtx c { x with out := x.out.map fun f =>
        if f.seq = ref && f.sent then { f with tries := 0, sentAt := s.tbs.el } else f }
    | _ => s
  | _ => (s.convEnd c 2).setCst c 1

/-- A data frame from a live partner (R391, R392, R395, R400, R417). One beyond the window is a violation and leaves the
loss timer (R408). -/
def State.dataIn (s : State) (c leg : Nat) (f : HeldFrm) : State :=
  let e := s.cE c
  let x := s.ctx c
  let d := (f.seq + 65536 - e) % 65536
  let refuse (s : State) : State := (s.inc (ctxP c) R.Ctx.QFULL_CNT).nak c f.seq 8 6 0
  let take (s : State) : State :=
    let (h, a) := recAccept (s.ctx c).hD (s.ctx c).accD f.seq
    ((s.setCtx c { s.ctx c with hD := h, accD := a }).accepted c leg f.stamp).oweAck c
  let hold (s : State) : State :=
    let y := s.ctx c
    let t := if y.held.isEmpty && y.gapAt.isNone then some s.tbs.el else y.gapAt
    (s.setCtx c { y with held := insHeld (s.cE c) f y.held, gapAt := t }).setE c (s.cE c)
  if 32768 ≤ d then
    match recClass x.hD x.accD f.seq with
    | 2 => (s.nak c f.seq 8 4 0).violation c 4
    | 1 => ((s.inc (ctxP c) R.Ctx.DUP_CNT).touch c leg).dupAck c
    | _ => (s.inc (ctxP c) R.Ctx.DUP_CNT).touch c leg
  else if d = 0 then
    if s.qFree c ≤ 1 then (refuse s).touch c leg
    else (((take s).qPut c (.msg f)).deliver c ((e + 1) % 65536)).gapStop c
  else if d ≤ 8 then
    if x.held.any (fun g => g.seq == f.seq) then ((s.inc (ctxP c) R.Ctx.DUP_CNT).touch c leg).dupAck c
    else hold (take s)
  else
    let tgt := (f.seq + 65536 - 8) % 65536
    let fit := (x.held.filter fun g => decide ((g.seq + 65536 - e) % 65536 < (tgt + 65536 - e) % 65536)).length
    (if s.qFree c - 1 < fit then refuse s
    else
      let s := take s
      let s := (s.setCtx c { s.ctx c with lastAt := x.lastAt }).passTo c tgt
      hold (s.gapStop c)).violation c 0xC

/-- An Elith frame of a roster node (R400). -/
def State.fromNode (s : State) (c leg type prio stream dst : Nat) (b : List Nat) (stamp : Nat) : State :=
  let seq := payN b 0 2
  let quiet := type == 5 || type == 6 || type == 7 || dst == 0xFF
  let nakIf (s : State) (reason : Nat) : State := if quiet then s else s.nak c seq type reason 0
  if type = 3 && elithOk type prio stream dst b.length then
    s.join c leg seq (wd (payN b 2 4)) (payN b 6 1) (payN b 7 1) (payN b 8 2) stamp
  else if s.cst c = 6 then s
  else if !s.cLive c then
    if type = 3 || type = 0xA then s
    else if quiet then s
    else (if s.nakFree c then s.inc (ctxP c) R.Ctx.NOTLIVE_CNT else s).nak c seq type 3 0
  else if !partnerType type then (nakIf s 2).violation c 2
  else if !elithOk type prio stream dst b.length then (nakIf s 1).violation c 1
  else if type = 8 then
    s.dataIn c leg ⟨seq, stream, prio, leg, stamp, b.drop 2⟩
  else
    let x := s.ctx c
    match recClass (x.h.getD seq) x.acc seq with
    | 2 => (nakIf s 4).violation c 4
    | 1 => (s.inc (ctxP c) R.Ctx.DUP_CNT).touch c leg
    | _ =>
      let (h, a) := recAccept (x.h.getD seq) x.acc seq
      let s := (s.setCtx c { s.ctx c with h := some h, acc := a }).accepted c leg stamp
      s.ctlAct c type b

/-- The roster context of a node. -/
def State.roster (s : State) (net node : Nat) : Option Nat :=
  s.cve.on.find? fun c => s.cNet c == net && s.cNode c == node

/-- CVE classifies an Elith frame it takes (R384, R400). -/
def State.elithIn (s : State) (n : Nat) (f : RxFrame) : State :=
  let net := netOf n
  let id := f.id.toNat
  let src := id / 2 ^ 14 % 256
  let dst := id / 2 ^ 6 % 256
  let type := id / 2 ^ 22 % 16
  let b := rxBytes f
  let pg := cvnP net
  if src = 1 then
    (s.incIrq pg R.CveC.IMPERS_CNT cveC 2).ikwOffer 0x1C2 (srcOf 0x0E 0) [wd net, wd id]
  else if src = 0 || src = 0xFF then s.inc pg R.CveC.MALF_CNT
  else if dst ≠ 1 ∧ dst ≠ 0xFF then s
  else
    match s.roster net src with
    | some c => s.fromNode c (n % 2) type (id / 2 ^ 26) (id % 64) dst b (s.stampAgo f.age)
    | none =>
      let s := (s.p pg R.CveC.LAST_STRANGER src).incIrq pg R.CveC.STRANGER_CNT cveC 1
      if type = 3 && dst = 1 then s.nakStranger net src (payN b 0 2) else s

/-! ### Legs (R420) -/

/-- The usable legs as a bitmap. -/
def State.legMap (s : State) : Nat := (List.range 8).foldl (fun m n => m + b2n (s.legUsable n) * 2 ^ n) 0

/-- Number of usable legs of a network in a bitmap. -/
def legCount (m net : Nat) : Nat := b2n (bitOf m (2 * net)) + b2n (bitOf m (2 * net + 1))

/-- A network's legs have changed from `old` to `new`. -/
def State.netChange (s : State) (old new net : Nat) : State :=
  if legCount old net = legCount new net then s else
  let s := if legCount new net = 1 then
      (s.irq cveC 0).ikwOffer 0x1C1 (srcOf 0x0E 0) [wd net, wd (b2n (bitOf new (2 * net + 1)))]
    else s
  let set (s : State) (v : Option Nat) : State :=
    { s with cve := { s.cve with hbAt := Tab.set (fun _ => none) s.cve.hbAt net v } }
  if legCount new net = 0 then set s none
  else
    let s := if legCount old net = 0 then set s (some s.tbs.el) else s
    (s.cve.on.filter fun c => s.cNet c == net).foldl (fun m c => m.trySend c) s

/-- After a change of any port: `CVE_NET_LEGS`, dropped copies, single-leg operation, the first invitation slot
(R407, R412, R420), and what TBS shows (R98). -/
def State.legsUpdate (s : State) : State :=
  let old := s.g cveC R.CveC.CVE_NET_LEGS
  let new := s.legMap
  let s := (List.range 4).foldl (fun m k => m.tbsShow k) s
  let s := if s.cve.slotAt.isNone && (List.range 8).any (fun n => s.opm n == 3) then
      { s with cve := { s.cve with slotAt := some s.tbs.el } } else s
  if old = new then s else
  let s := s.p cveC R.CveC.CVE_NET_LEGS new
  let s := (List.range 8).foldl (fun m n => if bitOf old n && !bitOf new n then m.dropLeg n else m) s
  ((List.range 4).foldl (fun m k => m.netChange old new k) s).invShow

end Sys2Proof.Machine
end

