-- ==== Sys2Proof/Machine/Inkwell.lean ====
section
/-! DEFINITION. IKW, the event recorder: software records, draining into the MRAM ring, token buckets, the scan,
the archive and the read-outs (R462 to R483). -/

namespace Sys2Proof.Machine

/-- Address of slot 0 of the ring (R471, R516). -/
abbrev ikwRing : Nat := 0x04100000

/-- Address of a ring slot. -/
abbrev ikwSlot (n : Nat) : Nat := ikwRing + n % 16384 * 64

/-- Base address of the xSPI window (R64). -/
abbrev xspiWin : Nat := 0x60000000

/-- The 64 bytes of a record with its CRC (R462). -/
def ikwRecBytes (r : IkwRec) : List Nat :=
  let body := bytesLE 8 r.stamp ++ bytesLE 2 (r.code + r.sev * 1024) ++ bytesLE 2 r.src ++ bytesLE 2 r.sseq ++
    bytesLE 2 r.flags ++ bytesLE 4 r.pcycle ++ bytesLE 6 r.optime ++ [0, 0] ++ wordsBytes r.data
  body ++ bytesLE 4 (crc32c body).toNat

/-- `n` bytes of memory from `a`. -/
def State.mbytes (s : State) (a : Nat) : Nat → List Nat
  | 0 => []
  | n + 1 => s.byte a :: State.mbytes s (a + 1) n

/-- Whether the 64 bytes at `a` are a record whose CRC holds. -/
def State.recValid (s : State) (a : Nat) : Bool := crc32c (s.mbytes a 60) == wd (s.mget (a + 60) 4)

/-- Key of the record at `a`: power cycle, then stamp (R473, R476). -/
def State.recKey (s : State) (a : Nat) : Nat := s.mget (a + 0x10) 4 * 2 ^ 64 + s.mget a 8

/-- The codes with a pending count, ascending. -/
def State.ikwPending (s : State) : List Nat :=
  s.regs.filterMap fun (a, _) =>
    if ikwSupP 0 ≤ a ∧ a < ikwSupP 1024 ∧ (a - ikwSupP 0) % 0x20 = 0 then some ((a - ikwSupP 0) / 0x20) else none

/-- The summary generator checks the codes in ascending order (R469). -/
def State.ikwSweep (s : State) : State :=
  s.ikwPending.foldl (fun m c => (m.ikwRefill c).ikwSummary c) s

/-- A fault of the recorder feeds filter 0xF3; lasting sets `FAULT` (R472). -/
def State.ikwFault (s : State) : State :=
  let t := s.fwOccur 0xF3
  if becameLasting 0xF3 s t then (t.psB ikwC R.IkwC.STAT_FAULT true).irq ikwC 6 else t

/-- `ARC_LAG` and `ARC_BUSY` (R474, R480): a copy runs while a page waits, archiving is on, PD_FAB is awake and the xSPI
controller is free. -/
def State.arcShow (s : State) : State :=
  (s.p ikwC R.IkwC.ARC_LAG (min 256 s.ikw.arcq.length)).psB ikwC R.IkwC.STAT_ARC_BUSY
    (!s.ikw.arcq.isEmpty && s.b ikwC R.IkwC.CTRL_ARC_EN && s.domOn 5 && !s.b memC R.MemC.STAT_XSPI_BUSY)

/-- The ring head moves to the next slot (R471); a completed page is queued for the archive (R474), and a page not
archived that the head enters is lost to it. -/
def State.ikwAdvance (s : State) : State :=
  let h := (s.g ikwC R.IkwC.IKW_HEAD + 1) % 16384
  let s1 := s.p ikwC R.IkwC.IKW_HEAD h
  let s1 := if h = 0 then (s1.pB ikwC R.IkwC.WRAPPED true).irq ikwC 7 else s1
  let done := (h + 16383) % 16384 / 64
  let s1 := if h % 64 = 0 ∧ s1.b ikwC R.IkwC.CTRL_ARC_EN then
    { s1 with ikw := { s1.ikw with arcq := s1.ikw.arcq ++ [done] } } else s1
  let s1 := if h % 64 = 0 ∧ s1.ikw.arcq.contains (h / 64) then
    ({ s1 with ikw := { s1.ikw with arcq := s1.ikw.arcq.filter (· ≠ h / 64) } }.inc ikwC R.IkwC.ARC_LOST_CNT 64).irq ikwC 5
    else s1
  s1.arcShow

/-- Write a record at the head; the first `fails` slots fail their read-back and are left (R471, R472). -/
def State.ikwStore : Nat → State → IkwRec → State
  | 0, s, r => (s.mputEcc (ikwSlot (s.g ikwC R.IkwC.IKW_HEAD)) (ikwRecBytes r)).ikwAdvance
  | n + 1, s, r => State.ikwStore n ((s.ikwAdvance.inc ikwC R.IkwC.MRAM_ERR_CNT).ikwFault) r

/-- RECORD_DRAIN: the FIFO head is written to the ring and read back; `fails` slots fail (R471, R472). -/
def State.ikwDrain (s : State) (fails : Nat) : State :=
  match s.ikw.fifo with
  | [] => s
  | r :: rest =>
    if !s.b ikwC R.Hdr.CTRL_EN || s.b ikwC R.IkwC.STAT_SCAN then s else
    let s1 := { s with ikw := { s.ikw with fifo := rest } }.ikwShow
    let s2 := (State.ikwStore fails s1 r).inc ikwC R.IkwC.IKW_STORED_CNT
    let s3 := if bitOf r.flags 3 then s2.incIrq ikwC R.IkwC.SUM_CNT ikwC 2 else s2
    let s4 := if r.sev = 3 then s3.irq ikwC 0 else s3
    s4.ikwSweep

/-- A write of `IKW_SW_HDR` offers a firmware record (R480). -/
def State.ikwSw (s : State) (ini : Ini) (v : Word) : State :=
  let c := v.toNat % 1024
  if c < 0x240 then s.flt ikwC else
  s.ikwOffer c (match ini with | .pair p => srcOf 0x11 p.val | _ => 0x11FF)
    ((List.range 8).map fun i => s.rd (ikwC + 0x080 + 4 * i))

/-- IKW_SW_RECORD (R480). -/
def execIkwSwRecord (ini : Ini) (v : Word) (s : State) : Host.Outcome State Fault Refusal :=
  .next (s.onWrite ini (ikwC + 0x0A0) fun s => s.ikwSw ini v)

/-- RECORD_DRAIN (R471, R472). -/
def execRecordDrain (fails : Nat) (s : State) : Host.Outcome State Fault Refusal := .next (s.ikwDrain fails)

/-- TOKEN_REFILL: `REFILL` passes and a token is added to the bucket of a code below `BURST` (R467, R469). -/
def execTokenRefill (c : Fin 1024) (s : State) : Host.Outcome State Fault Refusal :=
  .next (
    let pg := ikwCodeP c.val
    if s.g pg R.IkwCode.BURST ≤ s.g pg R.IkwCode.TOKENS then s else
    let s1 := s.untilStamp (Tab.get (fun _ => 0) s.ikw.refill c.val + s.g pg R.IkwCode.REFILL * 1000000)
    (s1.ikwRefill c.val).ikwSweep)

/-- A write of `CTRL`; the first `EN` = 1 after power-on starts the scan of 33 ms (R470, R473). -/
def State.ikwCtrl (s : State) (v : Word) : State :=
  let s1 := (s.land (ikwC + 0x008) v).arcShow
  if s1.b ikwC R.Hdr.CTRL_EN && !s1.ikw.scanned then
    { s1 with ikw := { s1.ikw with scanned := true, scanEnd := s1.tbs.el + 33000000 } }.psB ikwC R.IkwC.STAT_SCAN true
  else s1

/-- IKW_ENABLE (R470, R473). -/
def execIkwEnable (ini : Ini) (v : Word) (s : State) : Host.Outcome State Fault Refusal :=
  .next (s.onWrite ini (ikwC + 0x008) fun s => s.ikwCtrl v)

/-- The slots of a ring of `size` units of `w` bytes at `base` that hold a listed byte. -/
def State.listedUnits (s : State) (base w size : Nat) : List Nat :=
  (s.mem.filterMap fun (a, _) => if base ≤ a ∧ a < base + w * size then some ((a - base) / w) else none).eraseDups

/-- The valid unit with the greatest key, if any. -/
def bestUnit (l : List (Nat × Nat)) : Option (Nat × Nat) :=
  l.foldl (fun m (k, i) => match m with
    | none => some (k, i)
    | some (k', i') => if k' < k then some (k, i) else some (k', i')) none

/-- Where the archive stands (R474): the key of the last record of the block with the greatest key, and that block. -/
def State.arcBest (s : State) : Option (Nat × Nat) :=
  let base := xspiWin + s.g ikwC R.IkwC.IKW_ARC_BASE
  bestUnit (((s.listedUnits base 4096 (s.g ikwC R.IkwC.ARC_BLOCKS)).filter fun b =>
    s.recValid (base + b * 4096 + 63 * 64)).map fun b => (s.recKey (base + b * 4096 + 63 * 64), b))

/-- The complete pages of the ring later than key `k`, oldest first (R474). -/
def State.arcPages (s : State) (k : Nat) : List Nat :=
  let ps := ((s.listedUnits ikwRing 4096 256).filter fun p =>
    s.recValid (ikwRing + p * 4096) && s.recValid (ikwRing + p * 4096 + 63 * 64) &&
      decide (k < s.recKey (ikwRing + p * 4096))).map fun p => (s.recKey (ikwRing + p * 4096), p)
  (sortKeys ps).map (·.2)

/-- SCAN_DONE: the head is placed after the valid slot with the greatest key and the archive resumes (R473, R474). -/
def execScanDone (s : State) : Host.Outcome State Fault Refusal :=
  .next (
    if !s.b ikwC R.IkwC.STAT_SCAN then s else
    let s1 := s.advanceTo s.ikw.scanEnd
    let slots := (s1.listedUnits ikwRing 64 16384).filter fun i => s1.recValid (ikwSlot i)
    let best := bestUnit (slots.map fun i => (s1.recKey (ikwSlot i), i))
    let s2 := match best with
      | none => s1
      | some (_, i) => s1.p ikwC R.IkwC.IKW_HEAD ((i + 1) % 16384)
    let s3 := match s2.arcBest with
      | none => { s2 with ikw := { s2.ikw with arcq := s2.arcPages 0 } }
      | some (k, b) =>
        { s2 with ikw := { s2.ikw with arcq := s2.arcPages k } }.p ikwC R.IkwC.ARC_HEAD
          ((b + 1) % max 1 (s2.g ikwC R.IkwC.ARC_BLOCKS))
    (s3.arcShow.psB ikwC R.IkwC.STAT_SCAN false).irq ikwC 8)

/-- ARCHIVE_COPY: the oldest queued page is copied into the next archive block and verified; a failure counts, feeds
filter 0xF3 and moves the copy to the next block (R474). It waits while an xSPI command runs (R521) and pauses in
sleep. -/
def execArchiveCopy (ok : Bool) (s : State) : Host.Outcome State Fault Refusal :=
  .next (
    match s.ikw.arcq with
    | [] => s
    | pg :: rest =>
      if !s.b ikwC R.IkwC.CTRL_ARC_EN || !s.domOn 5 || s.b memC R.MemC.STAT_XSPI_BUSY then s else
      let h := s.g ikwC R.IkwC.ARC_HEAD
      let s1 := s.p ikwC R.IkwC.ARC_HEAD ((h + 1) % max 1 (s.g ikwC R.IkwC.ARC_BLOCKS))
      if ok then
        let s2 := s1.mput (xspiWin + s.g ikwC R.IkwC.IKW_ARC_BASE + h * 4096) (s.mbytes (ikwRing + pg * 4096) 4096)
        { s2 with ikw := { s2.ikw with arcq := rest } }.arcShow
      else (s1.inc ikwC R.IkwC.ARC_ERR_CNT).ikwFault)

/-- A write of `IKW_RD_IDX` copies one slot into `IKW_RD_W0` to `IKW_RD_W15` (R477). -/
def State.ikwRdIdx (s : State) (v : Word) : State :=
  let s1 := s.land (ikwC + 0x0B0) v
  let slot := ikwSlot (s1.g ikwC R.IkwC.IKW_RD_IDX)
  (List.range 16).foldl (fun m i => m.wr (ikwC + 0x0C0 + 4 * i) (wd (s1.mget (slot + 4 * i) 4))) s1

/-- IKW_RD_IDX (R477). -/
def execIkwRdIdx (ini : Ini) (v : Word) (s : State) : Host.Outcome State Fault Refusal :=
  .next (s.onWrite ini (ikwC + 0x0B0) fun s => s.ikwRdIdx v)

/-- A write to a code entry; a taken write refills the bucket (R467, R481). -/
def State.ikwCodeWrite (s : State) (c : Nat) (v : Word) : State :=
  let pg := ikwCodeP c
  if fget R.IkwCode.REFILL v = 0 then s.flt ikwC
  else if s.lockOpen ikwC then
    let s1 := s.land pg v
    let s2 := if 0x240 ≤ c then s1.p pg R.IkwCode.SEV (fget R.IkwCode.SEV v) else s1
    s2.p pg R.IkwCode.TOKENS (s2.g pg R.IkwCode.BURST)
  else if fget R.IkwCode.REFILL v ≠ s.g pg R.IkwCode.REFILL ∨ fget R.IkwCode.BURST v ≠ s.g pg R.IkwCode.BURST ∨
      (0x240 ≤ c ∧ fget R.IkwCode.SEV v ≠ s.g pg R.IkwCode.SEV) then s.flt ikwC
  else s

/-- IKW_CODE_WRITE (R467, R481). -/
def execIkwCodeWrite (ini : Ini) (c : Fin 1024) (v : Word) (s : State) : Host.Outcome State Fault Refusal :=
  .next (s.onWrite ini (ikwCodeP c.val) fun s => s.ikwCodeWrite c.val v)

/-- A W1C write of `STAT.FAULT`, ignored and counted while filter 0xF3 is lasting (R472). -/
def State.ikwStatWrite (s : State) (v : Word) : State :=
  if bitOf v.toNat 3 && s.fwLasting 0xF3 then s.flt ikwC else s.land (ikwC + 0x00C) v

/-- IKW_FAULT_CLEAR (R472). -/
def execIkwFaultClear (ini : Ini) (v : Word) (s : State) : Host.Outcome State Fault Refusal :=
  .next (s.onWrite ini (ikwC + 0x00C) fun s => s.ikwStatWrite (v ||| 8#32))

/-- `n` uppercase hexadecimal digits of a number. -/
def hexDigits : Nat → Nat → List Char
  | 0, _ => []
  | n + 1, v => hexDigits n (v / 16) ++ [("0123456789ABCDEF".toList).getD (v % 16) '0']

/-- The line of the record at `a` on `SVC` (R478). Every field has the digits of its width, each byte of `DATA` two
(DESIGN CHOICE, log entry 169). -/
def State.svcLine (s : State) (a : Nat) : String :=
  let code := s.mget (a + 8) 2
  let fs := [hexDigits 8 (s.mget (a + 0x10) 4), hexDigits 12 (s.mget (a + 0x14) 6), hexDigits 16 (s.mget a 8),
    hexDigits 3 (code % 1024), hexDigits 1 (code / 1024 % 4), hexDigits 4 (s.mget (a + 0x0A) 2), hexDigits 4 (s.mget (a + 0x0C) 2)] ++
    (s.mbytes (a + 0x1C) 32).map (hexDigits 2)
  String.ofList (((fs.intersperse [' ']).flatten) ++ ['\r', '\n'])

/-- IKW_READ: the service port sends the latest `n` records, oldest first, one line each (R478). -/
def execIkwRead (n : Nat) (s : State) : Host.Outcome State Fault Refusal :=
  .next (
    let h := s.g ikwC R.IkwC.IKW_HEAD
    let slots := ((List.range (min n 16384)).map fun i => (h + 16383 - i) % 16384).filter fun i => s.recValid (ikwSlot i)
    { s with ikw := { s.ikw with
        svc := slots.reverse.map fun i => s.svcLine (ikwSlot i) } })

end Sys2Proof.Machine
end

