-- ==== Sys2Proof/Machine/BusCmd.lean ====
section
/-! DEFINITION. The commands of the shaft bus ports (R352 to R382). -/

namespace Sys2Proof.Machine

/-- PD_NET runs (R60). -/
def State.netOn (s : State) : Bool := s.domOn 7

/-- A write of `CTRL` of a port: `EN`, `OOS` and `BOR_REQ` (R358, R360). -/
def State.sbcCtrl (s : State) (n : Nat) (v : Word) : State :=
  let pg := sbcP n
  let other := sbcP (if n % 2 = 0 then n + 1 else n - 1)
  if bitOf v.toNat 1 && s.b other R.Sbc.CTRL_OOS then s.flt pg else
  let was := s.b pg R.Hdr.CTRL_EN
  let s := s.wr (pg + 0x008) (wd (v.toNat % 4))
  let s := if bitOf v.toNat 2 && s.opm n == 4 then s.setPort n { s.port n with borReq := true } else s
  let s := if !was && bitOf v.toNat 0 then (if (s.port n).closing then s else s.portIntegrate n)
    else if was && !bitOf v.toNat 0 then s.portClose n else s
  (s.portHold n).legsUpdate

/-- SBC_ENABLE (R358). -/
def execSbcEnable (ini : Ini) (n : Fin 8) (v : Word) (s : State) : Host.Outcome State Fault Refusal :=
  .next (s.onWrite ini (sbcP n.val + 0x008) fun s => s.sbcCtrl n.val v)

/-- SBC_OOS (R360). -/
def execSbcOos (ini : Ini) (n : Fin 8) (v : Word) (s : State) : Host.Outcome State Fault Refusal :=
  .next (s.onWrite ini (sbcP n.val + 0x008) fun s => s.sbcCtrl n.val v)

/-- BOR_REQ (R358). -/
def execBorReq (ini : Ini) (n : Fin 8) (v : Word) (s : State) : Host.Outcome State Fault Refusal :=
  .next (s.onWrite ini (sbcP n.val + 0x008) fun s => s.sbcCtrl n.val (v ||| 4#32))

/-- BUS_INTEGRATED: 11 recessive bits; the port goes online (R358). -/
def execBusIntegrated (n : Fin 8) (s : State) : Host.Outcome State Fault Refusal :=
  .next (if s.netOn && s.opm n.val == 1 then (s.portRestrict n.val).legsUpdate else s)

/-- RESTRICTED_END: 200 ms have passed with `OOS` = 0 and `FAULT` = 0 (R358). -/
def execRestrictedEnd (n : Fin 8) (s : State) : Host.Outcome State Fault Refusal :=
  .next (
    let n := n.val
    if s.netOn && s.opm n == 2 && !s.b (sbcP n) R.Sbc.STAT_HELD then
      let s := s.advanceTo ((s.port n).restrAt + 200000000)
      (((s.setOpm n 3).irq (sbcP n) 8).legsUpdate).txKick n
    else s)

/-- BUS_OFF_RECOVERED: 128 occurrences of 11 recessive bits, once recovery has been asked for (R358). -/
def execBusOffRecovered (n : Fin 8) (s : State) : Host.Outcome State Fault Refusal :=
  .next (
    let n := n.val
    if s.netOn && s.opm n == 4 && (s.b (sbcP n) R.Sbc.SBC_CFG_AUTO_REC || (s.port n).borReq) then
      (s.portIntegrate n).legsUpdate
    else s)

/-- A write of a buffer's `CTRL` (R352, R363, R364, R368). -/
def State.txCtrl (s : State) (n b : Nat) (v : Word) : State :=
  let pg := txbP n b
  if s.engine n && decide (b < 2) then s.flt (sbcP n) else
  let req := bitOf v.toNat 0
  let s' := if bitOf v.toNat 1 then s.txAbort n b else s
  if s.txs n b ≠ 0 then
    let same := fget R.Sbc.TXB_CTRL_RETRY v == s.g pg R.Sbc.TXB_CTRL_RETRY &&
      fget R.Sbc.TXB_CTRL_TAT v == s.g pg R.Sbc.TXB_CTRL_TAT
    if req || !same then s'.flt (sbcP n) else s'
  else if req && s.b pg R.Sbc.TXB_FMT_RTR && s.b pg R.Sbc.TXB_FMT_FDF then s.flt (sbcP n)
  else
    let s := (s.p pg R.Sbc.TXB_CTRL_RETRY (fget R.Sbc.TXB_CTRL_RETRY v)).p pg R.Sbc.TXB_CTRL_TAT (fget R.Sbc.TXB_CTRL_TAT v)
    if req then s.txPend n b else s

/-- What the bus carries now, as the command tells it (R365). -/
def State.busIdle (s : State) (n : Nat) (idle : Bool) : State := s.setPort n { s.port n with busy := !idle }

/-- TX_REQ (R364, R365). -/
def execTxReq (ini : Ini) (n : Fin 8) (b : Fin 3) (v : Word) (idle : Bool) (s : State) : Host.Outcome State Fault Refusal :=
  .next (s.onWrite ini (txbP n.val b.val + 0x100) fun s =>
    ((s.txCtrl n.val b.val (v ||| 1#32)).busIdle n.val idle).txSelect n.val)

/-- TX_ABORT (R368). -/
def execTxAbort (ini : Ini) (n : Fin 8) (b : Fin 3) (v : Word) (s : State) : Host.Outcome State Fault Refusal :=
  .next (s.onWrite ini (txbP n.val b.val + 0x100) fun s => s.txCtrl n.val b.val (v ||| 2#32))

/-- TX_LAUNCH_DUE: the launch time of a timed buffer is reached (R369). -/
def execTxLaunchDue (n : Fin 8) (b : Fin 3) (idle : Bool) (s : State) : Host.Outcome State Fault Refusal :=
  .next (
    let n := n.val
    let b := b.val
    if s.netOn && s.txs n b == 1 && s.b (txbP n b) R.Sbc.TXB_CTRL_TAT then
      ((s.untilStamp (s.gTs (txbP n b) R.Sbc.TXB_LAUNCH_LO R.Sbc.TXB_LAUNCH_HI)).busIdle n idle).txSelect n
    else s)

/-- The engine's mailboxes take a frame (R363, R372): which mailbox and filter is the engine's own matter. -/
def State.rxEngine (s : State) (n : Nat) (f : RxFrame) : State :=
  let m := s.free % 16
  let k := s.drew.free % 32
  ((s.drew 2).mbxStore n m k f false (s.b (mbxP n m) R.Sbc.MBX_CTRL_OVR)).elithIn n f

/-- A valid frame is filtered and stored (R371, R372, R383). -/
def State.rxStore (s : State) (n : Nat) (f : RxFrame) : State :=
  if s.engine n && f.ide && f.fdf && !f.rtr then s.rxEngine n f else s.rxSoft n f

/-- A frame arrives on a port's bus (R359, R370, R372). -/
def State.frameIn (s : State) (n : Nat) (f : RxFrame) : State :=
  let m := s.opm n
  if !s.netOn || (m != 2 && m != 3) || s.g (sbcP n) R.Sbc.SBC_CFG_TEST == 2 then s else
  let s := s.setPort n { s.port n with busy := false }
  let s := if m = 3 then (s.notAlone n).recDown n else s.ps (sbcP n) R.Sbc.STAT_ALONE 0
  let s := s.legsUpdate
  ((s.rxStore n f).portClosed n).txKick n

/-- FRAME_RECEIVED (R372). -/
def execFrameReceived (n : Fin 8) (f : RxFrame) (s : State) : Host.Outcome State Fault Refusal := .next (s.frameIn n.val f)

/-- The frame in a transmit buffer, as internal loopback receives it (R352). -/
def State.loopFrame (s : State) (n b : Nat) : RxFrame :=
  let pg := txbP n b
  { id := BitVec.ofNat 29 (s.g pg R.Sbc.TXB_ID), ide := s.b pg R.Sbc.TXB_FMT_IDE, fdf := s.b pg R.Sbc.TXB_FMT_FDF,
    brs := s.b pg R.Sbc.TXB_FMT_BRS, esi := s.b (sbcP n) R.Sbc.STAT_EPASS, rtr := s.b pg R.Sbc.TXB_FMT_RTR,
    dlc := ⟨s.g pg R.Sbc.TXB_FMT_DLC % 16, Nat.mod_lt _ (by decide)⟩,
    data := (List.range 64).map fun i => BitVec.ofNat 8 (fget ⟨0, i % 4 * 8, 8⟩ (s.rd (pg + 0x120 + i / 4 * 4))),
    age := ageBack s.tbs.steps s.stamp (s.gTs pg R.Sbc.TXB_TS_LO R.Sbc.TXB_TS_HI) }

/-- The frame of an attempt is acknowledged (R367, R368, R370). -/
def State.txOk (s : State) (n b : Nat) : State :=
  let pg := txbP n b
  let late := (s.port n).abort
  let kind := ((s.port n).cur b).map (·.kind)
  let s := s.inc (sbcP n) R.Sbc.SBC_TX_OK_CNT
  let s := (s.p (sbcP n) R.Sbc.SBC_ERRC_TEC (s.g (sbcP n) R.Sbc.SBC_ERRC_TEC - 1)).portCounts n
  let s := if late then s.p pg R.Sbc.TXB_STAT_ABORT_LATE 1 else s
  let s := (s.notAlone n).txEnd n b 1
  let s := if s.g (sbcP n) R.Sbc.SBC_CFG_TEST = 2 then s.rxStore n (s.loopFrame n b) else s
  match kind with
  | some (.welcome c) => s.welcomeDone c
  | _ => s

/-- The attempt loses arbitration (R365, R368): another node's frame is in progress, and no ACK error ended the attempt
(R370; DEDUCED, log entry 72). -/
def State.txLost (s : State) (n b : Nat) : State :=
  let late := (s.port n).abort
  let s := (s.setPort n { s.port n with busy := true }).p (sbcP n) R.Sbc.SBC_LASTERR_ACK_RUN 0
  if late || (s.port n).closing then s.txEnd n b 2 else s.p (txbP n b) R.Sbc.TXB_STAT_STATE 1

/-- The attempt ends in an error (R361, R367, R368, R370). -/
def State.txError (s : State) (n b code : Nat) (data dom : Bool) : State :=
  let pg := txbP n b
  let x := s.port n
  let used := x.errs b
  let passive := s.b (sbcP n) R.Sbc.STAT_EPASS
  let s := s.portErr n code data
  let s := (s.p pg R.Sbc.TXB_STAT_LAST_ERR code).pB pg R.Sbc.TXB_STAT_DATA_PHASE data
  let s := if !(code == 3 && passive && !dom) then
      s.p (sbcP n) R.Sbc.SBC_ERRC_TEC (min 511 (s.g (sbcP n) R.Sbc.SBC_ERRC_TEC + 8)) else s
  let s := s.setPort n { s.port n with gapUntil := s.tbs.el + s.g (sbcP n) R.Sbc.SBC_CFG_ALONE_GAP * 1000000 }
  let retry := s.g pg R.Sbc.TXB_CTRL_RETRY
  let s := if x.abort || x.closing then s.txEnd n b 2
    else if retry = 15 || used < retry then
      (s.p pg R.Sbc.TXB_STAT_STATE 1).setPort n ((s.port n).setErrs b (used + 1))
    else s.txEnd n b 3
  let s := s.portCounts n
  if code = 3 then s.ackError n else s.p (sbcP n) R.Sbc.SBC_LASTERR_ACK_RUN 0

/-- A frame with `FDF` and `BRS` sent with `TDCE` = 1 measures the loop delay (R356). -/
def State.tdcMeasure (s : State) (n b tdcv : Nat) : State :=
  if s.b (sbcP n) R.Sbc.SBC_TDC_TDCE && s.b (txbP n b) R.Sbc.TXB_FMT_FDF && s.b (txbP n b) R.Sbc.TXB_FMT_BRS then
    s.p (sbcP n) R.Sbc.SBC_TDC_TDCV (min 127 tdcv)
  else s

/-- The attempt of the ACTIVE buffer ends (R367). -/
def State.attemptEnd (s : State) (n : Nat) (res : TxEnd) (tdcv : Nat) (dom : Bool) : State :=
  match s.active n with
  | none => s
  | some b =>
    let s := match res with
      | .ok => (s.tdcMeasure n b tdcv).txOk n b
      | .lost => s.txLost n b
      | .err code data => (s.tdcMeasure n b tdcv).txError n b code.toNat data dom
    let s := (if (s.port n).busy then s else s.portClosed n).portHold n
    (s.legsUpdate).txKick n

/-- TX_ATTEMPT_END (R367). -/
def execTxAttemptEnd (n : Fin 8) (res : TxEnd) (tdcv : Nat) (dom : Bool) (s : State) : Host.Outcome State Fault Refusal :=
  .next (if s.netOn then s.attemptEnd n.val res tdcv dom else s)

/-- ALONE_RETRY: `ALONE_GAP` has passed (R370). -/
def execAloneRetry (n : Fin 8) (s : State) : Host.Outcome State Fault Refusal :=
  .next (
    if s.netOn && s.b (sbcP n.val) R.Sbc.STAT_ALONE then (s.advanceTo (s.port n.val).gapUntil).txSelect n.val else s)

/-- A W1C write of a port's `STAT` (R362). -/
def State.sbcStatWrite (s : State) (n : Nat) (v : Word) : State :=
  if fget R.Sbc.STAT_FAULT v = 0 then s
  else if s.fwLasting (0xDE + n) then s.flt (sbcP n)
  else ((s.ps (sbcP n) R.Sbc.STAT_FAULT 0).portHold n).legsUpdate

/-- SBC_FAULT_CLEAR (R362). -/
def execSbcFaultClear (ini : Ini) (n : Fin 8) (v : Word) (s : State) : Host.Outcome State Fault Refusal :=
  .next (s.onWrite ini (sbcP n.val + 0x00C) fun s => s.sbcStatWrite n.val (v ||| 0x40#32))

/-- A port detects an error on a frame it receives (R359, R361). -/
def State.rxError (s : State) (n code : Nat) (data dom : Bool) : State :=
  let m := s.opm n
  if !s.netOn || (m != 2 && m != 3) || s.g (sbcP n) R.Sbc.SBC_CFG_TEST == 2 then s else
  let s := (s.setPort n { s.port n with busy := false }).portErr n code data
  let s := if m = 2 then s.inc (sbcP n) R.Sbc.RESTR_ERR
    else (s.p (sbcP n) R.Sbc.SBC_ERRC_REC (min 255 (s.g (sbcP n) R.Sbc.SBC_ERRC_REC + if dom then 8 else 1))).portCounts n
  ((s.portClosed n).legsUpdate).txKick n

/-- BUS_ERROR (R361). -/
def execBusError (n : Fin 8) (code : BitVec 3) (dataPhase dom : Bool) (s : State) : Host.Outcome State Fault Refusal :=
  .next (s.rxError n.val code.toNat dataPhase dom)

/-- PROTOCOL_EXCEPTION: a recessive res bit (R352). -/
def execProtocolException (n : Fin 8) (s : State) : Host.Outcome State Fault Refusal :=
  .next (
    let n := n.val
    if !s.netOn || (s.opm n != 2 && s.opm n != 3) then s
    else if s.b (sbcP n) R.Sbc.SBC_CFG_PEX_EN then
      (((((s.setPort n { s.port n with busy := false }).ps (sbcP n) R.Sbc.STAT_HELD 0).setOpm n 1).irq (sbcP n) 10).portClosed n).legsUpdate
    else s.rxError n 2 false false)

end Sys2Proof.Machine
end

