-- ==== Sys2Proof/Machine/ConvCmd.lean ====
section
/-! DEFINITION. The commands of CVE (R383 to R428). -/

namespace Sys2Proof.Machine

/-- Why a write of `EN` = 1 to a context is discarded (R403). -/
def State.ctxBad (s : State) (c : Nat) : Bool :=
  let node := s.cNode c
  let net := s.cNet c
  let base (k : Nat) : Nat := s.g (ctxP k) R.Ctx.CVE_RXQ_RXQ_BASE
  let len (k : Nat) : Nat := s.g (ctxP k) R.Ctx.CVE_RXQ_RXQ_LEN
  node == 0 || node == 1 || node == 0xFF || (s.roster net node).isSome || len c == 0 || decide (896 < base c + len c) ||
  s.cve.on.any (fun k => decide (base k < base c + len c) && decide (base c < base k + len k)) ||
  !s.engine (2 * net) || !s.engine (2 * net + 1)

/-- A context number joins the roster list. -/
def insNat (n : Nat) : List Nat → List Nat
  | [] => [n]
  | m :: l => if n < m then n :: m :: l else if n = m then m :: l else m :: insNat n l

/-- A context starts with an empty queue in LISTEN or BARRED (R405, R423). -/
def State.ctxStart (s : State) (c : Nat) : State :=
  let pg := ctxP c
  let s := { s with cve := { s.cve with on := insNat c s.cve.on } }.setCtx c {}
  let s := ((s.p pg R.Ctx.USED 0).p pg R.Ctx.HEAD 0).p pg R.Ctx.RXQ_QSEQ 0
  let s := s.ps pg R.Ctx.STAT_RXQ_FULL 0
  (s.qShow c).setCst c (if s.b pg R.Ctx.STAT_BAR then 6 else 1)

/-- A write of `CTRL` of a context page (R403, R405). -/
def State.ctxCtrl (s : State) (c : Nat) (v : Word) : State :=
  let pg := ctxP c
  let was := s.b pg R.Hdr.CTRL_EN
  match was, bitOf v.toNat 0 with
  | false, true => if s.ctxBad c then s.flt pg else (s.p pg R.Hdr.CTRL_EN 1).ctxStart c
  | true, false =>
    let s := s.p pg R.Hdr.CTRL_EN 0
    let s := if s.cLive c then s.sendCtl c 0xA 5 (List.replicate 6 0) else s
    let s := ((s.convEnd c 5).ps pg R.Ctx.STAT_BAR 0).setCst c 0
    { s with cve := { s.cve with on := s.cve.on.filter (· ≠ c) } }.invShow
  | _, _ => s

/-- CTX_ENABLE (R403, R405). -/
def execCtxEnable (ini : Ini) (n : Fin 160) (v : Word) (s : State) : Host.Outcome State Fault Refusal :=
  .next (s.onWrite ini (ctxP n.val + 0x008) fun s => s.ctxCtrl n.val (v ||| 1#32))

/-- CTX_DISABLE (R405). -/
def execCtxDisable (ini : Ini) (n : Fin 160) (v : Word) (s : State) : Host.Outcome State Fault Refusal :=
  .next (s.onWrite ini (ctxP n.val + 0x008) fun s => s.ctxCtrl n.val (v &&& ~~~1#32))

/-- INVITE_SLOT: a slot falls due and goes to the lowest context that awaits one; an untaken slot is lost (R407). -/
def execInviteSlot (s : State) : Host.Outcome State Fault Refusal :=
  .next (
    match s.cve.slotAt with
    | none => s
    | some t =>
      if !s.netOn then s else
      let s := s.advanceTo t
      let s := { s with cve := { s.cve with
        slotAt := some (max t s.tbs.el + s.g cveC R.CveC.CVE_CFG_INV_GAP * 1000000) } }
      match s.cve.on.find? s.wantsSlot with
      | none => s.invShow
      | some c =>
        let s := s.sendCtl c 2 5 (bytesLE 4 (s.rd (ctxP c + 0x044)).toNat ++ [1, 0, 0, 0, 0, 0])
        let s := s.setCtx c { s.ctx c with inviteAt := some s.tbs.el }
        (if s.cst c = 1 then s.setCst c 2 else s).invShow)

/-- INVITE_TIMEOUT: `INV_TMO` has passed since a context's `INVITE` (R405, R407). -/
def execInviteTimeout (n : Fin 160) (s : State) : Host.Outcome State Fault Refusal :=
  .next (
    let c := n.val
    match s.netOn, (s.ctx c).inviteAt with
    | true, some t =>
      if s.cst c = 2 || s.cst c = 5 then
        let s := s.advanceTo (t + s.g cveC R.CveC.CVE_CFG_INV_TMO * 1000000)
        if s.cst c = 2 then s.setCst c 1 else s.invShow
      else s
    | _, _ => s)

/-- An Elith frame of a partner with the given type, class, stream and payload (R383, R384). -/
def elithFrame (prio type src stream : Nat) (pay : List Nat) (age : Nat) : RxFrame :=
  { id := BitVec.ofNat 29 (elithId prio type src 1 stream), ide := true, fdf := true, brs := true, esi := false,
    rtr := false, dlc := ⟨dlcOf pay.length % 16, Nat.mod_lt _ (by decide)⟩, data := pay.map (BitVec.ofNat 8), age := age }

/-- JOIN (R404). -/
def execJoin (port : Fin 8) (src : Byte) (seq : BitVec 16) (serial : Word) (ver cls : Byte) (first : BitVec 16) (age : Nat)
    (s : State) : Host.Outcome State Fault Refusal :=
  .next (s.frameIn port.val (elithFrame 5 3 src.toNat 0 (bytesLE 2 seq.toNat ++ bytesLE 4 serial.toNat ++
    [ver.toNat, cls.toNat] ++ bytesLE 2 first.toNat ++ [0, 0]) age))

/-- WELCOME: the first copy of a context's `WELCOME` to be acknowledged (R405). -/
def execWelcome (n : Fin 160) (s : State) : Host.Outcome State Fault Refusal :=
  .next (
    let has (k : Nat) : Bool := s.active k == some 1 && match (s.port k).cur1 with
      | some f => f.kind == .welcome n.val
      | none => false
    match s.netOn, (List.range 8).find? has with
    | true, some k => s.attemptEnd k .ok (s.g (sbcP k) R.Sbc.SBC_TDC_TDCV) false
    | _, _ => s)

/-- LEAVE (R405). -/
def execLeave (port : Fin 8) (src : Byte) (seq : BitVec 16) (reason : Byte) (age : Nat) (s : State) :
    Host.Outcome State Fault Refusal :=
  .next (s.frameIn port.val (elithFrame 5 0xA src.toNat 0 (bytesLE 2 seq.toNat ++ [reason.toNat, 0, 0, 0, 0, 0]) age))

/-- DATA (R391). -/
def execData (port : Fin 8) (src : Byte) (prio : BitVec 3) (stream : BitVec 6) (seq : BitVec 16) (msg : List Byte) (age : Nat)
    (s : State) : Host.Outcome State Fault Refusal :=
  .next (s.frameIn port.val (elithFrame prio.toNat 8 src.toNat stream.toNat
    (bytesLE 2 seq.toNat ++ (msg.take 62).map BitVec.toNat) age))

/-- ACK (R396). -/
def execAck (port : Fin 8) (src : Byte) (seq cum : BitVec 16) (held : Byte) (full : Bool) (age : Nat) (s : State) :
    Host.Outcome State Fault Refusal :=
  .next (s.frameIn port.val (elithFrame 2 6 src.toNat 0 (bytesLE 2 seq.toNat ++ bytesLE 2 cum.toNat ++
    [held.toNat, b2n full, 0, 0]) age))

/-- NAK (R396). -/
def execNak (port : Fin 8) (src : Byte) (seq ref : BitVec 16) (refType reason : Byte) (detail : BitVec 16) (age : Nat)
    (s : State) : Host.Outcome State Fault Refusal :=
  .next (s.frameIn port.val (elithFrame 2 7 src.toNat 0 (bytesLE 2 seq.toNat ++ bytesLE 2 ref.toNat ++
    [refType.toNat, reason.toNat] ++ bytesLE 2 detail.toNat) age))

/-- HEARTBEAT (R392, R408). -/
def execHeartbeat (port : Fin 8) (src : Byte) (seq next : BitVec 16) (full : Bool) (per heard : Byte) (age : Nat) (s : State) :
    Host.Outcome State Fault Refusal :=
  .next (s.frameIn port.val (elithFrame 4 5 src.toNat 0 (bytesLE 2 seq.toNat ++ bytesLE 2 next.toNat ++
    [b2n full, per.toNat, heard.toNat, 0]) age))

/-- GAP_TIMEOUT: the gap timer reaches 20 ms with E still missing (R392). -/
def execGapTimeout (n : Fin 160) (s : State) : Host.Outcome State Fault Refusal :=
  .next (
    let c := n.val
    match s.netOn, (s.ctx c).gapAt with
    | true, some t =>
      let s := s.advanceTo (t + 20000000)
      let tgt := match (s.ctx c).held.head? with
        | some f => f.seq
        | none => (s.ctx c).gapNext
      let s := if seqAfter tgt (s.cE c) then s.passTo c tgt else s
      s.setCtx c { s.ctx c with gapAt := if (s.ctx c).held.isEmpty then none else some s.tbs.el }
    | _, _ => s)

/-- ACK_DUE: the owed `ACK` is sent on both legs (R387, R395). -/
def execAckDue (n : Fin 160) (s : State) : Host.Outcome State Fault Refusal :=
  .next (
    let c := n.val
    if s.netOn && (s.ctx c).ackOwed then
      let s := s.setCtx c { s.ctx c with ackOwed := false, lastAck := some s.tbs.el }
      s.sendCtl c 6 2 (bytesLE 2 ((s.cE c + 65535) % 65536) ++
        [s.g (ctxP c) R.Ctx.HOLD_MAP, s.g (ctxP c) R.Ctx.STAT_RXQ_FULL, 0, 0])
    else s)

/-- The outstanding frame due first: sent and not marked in `HELD` (R396). -/
def dueFirst (l : List OutFrm) : Option OutFrm :=
  (l.filter fun f => f.sent && !f.mark).foldl (fun m f => match m with
    | none => some f
    | some g => if f.sentAt < g.sentAt then some f else some g) none

/-- RETRANSMIT_DUE: `T_RTX` has passed for the frame due first; it is resent or given up (R396, R412). Without a usable
leg frames wait (R420). -/
def execRetransmitDue (n : Fin 160) (s : State) : Host.Outcome State Fault Refusal :=
  .next (
    let c := n.val
    match s.netOn && s.netUp (s.cNet c), dueFirst (s.ctx c).out with
    | true, some f =>
      let s := s.advanceTo (f.sentAt + s.g (ctxP c) R.Ctx.CVE_TIMING_T_RTX * 1000000)
      if f.tries < s.g (ctxP c) R.Ctx.CVE_TIMING_N_RTX then
        let x := s.ctx c
        let again (g : OutFrm) : OutFrm := if g.seq = f.seq then { g with tries := g.tries + 1, sentAt := s.tbs.el } else g
        let s := s.setCtx c { x with out := x.out.map again }
        (s.inc (ctxP c) R.Ctx.RTX_CNT).sendBoth (s.cNet c) (s.dataFrm c f)
      else s.giveUp c f
    | _, _ => s)

/-- HEARTBEAT_MISS: 1.25 periods have passed without a frame, or a further period (R405, R408). -/
def execHeartbeatMiss (n : Fin 160) (s : State) : Host.Outcome State Fault Refusal :=
  .next (
    let c := n.val
    let pg := ctxP c
    if s.netOn && s.cLive c then
      let miss := s.g pg R.Ctx.STAT_MISS
      let s := s.advanceTo ((s.ctx c).lastAt + s.hbPer c * 5 / 4 + miss * s.hbPer c)
      let s := (s.ps pg R.Ctx.STAT_MISS (min 15 (miss + 1))).heardShow c
      let s := if s.cst c = 3 then s.setCst c 4 else s
      if s.g pg R.Ctx.CVE_TIMING_LOSS_N ≤ miss + 1 then
        let s := (s.convEnd c 1).inc pg R.Ctx.LOSS_CNT
        (s.ikwOffer 0x1C0 (srcOf 0x0E c) [wd c, wd (s.cNode c)]).setCst c 5
      else s
    else s)

/-- BCAST_HEARTBEAT: the broadcast period of a network with a usable leg has passed (R387, R409); what a broadcast
says of its own queue and of the legs heard is free. -/
def execBcastHeartbeat (net : Fin 4) (s : State) : Host.Outcome State Fault Refusal :=
  .next (
    let k := net.val
    match s.netOn, Tab.get (fun _ => none) s.cve.hbAt k with
    | true, some t =>
      let per := fget ⟨0, 8 * k, 8⟩ (s.rd (cveC + 0x044))
      let s := s.advanceTo (t + per * 10000000)
      let s := { s with cve := { s.cve with hbAt := Tab.set (fun _ => none) s.cve.hbAt k (some s.tbs.el) } }
      let (seq, s) := s.bcSeq k
      let b := s.free
      let next := Tab.get (fun _ => 0) s.cve.bcData k
      let pay := bytesLE 2 seq ++ bytesLE 2 next ++ [b % 2, per, b / 2 % 4, 0]
      s.drew.sendBoth k { id := elithId 4 5 1 0xFF 0, data := pay }
    | _, _ => s)

/-! ### The command ports (R410 to R412, R416, R426) -/

/-- The words of a burst at a command port. -/
def State.cvePortWords (s : State) (pg : Nat) (hdr : Word) (d : List Word) (op : Word) : State :=
  let ws := (d ++ List.replicate 16 0#32).take 16
  ((List.range 16).zip ws).foldl (fun m (i, w) => m.wr (pg + 0x104 + 4 * i) w) ((s.wr (pg + 0x100) hdr).wr (pg + 0x144) op)

/-- The result of a context command (R411); other than `OK` raises `CMD_REJ`. -/
def State.ctxResult (s : State) (c tag code : Nat) (seq : Option Nat) : State :=
  let s := s.wr (ctxP c + 0x150) (wd (tag * 65536 + code))
  let s := match seq with | some q => s.p (ctxP c) R.Ctx.CVE_RESULT_RESULT_SEQ q | none => s
  if code = 0 then s else s.irq (ctxP c) 7

/-- The result of a `NOTICE`. -/
def State.bcResult (s : State) (tag code : Nat) (seq : Option Nat) : State :=
  let s := s.wr (cveC + 0x150) (wd (tag * 65536 + code))
  let s := match seq with | some q => s.p cveC R.CveC.CVE_BRESULT_RESULT_SEQ q | none => s
  if code = 0 then s else s.irq cveC 5

/-- The first `n` message bytes of the burst (R426). -/
def msgBytes (d : List Word) (n : Nat) : List Nat := ((wordsBytes d) ++ List.replicate n 0).take n

/-- A command at a context's port (R410, R411); `relOk`: the `COUNT` of a `RELEASE` was good when it landed (R416). -/
def State.ctxOp (s : State) (c : Nat) (hdr : Word) (d : List Word) (op : Word) (relOk : Bool) : State :=
  let s := s.cvePortWords (ctxP c) hdr d op
  let tag := fget R.Ctx.CVE_CMD_OP_TAG op
  let o := fget R.Ctx.CVE_CMD_OP_OP op
  let stream := fget R.Ctx.CVE_CMD_HDR_STREAM hdr
  let prio := fget R.Ctx.CVE_CMD_HDR_PRIO hdr
  let len := fget R.Ctx.CVE_CMD_HDR_LEN hdr
  if !s.b (ctxP c) R.Hdr.CTRL_EN then s.ctxResult c tag 1 none
  else if o = 1 then
    if stream = 0 || 62 < len || !(prio == 1 || prio == 3 || prio == 6 || prio == 7) then s.ctxResult c tag 3 none
    else if !s.cLive c then s.ctxResult c tag 4 none
    else if !s.netUp (s.cNet c) then s.ctxResult c tag 5 none
    else if 16 ≤ (s.ctx c).out.length then s.ctxResult c tag 6 none
    else
      let q := s.g (ctxP c) R.Ctx.TX_NEXT
      let x := s.ctx c
      let f : OutFrm := { seq := q, stream := stream, prio := prio, data := msgBytes d len }
      let s := s.setCtx c { x with out := x.out ++ [f] }
      ((s.p (ctxP c) R.Ctx.TX_NEXT (q + 1)).trySend c).ctxResult c tag 0 (some q)
  else if o = 2 then s.ctxResult c tag (if relOk then 0 else 3) none
  else s.ctxResult c tag 2 none

/-- A command at the `NOTICE` port of the common page (R410 to R412). -/
def State.noticeOp (s : State) (hdr : Word) (d : List Word) (op : Word) : State :=
  let s := s.cvePortWords cveC hdr d op
  let tag := fget R.CveC.CVE_CMD_OP_TAG op
  let stream := fget R.CveC.CVE_CMD_HDR_STREAM hdr
  let prio := fget R.CveC.CVE_CMD_HDR_PRIO hdr
  let len := fget R.CveC.CVE_CMD_HDR_LEN hdr
  let net := fget R.CveC.CVE_CMD_HDR_NET hdr
  if !s.b cveC R.Hdr.CTRL_EN then s.bcResult tag 1 none
  else if fget R.CveC.CVE_CMD_OP_OP op ≠ 4 then s.bcResult tag 2 none
  else if stream = 0 || 62 < len || !(prio == 3 || prio == 6 || prio == 7) then s.bcResult tag 3 none
  else if !s.netUp net then s.bcResult tag 5 none
  else
    let q := Tab.get (fun _ => 0) s.cve.bcData net
    let s := { s with cve := { s.cve with bcData := Tab.set (fun _ => 0) s.cve.bcData net ((q + 1) % 65536) } }
    let pay := bytesLE 2 q ++ msgBytes d len ++ List.replicate (dlcLen (dlcOf (len + 2)) - (len + 2)) 0
    (s.sendBoth net { id := elithId prio 9 1 0xFF stream, data := pay }).bcResult tag 0 (some q)

/-- CVE_SEND (R412). -/
def execCveSend (n : Fin 160) (hdr : Word) (d : List Word) (tag : BitVec 16) (s : State) : Host.Outcome State Fault Refusal :=
  .next (s.onWrite .nib (ctxP n.val + 0x144) fun s => s.ctxOp n.val hdr d (wd (tag.toNat * 65536 + 1)) true)

/-- CVE_RELEASE (R416). -/
def execCveRelease (n : Fin 160) (pair : Fin 2) (count : BitVec 7) (tag : BitVec 16) (s : State) :
    Host.Outcome State Fault Refusal :=
  .next (s.onWrite .nib (ctxP n.val + 0x144) fun s =>
    let (ok, s) := if s.b (ctxP n.val) R.Hdr.CTRL_EN then s.relLand n.val pair.val count.toNat else (false, s)
    s.ctxOp n.val (wd count.toNat) [] (wd (tag.toNat * 65536 + 2)) ok)

/-- CVE_NOTICE (R412). -/
def execCveNotice (hdr : Word) (d : List Word) (tag : BitVec 16) (s : State) : Host.Outcome State Fault Refusal :=
  .next (s.onWrite .nib (cveC + 0x144) fun s => s.noticeOp hdr d (wd (tag.toNat * 65536 + 4)))

/-- A W1C write of a context's `STAT` (R419). -/
def State.ctxStatWrite (s : State) (c : Nat) (v : Word) : State :=
  if fget R.Ctx.STAT_BAR v = 0 || !s.b (ctxP c) R.Ctx.STAT_BAR then s
  else if s.fwLasting c then s.flt (ctxP c)
  else
    let s := s.ps (ctxP c) R.Ctx.STAT_BAR 0
    if s.cst c = 6 then s.setCst c 1 else s

/-- CTX_BAR_CLEAR (R419). -/
def execCtxBarClear (ini : Ini) (n : Fin 160) (v : Word) (s : State) : Host.Outcome State Fault Refusal :=
  .next (s.onWrite ini (ctxP n.val + 0x00C) fun s => s.ctxStatWrite n.val (v ||| 0x100#32))

end Sys2Proof.Machine
end

