-- ==== Sys2Proof/Machine/DoorDrive.lean ====
section
/-! DEFINITION. The bridges of the door motor channels: set points, QUIET and FORCE, the gates, the load angle and the
force estimate (R238 to R250). -/

namespace Sys2Proof.Machine

/-! ### Set points (R242) -/

/-- The current set point I in mA at a speed (2⁻¹⁶ µm/s) (R242, R253, R264). -/
def State.setPointAt (s : State) (n v : Nat) : Nat :=
  let pg := dmcP n
  if s.dst n = 7 || s.dst n = 8 then s.g pg R.Dmc.I_RUN
  else if v = 0 then s.g pg R.Dmc.I_HOLD
  else if s.g pg R.Dmc.STALL_VMIN ≤ v / 2 ^ 16 then s.g pg R.Dmc.I_RUN else s.g pg R.Dmc.I_CREEP
def State.setPoint (s : State) (n : Nat) : Nat := s.setPointAt n (s.door n).v

/-- θ* rounded down to the resolution of `MSTEP` (R242). -/
def State.thetaOf (s : State) (n : Nat) (p : Int) : Nat :=
  let q := max 1 (256 / 2 ^ s.g (dmcP n) R.Dmc.MSTEP)
  (p % 1024).toNat / q * q

/-- Set points of the phases in µA where the channel stands; `DIR_INV` inverts phase B. -/
def State.phaseSet (s : State) (n : Nat) (x : Door) : Int × Int :=
  let I : Int := s.setPointAt n x.v * 1000
  let c := cis (s.thetaOf n x.ustep)
  let b := I * c.2 / 2 ^ 40
  (I * c.1 / 2 ^ 40, if s.b (dmcP n) R.Dmc.DIR_INV then -b else b)

/-- FORCE is to be in force from this boundary (R245); calibration holds the rotor in FORCE (R264). -/
def State.forceNext (s : State) (n : Nat) : Bool :=
  let pg := dmcP n
  let v := (s.door n).v / 2 ^ 16
  if s.dst n = 8 then (s.door n).calRun else
  match s.g pg R.Dmc.MODE_SEL with
    | 1 => false
    | 2 => true
    | _ =>
      if (s.door n).v = 0 then false
      else if s.g pg R.Dmc.SW_V + s.g pg R.Dmc.SW_HYST < v then true
      else if v < s.g pg R.Dmc.SW_V then false
      else s.b pg R.Dmc.STAT_FORCE

/-! ### A PWM period of one phase -/

/-- Part of `[0, t)` in which a half-bridge high for `w` of the period `ns`, centred in it, is high (R239). -/
def centred (ns w t : Nat) : Nat := min t ((ns + w) / 2) - min t ((ns - w) / 2)

/-- How a phase ran: mean applied voltage in µV, on-times of its four gates in clocks, over-currents, chopper. -/
structure PhaseRun where
  u : Int := 0
  gates : List Nat := [0, 0, 0, 0]
  ocs : Nat := 0
  chop : Chop := {}
deriving DecidableEq, Repr

/-- A QUIET period at a duty (2⁻¹⁶) from which the phase is off after `t` ns (R239, R241): each turn-on comes `DEADTIME` late.
`back`: the current then flows through the diodes of the opposite direction. -/
def quietRun (d : DoorDrv) (duty : Int) (t : Nat) (back : Int) : PhaseRun :=
  let w1 := ((65536 + duty).toNat * d.ns) / 131072
  let w2 := d.ns - w1
  let h1 := centred d.ns w1 t
  let h2 := centred d.ns w2 t
  let late (x : Nat) : Nat := if x = t then x / 5 else x / 5 - d.dead
  { u := (((h1 : Int) - h2) + back * (d.ns - t : Nat)) * d.vbus * 1000 / max 1 (d.ns : Int),
    gates := [late h1, late (t - h1), late h2, late (t - h2)] }

/-- The chopper at work: the time reached, time on, in fast and in slow decay, on-times begun, over-currents, |i| of the
last sample in µA (R244). -/
structure ChopRun where
  c : Chop
  now : Nat
  on : Nat := 0
  fast : Nat := 0
  slow : Nat := 0
  starts : Nat := 0
  ocs : Nat := 0
  i : Nat := 0
deriving DecidableEq, Repr

/-- Time passes to `t` within one phase of the chopper. -/
def ChopRun.span (r : ChopRun) (d : DoorDrv) (t : Nat) : ChopRun :=
  let dt := t - r.now
  let r' := { r with now := max t r.now }
  match r.c.ph with
  | 0 | 1 => { r' with on := r.on + dt }
  | 2 =>
    let f := min t (r.c.at_ + d.fast) - min r.now (r.c.at_ + d.fast)
    { r' with fast := r.fast + f, slow := r.slow + (dt - f) }
  | _ => { r' with fast := r.fast + dt }

/-- When the chopper changes by itself: at the end of blanking and of an off-time. -/
def ChopRun.next (r : ChopRun) (d : DoorDrv) : Option Nat :=
  match r.c.ph with
  | 0 => some (r.c.at_ + d.blank)
  | 1 => none
  | _ => some (r.c.at_ + d.off)

/-- That change: |i| that already meets the set point `m` ends the on-time with the blanking; an off-time ends in an
on-time (R244). -/
def ChopRun.turn (r : ChopRun) (m t : Nat) : ChopRun :=
  match r.c.ph with
  | 0 => { r with c := { r.c with ph := if m ≤ r.i then 2 else 1, at_ := if m ≤ r.i then t else r.c.at_ } }
  | _ => { r with c := { r.c with ph := 0, at_ := t }, starts := r.starts + 1 }

/-- The chopper runs to `t`. -/
def ChopRun.to (d : DoorDrv) (m t : Nat) : Nat → ChopRun → ChopRun
  | 0, r => r.span d t
  | k + 1, r =>
    match r.next d with
    | some e => if e ≤ t then ChopRun.to d m t k ((r.span d e).turn m e) else r.span d t
    | none => r.span d t

/-- A sample of |i| (R241, R244): over-current turns the phase off for one `TOFF`, unless it is off for that already. -/
def ChopRun.sample (r : ChopRun) (d : DoorDrv) (m t i : Nat) : ChopRun :=
  let r := { (ChopRun.to d m t 64 r) with i := i }
  if d.oc * 1000 < i && r.c.ph != 3 then { r with c := { r.c with ph := 3, at_ := t }, ocs := r.ocs + 1 }
  else if r.c.ph = 1 && decide (m ≤ i) then { r with c := { r.c with ph := 2, at_ := t } }
  else r

/-- The samples of a period in which an over-current was taken at `t` by a command of its own: it stands among them, and the
ones before it raise none. -/
def withMark (d : DoorDrv) (t : Nat) (is : List (Nat × Nat)) : List (Nat × Nat) :=
  ((is.filter fun x => decide (x.1 ≤ t)).map fun x => (x.1, min x.2 (d.oc * 1000))) ++ (t, d.oc * 1000 + 1) ::
    is.filter fun x => decide (t < x.1)

/-- A FORCE period up to `t1` with its samples (real time, |i|) toward the set point `m` (R244). -/
def forceRun (d : DoorDrv) (c : Chop) (m t0 t1 : Nat) (is : List (Nat × Nat)) (back : Int) : PhaseRun :=
  let r := ChopRun.to d m t1 64 (is.foldl (fun r x => r.sample d m x.1 x.2) { c := c, now := t0 })
  let sg : Int := if c.neg then -1 else 1
  let h := r.on / 5 - r.starts * d.dead
  let l := r.slow / 5 - r.starts * d.dead
  let both := (r.on + r.slow) / 5
  { u := (sg * r.on + back * r.fast) * d.vbus * 1000 / max 1 (d.ns : Int),
    gates := if c.neg then [0, both, h, l] else [h, l, 0, both], ocs := r.ocs, chop := r.c }

/-- The first sample above the limit (R241). -/
def firstOc (d : DoorDrv) (is : List (Nat × Nat)) : Option Nat := (is.find? fun x => decide (d.oc * 1000 < x.2)).map (·.1)

/-- How one phase ran in the period that ends: QUIET at its duty to the first over-current, or FORCE. `mark`: over-current
already taken in this period. -/
def phaseRun (x : Door) (duty set : Int) (c : Chop) (mark : Option Nat) (is : List (Nat × Nat)) (t1 : Nat) (back : Int) : PhaseRun :=
  let d := x.drv
  let t0 := t1 - d.ns
  if !x.energised then { ocs := if (firstOc d is).isSome && mark.isNone then 1 else 0, chop := c }
  else if d.force then
    match mark with
    | some t => let r := forceRun d c set.natAbs t0 t1 (withMark d t is) back; { r with ocs := r.ocs - 1 }
    | none => forceRun d c set.natAbs t0 t1 is back
  else
    let e := match mark with | some t => some t | none => firstOc d is
    let r := quietRun d duty (match e with | some t => min d.ns (t - t0) | none => d.ns) back
    { r with ocs := if e.isSome && mark.isNone then 1 else 0, chop := c }

/-! ### Measurement (R240, R248, R249) -/

/-- Current of an ADC code in µA (R240). -/
def State.codeUa (s : State) (n : Nat) (code : BitVec 14) (ofs : Fld) : Int :=
  (toS 14 code.toNat - s.gs (dmcP n) ofs) * (s.door n).drv.gain

/-- Mean of the samples, or the value before where there is none. -/
def meanUa (old : Int) (is : List Int) : Int := if is.isEmpty then old else fdiv (is.foldl (· + ·) 0) is.length

/-- The load angle of the period that ends, its mean over 16 periods, the force estimate and the obstruction counts
(R248, R249, R251), from mean currents (µA), their changes and mean voltages (µV). -/
def State.loadAngle (s : State) (n : Nat) (iA iB dA dB uA uB : Int) (T : Nat) : State :=
  let pg := dmcP n
  let x := s.door n
  let r : Int := x.drv.r
  let l : Int := x.drv.l
  let eA := uA * 1000 - r * iA - l * dA * 1000000 / max 1 (T : Int)
  let eB := uB * 1000 - r * iB - l * dB * 1000000 / max 1 (T : Int)
  let thE : Int := if eA = 0 ∧ eB = 0 then (s.free % 1024 : Nat) else (atan2u eA eB : Int) + (s.free % 3 : Nat) - 1
  let sg : Int := if x.up && x.v != 0 then 1 else -1
  let delta := sg * wrap1024 (x.ustep % 1024 - (thE - 256 * sg))
  let ds := (delta :: x.deltas).take 16
  let sum : Int := ds.foldl (· + ·) 0
  let mean := fdiv sum ds.length + if sum % ds.length = 0 then 0 else (Config.freeNat (s.fresh + 1) % 2 : Nat)
  let s := (s.drew 2).setDoor n { x with deltas := ds }
  if !s.b pg R.Dmc.STAT_STALL_VALID then s else
  let fEst := fdiv (s.g pg R.Dmc.DMC_FORCE_K * (s.setPoint n : Int) * (cis (mean % 1024).toNat).2) (1000 * 2 ^ 40)
  let s := (s.pI pg R.Dmc.LOAD_ANGLE mean).pI pg R.Dmc.DMC_F_EST fEst
  s.setDoor n { s.door n with
    stallFrom := if decide ((s.g pg R.Dmc.STALL_MARGIN : Int) < mean) then some (x.stallFrom.getD x.ustep) else none,
    fCount := if decide ((s.g pg R.Dmc.F_LIMIT * 1000 : Nat) < fEst) then x.fCount + 1 else 0 }

/-! ### The coming period -/

/-- The duty of a phase in QUIET (R243), in 2⁻¹⁶, from the set points now and at the next boundary (µA) and the back-EMF
(µV). -/
def State.quietDuty (s : State) (n : Nat) (i0 i1 e : Int) : Int :=
  let pg := dmcP n
  let u := s.g pg R.Dmc.R_PH * i0 / 1000 + (s.g pg R.Dmc.L_PH * (i1 - i0) * 1000) / max 1 (s.g pg R.Dmc.PWM_PER * 5 : Int) + e
  max (-65536) (min 65536 (u * 65536 / (max 1 (s.g pg R.Dmc.VBUS) * 1000 : Int)))

/-- Full voltage in the ratio of cos θ* to sin θ* (R264 step 2). -/
def calDuty (c k : Int) : Int := c * 65536 / max 1 (max c.natAbs k.natAbs : Int)

/-- A chopper toward a set point (µA): a change of its sign, or FORCE taking over, starts a new on-time (R244). -/
def chopToward (c : Chop) (was : Bool) (set : Int) (t : Nat) : Chop :=
  let neg := decide (set < 0) || (set == 0 && c.neg)
  if was && c.neg == neg then c else { ph := 0, at_ := t, neg := neg }

/-- The motor is driven: it is to be energised, and at rest `I_HOLD` is not 0 (R242); calibration drives it from its
second step on (R264). -/
def State.driven (s : State) (n : Nat) : Bool :=
  let x := s.door n
  if s.dst n = 8 then decide (x.calAt + 2000000 ≤ s.tbs.el)
  else x.held && (x.v != 0 || s.dst n == 7 || s.g (dmcP n) R.Dmc.I_HOLD != 0)

/-- What the coming period runs with (R242 to R245). -/
def State.pwmDrive (s : State) (n : Nat) : State :=
  let pg := dmcP n
  let x := s.door n
  let force := s.b pg R.Dmc.STAT_FORCE
  let ns := s.g pg R.Dmc.PWM_PER * 5
  let i0 := s.phaseSet n x
  let i1 := s.phaseSet n (s.doorAt n (s.tickOf (s.tbs.el + ns)))
  let off := s.g pg R.Dmc.TOFF * 1000
  let drv : DoorDrv := {
    ns := ns, force := force, iA := i0.1, iB := i0.2, blank := s.g pg R.Dmc.TBLANK * 125, off := off,
    fast := off * s.g pg R.Dmc.DECAY_MIX / 16, oc := s.g pg R.Dmc.OC_LIMIT, vbus := s.g pg R.Dmc.VBUS,
    dead := s.g pg R.Dmc.DEADTIME, gain := s.g pg R.Dmc.ISENSE_GAIN, r := s.g pg R.Dmc.R_PH, l := s.g pg R.Dmc.L_PH,
    inv := s.b pg R.Dmc.DIR_INV }
  let on := s.driven n
  let vs : Int := if x.up then x.v else -(x.v : Int)
  let ke : Int := s.g pg R.Dmc.DMC_KE
  let c := cis (x.ustep % 1024).toNat
  let emf (k : Int) : Int := ke * vs * k / (2 ^ 56 * max 1 (s.g pg R.Dmc.DMC_GEOM_UM_PER_STEP) : Int)
  let inv : Int := if s.b pg R.Dmc.DIR_INV then -1 else 1
  let cal := s.dst n == 8
  let dA := if cal then calDuty i0.1 i0.2 else s.quietDuty n i0.1 i1.1 (-(emf c.2))
  let dB := if cal then calDuty i0.2 i0.1 else s.quietDuty n i0.2 i1.2 (inv * emf c.1)
  let was := x.energised && x.drv.force
  let s := s.setDoor n { x with
    angle := s.thetaOf n x.ustep, drv := drv, energised := on,
    dutyA := if on && !force then dA else 0, dutyB := if on && !force then dB else 0,
    chopA := if force then chopToward x.chopA was i0.1 s.tbs.el else x.chopA,
    chopB := if force then chopToward x.chopB was i0.2 s.tbs.el else x.chopB,
    ocA := none, ocB := none }
  if on then s else s.setDoor n { s.door n with gates := [0, 0, 0, 0, 0, 0, 0, 0] }

/-- Occurrences of over-current: at most one for a PWM period (R241). -/
def State.ocCount (s : State) (n k : Nat) : State := (List.range k).foldl (fun (m : State) _ => m.incIrq (dmcP n) R.Dmc.OC_CNT (dmcP n) 10) s
def State.ocFeed (s : State) (n : Nat) : State :=
  let x := s.door n
  let T := max 1 x.drv.ns
  let same := match x.ocFed with
    | some t => decide (x.pwmAt ≤ t) && (t - x.pwmAt) / T == (s.tbs.el - x.pwmAt) / T
    | none => false
  if same then s else (s.setDoor n { x with ocFed := some s.tbs.el }).doorOccur n

/-- The PWM period that ends is measured (R240, R241, R248). Where all four transistors of a phase are off, whether its
current still meets the bridge supply is free. -/
def State.pwmMeasure (s : State) (n t1 : Nat) (samples : List (BitVec 14 × BitVec 14)) : State :=
  let pg := dmcP n
  let x := s.door n
  let d := x.drv
  let t0 := t1 - d.ns
  let k0 := (t0 - s.hoist.base) / 500 + 1
  let at_ (i : Nat) : Nat := s.hoist.base + (k0 + i) * 500
  let is := (samples.zip (List.range samples.length)).filter fun y => decide (at_ y.2 ≤ t1)
  let inv : Int := if d.inv then -1 else 1
  let ia := is.map fun y => (at_ y.2, s.codeUa n y.1.1 R.Dmc.OFS_A)
  let ib := is.map fun y => (at_ y.2, s.codeUa n y.1.2 R.Dmc.OFS_B)
  let back (set : Int) (k : Nat) : Int := if Config.freeNat (s.fresh + k) % 2 = 0 then 0 else if set < 0 then 1 else -1
  let mag (l : List (Nat × Int)) : List (Nat × Nat) := l.map fun y => (y.1, y.2.natAbs)
  let rA := phaseRun x x.dutyA d.iA x.chopA x.ocA (mag ia) t1 (back d.iA 0)
  let rB := phaseRun x x.dutyB d.iB x.chopB x.ocB (mag ib) t1 (back d.iB 1)
  let s := s.drew 2
  let iA := meanUa x.uaA (ia.map (·.2))
  let iB := if ib.isEmpty then x.uaB else inv * meanUa 0 (ib.map (·.2))
  let reach (l : List (Nat × Int)) (set : Int) : Bool := l.any fun y => decide (set.natAbs ≤ y.2.natAbs)
  let run := x.calRun || (s.dst n == 8 && x.energised && (if d.iB.natAbs ≤ d.iA.natAbs then reach ia d.iA else reach ib d.iB))
  let s := (s.pI pg R.Dmc.IA (rdiv iA 1000)).pI pg R.Dmc.IB (rdiv iB 1000)
  let fed := x.ocA.isSome || x.ocB.isSome
  let s := s.setDoor n { x with
    chopA := rA.chop, chopB := rB.chop, gates := rA.gates ++ rB.gates, uaA := iA, uaB := iB, calRun := run }
  let s := s.loadAngle n iA iB (iA - x.uaA) (iB - x.uaB) rA.u (inv * rB.u) d.ns
  let k := rA.ocs + rB.ocs
  let s := s.ocCount n k
  if 0 < k && !fed then (s.setDoor n { s.door n with ocFed := some s.tbs.el }).doorOccur n else s

end Sys2Proof.Machine
end

