-- ==== Sys2Proof/Machine/DoorCmd.lean ====
section
/-! DEFINITION. The commands and events of the door motor channels (R241 to R267). -/

namespace Sys2Proof.Machine

/-- Whether the channel exists and is powered. -/
def State.doorHere (s : State) (n : Nat) : Bool := s.domOn 6 && decide (n < s.doorCount)

/-! ### End switches and homing (R260 to R263) -/

/-- Store a learned edge. -/
def State.swLearn (s : State) (n : Nat) (isOpen : Bool) (pos : Int) : State :=
  let s := s.pI (dmcP n) (if isOpen then R.Dmc.DMC_SW_POS_O else R.Dmc.DMC_SW_POS_C) pos
  s.setDoor n (if isOpen then { s.door n with learnO := true } else { s.door n with learnC := true })

/-- Homing succeeds at the home edge (R261): the position is set so that the edge lies at `HOME_POS`, and the motion ramps
to rest. -/
def State.homeDone (s : State) (n : Nat) (isOpen : Bool) (pos : Int) : State :=
  let home := s.gs (dmcP n) R.Dmc.DMC_HOME_POS
  let s := s.setDoor n { s.door n with
    pos := (s.door n).pos + (home - pos) * 2 ^ 16, learnC := false, learnO := false, hstep := 4 }
  ((s.swLearn n isOpen home).doorBrake n).doorShow n

/-- A switch accepted in HOMING (R261, R262). -/
def State.homeSwitch (s : State) (n : Nat) (isOpen lvl : Bool) (pos : Int) (chat : Bool) : State :=
  let pg := dmcP n
  let tag := (s.door n).tag
  let home := isOpen == s.b pg R.Dmc.HOME_END
  let step := (s.door n).hstep
  if chat then
    (((s.inc pg R.Dmc.CHAT_CNT).doorResult n 0x13 tag).irq pg 5).doorOutLinked n 2
  else if !home then
    if lvl && (step == 2 || step == 3) then
      ((((s.doorHalt n).doorResult n 0x14 tag).irq pg 5).doorRest n 1).doorOccur n
    else s
  else
    match lvl, step with
    | false, 2 => (s.homeGo n 3).doorShow n
    | true, 3 => s.homeDone n isOpen pos
    | _, _ => s

/-- A switch accepted outside homing (R263). -/
def State.runSwitch (s : State) (n : Nat) (isOpen lvl : Bool) (pos : Int) (chat : Bool) : State :=
  let pg := dmcP n
  let learned := if isOpen then (s.door n).learnO else (s.door n).learnC
  let edge := s.gs pg (if isOpen then R.Dmc.DMC_SW_POS_O else R.Dmc.DMC_SW_POS_C)
  let s :=
    if !lvl then s
    else if learned then
      if s.g pg R.Dmc.SW_TOL < (pos - edge).natAbs then
        (s.incIrq pg R.Dmc.SWMIS_CNT pg 11).doorOccur n
      else s
    else if s.b pg R.Dmc.STAT_HOMED then s.swLearn n isOpen pos
    else s
  if chat then (s.incIrq pg R.Dmc.CHAT_CNT pg 13).doorOccur n else s

def Door.sw (x : Door) (isOpen : Bool) : EndSw := if isOpen then x.endO else x.endC
def Door.setSw (x : Door) (isOpen : Bool) (e : EndSw) : Door := if isOpen then { x with endO := e } else { x with endC := e }

/-- The accepted level of a switch. -/
def swFld (isOpen : Bool) : Fld := if isOpen then R.Dmc.STAT_ENDO_LVL else R.Dmc.STAT_ENDC_LVL

/-- A new level is accepted (R260): in homing, four transitions within 200 ms are chatter however many went before (R262);
outside it each episode counts once (R263). -/
def State.swAccept (s : State) (n : Nat) (isOpen : Bool) (pos : Int) : State :=
  let lvl := !s.b (dmcP n) (swFld isOpen)
  let s := s.psB (dmcP n) (swFld isOpen) lvl
  let x := s.door n
  let old := (if isOpen then x.chatO else x.chatC).filter fun t => decide (s.tbs.el - t ≤ 200000000)
  let now := (s.tbs.el :: old).take 8
  let x := x.setSw isOpen { x.sw isOpen with cand := none }
  let s := s.setDoor n (if isOpen then { x with chatO := now } else { x with chatC := now })
  match s.dst n with
  | 0 => s
  | 2 => s.homeSwitch n isOpen lvl pos (decide (4 ≤ now.length))
  | _ => s.runSwitch n isOpen lvl pos (decide (4 ≤ now.length) && decide (old.length < 4))

/-- The switch whose new level is due next, by `t` (R260): of two in one clock the far-end switch first (R258). -/
def State.swDue (s : State) (n t : Nat) : Option (Bool × Nat × Int) :=
  let far := !s.b (dmcP n) R.Dmc.HOME_END
  let due (o : Bool) : Option (Bool × Nat × Int) :=
    match ((s.door n).sw o).cand with
    | some e => if e.1 + 8000000 ≤ t then some (o, e.1 + 8000000, e.2) else none
    | none => none
  match due far, due !far with
  | some a, some b => if a.2.1 ≤ b.2.1 then some a else some b
  | some a, none => some a
  | none, b => b

/-- Time passes to `t` at a channel: the switches due by then are accepted, at most `k`, and the motion goes on. -/
def State.doorUntilN (n t : Nat) : Nat → State → State
  | 0, s => (s.advanceTo t).doorSync n
  | k + 1, s =>
    match s.swDue n t with
    | some (o, e, pos) => State.doorUntilN n t k (((s.advanceTo e).doorSync n).swAccept n o pos)
    | none => (s.advanceTo t).doorSync n
def State.doorUntil (s : State) (n t : Nat) : State := State.doorUntilN n t 2 s

/-- What is due at a channel by now has happened. -/
def State.doorNow (s : State) (n : Nat) : State := s.doorUntil n s.tbs.el

/-- The level of a switch after its inversion is compared with the accepted one (R260): a new one starts its stable
interval at the edge, which latches `DMC_POS`; `edge`: the pin has just changed. -/
def State.swLook (s : State) (n : Nat) (isOpen edge : Bool) : State :=
  let pg := dmcP n
  let x := s.door n
  let e := x.sw isOpen
  let lvl := e.pin != s.b pg (if isOpen then R.Dmc.ENDO_INV else R.Dmc.ENDC_INV)
  let cand := if lvl = s.b pg (swFld isOpen) then none
    else if edge || e.cand.isNone then some (s.tbs.el, x.ustep) else e.cand
  s.setDoor n (x.setSw isOpen { e with cand := cand })

/-- END_SWITCH: the pin of a switch takes a level and keeps it for a time; a level stable for 8 ms is accepted (R260). -/
def execEndSwitch (n : Fin 8) (isOpen pin : Bool) (us : Nat) (s : State) : Host.Outcome State Fault Refusal :=
  .next (
    let n := n.val
    if !s.doorHere n then s else
    let s := s.doorNow n
    let e := (s.door n).sw isOpen
    let s := (s.setDoor n ((s.door n).setSw isOpen { e with pin := pin })).swLook n isOpen (pin != e.pin)
    s.doorUntil n (s.tbs.el + us * 1000))

/-! ### Commands (R254 to R258) -/

/-- A field the command uses is 0, or the geometry, the target or the link does not hold (R255, R257). The speed a move
uses is that of its direction (R246). -/
def State.doorParamBad (s : State) (n op : Nat) (arg : Int) : Bool :=
  let pg := dmcP n
  let z (f : Fld) : Bool := s.g pg f == 0
  let base := z R.Dmc.VBUS || z R.Dmc.ISENSE_GAIN || z R.Dmc.OC_LIMIT || z R.Dmc.I_RUN
  let o := s.gs pg R.Dmc.DMC_OPEN_POS
  let c := s.gs pg R.Dmc.DMC_CLOSED_POS
  let up := decide ((s.door n).ustep < if op = 2 then c else if arg = 0 then o else arg)
  let still := (s.door n).ustep == if op = 2 then c else if arg = 0 then o else arg
  let slow := if (if still then op == 2 else s.closingDir n up) then z R.Dmc.V_CLOSE else z R.Dmc.V_OPEN
  let motion := base || z R.Dmc.DMC_GEOM_UM_PER_STEP || z R.Dmc.DMC_MASS || z R.Dmc.DMC_ACC || z R.Dmc.DMC_DEC ||
    z R.Dmc.STALL_VMIN || (s.b pg R.Dmc.LINK_EN && (s.doorLink n).isNone)
  o == c || match op with
  | 1 => motion || slow || z R.Dmc.V_CREEP || (arg != 0 && (decide (arg < min o c) || decide (max o c < arg)))
  | 2 => motion || slow || z R.Dmc.V_CREEP
  | 3 => (s.dst n == 2 || s.dst n == 4 || s.dst n == 5) && z R.Dmc.DMC_DEC
  | 4 => motion || z R.Dmc.HOME_V
  | _ => base

/-- The check of a command in the order of R255, `PARTNER_REJ` apart; 0 passes. A channel that ramps to rest to enter OUT
answers as in OUT (DESIGN CHOICE, log entry 158). -/
def State.doorCheck (s : State) (n op : Nat) (arg : Int) : Nat :=
  let pg := dmcP n
  let st := s.dst n
  let moving := st == 4 || st == 5 || st == 6 || st == 7 || st == 2
  let toOpen := op == 1 || (op == 4 && s.b pg R.Dmc.HOME_END)
  if !s.b pg R.Hdr.CTRL_EN then 0x02
  else if op = 0 || 5 < op then 0x0C
  else if st = 9 || (st = 6 && (s.door n).endState = 9) then 0x07
  else if op ≠ 3 && s.b pg R.Dmc.STAT_FLT_LVL then 0x0A
  else if (op = 4 && st ≠ 1 && st ≠ 3) || ((op = 1 || op = 2) && (st = 2 || st = 7 || st = 8)) || (op = 5 && st = 8) then 0x01
  else if op = 5 && moving then 0x08
  else if s.doorParamBad n op arg then 0x03
  else if (op = 1 || op = 2) && st = 1 then 0x04
  else if toOpen && !s.b pg R.Dmc.STAT_PERMIT then 0x05
  else if toOpen && !s.b pg R.Dmc.STAT_SIO_OK then 0x06
  else 0

/-- `STOP` takes effect (R254, R258, R259). -/
def State.doorStop (s : State) (n : Nat) : State :=
  let x := s.door n
  let ramp (st : Nat) : State :=
    ((s.setDoor n { x with endCode := 0x12, endState := st, settleAt := none }).doorBrake n).setDst n 6
  match s.dst n with
  | 2 => ramp 1
  | 4 | 5 => ramp 3
  | 7 => ((s.doorResult n 0x12 x.tag).irq (dmcP n) 3).doorRest n 3
  | _ => s

/-- Homing starts (R261). -/
def State.doorHome (s : State) (n tag : Nat) : State :=
  let pg := dmcP n
  let s := s.ps pg R.Dmc.STAT_HOMED 0
  let s := s.setDoor n { s.door n with tag := tag, travel := 0, held := true }
  (((s.setDst n 2).homeGo n (if s.b pg (swFld (s.b pg R.Dmc.HOME_END)) then 2 else 3))).doorShow n

/-- A move command takes effect (R246, R254): none when the door stands at the target in IDLE. -/
def State.doorMove (s : State) (n : Nat) (target : Int) (st tag : Nat) : State :=
  if s.dst n = 3 && (s.door n).v = 0 && (s.door n).ustep == target then s else s.doorPlan n target st tag

/-- An accepted command takes effect (R254). -/
def State.doorEffect (s : State) (n op tag : Nat) (arg : Int) : State :=
  let pg := dmcP n
  match op with
  | 1 => s.doorMove n (if arg = 0 then s.gs pg R.Dmc.DMC_OPEN_POS else arg) 4 tag
  | 2 => s.doorMove n (s.gs pg R.Dmc.DMC_CLOSED_POS) 5 tag
  | 3 => s.doorStop n
  | 4 => s.doorHome n tag
  | _ => s.calStart n tag false

/-- `CAL` is deferred; a further one adds nothing (R264). -/
def State.doorDefer (s : State) (n tag : Nat) : State :=
  if s.b (dmcP n) R.Dmc.STAT_CAL_PEND then s
  else (s.setDoor n { s.door n with pendTag := tag }).ps (dmcP n) R.Dmc.STAT_CAL_PEND 1

/-- A pending calibration that gave way to a command starts after all where the command left the channel in its state
(DESIGN CHOICE, log entry 158). -/
def State.calAgain (s : State) (n : Nat) : State :=
  if s.b (dmcP n) R.Dmc.STAT_CAL_PEND && (s.dst n == 1 || s.dst n == 3) then s.calStart n (s.door n).pendTag true else s

/-- The channels `ms` take a command in the same clock (R255, R257): all are checked, then those that passed act. It
applies before a calibration that was pending and starts in this clock (R258). -/
def State.doorCmd (s : State) (ms : List Nat) (op : Word) : State :=
  let s := ms.foldl (fun (m : State) n => (m.doorNow n).calBack n) s
  let o := fget R.Dmc.DMC_CMD_OP_OP op
  let tag := fget R.Dmc.DMC_CMD_OP_TAG op
  let arg (n : Nat) : Int := s.gs (dmcP n) R.Dmc.DMC_CMD_ARG0
  let code (n : Nat) : Nat := s.doorCheck n o (arg n)
  let final (n : Nat) : Nat :=
    if code n ≠ 0 then code n else
    match s.doorLink n with
    | some m => if ms.contains m && code m ≠ 0 && code m ≠ 8 then 9 else 0
    | none => 0
  let rs := ms.map fun n => (n, final n, arg n)
  rs.foldl (fun (m : State) r =>
    let m := m.doorResult r.1 r.2.1 tag
    let m := if r.2.1 = 0 then m.doorEffect r.1 o tag r.2.2
      else if r.2.1 = 8 then m.doorDefer r.1 tag
      else m
    m.calAgain r.1) s

/-- The channels a command page reaches (R76, R77). -/
def State.doorMembers (s : State) : DoorDst → List Nat
  | .chan n => if n.val < s.doorCount then [n.val] else []
  | .group g => (List.range s.doorCount).filter fun n => bitOf (s.g (dmcP n) R.Hdr.GRPMASK) g.val
  | .all => List.range s.doorCount

/-- The page a door command is written to. -/
def doorPage : DoorDst → Nat
  | .chan n => dmcP n.val
  | .group g => grpPage 0x0A g.val
  | .all => bcastPage 0x0A

/-- Nib forwards a door command burst (R254): `ARG0`, `ARG1`, then `OP`. -/
def State.doorBurst (s : State) (d : DoorDst) (arg : Word) (op : Word) : State :=
  s.onPort (doorPage d + 0x108) fun s =>
    let ms := s.doorMembers d
    let s := ms.foldl (fun (m : State) n =>
      let m := m.breakHalf (dmcP n + 0x108)
      ((m.wr (dmcP n + 0x100) arg).wr (dmcP n + 0x104) 0#32).wr (dmcP n + 0x108) op) s
    s.doorCmd ms op

/-- `DMC_CMD_OP` of an operation and a `TAG` (R270). -/
def doorOp (op : Nat) (tag : BitVec 16) : Word := wd (tag.toNat * 0x10000 + op)

/-- DMC_OPEN (R254 OP 0x1). -/
def execDmcOpen (d : DoorDst) (arg : Word) (tag : BitVec 16) (s : State) : Host.Outcome State Fault Refusal :=
  .next (s.doorBurst d arg (doorOp 1 tag))

/-- DMC_CLOSE (R254 OP 0x2). -/
def execDmcClose (d : DoorDst) (tag : BitVec 16) (s : State) : Host.Outcome State Fault Refusal :=
  .next (s.doorBurst d 0#32 (doorOp 2 tag))

/-- DMC_STOP (R254 OP 0x3). -/
def execDmcStop (d : DoorDst) (tag : BitVec 16) (s : State) : Host.Outcome State Fault Refusal :=
  .next (s.doorBurst d 0#32 (doorOp 3 tag))

/-- DMC_HOME (R254 OP 0x4). -/
def execDmcHome (d : DoorDst) (tag : BitVec 16) (s : State) : Host.Outcome State Fault Refusal :=
  .next (s.doorBurst d 0#32 (doorOp 4 tag))

/-- DMC_CAL (R254 OP 0x5). -/
def execDmcCal (d : DoorDst) (tag : BitVec 16) (s : State) : Host.Outcome State Fault Refusal :=
  .next (s.doorBurst d 0#32 (doorOp 5 tag))

/-- A write of `CTRL` of a channel (R259): `EN` falls only in OFF, UNHOMED, IDLE or OUT. -/
def State.doorCtrl (s : State) (n : Nat) (v : Word) : State :=
  let pg := dmcP n
  let s := s.doorNow n
  let st := s.dst n
  if bitOf v.toNat 0 then
    let s := s.p pg R.Hdr.CTRL_EN 1
    if st = 0 then
      let s := (s.doorFreeze n).doorDark n
      (s.setDoor n { s.door n with pwmAt := s.tbs.el, drv := { ns := s.g pg R.Dmc.PWM_PER * 5 }, ocFed := none }).doorEnter n 1
    else s
  else if st = 0 || st = 1 || st = 3 || st = 9 then
    let s := s.p pg R.Hdr.CTRL_EN 0
    let s := ((s.ps pg R.Dmc.STAT_OOS 0).ps pg R.Dmc.STAT_OOS_REASON 0).ps pg R.Dmc.STAT_HOMED 0
    (((s.doorFreeze n).doorDark n).setDst n 0).doorShow n
  else s.flt pg

/-- DMC_ENABLE (R259). -/
def execDmcEnable (ini : Ini) (n : Fin 8) (v : Word) (s : State) : Host.Outcome State Fault Refusal :=
  .next (s.onWrite ini (dmcP n.val + 0x008) fun s => s.doorCtrl n.val v)

/-! ### Ends of motions -/

/-- The time at which the motion in force is over: its last tick, or now. -/
def State.doorOver (s : State) (n : Nat) : Nat := if (s.door n).segs.isEmpty then s.tbs.el else max s.tbs.el (s.doorEnd n)

/-- DOOR_MOVE_DONE (R246, R259): the target is reached and `END_SETTLE` passes. -/
def execDoorMoveDone (n : Fin 8) (s : State) : Host.Outcome State Fault Refusal :=
  .next (
    let n := n.val
    if !s.doorHere n then s else
    let s := s.doorNow n
    let st := s.dst n
    if !(st = 4 || st = 5) then s else
    let s := s.doorUntil n (s.doorOver n)
    match (s.door n).settleAt with
    | none => s
    | some t =>
      let s := s.doorUntil n (t + s.g (dmcP n) R.Dmc.END_SETTLE * 1000000)
      if s.dst n ≠ st then s else
      ((s.doorResult n 0 (s.door n).tag).irq (dmcP n) (if st = 4 then 0 else 1)).doorRest n 3)

/-- DOOR_AT_REST (R256, R257, R259): the ramp of STOPPING ends; so does the ramp that ends homing (R261, R262). -/
def execDoorAtRest (n : Fin 8) (s : State) : Host.Outcome State Fault Refusal :=
  .next (
    let n := n.val
    if !s.doorHere n then s else
    let s := s.doorNow n
    let st := s.dst n
    let step := (s.door n).hstep
    if !(st = 6 || (st = 2 && (step = 4 || step = 5))) then s else
    let s := s.doorUntil n (s.doorOver n)
    let x := s.door n
    if s.dst n ≠ st then s
    else if st = 2 then
      if step = 5 then s.doorRest n 1
      else (((s.ps (dmcP n) R.Dmc.STAT_HOMED 1).doorResult n 0 x.tag).irq (dmcP n) 4).doorRest n 3
    else if x.endState = 9 then s.doorOut n 3
    else ((s.doorResult n x.endCode x.tag).irq (dmcP n) 3).doorRest n x.endState)

/-- When an obstruction that is being decided will be: the angle stays above its limit through the rest of its microsteps,
or the force through the rest of its 16 PWM periods (R251). -/
def State.obstructAt (s : State) (n : Nat) : Option Nat :=
  let pg := dmcP n
  let x := s.door n
  let left := s.g pg R.Dmc.STALL_N * 1024 - (x.ustep - x.stallFrom.getD x.ustep).natAbs
  let byAngle := if (s.g pg R.Dmc.STALL_MARGIN : Int) < s.gs pg R.Dmc.LOAD_ANGLE then
      s.doorPathAt n ((x.pos - x.org).natAbs + left * 2 ^ 16) else none
  let byForce := if ((s.g pg R.Dmc.F_LIMIT * 1000 : Nat) : Int) < s.gs pg R.Dmc.DMC_F_EST then
      some (s.tbs.el + (16 - x.fCount) * x.drv.ns) else none
  match byAngle, byForce with
  | some a, some b => some (min a b)
  | some a, none => some a
  | none, b => b

/-- OBSTRUCTION (R251): in OPENING, CLOSING or HOMING, with `STALL_VALID` still 1 when it is decided. -/
def execObstruction (n : Fin 8) (s : State) : Host.Outcome State Fault Refusal :=
  .next (
    let n := n.val
    if !s.doorHere n then s else
    let s := s.doorNow n
    let st := s.dst n
    if !([2, 4, 5].contains st && s.b (dmcP n) R.Dmc.STAT_STALL_VALID) then s else
    match s.obstructAt n with
    | none => s
    | some t =>
      let s := s.doorUntil n t
      if s.dst n = st && s.b (dmcP n) R.Dmc.STAT_STALL_VALID then s.obstruct n else s)

/-- LOST_STEP (R252): |delta| of one PWM period reaches 512 while `STALL_VALID` is 1. -/
def execLostStep (n : Fin 8) (s : State) : Host.Outcome State Fault Refusal :=
  .next (
    let n := n.val
    if !s.doorHere n then s else
    let s := s.doorNow n
    if s.b (dmcP n) R.Dmc.STAT_STALL_VALID then s.lostStep n else s)

/-- A reversal of one channel ends its gap (R253). -/
def State.reverse1 (s : State) (n : Nat) : State :=
  let pg := dmcP n
  let tag := (s.door n).tag
  if s.dst n ≠ 7 then s
  else if s.b pg R.Dmc.STAT_PERMIT && s.b pg R.Dmc.STAT_SIO_OK then
    let s := (s.inc pg R.Dmc.REV_CNT).ps pg R.Dmc.STAT_OBST 1
    s.doorPlan n (s.gs pg R.Dmc.DMC_OPEN_POS) 4 tag
  else (s.doorResult n 0x10 tag).doorRest n 3

/-- REVERSE_START (R253, R257): `REV_GAP` passes in REVERSING; a link reverses together. -/
def execReverseStart (n : Fin 8) (s : State) : Host.Outcome State Fault Refusal :=
  .next (
    let n := n.val
    if !s.doorHere n then s else
    let s := s.doorNow n
    if s.dst n ≠ 7 then s else
    let s := s.doorUntil n (max (s.doorOver n) ((s.door n).revAt + s.g (dmcP n) R.Dmc.REV_GAP * 1000000))
    let link := s.doorLink n
    let s := s.reverse1 n
    match link with
    | some m => if (s.door m).revAt = (s.door n).revAt then (s.doorNow m).reverse1 m else s
    | none => s)

/-! ### Protections -/

/-- OVER_CURRENT of a phase (R241): a sample above the limit between PWM boundaries. In QUIET a phase that it turned off
stays off to the end of the period. -/
def execOverCurrent (n : Fin 8) (phaseB : Bool) (s : State) : Host.Outcome State Fault Refusal :=
  .next (
    let n := n.val
    if !s.doorHere n then s else
    let s := s.doorNow n
    let x := s.door n
    if !x.drv.force && (if phaseB then x.ocB else x.ocA).isSome then s else
    let s := s.setDoor n (if phaseB then { x with ocB := some s.tbs.el } else { x with ocA := some s.tbs.el })
    (s.ocCount n 1).ocFeed n)

/-- DRIVER_FAULT: `nFLT` has held a level for 1 µs (R241). -/
def execDriverFault (n : Fin 8) (low : Bool) (s : State) : Host.Outcome State Fault Refusal :=
  .next (
    let n := n.val
    let pg := dmcP n
    if !s.doorHere n then s else
    let s := s.doorNow n
    if s.b pg R.Dmc.STAT_FLT_LVL = low then s else
    let s := s.psB pg R.Dmc.STAT_FLT_LVL low
    let st := s.dst n
    if !low then s else
    let x := s.door n
    let s := (s.doorFreeze n).doorDark n
    let s := s.incIrq pg R.Dmc.DRVF_CNT pg 9
    if st = 0 || st = 9 then s.doorOccur n else
    let s := if st = 1 || st = 3 then s else s.doorResult n 0x16 (if st = 8 then x.calTag else x.tag)
    (s.doorRest n 1).doorOccur n)

/-- HOME_TIMEOUT (R262): the travel passes `HOME_MAX` in HOMING; a ramp to rest. A switch accepted by then comes first
(R258). The code is written when the travel passes (DESIGN CHOICE, log entry 158). -/
def execHomeTimeout (n : Fin 8) (s : State) : Host.Outcome State Fault Refusal :=
  .next (
    let n := n.val
    let pg := dmcP n
    if !s.doorHere n then s else
    let s := s.doorNow n
    let running (s : State) : Bool := s.dst n == 2 && ((s.door n).hstep == 2 || (s.door n).hstep == 3)
    if !running s then s else
    let x := s.door n
    let limit := s.g pg R.Dmc.DMC_HOME_MAX * 2 ^ 16
    let s := match s.doorPathAt n (limit - x.travel0) with
      | some t => s.doorUntil n t
      | none => s
    if !running s || decide ((s.door n).travel < limit) then s else
    let s := s.setDoor n { s.door n with hstep := 5 }
    let s := (s.doorBrake n).doorShow n
    ((s.doorResult n 0x15 x.tag).irq pg 5).doorOccur n)

/-! ### Calibration and OUT -/

/-- A quotient rounded: which neighbour it takes is free where it is not whole. -/
def State.freeQuot (s : State) (a : Int) (b k : Nat) : Int :=
  fdiv a b + if a % (b : Int) = 0 then 0 else ((Config.freeNat (s.fresh + k) % 2 : Nat) : Int)

/-- What calibration gives (R264): offsets in LSB, `L_PH` in µH and `R_PH` in mΩ. -/
def State.calVals (s : State) (n : Nat) (sumA sumB : BitVec 24) (rise mv ma : Nat) : Int × Int × Int × Int :=
  let pg := dmcP n
  (s.freeQuot (toS 24 sumA.toNat) 1024 0, s.freeQuot (toS 24 sumB.toNat) 1024 1,
   s.freeQuot (s.g pg R.Dmc.VBUS * rise : Nat) (max 1 (400 * s.g pg R.Dmc.I_RUN)) 2,
   s.freeQuot (mv * 1000 : Nat) (max 1 ma) 3)

/-- CAL_DONE (R264): 2 ms without current, the rise to `I_RUN`, and 100 ms at it; what was measured decides, and a failure
ends the calibration when it shows. -/
def execCalDone (n : Fin 8) (sums : BitVec 24 × BitVec 24) (reach rise mv ma : Nat) (s : State) :
    Host.Outcome State Fault Refusal :=
  .next (
    let n := n.val
    let pg := dmcP n
    if !s.doorHere n then s else
    let s := s.doorNow n
    if s.dst n ≠ 8 then s else
    let (ofsA, ofsB, l, r) := s.calVals n sums.1 sums.2 rise mv ma
    let s := s.drew 4
    let okOfs := decide (ofsA.natAbs ≤ 1024) && decide (ofsB.natAbs ≤ 1024)
    let okI := decide (reach ≤ 20000000)
    let okL := decide (10 ≤ l) && decide (l ≤ 65535)
    let okR := ma != 0 && decide (100 ≤ r) && decide (r ≤ 65535)
    let dur := 2000000 + if !okOfs then 0 else if !okI then 20000000 else if !okL then reach else reach + 100000000
    let s := s.doorUntil n ((s.door n).calAt + dur)
    if s.dst n ≠ 8 then s else
    let x := s.door n
    let s := s.setDoor n { x with held := true }
    if okOfs && okI && okL && okR then
      let s := (((s.pI pg R.Dmc.OFS_A ofsA).pI pg R.Dmc.OFS_B ofsB).pI pg R.Dmc.R_PH r).pI pg R.Dmc.L_PH l
      ((s.doorResult n 0 x.calTag).irq pg 6).doorEnter n x.calPrev
    else
      (((s.doorResult n 0x18 x.calTag).irq pg 6).doorEnter n x.calPrev).doorOccur n)

/-- A write of `STAT` of a channel: `OOS` under R266, `OBST` as a flag. -/
def State.doorStatWrite (s : State) (n : Nat) (v : Word) : State :=
  let pg := dmcP n
  let s := if bitOf v.toNat 19 then s.ps pg R.Dmc.STAT_OBST 0 else s
  if !bitOf v.toNat 7 || !s.b pg R.Dmc.STAT_OOS then s
  else if s.fwLasting (0xD4 + n) || (s.g pg R.Dmc.STAT_OOS_REASON = 3 && s.dst (s.g pg R.Dmc.LINK) = 9) then s.flt pg
  else ((s.ps pg R.Dmc.STAT_OOS 0).ps pg R.Dmc.STAT_OOS_REASON 0).doorEnter n 1

/-- OOS_CLEAR (R266); bit 7 of the word written is 1. -/
def execOosClear (ini : Ini) (n : Fin 8) (v : Word) (s : State) : Host.Outcome State Fault Refusal :=
  .next (s.onWrite ini (dmcP n.val + 0x00C) fun s => s.doorStatWrite n.val (v ||| 0x80#32))

/-! ### Periods -/

/-- The 10 µs tick of a channel (R246, R247, R250): the next one after the last it took; an obstruction due is decided. -/
def State.doorTick (s : State) (n : Nat) : State :=
  let last := s.tickOf s.tbs.el
  let t := if (s.door n).tickAt < last then last else last + 10000
  let s := s.doorUntil n t
  let s := s.setDoor n { s.door n with tickAt := t }
  (s.doorShow n).stallCheck n

/-- DOOR_PROFILE_TICK: the 10 µs update of a channel (R246, R247, R250). -/
def execDoorProfileTick (n : Fin 8) (s : State) : Host.Outcome State Fault Refusal :=
  .next (if s.doorHere n.val && s.dst n.val ≠ 0 then s.doorTick n.val else s)

/-- The next PWM boundary of a channel, not before now (R239). -/
def State.nextPwm (s : State) (n : Nat) : Nat :=
  let x := s.door n
  let T := max 1 x.drv.ns
  x.pwmAt + max 1 (cdiv (s.tbs.el - x.pwmAt) T) * T

/-- A PWM period boundary (R242 to R252): the period that ends is measured, a lost step or an obstruction due is decided, the
next period is driven. -/
def State.pwmBoundary (s : State) (n : Nat) (samples : List (BitVec 14 × BitVec 14)) : State :=
  let pg := dmcP n
  let t := s.nextPwm n
  let s := s.doorUntil n t
  let x := s.door n
  let t0 := t - x.drv.ns
  let fresh (c : Chop) : Chop := if x.pwmAt = t0 then c else { c with ph := 0, at_ := t0 }
  let s := s.setDoor n { x with chopA := fresh x.chopA, chopB := fresh x.chopB }
  let s := s.pwmMeasure n t samples
  let s := s.setDoor n { s.door n with pwmAt := t }
  let s := if s.b pg R.Dmc.STAT_STALL_VALID && (s.door n).deltas.head? == some (-512) then s.lostStep n else s.stallCheck n
  if s.dst n = 0 then s else
  (s.psB pg R.Dmc.STAT_FORCE (s.forceNext n)).pwmDrive n

/-- PWM_PERIOD_BOUNDARY of a channel, with the samples of its period (R239 to R252). -/
def execPwmPeriodBoundary (n : Fin 8) (codeA codeB : BitVec 14) (moreA moreB : List (BitVec 14)) (s : State) :
    Host.Outcome State Fault Refusal :=
  .next (if s.doorHere n.val && s.dst n.val ≠ 0 then s.pwmBoundary n.val ((codeA, codeB) :: moreA.zip moreB) else s)

end Sys2Proof.Machine
end

