-- ==== Sys2Proof/Machine/Store.lean ====
section
/-! DEFINITION. Ranges of memory: copies and losses of contents (R443, R444, R513). -/

namespace Sys2Proof.Machine

/-- The bytes of a range return to what an unlisted byte reads as. -/
def State.memDrop (s : State) (a len : Nat) : State :=
  { s with mem := s.mem.filter fun c => !(decide (a ≤ c.1) && decide (c.1 < a + len)) }

/-- Copy a range of memory. -/
def State.memCopy (s : State) (src dst len : Nat) : State :=
  let l := s.mem.filter fun c => decide (src ≤ c.1) && decide (c.1 < src + len)
  l.foldl (fun m c => m.setByte (c.1 - src + dst) c.2.toNat) (s.memDrop dst len)

/-- Whether two ranges hold the same bytes. -/
def State.memSame (s : State) (a b len : Nat) : Bool :=
  let part (x : Nat) : List (Nat × Nat) :=
    (s.mem.filter fun c => decide (x ≤ c.1) && decide (c.1 < x + len)).map fun c => (c.1 - x, c.2.toNat)
  part a == part b

/-- Local SRAM of a pair (R513). -/
abbrev localSram (p : Nat) : Nat := 0x10000000 + p * 0x400000

end Sys2Proof.Machine
end

