-- ==== Sys2Proof/Machine/Nib.lean ====
section
/-! DEFINITION. RDM and Nib: pair states, streams and their window, failure and takeover, Quill, boot (R429 to R461,
R524 to R528). -/

namespace Sys2Proof.Machine

/-! ### Pair states -/

/-- `DUTY`, `SIMPLEX` and `HOLDING` of the APX common page (R455). -/
def State.pairsShow (s : State) : State :=
  let d := match s.duty with | some p => p | none => 3
  let s := (s.ps apxC R.ApxC.STAT_DUTY d).psB apxC R.ApxC.STAT_SIMPLEX (s.live 0 != s.live 1)
  s.psB apxC R.ApxC.STAT_HOLDING ((s.pair 0).held.isSome || (s.pair 1).held.isSome)

/-- A change of `PSTATE` (R429, R456). -/
def State.setPst (s : State) (p v : Nat) : State :=
  if s.pst p = v then s else ((s.ps (apxP p) R.Apx.STAT_PSTATE v).irq (apxP p) 0).pairsShow

/-- P_t of a pair. -/
def NibStream.pos (x : NibStream) (p : Nat) : Nat := if p = 0 then x.p0 else x.p1
def NibStream.setPos (x : NibStream) (p v : Nat) : NibStream := if p = 0 then { x with p0 := v } else { x with p1 := v }

/-- Every stream's P_t of a pair becomes what `f` says of the stream. -/
def State.posAll (s : State) (p : Nat) (f : NibStream → Nat) : State :=
  s.rdm.streams.foldl (fun (m : State) e => m.setStream e.1 ((m.stream e.1).setPos p (f (m.stream e.1)))) s

/-- A pair boots from a slot (R430, R528). -/
def State.pairBoot (s : State) (p slot : Nat) : State :=
  (s.setPair p { s.pair p with
    bootAt := s.tbs.el, bootSlot := slot, booting := true, retried := false, wfi0 := false, wfi1 := false,
    held := none }).setPst p 1

/-! ### Streams (R432 to R438) -/

/-- The words of a stream's burst; none for a number that is no stream (R432). -/
def streamWords (t : Nat) : Option Nat :=
  if t = 0 then some 8
  else if t = 1 || t = 3 then some 3
  else if t = 2 || t = 4 then some 5
  else if 0x08 ≤ t && t ≤ 0x14 then some 3
  else if t = 0x1F || (0x20 ≤ t && t < 0xC0) then some 18
  else none

/-- Streams without a target on the LH6161 (R432). -/
def State.noTarget (s : State) (t : Nat) : Bool :=
  s.lh6161 && (t == 3 || t == 4 || (decide (0x0C ≤ t) && decide (t ≤ 0x0F)) || (decide (0x70 ≤ t) && decide (t ≤ 0xBF)))

/-- Target block of a stream: 0 MPG, 1 DMC, 2 CLG, 3 CVE (R438). -/
def streamBlk (t : Nat) : Nat := if t = 0 then 2 else if t < 8 then 0 else if t < 0x18 then 1 else 3

/-- CRC of a copy (R434). -/
def copyCrc (t seq : Nat) (ws : List Word) : Word := crc32c (t :: bytesLE 2 seq ++ wordsBytes ws)

/-- A forward queue. -/
def State.nibQ (s : State) (b : Nat) : List NibCmd := Tab.get (fun _ => []) s.rdm.queues b
def State.setNibQ (s : State) (b : Nat) (l : List NibCmd) : State :=
  { s with rdm := { s.rdm with queues := Tab.set (fun _ => []) s.rdm.queues b l } }

/-- What landing a copy means for the views and releases of its pair (R230, R416). -/
def State.landEffect (s : State) (c : NibCmd) : Bool × State :=
  if c.stream = 0 then (true, s.setView c.pair c.seq)
  else if 0x20 ≤ c.stream then
    let ctx := c.stream - 0x20
    let op := fget R.Ctx.CVE_CMD_OP_OP (c.words.getD 17 0#32)
    if op = 2 && s.b (ctxP ctx) R.Hdr.CTRL_EN then
      s.relLand ctx c.pair (fget R.Ctx.CVE_CMD_HDR_COUNT (c.words.getD 0 0#32))
    else (op != 2, s)
  else (true, s)

/-- The result of a commit (R433, R457); codes 3, 4, 5, 7 and 8 raise `SUB_REJ` (R456). -/
def State.subRes (s : State) (p seq code : Nat) : State :=
  let s := s.wr (winP p + 0x04C) (wd (seq * 65536 + code))
  if code ≤ 2 then s.inc (apxP p) R.Apx.SUB_CNT else s.irq (apxP p) 1

/-- The answer, once a held commit is resolved: the hold ends. -/
def State.unhold (s : State) (p : Nat) : State :=
  if (s.pair p).held.isNone then s else
  ((s.setPair p { s.pair p with held := none }).ps (apxP p) R.Apx.STAT_HOLD 0).pairsShow

/-- A `FWD` copy must wait: for the other live pair (R437), or for its queue (R438). -/
def State.leads (s : State) (c : NibCmd) : Bool :=
  s.live (1 - c.pair) && decide (256 ≤ (c.seq + 65536 - (s.stream c.stream).pos (1 - c.pair)) % 65536)
def State.mustHold (s : State) (c : NibCmd) : Bool := s.leads c || decide (16 ≤ (s.nibQ (streamBlk c.stream)).length)

/-- A first copy is queued for forwarding; `NIB_LAST_TS` shows the stamp of its landing (R433, R435, R438). -/
def State.takeFwd (s : State) (c : NibCmd) : State :=
  let x := s.stream c.stream
  let s := s.unhold c.pair
  let r : NibRec := ⟨c.seq, copyCrc c.stream c.seq c.words, c.pair, c.pair = 0, c.pair ≠ 0⟩
  let x := { x.setPos c.pair ((c.seq + 1) % 65536) with next := (c.seq + 1) % 65536, recs := (r :: x.recs).take 256 }
  let s := s.setStream c.stream x
  let (ok, s) := s.landEffect c
  let s := s.pTs apxC R.ApxC.NIB_LAST_TS_LO R.ApxC.NIB_LAST_TS_HI c.stamp
  let b := streamBlk c.stream
  (s.setNibQ b (s.nibQ b ++ [{ c with relOk := ok }])).subRes c.pair c.seq 0

/-- A first copy is held (R437, R438). -/
def State.hold (s : State) (c : NibCmd) : State :=
  let s := s.setPair c.pair { s.pair c.pair with held := some { c with since := s.tbs.el } }
  let s := ((s.inc (apxP c.pair) R.Apx.HOLD_CNT).ps (apxP c.pair) R.Apx.STAT_HOLD 1).pairsShow
  if s.leads c then s.irq apxC 1 else s

/-- A second copy, landed at `ts`, differs from the forwarded one (R439). -/
def State.mismatch (s : State) (r : NibRec) (t : Nat) (crc : Word) (ts : Nat) : State :=
  let rec_ := wd (t * 2 ^ 24 + r.fwdPair * 65536 + r.seq)
  let s := ((s.inc apxC R.ApxC.NIB_MM_CNT).wr (apxC + 0x048) rec_).wr (apxC + 0x04C) r.crc
  let s := (s.wr (apxC + 0x050) crc).pTs apxC R.ApxC.NIB_MM_TS_LO R.ApxC.NIB_MM_TS_HI ts
  let s := (s.irq apxC 0).ikwOffer 0x220 (srcOf 0x11 0) [rec_, r.crc, crc, lo32 ts, hi32 ts]
  s.fwOccur 0xE8

/-- A second copy is dropped (R435). -/
def State.dropSecond (s : State) (c : NibCmd) : State :=
  let x := s.stream c.stream
  let s := (s.unhold c.pair).setStream c.stream (x.setPos c.pair ((c.seq + 1) % 65536))
  let (_, s) := s.landEffect c
  let crc := copyCrc c.stream c.seq c.words
  match x.recs.find? fun r => r.seq == c.seq with
  | some r =>
    if r.crc = crc then s.subRes c.pair c.seq 1 else (s.subRes c.pair c.seq 2).mismatch r c.stream crc c.stamp
  | none => s.subRes c.pair c.seq 1

/-- A held commit whose condition has ended is answered at once (R437, R438): forwarded while its number is still the next,
else dropped as the second copy that it has become (R210, R435). -/
def State.retryOne (s : State) (p : Nat) : State :=
  match (s.pair p).held with
  | none => s
  | some c =>
    if c.seq ≠ (s.stream c.stream).next then s.dropSecond c
    else if s.mustHold c then s
    else s.takeFwd c

/-- The pair whose held commit landed first; of two in one clock the duty's (R438, R453). -/
def State.heldFirst (s : State) : Nat :=
  match (s.pair 0).held, (s.pair 1).held with
  | some a, some b => if b.since < a.since || (a.since = b.since && s.duty == some 1) then 1 else 0
  | none, some _ => 1
  | _, _ => 0

/-- Both pairs' held commits in landing order, the first again where the second one's answer ends its condition. -/
def State.retryHeld (s : State) : State :=
  let p := s.heldFirst
  ((s.retryOne p).retryOne (1 - p)).retryOne p

/-! ### Failure (R440 to R442) -/

/-- No pair is live (R442). -/
def State.noPair (s : State) (reason : Nat) : State :=
  let s := { s with rdm := { s.rdm with noPairAt := some s.tbs.el } }
  let s := (s.irq rdmC 7).p pcrC R.PcrC.PCR_FAULT_NO_PAIR 1
  let s := s.ikwOffer 0x045 (srcOf 2 0) [wd reason]
  s.cars.foldl (fun m c => m.xOp c 0 0 0 0 (exeWord 0xFFFF 0 5)) s

/-- The other pair takes over (R441). -/
def State.takeover (s : State) (p reason : Nat) : State :=
  let s := (s.setPst (1 - p) 4).inc rdmC R.RdmC.TAKE_CNT
  let s := (s.p rdmC R.RdmC.TAKE_REASON reason).p rdmC R.RdmC.TAKE_PAIR p
  let s := (s.pTs rdmC R.RdmC.RDM_TAKE_TS_LO R.RdmC.RDM_TAKE_TS_HI s.stamp).irq rdmC 1
  s.ikwOffer 0x042 (srcOf 2 0) [wd p, wd reason]

/-- Quill stops (R441). -/
def State.quillStop (s : State) : State :=
  ({ s with rdm := { s.rdm with left := [] } }.p rdmC R.RdmC.QCOPY_LEFT 0).ps rdmC R.RdmC.STAT_QBUSY 0

/-- A failure of pair `p` is decided (R441, R442); no standby is left that a mismatch could demote. -/
def State.pairFail (s : State) (p reason : Nat) : State :=
  let was := s.pst p
  if was = 0 || was = 5 then s else
  let s := (s.unhold p).setPair p { (s.unhold p).pair p with booting := false, wfi0 := false, wfi1 := false }
  let s := (s.setPst p 5).ps (rdmP p) R.Rdm.STAT_FAIL_REASON reason
  let s := { s with rdm := { s.rdm with admitting := false } }.posAll p fun _ => 0
  let s := if was = 2 then s.quillStop else s
  let s := if was = 4 && s.pst (1 - p) = 3 then s.takeover p reason else s
  let s := (s.clgRetire.relAll).retryHeld
  if s.live 0 || s.live 1 then s else s.noPair reason

/-- A fault feeds filter 0xE9 + p; lasting is failure `HEALTH` (R440). -/
def State.pairOccur (s : State) (p : Nat) : State :=
  let t := s.fwOccur (0xE9 + p)
  if becameLasting (0xE9 + p) s t then t.pairFail p 4 else t

/-- A health event (R449). -/
def State.healthOccur (s : State) (p : Nat) : State := (s.irq rdmC 5).pairOccur p

/-! ### Classification (R435, R439) -/

/-- The demotion that filter 0xE8 asks for when it turns lasting between `s` and `u` (R439). -/
def State.mmDemote (s u : State) : State :=
  if becameLasting 0xE8 s u && u.b apxC R.ApxC.NIB_CFG_MM_DEMOTE then
    if u.pst 0 = 3 then u.pairFail 0 6 else if u.pst 1 = 3 then u.pairFail 1 6 else u
  else u

/-- A second copy (R435): dropped. -/
def State.takeSecond (s : State) (c : NibCmd) : State := s.mmDemote ((s.dropSecond c).retryHeld)

/-- Held commits are tried again, a demotion following (R437 to R439). -/
def State.retryAll (s : State) : State := s.mmDemote s.retryHeld

/-- A commit is classified in the order of R435; a pair whose commit is held submits nothing (R433, R437). -/
def State.nibClass (s : State) (c : NibCmd) : State :=
  let p := c.pair
  let x := s.stream c.stream
  let bad (s : State) (code : Nat) : State := (s.inc (apxP p) R.Apx.BAD_CNT).subRes p c.seq code
  if (s.pair p).held.isSome then s
  else if !s.live p then bad s 7
  else if (streamWords c.stream).isNone then bad s 3
  else if s.noTarget c.stream then bad s 8
  else if seqAfter c.seq (x.pos p) then ((s.inc (apxP p) R.Apx.SKIP_CNT).subRes p c.seq 4).pairOccur p
  else if c.seq ≠ x.pos p then ((s.inc (apxP p) R.Apx.REPEAT_CNT).subRes p c.seq 5).pairOccur p
  else if c.seq = x.next then (if s.mustHold c then s.hold c else s.takeFwd c)
  else s.takeSecond c

/-- Forward a command to its port (R432). -/
def State.nibPort (s : State) (c : NibCmd) : State :=
  let w (i : Nat) : Word := c.words.getD i 0#32
  let t := c.stream
  if t = 0 then s.clgPort ⟨(w 0).toNat, (w 1).toNat, (w 2).toNat, (w 3).toNat, (w 4).toNat, (w 5).toNat,
    (w 6).toNat % 16384, fget ⟨0, 0, 4⟩ (w 7), fget ⟨0, 16, 16⟩ (w 7), c.seq⟩
  else if t = 1 || t = 3 then
    s.onWrite .nib (mpgP (t / 2) + 0x108) fun s => s.mpgOp (t / 2) (w 0) (w 1) (w 2)
  else if t = 2 || t = 4 then
    s.onWrite .nib (mpgP (t / 2 - 1) + 0x210) fun s => s.xOp (t / 2 - 1) (w 0) (w 1) (w 2) (w 3) (w 4)
  else if 0x08 ≤ t && t ≤ 0x14 then
    let d : DoorDst := if t < 0x10 then .chan ⟨(t - 8) % 8, Nat.mod_lt _ (by decide)⟩
      else if t < 0x14 then .group ⟨(t - 0x10) % 4, Nat.mod_lt _ (by decide)⟩ else .all
    s.doorBurst d (w 0) (w 2)
  else
    let d := (c.words.drop 1).take 16
    if t = 0x1F then s.onWrite .nib (cveC + 0x144) fun s => s.noticeOp (w 0) d (w 17)
    else s.onWrite .nib (ctxP (t - 0x20) + 0x144) fun s => s.ctxOp (t - 0x20) (w 0) d (w 17) c.relOk

/-! ### Quill (R443, R444) -/

/-- Window `w` of Quill, as a page for the fields of R459. -/
abbrev qwP (w : Nat) : Nat := rdmC + 8 * (w % 32)

/-- Whether a window is enabled. -/
def State.qwOn (s : State) (w : Nat) : Bool := s.b (qwP w) R.RdmC.QW_EN

/-- The pair Quill copies to: the JOINING or STANDBY one beside the duty. -/
def State.quillTo (s : State) : Option Nat :=
  match s.duty with
  | some d => if s.pst (1 - d) = 2 || s.pst (1 - d) = 3 then some (1 - d) else none
  | none => none

/-- `QCOPY_LEFT`, `QBUSY` and `QSYNC` (R444, R458). -/
def State.quillShow (s : State) : State :=
  let left := (s.rdm.left.map (·.2)).foldl (· + ·) 0
  let all := (List.range 32).all fun w => !s.qwOn w || s.b (qwP w) R.RdmC.QW_SYNCED
  let s := (s.p rdmC R.RdmC.QCOPY_LEFT left).psB rdmC R.RdmC.STAT_QBUSY (decide (0 < left))
  let sync := all && s.quillTo.isSome
  let was := s.b rdmC R.RdmC.STAT_QSYNC
  let s := s.psB rdmC R.RdmC.STAT_QSYNC sync
  if sync && !was then s.irq rdmC 3 else s

/-- A bulk copy of a window starts (R444). -/
def State.quillWin (s : State) (w : Nat) : State :=
  if !s.qwOn w || s.quillTo.isNone then s else
  let s := s.p (qwP w) R.RdmC.QW_SYNCED 0
  { s with rdm := { s.rdm with left := Tab.set (fun _ => 0) s.rdm.left w (s.g (qwP w) R.RdmC.QW_PAGES) } }

/-- Bulk copies of every enabled window start when a pair enters JOINING (R444). -/
def State.quillAll (s : State) : State :=
  ((List.range 32).foldl (fun m w => m.quillWin w) (s.ps rdmC R.RdmC.STAT_QSYNC 0)).quillShow

/-- Base address and length of a window in the SRAM of pair `p`. -/
def State.qwAt (s : State) (w p : Nat) : Nat := localSram p + s.g (qwP w) R.RdmC.QW_BASE * 4096
def State.qwLen (s : State) (w : Nat) : Nat := s.g (qwP w) R.RdmC.QW_PAGES * 4096

/-- The enabled window that holds an offset of local SRAM. -/
def State.qwOf (s : State) (off : Nat) : Option Nat :=
  (List.range 32).find? fun w => s.qwOn w && decide (s.g (qwP w) R.RdmC.QW_BASE * 4096 ≤ off) &&
    decide (off < s.g (qwP w) R.RdmC.QW_BASE * 4096 + s.qwLen w)

/-- A write of a Quill window register, offset 0 (R443, R444): overlap and range are refused. -/
def State.quillWrite (s : State) (w : Nat) (v : Word) : State :=
  let base := fget R.RdmC.QW_BASE v
  let pages := fget R.RdmC.QW_PAGES v
  let overlaps (k : Nat) : Bool := k != w && s.qwOn k && fget R.RdmC.QW_EN v == 1 &&
    decide (base < s.g (qwP k) R.RdmC.QW_BASE + s.g (qwP k) R.RdmC.QW_PAGES) &&
    decide (s.g (qwP k) R.RdmC.QW_BASE < base + pages)
  if pages = 0 || 1024 < base + pages || (List.range 32).any overlaps then s.flt rdmC else
  let old := s.rd (qwP w + 0x100)
  let s := s.land (qwP w + 0x100) v
  if s.rd (qwP w + 0x100) = old then s
  else
    let s := (s.p (qwP w) R.RdmC.QW_SYNCED 0)
    let s := { s with rdm := { s.rdm with left := Tab.set (fun _ => 0) s.rdm.left w 0 } }
    (s.quillWin w).quillShow

/-! ### Boot (R526, R528) -/

/-- Start of the xSPI window (R64, R521). -/
abbrev flash : Nat := 0x60000000

/-- The directory in force: its offset (R526). -/
def State.bootDir (s : State) : Option Nat :=
  let ok (o : Nat) : Bool := s.mget (flash + o) 4 == 0x5249444C &&
    crc32c (s.mbytes (flash + o) 0xFFC) == wd (s.mget (flash + o + 0xFFC) 4)
  match ok 0, ok 0x1000 with
  | true, true => if s.mget (flash + 4) 4 < s.mget (flash + 0x1004) 4 then some 0x1000 else some 0
  | true, false => some 0
  | false, true => some 0x1000
  | false, false => none

/-- The image hash of the image at `a` (R524). -/
def State.imageHash (s : State) (a : Nat) : List Nat := sha512 (s.mbytes a 64 ++ s.mbytes (a + 256) (s.mget (a + 0x10) 4))

/-- The failing code of an image in slot `slot` of pair `p`, 0 for none (R524, R528), with its start. -/
def State.bootCheck (s : State) (p slot : Nat) (dirErr hdrErr bodyErr eccErr : Bool) : Nat × Nat :=
  if dirErr then (7, 0) else
  match s.bootDir with
  | none => (1, 0)
  | some d =>
    let e := flash + d + 8 + (2 * p + slot) * 8
    let a := flash + s.mget e 4
    let size := s.mget (e + 4) 4
    let len := s.mget (a + 0x10) 4
    let ofs := s.mget (a + 0x14) 4
    let ent := s.mget (a + 0x18) 4
    let key := s.byte (a + 6)
    let zero (o n : Nat) : Bool := (s.mbytes (a + o) n).all (· == 0)
    if hdrErr then (7, a)
    else if s.mget a 4 ≠ 0x4C48494D || s.mget (a + 4) 2 ≠ 1 || 3 < key || !zero 7 1 || !zero 0x1C 4 || !zero 0x80 128 ||
        size < 256 + len then (2, a)
    else if len % 64 ≠ 0 || ofs % 4096 ≠ 0 || 0x400000 < ofs + len || ent < ofs || ofs + len ≤ ent then (3, a)
    else if bodyErr then (7, a)
    else if sha512 (s.mbytes (a + 0x20) 32) != s.mbytes (otpBase + 64 * key) 64 || (List.range 64).all (fun i => s.byte (otpBase + 64 * key + i) == 0) ||
        bitOf (s.otpWord 0x180) key then (4, a)
    else if !edVerify (s.mbytes (a + 0x20) 32) (s.mbytes (a + 0x40) 64) (s.imageHash a) then (5, a)
    else if s.mget (a + 8) 8 < s.arbCounter then (6, a)
    else if eccErr then (8, a)
    else (0, a)

/-- `MEM_BOOT_STAT` of a pair (R533). -/
def State.bootStat (s : State) (p code : Nat) (fb : Bool) : State :=
  (s.p memC (if p = 0 then R.MemC.MEM_BOOT_STAT_RES0 else R.MemC.MEM_BOOT_STAT_RES1) code).pB memC
    (if p = 0 then R.MemC.MEM_BOOT_STAT_FB0 else R.MemC.MEM_BOOT_STAT_FB1) fb

end Sys2Proof.Machine
end

