-- ==== Sys2Proof/Machine/NibCmd.lean ====
section
/-! DEFINITION. The commands of RDM and Nib (R430 to R454, R528). -/

namespace Sys2Proof.Machine

/-! ### Submission and forwarding -/

/-- The copy that a write of `NIB_SUB_HDR` commits (R433): the burst image stands in the window. -/
def State.winCopy (s : State) (p : Nat) (v : Word) : NibCmd :=
  let t := fget R.Win.NIB_SUB_HDR_STREAM v
  let n := (streamWords t).getD 0
  { stream := t, seq := fget R.Win.NIB_SUB_HDR_SEQ v, pair := p,
    words := (List.range n).map fun i => s.rd (winP p + 4 * i), stamp := s.stamp, since := s.tbs.el }

/-- A write of `NIB_SUB_HDR` (R433, R435); while the pair's commit is held the write is not answered (R437). -/
def State.winCommit (s : State) (p : Nat) (v : Word) : State :=
  let s := s.nibClass (s.winCopy p v)
  if (s.pair p).held.isSome then { s with bus := .held } else s

/-- NIB_SUBMIT (R433, R435). -/
def execNibSubmit (ini : Ini) (p : Fin 2) (v : Word) (s : State) : Host.Outcome State Fault Refusal :=
  .next (s.onWrite ini (winP p.val + 0x048) fun s => s.winCommit p.val v)

/-- NIB_FORWARD (R438): the head of a queue goes to its port, and a commit held for the queue is answered. While CLG holds
a command, its write is not complete and the next waits (R227). -/
def execNibForward (blk : Fin 4) (s : State) : Host.Outcome State Fault Refusal :=
  .next (
    match s.nibQ blk.val with
    | [] => s
    | c :: rest =>
      if !s.domOn 5 || (blk.val = 2 && !s.clg.held.isEmpty) then s else
      (((s.setNibQ blk.val rest).nibPort c).inc apxC R.ApxC.NIB_FWD_CNT).retryAll)

/-- LAG_TIMEOUT (R437, R440): the pair that lags fails with `LAG`, and the held copy is forwarded. -/
def execLagTimeout (p : Fin 2) (s : State) : Host.Outcome State Fault Refusal :=
  .next (
    match (s.pair p.val).held with
    | none => s
    | some c =>
      if !s.leads c || !s.domOn 5 then s else
      let s := s.advanceTo (c.since + s.g apxC R.ApxC.NIB_CFG_LAG_TMO * 1000000)
      (s.irq apxC 2).pairFail (1 - p.val) 5)

/-! ### Announcement and watchdogs -/

/-- A pair's watchdog and report timers restart (R440, R449). -/
def State.pairTimers (s : State) (p : Nat) : State :=
  s.setPair p { s.pair p with lastKick := s.tbs.el, lastReport := s.tbs.el, booting := false }

/-- A pair becomes live with positions, view and releases taken from the machine (R231, R416, R442, R445). -/
def State.pairTakes (s : State) (p : Nat) : State :=
  let s := s.posAll p fun x => x.next
  let s := if s.b clgC R.ClgC.APPLIED_VALID then s.setView p (s.g clgC R.ClgC.CLG_APPLIED) else s
  s.relJoin p

/-- A write of `NIB_HELLO` (R430, R442). -/
def State.hello (s : State) (p : Nat) (v : Word) : State :=
  let s := s.wr (apxP p + R.Apx.HELLO_VAL.off) v
  if s.pst p ≠ 1 then s
  else if s.pst (1 - p) = 4 then ((s.pairTimers p).setPst p 2).quillAll
  else
    let s := ((s.pairTimers p).pairTakes p).setPst p 4
    { s with rdm := { s.rdm with noPairAt := none } }.p pcrC R.PcrC.PCR_FAULT_NO_PAIR 0

/-- NIB_HELLO (R430). -/
def execNibHello (ini : Ini) (p : Fin 2) (v : Word) (s : State) : Host.Outcome State Fault Refusal :=
  .next (s.onWrite ini (winP p.val + 0x054) fun s => s.hello p.val v)

/-- A write of `NIB_WDG_KICK` (R440). -/
def State.kick (s : State) (p : Nat) : State := s.setPair p { s.pair p with lastKick := s.tbs.el }

/-- NIB_WDG_KICK (R440, R457). -/
def execNibWdgKick (ini : Ini) (p : Fin 2) (_v : Word) (s : State) : Host.Outcome State Fault Refusal :=
  .next (s.onWrite ini (winP p.val + 0x050) fun s => s.kick p.val)

/-- Whether the timers of a pair run: JOINING, STANDBY or DUTY, and PD_FAB awake (R440, R449, R454). -/
def State.timed (s : State) (p : Nat) : Bool := (s.live p || s.pst p == 2) && s.domOn 5

/-- WDG_TIMEOUT (R440). -/
def execWdgTimeout (p : Fin 2) (s : State) : Host.Outcome State Fault Refusal :=
  .next (
    if !s.timed p.val then s else
    let d := (s.pair p.val).lastKick + s.g rdmC R.RdmC.RDM_TIMING_WDG_TMO * 1000000
    (s.advanceTo d).pairFail p.val 3)

/-- BOOT_TIMEOUT: 5 s in BOOT without `NIB_HELLO` (R430). -/
def execBootTimeout (p : Fin 2) (s : State) : Host.Outcome State Fault Refusal :=
  .next (
    if s.pst p.val ≠ 1 || !s.domOn 5 then s
    else (s.advanceTo ((s.pair p.val).bootAt + 5000000000)).pairFail p.val 3)

/-- A FAILED pair restarts by itself from the slot it last booted, at most 3 times between accepted reports (R442). -/
def State.autoRestart (s : State) (p : Nat) : State :=
  let x := s.pair p
  if s.pst p ≠ 5 || !s.domOn (3 + p) || 3 ≤ x.restarts then s
  else (s.setPair p { x with restarts := x.restarts + 1 }).pairBoot p x.slot

/-- AUTO_RESTART (R442): 100 ms after the failure that left no pair live. -/
def execAutoRestart (s : State) : Host.Outcome State Fault Refusal :=
  .next (
    match s.rdm.noPairAt with
    | none => s
    | some t =>
      if !s.domOn 5 then s else
      let s := s.advanceTo (t + 100000000)
      ({ s with rdm := { s.rdm with noPairAt := none } }.autoRestart 0).autoRestart 1)

/-! ### `RDM_PAIR_CTRL` (R440, R445, R446) -/

/-- `ROLE_SWAP` (R446). -/
def State.roleSwap (s : State) : State :=
  match s.duty with
  | none => s.flt rdmC
  | some d =>
    if s.pst (1 - d) ≠ 3 then s.flt rdmC else
    let s := ((s.setPst d 3).setPst (1 - d) 4).inc rdmC R.RdmC.SWAP_CNT
    (s.irq rdmC 2).ikwOffer 0x043 (srcOf 2 0) [wd (1 - d)]

/-- `ADMIT` (R445). -/
def State.admitReq (s : State) : State :=
  if s.pst 0 = 2 || s.pst 1 = 2 then { s with rdm := { s.rdm with admitting := true } } else s.flt rdmC

/-- `RESTART` for pair `p` (R430, R440): a pair that still runs fails first, and boots from the named slot. -/
def State.restart (s : State) (p slot : Nat) : State :=
  if s.pst p = 4 then s.flt rdmC
  else if !s.domOn (3 + p) || s.pst p = 0 then s
  else
    let s := s.pairFail p 7
    s.pairBoot p slot

/-- A write of `RDM_PAIR_CTRL` (R458), counted at most once (R71). -/
def State.pairCtrl (s : State) (v : Word) : State :=
  let slot := fget R.RdmC.RESTART_SLOT v
  let t := if fget R.RdmC.ROLE_SWAP v = 1 then s.roleSwap else s
  let t := if fget R.RdmC.ADMIT v = 1 then t.admitReq else t
  let t := if fget R.RdmC.RESTART0 v = 1 then t.restart 0 slot else t
  s.fltOnce rdmC (if fget R.RdmC.RESTART1 v = 1 then t.restart 1 slot else t)

/-- ROLE_SWAP (R446). -/
def execRoleSwap (ini : Ini) (v : Word) (s : State) : Host.Outcome State Fault Refusal :=
  .next (s.onWrite ini (rdmC + 0x060) fun s => s.pairCtrl (v ||| 0x01#32))

/-- ADMIT (R445). -/
def execAdmit (ini : Ini) (v : Word) (s : State) : Host.Outcome State Fault Refusal :=
  .next (s.onWrite ini (rdmC + 0x060) fun s => s.pairCtrl (v ||| 0x02#32))

/-- PAIR_RESTART (R430, R440, R447). -/
def execPairRestart (ini : Ini) (p : Fin 2) (v : Word) (s : State) : Host.Outcome State Fault Refusal :=
  .next (s.onWrite ini (rdmC + 0x060) fun s => s.pairCtrl (v ||| (if p.val = 0 then 0x10#32 else 0x20#32)))

/-- ADMITTED (R445): the conditions of a waiting `ADMIT` hold. -/
def execAdmitted (s : State) : Host.Outcome State Fault Refusal :=
  .next (
    match s.duty with
    | none => s
    | some d =>
      let q := 1 - d
      if !s.rdm.admitting || s.pst q ≠ 2 || !s.b rdmC R.RdmC.STAT_QSYNC || !(s.nibQ 2).isEmpty || !s.clg.held.isEmpty ||
          !s.domOn 5 then s
      else
        let s := { s with rdm := { s.rdm with admitting := false } }.pairTakes q
        ((s.setPst q 3).irq rdmC 4).ikwOffer 0x044 (srcOf 2 0) [wd q])

/-! ### Quill -/

/-- Whether a range holds a word with an error of at least grade `k` (R514). -/
def State.eccIn (s : State) (a len k : Nat) : Bool :=
  s.memc.bad.any fun e => decide (a ≤ e.1) && decide (e.1 < a + len) && decide (k ≤ e.2)

/-- QUILL_BULK_DONE: the last page of a window is copied, 1,024 `CK_FAB` clocks a page (R444). -/
def execQuillBulkDone (w : Fin 32) (s : State) : Host.Outcome State Fault Refusal :=
  .next (
    let left := Tab.get (fun _ => 0) s.rdm.left w.val
    match s.duty, s.quillTo with
    | some d, some q =>
      if left = 0 || !s.domOn 5 then s else
      let s := s.advance (cdiv (left * 1024) 6)
      if s.eccIn (s.qwAt w.val d) (s.qwLen w.val) 2 then s.pairFail d 2 else
      let s := s.memCopy (s.qwAt w.val d) (s.qwAt w.val q) (s.qwLen w.val)
      let s := (s.eccClean (s.qwAt w.val q) (s.qwLen w.val)).p (qwP w.val) R.RdmC.QW_SYNCED 1
      { s with rdm := { s.rdm with left := Tab.set (fun _ => 0) s.rdm.left w.val 0 } }.quillShow
    | _, _ => s)

/-! ### Health reports and tests -/

/-- The report in a pair's window, `NIB_HR_W15` being the word now written (R448). -/
def State.hrWords (s : State) (p : Nat) (v : Word) : List Word :=
  (List.range 15).map (fun i => s.rd (winP p + 0x080 + 4 * i)) ++ [v]

/-- Whether `n` comes after `m` in 32-bit numbering (R81). -/
def after32 (n m : Nat) : Bool := let d := (n + 2 ^ 32 - m) % 2 ^ 32; 0 < d && d < 2 ^ 31

/-- Whether RDM accepts a report (R449). -/
def State.hrOk (s : State) (p : Nat) (ws : List Word) : Bool :=
  let w (i : Nat) : Word := ws.getD i 0#32
  crc32c (wordsBytes (ws.take 15)) == w 15 && (w 0).toNat % 65536 == 1 && (w 0).toNat / 65536 % 256 == p &&
    match (s.pair p).reportNo with
    | none => true
    | some n => after32 (w 1).toNat n

/-- A write of `NIB_HR_W15` (R448, R449). -/
def State.report (s : State) (p : Nat) (v : Word) : State :=
  let ws := s.hrWords p v
  if s.hrOk p ws then
    let s := (List.range 16).foldl (fun (m : State) i => m.wr (rdmP p + 0x040 + 4 * i) (ws.getD i 0#32)) s
    let s := (s.pTs (rdmP p) R.Rdm.RDM_HR_TS_LO R.Rdm.RDM_HR_TS_HI s.stamp).inc (rdmP p) R.Rdm.HR_CNT
    let no := (ws.getD 1 0#32).toNat
    let s := s.setPair p { s.pair p with reportNo := some no, lastReport := s.tbs.el, restarts := 0 }
    if ws.getD 6 0#32 = 0#32 then s else s.healthOccur p
  else (s.inc (rdmP p) R.Rdm.HR_BAD_CNT).healthOccur p

/-- HEALTH_REPORT (R448, R449). -/
def execHealthReport (ini : Ini) (p : Fin 2) (v : Word) (s : State) : Host.Outcome State Fault Refusal :=
  .next (s.onWrite ini (winP p.val + 0x0BC) fun s => s.report p.val v)

/-- HR_TIMEOUT (R449): one `HR_TMO` has passed without an accepted report. -/
def execHrTimeout (p : Fin 2) (s : State) : Host.Outcome State Fault Refusal :=
  .next (
    if !s.timed p.val then s else
    let s := s.advanceTo ((s.pair p.val).lastReport + s.g rdmC R.RdmC.RDM_TIMING_HR_TMO * 1000000)
    let s := s.setPair p.val { s.pair p.val with lastReport := s.tbs.el }
    (s.inc (rdmP p.val) R.Rdm.HR_MISS_CNT).healthOccur p.val)

/-- `TEST_FAIL` (R458). -/
def State.testFail (s : State) (n : Nat) : State :=
  s.p rdmC R.RdmC.TEST_FAIL (Nat.lor (s.g rdmC R.RdmC.TEST_FAIL) (2 ^ n))

/-- A requested test has run (R450). -/
def State.testRan (s : State) (n : Nat) : State :=
  s.p rdmC R.RdmC.TEST_REQ (Nat.land (s.g rdmC R.RdmC.TEST_REQ) (15 - 2 ^ n))

/-- Test 0 on the standby pair: the march over the next 64 KiB (R450). -/
def State.test0 (s : State) (q march : Nat) : State :=
  let a := localSram q + s.rdm.nextMarch * 0x10000
  let s := { s with rdm := { s.rdm with nextMarch := (s.rdm.nextMarch + 1) % 64 } }.testRan 0
  if march = 2 || s.eccIn a 0x10000 2 then (s.testFail 0).pairFail q 2
  else if march = 1 || s.eccIn a 0x10000 1 then ((s.eccClean a 0x10000).testFail 0).fwOccur 0xEB
  else s

/-- The next enabled window at or after `w`, round robin. -/
def State.nextQw (s : State) (w : Nat) : Option Nat :=
  ((List.range 32).map fun i => (w + i) % 32).find? s.qwOn

/-- Test 2 on the standby pair: one window compared by CRC-32C (R450); equal contents have equal CRCs. -/
def State.test2 (s : State) (d q : Nat) : State :=
  let s := s.testRan 2
  match s.nextQw s.rdm.nextWin with
  | none => s
  | some w =>
    let s := { s with rdm := { s.rdm with nextWin := (w + 1) % 32 } }
    let n := s.qwLen w
    if s.memSame (s.qwAt w d) (s.qwAt w q) n || crc32c (s.mbytes (s.qwAt w d) n) == crc32c (s.mbytes (s.qwAt w q) n) then s
    else ((((s.p (qwP w) R.RdmC.QW_CMP_FAIL 1).testFail 2).quillWin w).quillShow).healthOccur q

/-- TEST_SLOT (R450): the next slot of the 10 ms grid opens. -/
def execTestSlot (march : Fin 3) (nibOk wdgOk : Bool) (s : State) : Host.Outcome State Fault Refusal :=
  .next (
    if !s.domOn 5 then s else
    let s := s.advanceTo s.rdm.nextSlot
    let grid := s.rdm.slots % 100 == 0
    let s := { s with rdm := { s.rdm with slots := s.rdm.slots + 1, nextSlot := max s.rdm.nextSlot s.tbs.el + 10000000 } }
    let req := s.g rdmC R.RdmC.TEST_REQ
    let s := if grid || bitOf req 1 then
        let s := s.testRan 1
        if nibOk then s else ((s.testFail 1).psB apxC R.ApxC.STAT_NIB_BAD true).irq rdmC 6
      else s
    let s := if grid || bitOf req 3 then
        let s := s.testRan 3
        if wdgOk then s else (s.testFail 3).irq rdmC 6
      else s
    match s.duty with
    | none => s
    | some d =>
      if s.pst (1 - d) ≠ 3 then s else
      let s := s.test2 d (1 - d)
      if s.pst (1 - d) ≠ 3 then s else s.test0 (1 - d) march.val)

/-- TEST_REQ (R450, R458): requests join those already queued. -/
def execTestReq (ini : Ini) (v : Word) (s : State) : Host.Outcome State Fault Refusal :=
  .next (s.onWrite ini (rdmC + 0x078) fun s => s.land (rdmC + 0x078) v)

/-! ### Boot -/

/-- BOOT_DONE (R528): `us` µs later the flash is left in the fastest protocol it supports (`OCTAL`); the image in the chosen slot
passes and the pair jumps, or the other slot is tried once. -/
def execBootDone (p : Fin 2) (us : Fin 16001) (dirErr hdrErr bodyErr eccErr : Bool) (s : State) :
    Host.Outcome State Fault Refusal :=
  .next (
    if s.pst p.val ≠ 1 || !(s.pair p.val).booting || !s.domOn 5 then s else
    let s := s.advance (us.val * 100)
    let x := s.pair p.val
    let (code, a) := s.bootCheck p.val x.bootSlot dirErr hdrErr bodyErr eccErr
    let s := if dirErr then s else s.p memC R.MemC.MEM_XSPI_CFG_OCTAL (b2n Config.flashOctal)
    if code = 0 then
      let ofs := s.mget (a + 0x14) 4
      let len := s.mget (a + 0x10) 4
      let s1 := (s.memCopy (a + 256) (localSram p.val + ofs) len).eccClean (localSram p.val + ofs) len
      let s2 := s1.setPair p.val { x with
        booting := false, slot := x.bootSlot, version := s.mget (a + 8) 8,
        hash := bytesWords 16 (s.imageHash a) }
      let s3 := s2.bootStat p.val 0 x.retried
      if x.retried then s3.irq memC 10 else s3
    else
      let s1 := s.bootStat p.val code false
      if x.retried then s1.setPair p.val { x with booting := false }
      else s1.setPair p.val { x with retried := true, bootSlot := 1 - x.bootSlot })

end Sys2Proof.Machine
end

