-- ==== Sys2Proof/Machine/Power.lean ====
section
/-! DEFINITION. PCR: power domains, resets, sleep and wake, the life counters, limp clock (R484 to R512). -/

namespace Sys2Proof.Machine

/-! ### Power domains (R59, R60, R512) -/

abbrev pcrOf (d : Nat) : Nat := pcrP d

/-- `DSTATE` of a domain: 0 OFF, 1 ON, 2 RETAINED, 3 REDUCED, 4 HELD IN RESET. -/
def State.dom (s : State) (d : Nat) : Nat := s.g (pcrP d) R.Pcr.STAT_DSTATE

/-- A change of `DSTATE` (R512): `ISO`, the counts, `IRQ_RAW.STATE`. -/
def State.setDom (s : State) (d v : Nat) : State :=
  if s.dom d = v then s else
  let s := (s.ps (pcrP d) R.Pcr.STAT_DSTATE v).psB (pcrP d) R.Pcr.STAT_ISO (v == 0 || v == 2)
  let s := if v = 0 || v = 2 then s.inc (pcrP d) R.Pcr.OFF_CNT else s
  let s := if v = 1 then s.inc (pcrP d) R.Pcr.ON_CNT else s
  s.irq (pcrP d) 0

/-- Whether a register word lies in a domain (R48). -/
def inDom (d a : Nat) : Bool :=
  match locate a with
  | some l => blkDomain l.block == d
  | none => false

/-- The registers of a domain return to their reset values. -/
def State.regsReset (s : State) (d : Nat) : State := { s with regs := s.regs.filter fun x => !inDom d x.1 }

/-- The LPDDR4X range (R64). -/
abbrev ddrBase : Nat := 0x80000000
abbrev ddrTop : Nat := 0x280000000

/-- A domain loses its registers and what its blocks hold beside them (R59). The debug unlock and JTAG stand apart
(R531). -/
def State.domClear (s : State) (d : Nat) : State :=
  let s := s.regsReset d
  match d with
  | 5 => { s with
      rdm := { held := s.rdm.held }, pair0 := {}, pair1 := {}, pends := [],
      memc := { bad := s.memc.bad, dbgUnlocked := s.memc.dbgUnlocked, jtagForce := s.memc.jtagForce,
                jtagIr := s.memc.jtagIr, jtagOut := s.memc.jtagOut } }
  | 6 => { s with hoist := {}, dlks := [], doors := [], pulses := [] }
  | 7 => (List.range 4).foldl (fun m k => m.tbsShow k) { s with ports := [], cve := {}, clg := {} }
  | 8 => { s with bnis := [] }
  | 9 =>
    let s := { s with memc := { s.memc with ddrInit := false } }
    (s.psB memC R.MemC.STAT_DDR_READY false).p memC R.MemC.MEM_DDR_STAT_SREF 0
  | _ => s

/-- A domain without power loses its memory as well (R59, R513). -/
def State.domLose (s : State) (d : Nat) : State :=
  let s := s.domClear d
  match d with
  | 3 => s.memDrop (localSram 0) 0x400000
  | 4 => s.memDrop (localSram 1) 0x400000
  | 5 => (s.memDrop 0x10800000 0xE00000).memDrop 0x11780000 0x80000
  | 7 => s.memDrop 0x11700000 0x80000
  | 9 => s.memDrop ddrBase (ddrTop - ddrBase)
  | _ => s

/-- The switched domains (R502). -/
def switched : List Nat := [3, 4, 5, 6, 7, 8, 9]

/-- Bit `i` of `PCR_CLKMON`: 0 XIN, 1 SYS, 2 APX, 3 LANE, 4 DDR, 5 XAON, 6 FLL. -/
def State.clkOk (s : State) (i : Nat) (v : Bool) : State := s.pB pcrC ⟨R.PcrC.PCR_CLKMON.off, R.PcrC.PCR_CLKMON.lo + i, 1⟩ v

/-- A domain with `CTRL.EN` = 1 is powered; under limp clock PD_MOT, PD_BNI and PD_DDR are held in reset (R500). -/
def State.domPower (s : State) (d : Nat) : State :=
  if !s.b (pcrP d) R.Hdr.CTRL_EN then s
  else if s.b pcrC R.PcrC.STAT_LIMP && (d == 6 || d == 8 || d == 9) then s.setDom d 4
  else
    let s := s.setDom d 1
    if d = 6 then { s with hoist := { s.hoist with base := s.tbs.el } }.motMirror
    else if d = 9 then s.clkOk 4 true else s

/-! ### Supplies (R485 to R490) -/

/-- The set point of an operating point in mV, and its `DVS_REQ` code (R487, R489). -/
def oppMv (o : Nat) : Nat := match o with | 0 => 800 | 1 => 720 | 2 => 650 | _ => 750
def dvsCode (o : Nat) : Nat := match o with | 0 => 5 | 1 => 3 | 2 => 2 | _ => 4

/-- `VCORE` is set, in LP or normal mode; in compatibility mode the PMIC is asked (R485, R487, R493). -/
def State.rail (s : State) (mv code : Nat) (lp : Bool) : State :=
  let s := ((s.p pcrC R.PcrC.PCR_REGSTAT_VCORE mv).pB pcrC R.PcrC.PCR_REGSTAT_LP lp).p pcrC R.PcrC.PCR_REGSTAT_RDY 1
  if s.pmode then (s.p pcrC R.PcrC.PCR_DVS_REQ code).p pcrC R.PcrC.PCR_DVS_ACK 1 else s

/-- `VCORE` at the present operating point. -/
def State.railOpp (s : State) : State :=
  if s.b pcrC R.PcrC.STAT_LIMP then s.rail 650 2 false
  else let o := s.g pcrC R.PcrC.PCR_OPP_OPP_CUR; s.rail (oppMv o) (dvsCode o) false

/-- The boot operating point (R485, R489). -/
def State.oppBoot (s : State) : State :=
  let s := ((s.p pcrC R.PcrC.PCR_OPP_OPP_CUR 3).p pcrC R.PcrC.PCR_OPP_OPP_REQ 3).p pcrC R.PcrC.PCR_OPP_BUSY 0
  s.railOpp

/-- PFI, its channels, and IKW on the keeper clock or back (R55, R144). -/
def State.keeper (s : State) (on : Bool) : State :=
  let s := (s.psB pfiC R.PfiC.STAT_KEEPER on).psB ikwC R.IkwC.STAT_KEEPER on
  (List.range 8).foldl (fun (m : State) n => m.psB (fbP n) R.Fb.STAT_KEEPER on) s

/-! ### Records -/

/-- A bit of `PCR_RST_CAUSE` sets (R502): 0 POR, 1 NRESET, 2 STUCK, 3 BROWNOUT, 4 UV. -/
def State.rstCause (s : State) (i : Nat) : State :=
  s.p pcrC R.PcrC.PCR_RST_CAUSE (Nat.lor (s.g pcrC R.PcrC.PCR_RST_CAUSE) (2 ^ i))

/-- The record of a start: `POWER_ON` or `RESET`, with the cause bits (R502). -/
def State.rstRecord (s : State) (code : Nat) : State := s.ikwOffer code (srcOf 0 0) [wd (s.g pcrC R.PcrC.PCR_RST_CAUSE)]

/-! ### Life counters (R507, R517) -/

abbrev lifeAddr (n : Nat) : Nat := 0x04004000 + 0x40 * n

/-- A slot is valid. -/
def State.lifeOk (s : State) (n : Nat) : Bool :=
  !s.ueIn (lifeAddr n) 64 && crc32c (s.mbytes (lifeAddr n) 60) == wd (s.mget (lifeAddr n + 0x3C) 4)

/-- The bytes of a slot (R517). -/
def lifeBytes (seq pc op : Nat) : List Nat :=
  let b := bytesLE 4 seq ++ bytesLE 4 pc ++ bytesLE 6 op ++ List.replicate 46 0
  b ++ bytesLE 4 (crc32c b).toNat

/-- The counters are written to the slot that is not the newest, which becomes the newest. -/
def State.lifeWrite (s : State) (seq : Nat) : State :=
  let n := 1 - s.pcr.lifeSlot
  let s := s.mputEcc (lifeAddr n) (lifeBytes seq s.pcr.pcycle s.optime)
  { s with pcr := { s.pcr with lifeSlot := n, lastCkpt := s.tbs.el } }

/-- A checkpoint (R507). -/
def State.checkpoint (s : State) : State := s.lifeWrite (s.mget (lifeAddr s.pcr.lifeSlot) 4 + 1)

/-- Step 6 of R506: the counters are loaded and the power-cycle count is written. -/
def State.lifeLoad (s : State) : State :=
  let a := s.lifeOk 0
  let b := s.lifeOk 1
  let n := if a && b then (if s.mget (lifeAddr 0) 4 < s.mget (lifeAddr 1) 4 then 1 else 0) else if b then 1 else 0
  if a || b then
    let pc := min (s.mget (lifeAddr n + 4) 4 + 1) (2 ^ 32 - 1)
    let s := { s with pcr := { s.pcr with
      pcycle := pc, optimeBase := s.mget (lifeAddr n + 8) 6, lifeAt := s.tbs.el, lifeSlot := n } }
    s.checkpoint
  else
    let s := { s with pcr := { s.pcr with pcycle := 1, optimeBase := 0, lifeAt := s.tbs.el, lifeSlot := 1 } }
    (s.lifeWrite 1).irq pcrC 11

/-! ### Start of the pairs (R430, R527, R528) -/

abbrev bootRec (n : Nat) : Nat := 0x04006000 + 0x40 * n

/-- A boot record copy is valid (R527). -/
def State.bootRecOk (s : State) (n : Nat) : Bool :=
  !s.ueIn (bootRec n) 64 && crc32c (s.mbytes (bootRec n) 60) == wd (s.mget (bootRec n + 0x3C) 4)

/-- The copy in force. -/
def State.bootRecNo (s : State) : Option Nat :=
  match s.bootRecOk 0, s.bootRecOk 1 with
  | true, true => if s.mget (bootRec 0) 4 < s.mget (bootRec 1) 4 then some 1 else some 0
  | true, false => some 0
  | false, true => some 1
  | false, false => none

/-- The preferred slot of a pair. -/
def State.bootPref (s : State) (p : Nat) : Nat :=
  match s.bootRecNo with
  | some n => s.byte (bootRec n + 4 + p) % 2
  | none => 0

/-- PD_FAB and the pairs start: `MEM_BOOT_SEL` is read from MRAM, the test slots begin, the powered pairs boot. -/
def State.fabStart (s : State) : State :=
  let s := s.p memC R.MemC.MEM_BOOT_SEL (s.bootPref 0 + 2 * s.bootPref 1)
  let s := { s with rdm := { s.rdm with nextSlot := s.tbs.el + 10000000 } }
  let s := if s.dom 3 = 1 then s.pairBoot 0 (s.bootPref 0) else s
  if s.dom 4 = 1 then s.pairBoot 1 (s.bootPref 1) else s

/-! ### Start-up (R506) and reset (R502 to R504) -/

/-- The lanes and SIO start anew (R292, R301). -/
def State.lanesStart (s : State) : State :=
  let t := s.tbs.el
  { s with safe := { start := t, slpAt := t, sgAt := t, mramAt := t } }.spbStart

/-- Start-up from step 4 of R506: clocks, PD_FAB and the pairs, the lanes. -/
def State.startUp (s : State) : State :=
  let s := { s with tbs := { s.tbs with stopped := false } }
  let s := { s with pcr := { s.pcr with power := .run } }
  let s := ((((s.clkOk 0 true).clkOk 1 true).clkOk 2 true).clkOk 3 true).oppBoot
  let s := [3, 4, 5].foldl (fun m d => m.domPower d) s
  s.fabStart.lanesStart

/-- Every switched domain is reset and restarts as after power-on (R486). -/
def State.resetSwitched (s : State) : State :=
  let s := switched.foldl (fun (m : State) d => m.domClear d) s
  let s := switched.foldl (fun (m : State) d => m.setDom d 0) s
  let s := { s with pcr := { s.pcr with power := .run, wakePend := 0, saved := false } }
  let limp := s.b pcrC R.PcrC.STAT_LIMP
  let s := ((s.clkOk 2 (!limp)).keeper limp).oppBoot
  (switched.foldl (fun (m : State) d => m.domPower d) s).fabStart

/-! ### The timebase in HIBERNATE (R106 to R108) -/

/-- Advance to the next AON edge. -/
def State.toAonEdge (s : State) : State :=
  s.advanceTo (cdiv ((s.tbs.el * 32768 / 1000000000 + 1) * 1000000000) 32768)

/-- `CK_TB` stops with `T0` and `A0` captured (R106). -/
def State.freeze (s : State) (t a : Nat) : State :=
  { s with tbs := { s.tbs with t0 := t, a0 := a, hib := true, stopped := true } }

/-- `CK_TB` runs again from the given time (R106); the fraction of a nanosecond that the loaded value does not carry is 0
(R107; DESIGN CHOICE, log entry 166). -/
def State.reload (s : State) (now : Nat) : State :=
  { s with tbs := { s.tbs with acc := now % 2 ^ 64 * 2 ^ 32, hib := false, stopped := false } }

/-- `T0` and `A0` are captured and `CK_TB` stops. -/
def State.capture (s : State) : State :=
  let s := s.toAonEdge
  s.freeze s.stamp s.aon

/-- The timebase is loaded at the next AON edge. -/
def State.reseed (s : State) : State :=
  if !s.tbs.hib then s else
  let s := s.toAonEdge
  let now := s.stamp
  let ivl := (s.aon + 2 ^ 48 - s.tbs.a0) % 2 ^ 48 * 15625000 / 512
  let unc := cdiv (ivl * s.g tbsC R.TbsC.AON_PPM) 1000000 + 10
  let s := s.reload now
  let s := (s.ps tbsC R.TbsC.STAT_RESEEDED 1).pTs tbsC R.TbsC.TBS_UNCERT_LO R.TbsC.TBS_UNCERT_HI unc
  (s.irq tbsC 1).ikwOffer 0x021 (srcOf 1 0) [lo32 ivl, hi32 ivl, lo32 unc, hi32 unc]

/-! ### The hibernate save list (R59, R495) -/

/-- The mask of a word of a page or table on the save list; 0: not on it. -/
def saveMask (k : Kind) (rel : Nat) : Nat :=
  let all (c : Bool) : Nat := if c then 0xFFFFFFFF else 0
  match k with
  | .fw => if rel % 16 = 0 then 0xFFFFFFFF else if rel % 16 = 4 then 0x80000000 else 0
  | .common 0x02 => if 0x100 ≤ rel && rel < 0x200 && rel % 8 == 4 then 0x7FFFFFFF
      else all (rel == 0x064 || (0x100 ≤ rel && rel < 0x200))
  | .common 0x04 => all (rel == 0x020 || rel == 0x040 || rel == 0x054 || rel == 0x060)
  | .common 0x09 => all (rel == 0x008 || rel == 0x05C)
  | .common 0x0E => all (rel == 0x040 || rel == 0x044)
  | .common 0x0F => all (rel == 0x008 || rel == 0x040)
  | .common 0x11 => all (rel == 0x040)
  | .channel 0x08 _ => all ((0x040 ≤ rel && rel ≤ 0x04C) || (0x060 ≤ rel && rel ≤ 0x094) || rel == 0x180 || rel == 0x184)
  | .channel 0x0A _ => all ((0x040 ≤ rel && rel ≤ 0x0B4) || rel == 0x0EC)
  | .channel 0x0C _ => all (rel == 0x040 || rel == 0x044)
  | .channel 0x0D _ => all (rel == 0x008 || (0x040 ≤ rel && rel ≤ 0x04C) || (0x240 ≤ rel && rel < 0x540))
  | .channel 0x0E _ => if rel = 0x00C then 0x100 else all (rel == 0x008 || (0x040 ≤ rel && rel ≤ 0x04C))
  | .channel 0x10 _ => all ((0x040 ≤ rel && rel ≤ 0x04C) || rel == 0x060 || (0x080 ≤ rel && rel < 0x090))
  | _ => 0

/-- The words of the save list that differ from their reset values. -/
def State.saveList (s : State) : List (Nat × Word) :=
  s.regs.filterMap fun x =>
    match locate x.1 with
    | none => none
    | some l =>
      let m := wd (saveMask l.kind l.rel)
      if m = 0#32 then none else some (x.1, (x.2 &&& m) ||| (resetOf x.1 &&& ~~~m))

/-- A register word lies in a domain that is ON. -/
def State.wordOn (s : State) (a : Nat) : Bool :=
  match locate a with
  | some l => s.dom (blkDomain l.block) == 1
  | none => false

/-- The save list is restored; a domain that limp clock holds in reset keeps its reset values (R498, R500). -/
def State.restore (s : State) : State :=
  s.pcr.save.foldl (fun (m : State) x => if m.wordOn x.1 then m.wr x.1 x.2 else m) s

/-- Every page lock closes on reset or wake from HIBERNATE (R74), but those of `keep`. -/
def State.locksClose (s : State) (keep : Nat → Bool) : State :=
  { s with regs := s.regs.filter fun x =>
      match locate x.1 with
      | some l => !(l.kind.isPage && l.rel == 0x020) || keep l.base
      | none => true }

/-! ### Occurrences held in sleep (R87) -/

/-- The action a block takes when its filter turns lasting (R83, R84). -/
def State.fwOwner (s : State) (f : Nat) : State :=
  if f < 0xA0 then s.ctxBar f
  else if f < 0xA8 then s.fbFault (f - 0xA0)
  else if f < 0xC8 then s.inFault 0 (f - 0xA8) 2
  else if 0xDE ≤ f && f < 0xE6 then s.portFault (f - 0xDE)
  else if f = 0xE6 || f = 0xE7 then (s.ps (bniP (f - 0xE6)) R.Bni.STAT_FAULT 1).irq (bniP (f - 0xE6)) 10
  else if f = 0xE9 || f = 0xEA then s.pairFail (f - 0xE9) 4
  else if f = 0xEF then s.irq tbsC 5
  else if f = 0xF2 then (s.ps clgC R.ClgC.STAT_FAULT 1).irq clgC 3
  else if f = 0xF3 then (s.psB ikwC R.IkwC.STAT_FAULT true).irq ikwC 6
  else s

/-- The held occurrences are applied in stamp order. -/
def State.heldApply (s : State) : State :=
  let l := s.rdm.held
  l.foldl (fun (m : State) h =>
    let t := m.fwApply h.filter h.stamp
    if becameLasting h.filter m t then t.fwOwner h.filter else t) { s with rdm := { s.rdm with held := [] } }

/-! ### Sleep (R491 to R496) -/

/-- Every core of every live or JOINING pair waits for an interrupt. -/
def State.coresWait (s : State) : Bool :=
  [0, 1].all fun p => !(s.live p || s.pst p == 2) || ((s.pair p).wfi0 && (s.pair p).wfi1)

/-- Bits of `PCR_WAKE_SRC` that may wake: enabled, and for the state named (R496). -/
def State.wakeMask (s : State) (hibernate : Bool) : Nat :=
  Nat.land (Nat.lor (s.g pcrC R.PcrC.PCR_WAKE_EN) 0x180) (if hibernate then 0x1BF else 0x0EF)

/-- `IRQ_STAT` of an SBC, CVE or CLG page holds a bit (R496). -/
def State.netIrq (s : State) : Bool :=
  s.regs.any fun x =>
    match locate x.1 with
    | some l => l.kind.isPage && l.rel == 0x010 && (l.block == 0x0D || l.block == 0x0E || l.block == 0x0F) &&
        (x.2 &&& s.rd (l.base + 0x014)) != 0#32
    | none => false

/-- A lane holds a latched cause. -/
def State.laneCause (s : State) : Bool := s.causes 0 != 0 || s.causes 1 != 0

/-- `PCR_WAKE_AT` (R496). -/
def State.wakeAt (s : State) : Nat := s.g pcrC R.PcrC.PCR_WAKE_AT_LO + 2 ^ 32 * s.g pcrC R.PcrC.PCR_WAKE_AT_HI

/-- The wake sources active now: those the state shows, and `ext` from outside. -/
def State.wakeActive (s : State) (ext : Nat) : Nat :=
  Nat.lor (Nat.land ext 0x3E) (b2n (s.aon == s.wakeAt) + 0x40 * b2n s.netIrq + 0x80 * b2n s.laneCause +
    0x100 * b2n (!s.b pcrC R.PcrC.STAT_XAON_OK))

/-- The checks of R492 in order. -/
def State.sleepCheck (s : State) (target ext : Nat) : Nat :=
  if s.pcr.power ≠ .run || s.b pcrC R.PcrC.PCR_OPP_BUSY || s.b sagC R.SagC.SAG_LOAD_STAT_BUSY then 1
  else if (List.range 6).any (fun g => !s.relNow g) then 2
  else if s.spbCarList.any (fun c => !s.atRest c || !([0, 1, 6].contains (s.gst c)) || !([0, 7].contains (s.xst c))) then 3
  else if (List.range 8).any (fun n => s.b (dmcP n) R.Hdr.CTRL_EN && !([0, 1, 3, 9].contains (s.dst n))) then 4
  else if target = 2 && !s.b pcrC R.PcrC.STAT_XAON_OK then 5
  else if s.b pcrC R.PcrC.STAT_LIMP then 6
  else if Nat.land (s.wakeActive ext) (s.wakeMask (target == 2)) ≠ 0 then 7
  else 0

/-- `RESULT` of R492; any code but `OK` raises `SLEEP_REJ`. -/
def State.sleepRes (s : State) (code : Nat) : State :=
  let s := s.p pcrC R.PcrC.PCR_SLEEP_STAT_RESULT code
  if code = 0 then s else s.irq pcrC 1

/-- A write of `TARGET` (R492). -/
def State.sleepReq (s : State) (target ext : Nat) : State :=
  if target = 0 || target = 3 then s.sleepRes 10 else
  let code := s.sleepCheck target ext
  if code ≠ 0 then s.sleepRes code else
  let s := s.sleepRes 0
  { s with pcr := { s.pcr with
    power := if target = 1 then .toStandby else .toHibernate, coresBy := s.tbs.el + 10000000, wakePend := 0 } }

/-- What both entries do: counts kept for `PFI` wake, serial reception stops, the gate closes, LP mode (R139, R304,
R493, R494). -/
def State.sleepIn (s : State) (pw : Power) : State :=
  let s := { s with pcr := { s.pcr with
    power := pw, sleepAt := s.tbs.el, attempt := 0, wakeStep := 0,
    pfiAt := (List.range 8).map fun n => (n, (s.fb n).raw) } }
  let s := (List.range 8).foldl (fun (m : State) n =>
    if m.fbSerial n then ((m.setFb n { m.fb n with noCheck := true }).ps (fbP n) R.Fb.STAT_SER_OK 0).fbValidate n else m) s
  let s := if s.safe.gate = 0 then s else s.setGate 0
  (((s.clkOk 2 false).clkOk 4 false).keeper true).rail 650 1 true

/-- STANDBY is entered (R493). -/
def State.standbyIn (s : State) : State :=
  let s := if s.dom 9 = 1 && s.b memC R.MemC.STAT_DDR_READY then s.p memC R.MemC.MEM_DDR_STAT_SREF 1 else s
  let s := (List.range 8).foldl (fun (m : State) n =>
    if m.dom 6 = 1 && (m.door n).energised then
      m.setDoor n { m.door n with energised := false, gates := [0, 0, 0, 0, 0, 0, 0, 0] } else m) s
  let s := s.sleepIn .standby
  let s := [3, 4, 5, 6, 8, 9].foldl (fun (m : State) d => if m.dom d = 1 then m.setDom d 2 else m) s
  (if s.dom 7 = 1 then s.setDom 7 3 else s).arcShow

/-- HIBERNATE is entered (R494, R495). The registers of TBS that are not on the save list keep their values with PD_AON
(R59, R113 against R495; DESIGN CHOICE, log entry 167). -/
def State.hibernateIn (s : State) : State :=
  let s := { s with pcr := { s.pcr with save := s.saveList, saved := true } }
  let s := s.capture.sleepIn .hibernate
  let s := ((s.clkOk 0 false).clkOk 1 false).clkOk 3 false
  let s := switched.foldl (fun (m : State) d => m.domLose d) s
  let s := switched.foldl (fun (m : State) d => m.setDom d 0) s
  { s.arcShow with memc := { s.memc with dbgUnlocked := false } }

/-- The wake sequence starts (R496 to R499). -/
def State.wakeStart (s : State) (bits : Nat) : State :=
  let s := s.p pcrC R.PcrC.PCR_WAKE_SRC (Nat.lor (s.g pcrC R.PcrC.PCR_WAKE_SRC) bits)
  let pw : Power := match s.pcr.power with | .standby => .wakeStandby | .hibernate => .wakeHibernate | _ => .starting
  { s with pcr := { s.pcr with power := pw, attempt := 0, wakeStep := 0, attemptAt := s.tbs.el, wakePend := 0 } }

/-- Timers of the retained domains stood still (R454, R493). -/
def State.shiftTimers (s : State) (d : Nat) : State :=
  let go (x : Pair) : Pair := { x with
    bootAt := x.bootAt + d, lastKick := x.lastKick + d, lastReport := x.lastReport + d,
    held := x.held.map fun c => { c with since := c.since + d } }
  let h := s.hoist
  let gen (g : Gen) : Gen := { g with
    startAt := g.startAt + d, settleAt := g.settleAt + d, bndAt := g.bndAt.map (· + d), okAt := g.okAt.map (· + d) }
  let at_ (x : Door) : Door := { x with
    settleAt := x.settleAt.map (· + d), revAt := x.revAt + d, chatC := x.chatC.map (· + d), chatO := x.chatO.map (· + d),
    startAt := x.startAt + d, tickAt := x.tickAt + d, calAt := x.calAt + d, pwmAt := x.pwmAt + d, ocFed := x.ocFed.map (· + d),
    ocA := x.ocA.map (· + d), ocB := x.ocB.map (· + d),
    chopA := { x.chopA with at_ := x.chopA.at_ + d }, chopB := { x.chopB with at_ := x.chopB.at_ + d },
    endC := { x.endC with cand := x.endC.cand.map fun e => (e.1 + d, e.2) },
    endO := { x.endO with cand := x.endO.cand.map fun e => (e.1 + d, e.2) } }
  { s with
    dlks := s.dlks.map fun x => (x.1, { x.2 with helloAt := x.2.helloAt + d, lostAt := x.2.lostAt.map (· + d), txAt := x.2.txAt + d })
    bnis := s.bnis.map fun x => (x.1, { x.2 with
      creditAt := x.2.creditAt + d, pauseUntil := x.2.pauseUntil + d, taken := x.2.taken.map fun e => (e.1, e.2.map (· + d)) })
    doors := s.doors.map fun x => (x.1, at_ x.2)
    memc := { s.memc with mr4At := s.memc.mr4At + d, ddrBy := s.memc.ddrBy + d, dbgLockEnd := s.memc.dbgLockEnd.map (· + d) }
    pair0 := go s.pair0, pair1 := go s.pair1,
    rdm := { s.rdm with nextSlot := s.rdm.nextSlot + d, noPairAt := s.rdm.noPairAt.map (· + d) },
    hoist := { h with base := h.base + d, gen0 := gen h.gen0, gen1 := gen h.gen1, exe0 := { h.exe0 with startAt := h.exe0.startAt + d },
                      exe1 := { h.exe1 with startAt := h.exe1.startAt + d } } }

/-- The `WAKE` record and what every completed wake does (R496 to R499). -/
def State.wakeEnd (s : State) (last bad : Nat) : State :=
  let s := { s with pcr := { s.pcr with power := .run } }
  let s := (s.p pcrC R.PcrC.PCR_SLEEP_STAT_LAST last).p pcrC R.PcrC.PCR_FAULT_WAKE_REG 0
  let s := s.heldApply
  let s := s.ikwOffer 0x004 (srcOf 0 0) [wd (last + s.g pcrC R.PcrC.PCR_WAKE_SRC * 256 + bad * 2 ^ 24)]
  s.irq pcrC 0

/-- Wake from STANDBY completes (R497). -/
def State.standbyOut (s : State) : State :=
  let limp := s.b pcrC R.PcrC.STAT_LIMP
  let s := (s.shiftTimers (s.tbs.el - s.pcr.sleepAt)).railOpp
  let s := ((s.clkOk 2 (!limp)).clkOk 4 (s.dom 9 == 2 && !limp)).keeper limp
  let s := [3, 4, 5, 6, 8, 9].foldl (fun (m : State) d => if m.dom d = 2 then m.setDom d 1 else m) s
  let s := if s.dom 7 = 3 then s.setDom 7 1 else s
  let s := s.p memC R.MemC.MEM_DDR_STAT_SREF 0
  let s := (List.range 8).foldl (fun (m : State) n =>
    if m.dom 6 = 1 && (m.door n).held && m.g (dmcP n) R.Dmc.I_HOLD ≠ 0 then m.setDoor n { m.door n with energised := true } else m) s
  let s := [0, 1].foldl (fun (m : State) n =>
    if m.dom 6 = 1 && (m.lst n = 3 || m.lst n = 4) then
      (m.setLst n 1).setDlk n { m.dlk n with misses := 0, goods := 0, decided := true, sent := false }
    else m) s
  s.arcShow.wakeEnd 1 0

/-- The blocks of PD_NET on wake from HIBERNATE (R234, R376, R423). -/
def State.netWake (s : State) : State :=
  if s.dom 7 ≠ 1 then s else
  let s := if s.b clgC R.Hdr.CTRL_EN then
      ((s.ps clgC R.ClgC.STAT_INIT 1).ps clgC R.ClgC.STAT_EMPTIED 1).ikwOffer 0x1E1 (srcOf 0xF 0) [0#32]
    else s
  let s := (List.range 8).foldl (fun (m : State) n => if m.b (sbcP n) R.Hdr.CTRL_EN then m.portIntegrate n else m) s
  let on := (List.range 160).filter fun c => s.b (ctxP c) R.Hdr.CTRL_EN
  let s := on.foldl (fun (m : State) c => (m.ctxStart c).qEvent c 4 0) s
  let s := (List.range 4).foldl (fun m k => m.tbsShow k) s
  (s.ps cveC R.CveC.STAT_WOKE 1).irq cveC 4

/-- Wake from HIBERNATE completes; `crcOk`: the CRC over the save area holds (R495, R498). -/
def State.hibernateOut (s : State) (crcOk : Bool) : State :=
  let limp := s.b pcrC R.PcrC.STAT_LIMP
  let s := (s.reseed.keeper limp).oppBoot
  let s := (((s.clkOk 0 (!limp)).clkOk 1 (!limp)).clkOk 2 (!limp)).clkOk 3 (!limp)
  let s := s.locksClose fun _ => false
  let s := switched.foldl (fun (m : State) d => m.domPower d) s
  let ok := crcOk && s.pcr.saved
  let s := if ok then s.restore.locksClose fun _ => false else s.ps pcrC R.PcrC.STAT_RESTORE_BAD 1
  let s := (s.motMirror.netWake).fabStart
  s.arcShow.wakeEnd 2 (b2n !ok)

/-! ### Limp clock (R500) -/

/-- Limp clock is entered; it lasts until power-on or `nRESET`. -/
def State.limpEntry (s : State) : State :=
  if s.b pcrC R.PcrC.STAT_LIMP then s else
  let now := s.stamp
  let s := ((s.ps pcrC R.PcrC.STAT_LIMP 1).p pcrC R.PcrC.PCR_FAULT_LIMP 1).irq pcrC 7
  let s := s.laneDone fun s => s.laneLatchAll 0 0x20
  let s := ((s.ps tbsC R.TbsC.STAT_LIMP 1).irq tbsC 4).ikwOffer 0x022 (srcOf 1 0) [lo32 now, hi32 now]
  let s := [6, 8, 9].foldl (fun (m : State) d => if m.dom d = 0 then m else (m.domClear d).setDom d 4) s
  let s := s.p pcrC R.PcrC.PCR_OPP_BUSY 0
  let s := if s.fabAsleep then s else s.railOpp
  s.keeper true

/-! ### Supply faults (R486) -/

/-- A brown-out (`uv` = 0) or an undervoltage (1) resets every switched domain. -/
def State.supplyFault (s : State) (uv : Nat) : State :=
  let run := s.tbs.hib && !s.b pcrC R.PcrC.STAT_LIMP
  let s := s.reseed
  let s := if run then ((s.clkOk 0 true).clkOk 1 true).clkOk 3 true else s
  let s := (s.inc pcrC (if uv = 0 then R.PcrC.BO_CNT else R.PcrC.UV_CNT)).rstCause (3 + uv)
  let s := (s.resetSwitched.heldApply.fwOccur 0xF1).irq pcrC 5
  let s := (s.ikwOffer 0x003 (srcOf 0 0) [wd (0x3F8 + uv * 0x10000)]).rstRecord 0x001
  if uv = 0 then s else s.laneDone fun s => s.laneLatchAll 0 0x20

/-- LP mode: STANDBY, HIBERNATE, or a wake whose regulator is not ready yet. -/
def State.inLp (s : State) : Bool := s.b pcrC R.PcrC.PCR_REGSTAT_LP

/-- `VCORE` is in force: neither off, nor held in reset, nor never ready. -/
def State.railUp (s : State) : Bool :=
  match s.pcr.power with | .off | .stuck | .held | .starting => false | _ => true

end Sys2Proof.Machine
end

