-- ==== Sys2Proof/Machine/PowerCmd.lean ====
section
/-! DEFINITION. The commands of PCR (R484 to R512), the lanes' supplies (R61) and `VDDIO_S` (R565). -/

namespace Sys2Proof.Machine

/-! ### Operating points -/

/-- A write of `PCR_OPP` (R490). -/
def State.oppWrite (s : State) (v : Word) : State :=
  if s.b pcrC R.PcrC.PCR_OPP_BUSY || s.pcr.power ≠ .run || s.b pcrC R.PcrC.STAT_LIMP then s.flt pcrC else
  let o := fget R.PcrC.PCR_OPP_OPP_REQ v
  let up := decide (oppMv (s.g pcrC R.PcrC.PCR_OPP_OPP_CUR) < oppMv o)
  let s := { s with pcr := { s.pcr with oppRaise := up, dvsPrev := s.g pcrC R.PcrC.PCR_DVS_REQ } }
  let s := (s.p pcrC R.PcrC.PCR_OPP_OPP_REQ o).p pcrC R.PcrC.PCR_OPP_BUSY 1
  let s := if s.pmode then (s.p pcrC R.PcrC.PCR_DVS_REQ (dvsCode o)).p pcrC R.PcrC.PCR_DVS_ACK 0 else s
  if up && !s.pmode then s.p pcrC R.PcrC.PCR_REGSTAT_VCORE (oppMv o) else s

/-- OPP_REQ (R490). -/
def execOppReq (ini : Ini) (v : Word) (s : State) : Host.Outcome State Fault Refusal :=
  .next (s.onWrite ini (pcrC + 0x04C) fun s => s.oppWrite v)

/-- The change succeeds (R490). -/
def State.oppDone (s : State) : State :=
  let o := s.g pcrC R.PcrC.PCR_OPP_OPP_REQ
  ((s.p pcrC R.PcrC.PCR_OPP_OPP_CUR o).rail (oppMv o) (dvsCode o) false).p pcrC R.PcrC.PCR_OPP_BUSY 0 |>.irq pcrC 2

/-- The acknowledgement of a change times out (R490): a raise is taken back, a lower keeps the lower frequency. -/
def State.oppFail (s : State) : State :=
  let o := s.g pcrC R.PcrC.PCR_OPP_OPP_REQ
  let s := if s.pcr.oppRaise then s.p pcrC R.PcrC.PCR_DVS_REQ s.pcr.dvsPrev
    else (s.p pcrC R.PcrC.PCR_OPP_OPP_CUR o).p pcrC R.PcrC.PCR_REGSTAT_VCORE (oppMv o)
  (s.p pcrC R.PcrC.PCR_OPP_BUSY 0).irq pcrC 3

/-- OPP_DONE (R490). -/
def execOppDone (ok : Bool) (s : State) : Host.Outcome State Fault Refusal :=
  .next (if !s.b pcrC R.PcrC.PCR_OPP_BUSY then s else if ok || !s.pmode then s.oppDone else s.oppFail)

/-- DVS_ACK_TIMEOUT (R488, R490): `DVS_TMO` × 100 µs after the change of `DVS_REQ`. -/
def execDvsAckTimeout (s : State) : Host.Outcome State Fault Refusal :=
  .next (
    if !s.pmode || !s.b pcrC R.PcrC.PCR_OPP_BUSY then s
    else (s.advance (s.g pcrC R.PcrC.PCR_DVS_DVS_TMO * 10000)).oppFail)

/-- DVS_ACK_LOST (R488): a brown-out in LP, an undervoltage otherwise. -/
def execDvsAckLost (s : State) : Host.Outcome State Fault Refusal :=
  .next (
    if !s.pmode || s.b pcrC R.PcrC.PCR_OPP_BUSY || !s.railUp then s
    else s.supplyFault (if s.inLp then 0 else 1))

/-! ### Sleep and wake -/

/-- CORE_WFI (R491): a core of a pair that runs enters IDLE. -/
def execCoreWfi (p c : Fin 2) (s : State) : Host.Outcome State Fault Refusal :=
  .next (
    if s.pairBlocked p.val || !s.domOn (3 + p.val) then s
    else
      let x := s.pair p.val
      s.setPair p.val (if c.val = 0 then { x with wfi0 := true } else { x with wfi1 := true }))

/-- SLEEP_STANDBY (R492). -/
def execSleepStandby (ini : Ini) (_v : Word) (active : BitVec 9) (s : State) : Host.Outcome State Fault Refusal :=
  .next (s.onWrite ini (pcrC + 0x050) fun s => s.sleepReq 1 active.toNat)

/-- SLEEP_HIBERNATE (R492). -/
def execSleepHibernate (ini : Ini) (_v : Word) (active : BitVec 9) (s : State) : Host.Outcome State Fault Refusal :=
  .next (s.onWrite ini (pcrC + 0x050) fun s => s.sleepReq 2 active.toNat)

/-- Waiting for the cores (R492). -/
def State.awaiting (s : State) : Bool := s.pcr.power == .toStandby || s.pcr.power == .toHibernate

/-- SLEEP_CORES_TIMEOUT (R492): 10 ms after the `OK`. -/
def execSleepCoresTimeout (s : State) : Host.Outcome State Fault Refusal :=
  .next (
    if !s.awaiting || s.coresWait then s
    else
      let s := s.advanceTo s.pcr.coresBy
      { s with pcr := { s.pcr with power := .run, wakePend := 0 } }.sleepRes 8)

/-- STANDBY_ENTRY (R493); a wake event that arrived meanwhile starts the wake at once (R509). -/
def execStandbyEntry (s : State) : Host.Outcome State Fault Refusal :=
  .next (
    if s.pcr.power ≠ .toStandby || !s.coresWait then s
    else
      let pend := s.pcr.wakePend
      let s := s.standbyIn
      if pend = 0 then s else s.wakeStart pend)

/-- HIBERNATE_ENTRY (R494): a wake event before the save abandons it with `WOKE`. -/
def execHibernateEntry (s : State) : Host.Outcome State Fault Refusal :=
  .next (
    if s.pcr.power ≠ .toHibernate || !s.coresWait then s
    else if s.pcr.wakePend ≠ 0 then { s with pcr := { s.pcr with power := .run, wakePend := 0 } }.sleepRes 9
    else s.hibernateIn)

/-- What the state itself shows of a wake source (R496); the rest is the outside's. -/
def State.wakeHolds (s : State) (src ch : Nat) : Bool :=
  match src with
  | 0 => s.aon == s.wakeAt
  | 3 =>
    bitOf (s.g pcrC R.PcrC.PCR_WAKE_PFI_CH) ch &&
      decide (s.g pcrC R.PcrC.PCR_WAKE_PFI_WCNT ≤ ((s.fb ch).raw - (Tab.get (fun _ => 0) s.pcr.pfiAt ch)).natAbs)
  | 4 => bitOf (s.g pcrC R.PcrC.PCR_WAKE_BUS) ch
  | 6 => s.netIrq
  | 7 => s.laneCause
  | 8 => !s.b pcrC R.PcrC.STAT_XAON_OK
  | _ => true

/-- The real time at which the AON counter reaches `PCR_WAKE_AT`. -/
def State.wakeDue (s : State) : Nat := cdiv (s.wakeAt * 1000000000) 32768

/-- A wake event (R496): it starts the wake, is latched while an entry waits for the cores, or restarts a start that
failed (R499). -/
def State.wakeEvent (s : State) (src ch : Nat) : State :=
  let go (s : State) (hib : Bool) (k : State → State) : State :=
    if !bitOf (s.wakeMask hib) src then s else
    let t := if src = 0 then s.advanceTo s.wakeDue else s
    if t.wakeHolds src ch then k t else s
  let latch (t : State) : State := { t with pcr := { t.pcr with wakePend := Nat.lor t.pcr.wakePend (2 ^ src) } }
  match s.pcr.power with
  | .standby => go s false fun t => t.wakeStart (2 ^ src)
  | .hibernate => go s true fun t => t.wakeStart (2 ^ src)
  | .stuck => go s true fun t => t.wakeStart (2 ^ src)
  | .toStandby => go s false latch
  | .toHibernate => go s true latch
  | _ => s

/-- WAKE_EVENT (R496). -/
def execWakeEvent (src : Fin 9) (ch : Fin 8) (s : State) : Host.Outcome State Fault Refusal :=
  .next (s.wakeEvent src.val ch.val)

/-- The state a sequence falls back to when the regulator is never ready (R499). -/
def Power.back : Power → Power
  | .wakeStandby => .standby | .wakeHibernate => .hibernate | .starting => .stuck | p => p

/-- The `WAKE_FAIL` record (R499): 1 regulator, 2 oscillator; three retries. -/
def State.wakeFailed (s : State) (what : Nat) : State :=
  (s.irq pcrC 8).ikwOffer 0x005 (srcOf 0 0) [wd (what + 3 * 256)]

/-- The regulator is never ready: the device stays as it was (R499). -/
def State.regNever (s : State) : State :=
  let s := s.p pcrC R.PcrC.PCR_FAULT_WAKE_REG 1
  { s with pcr := { s.pcr with power := s.pcr.power.back, attempt := 0 } }.wakeFailed 1

/-- The first start completes: step 6 of R506, then the rest, with the `POWER_ON` record. -/
def State.firstStart (s : State) : State := s.lifeLoad.startUp.rstRecord 0x000

/-- A start that failed before completes (R499). -/
def State.startEnd (s : State) : State := s.firstStart.p pcrC R.PcrC.PCR_FAULT_WAKE_REG 0

/-- The regulator is ready, in normal mode, and the oscillator step begins: from STANDBY at the voltage of `OPP_CUR`,
else at 0.75 V (R497 to R499). -/
def State.regReady (s : State) : State :=
  let s := if s.pcr.power == .wakeStandby then s.railOpp else s.rail 750 4 false
  { s with pcr := { s.pcr with wakeStep := 1, attempt := 0, attemptAt := s.tbs.el } }

/-- WAKE_ATTEMPT_TIMEOUT (R499): 2 ms for the regulator, with 1 ms in LP between attempts; 10 ms for the oscillator. -/
def execWakeAttemptTimeout (osc : Bool) (s : State) : Host.Outcome State Fault Refusal :=
  .next (
    match s.pcr.power with
    | .wakeStandby | .wakeHibernate | .starting =>
      if osc then
        if s.b pcrC R.PcrC.STAT_LIMP then s else
        let s := if s.pcr.wakeStep = 1 then s else s.regReady
        let s := (s.advanceTo (s.pcr.attemptAt + 10000000)).inc pcrC R.PcrC.WAKE_FAIL_CNT
        let n := s.pcr.attempt + 1
        let s := { s with pcr := { s.pcr with attempt := n, attemptAt := s.tbs.el } }
        if n < 4 then s
        else if s.pcr.power == .starting then s.startEnd.limpEntry.wakeFailed 2
        else s.limpEntry.wakeFailed 2
      else if s.pcr.wakeStep = 1 then s
      else
        let s := (s.advanceTo (s.pcr.attemptAt + 2000000)).inc pcrC R.PcrC.WAKE_FAIL_CNT
        let s := s.p pcrC R.PcrC.PCR_REGSTAT_RDY 0
        let n := s.pcr.attempt + 1
        let s := { s with pcr := { s.pcr with attempt := n, attemptAt := s.tbs.el + 1000000 } }
        if n < 4 then s else s.regNever
    | _ => s)

/-- WAKE_COMPLETE (R497, R498); for a start that failed before, the start itself. -/
def execWakeComplete (crcOk : Bool) (s : State) : Host.Outcome State Fault Refusal :=
  .next (
    match s.pcr.power with
    | .wakeStandby => s.standbyOut
    | .wakeHibernate => s.hibernateOut crcOk
    | .starting => s.startEnd
    | _ => s)

/-! ### Supply and clock faults -/

/-- BROWN_OUT (R486): in LP mode. -/
def execBrownOut (s : State) : Host.Outcome State Fault Refusal :=
  .next (if s.railUp && s.inLp then s.supplyFault 0 else s)

/-- UNDERVOLTAGE (R486). -/
def execUndervoltage (s : State) : Host.Outcome State Fault Refusal :=
  .next (if s.railUp && !s.inLp then s.supplyFault 1 else s)

/-- Whether a monitored clock runs in the present power state (R53): `PLL_APX` and `PLL_DDR` stop in STANDBY, `XIN`
and every PLL in HIBERNATE, and they start again in the wake (R509). A lock that is lost is lost once. -/
def State.monitored (s : State) (mon : Nat) : Bool :=
  s.railUp && !s.b pcrC R.PcrC.STAT_LIMP &&
  (match s.pcr.power with
   | .hibernate => false
   | .wakeHibernate => decide (mon < 3)
   | .standby | .wakeStandby => mon != 2 && mon != 4
   | _ => mon != 4 || s.dom 9 == 1) &&
  (mon != 3 || bitOf (s.g pcrC R.PcrC.PCR_CLKMON) 3)

/-- CLOCK_FAIL (R501). -/
def execClockFail (mon : Fin 5) (s : State) : Host.Outcome State Fault Refusal :=
  .next (
    if !s.monitored mon.val then s else
    let s := (s.clkDetect).clkOk mon.val false
    match mon.val with
    | 3 => s
    | 4 => (s.domLose 9).setDom 9 4
    | _ => s.limpEntry)

/-- XAON_FAIL (R501): in HIBERNATE the failure is wake source `CLK`. -/
def execXaonFail (s : State) : Host.Outcome State Fault Refusal :=
  .next (
    if !s.b pcrC R.PcrC.STAT_XAON_OK then s else
    let s := ((s.clkDetect).clkOk 5 false).clkOk 6 false
    let s := (s.ps pcrC R.PcrC.STAT_XAON_OK 0).irq pcrC 10
    match s.pcr.power with
    | .hibernate | .toHibernate => s.wakeEvent 8 0
    | _ => s)

/-- XAON_RECOVER (R501): 1,024 good periods. -/
def execXaonRecover (s : State) : Host.Outcome State Fault Refusal :=
  .next (
    match s.pcr.power with
    | .off => s
    | _ =>
      if s.b pcrC R.PcrC.STAT_XAON_OK then s
      else (((s.advance 3125000).ps pcrC R.PcrC.STAT_XAON_OK 1).clkOk 5 true).clkOk 6 true)

/-! ### Reset -/

/-- The words that `nRESET` leaves (R470, R502): `PCR_RST_CAUSE`, the head of the ring, the suppression state. -/
def nresetKeeps (a : Nat) : Bool :=
  a == pcrC + 0x048 || a == ikwC + 0x048 ||
    match locate a with
    | some l => l.kind == .ikwSup
    | none => false

/-- The codes with a pending suppression keep `PENDING`. -/
def State.pendingAgain (s : State) (codes : List Nat) : State :=
  codes.foldl (fun (m : State) c => if m.g (ikwSupP c) R.IkwSup.PEND = 0 then m else m.p (ikwCodeP c) R.IkwCode.PENDING 1) s

/-- What `nRESET` clears beside the domains' own state (R502, R503). -/
def State.nresetClear (s : State) : State :=
  { s with
    regs := s.regs.filter fun x => nresetKeeps x.1
    latches := [], fbs := [], pos := [], pulses := [], pends := [], safe := {}, nets := [], rdm := {}
    tbs := { s.tbs with slew := 0, ofs := [] }
    ikw := { s.ikw with refill := [], scanned := s.ikw.scanned && !s.b ikwC R.IkwC.STAT_SCAN }
    memc := { s.memc with dbgUnlocked := false }
    pcr := { s.pcr with power := .held, wakePend := 0, saved := false, save := [], resetAt := s.tbs.el,
                        resetHigh := false, resetIgnored := false } }

/-- `nRESET` takes effect (R502, R503): every domain is held in reset; the timebase, the AON counter, the life counters,
IKW staging and `PCR_RST_CAUSE` stand. -/
def State.nreset (s : State) : State :=
  let s := s.reseed
  let on := [1, 2].filter s.domOn
  let codes := s.ikwPending
  let t := ([3, 4, 5, 6, 7, 8, 9].foldl (fun (m : State) d => m.domClear d) s).nresetClear
  let t := ((t.pendingAgain codes).ikwShow).arcShow
  let t := (on ++ [3, 4, 5]).foldl (fun (m : State) d => m.p (pcrP d) R.Pcr.STAT_DSTATE 4) t
  (t.p (pcrP 0) R.Pcr.STAT_DSTATE 1).rstCause 1

/-- NRESET_ASSERT (R503, R504): while the pin is ignored a low level counts only after 100 ms high. -/
def execNresetAssert (s : State) : Host.Outcome State Fault Refusal :=
  .next (
    match s.pcr.power with
    | .off | .held => s
    | _ =>
      if s.pcr.resetIgnored && !(s.pcr.resetHigh && decide (s.pcr.resetAt + 100000000 ≤ s.tbs.el)) then
        { s with pcr := { s.pcr with resetHigh := false, resetAt := s.tbs.el } }
      else s.nreset)

/-- The boot after `nRESET` (R503): from step 4 of R506, the life counters standing. -/
def State.bootAgain (s : State) : State :=
  let s := [1, 2].foldl (fun (m : State) d => if m.dom d = 4 then m.setDom d 1 else m) s
  let s := [3, 4, 5].foldl (fun (m : State) d => m.p (pcrP d) R.Pcr.STAT_DSTATE 0) s
  s.startUp.rstRecord 0x001

/-- NRESET_RELEASE (R503). -/
def execNresetRelease (s : State) : Host.Outcome State Fault Refusal :=
  .next (
    match s.pcr.power with
    | .held => { s with pcr := { s.pcr with resetHigh := true, resetAt := s.tbs.el } }.bootAgain
    | .off => s
    | _ =>
      if s.pcr.resetIgnored && !s.pcr.resetHigh then
        { s with pcr := { s.pcr with resetHigh := true, resetAt := s.tbs.el } }
      else s)

/-- `RST_STUCK_S` (R504, R522): 0 means 30. -/
def State.stuckS (s : State) : Nat := let n := s.otpWord 0x184 / 256 % 256; if n = 0 then 30 else n

/-- RESET_STUCK (R504): the pin has been low for longer than `RST_STUCK_S`. -/
def execResetStuck (s : State) : Host.Outcome State Fault Refusal :=
  .next (
    if s.pcr.power ≠ .held || !bitOf (s.otpWord 0x184) 1 then s else
    let low := s.pcr.resetAt
    let s := s.advanceTo (low + s.stuckS * 1000000000)
    let ms := (s.tbs.el - low) / 1000000
    let s := s.bootAgain
    let s := { s with pcr := { s.pcr with resetIgnored := true, resetHigh := false } }
    let s := ((s.rstCause 2).p pcrC R.PcrC.PCR_FAULT_STUCK 1).wr (pcrC + 0x098) (wd ms)
    (s.irq pcrC 9).ikwOffer 0x002 (srcOf 0 0) [wd ms])

/-! ### Power -/

/-- What keeps its contents without power: MRAM, OTP, flash (R516, R521, R522). -/
def nonVolatile (a : Nat) : Bool :=
  (0x04000000 ≤ a && a < 0x04200000) || (otpBase ≤ a && a < otpBase + 0x800) || (0x60000000 ≤ a && a < 0x80000000)

/-- Power-on reset is in force (R502, R559): every register at its reset value; the volatile memories lose their
contents. -/
def State.porState (s : State) : State :=
  { State.reset with
    lh6161 := s.lh6161, mem := s.mem.filter fun c => nonVolatile c.1,
    memc := { bad := s.memc.bad.filter fun e => nonVolatile e.1, jtagForce := s.memc.jtagForce, jtagIr := s.memc.jtagIr,
              jtagOut := s.memc.jtagOut }
    fresh := s.fresh, pending := s.pending }

/-- Failed attempts of a readiness step at start (R499). -/
def State.fails (s : State) (n : Nat) : State := if n = 0 then s else s.inc pcrC R.PcrC.WAKE_FAIL_CNT n

/-- POWER_ON (R506): the start-up sequence; readiness follows R499. -/
def execPowerOn (pmode vsage : Bool) (regFails oscFails : Fin 5) (s : State) : Host.Outcome State Fault Refusal :=
  .next (
    if s.pcr.power ≠ .off then s else
    let s := { s.porState with pmode := pmode }
    let s := ((s.setDom 0 1).setDom 2 1).setDom 1 (if vsage then 1 else 0)
    let s := (s.advance (300000 * regFails.val)).fails regFails.val
    if regFails.val = 4 then { s with pcr := { s.pcr with power := .starting } }.regNever else
    let s := (s.advance (1000000 * oscFails.val)).fails oscFails.val
    let s := { s with pcr := { s.pcr with lastCkpt := s.tbs.el } }.firstStart
    if oscFails.val = 4 then s.limpEntry.wakeFailed 2 else s)

/-- POWER_LOSS (R559). -/
def execPowerLoss (s : State) : Host.Outcome State Fault Refusal := .next s.porState

/-- The life counters run: `VIN_MAIN` present and a start made (R507, R508). -/
def State.lifeRuns (s : State) : Bool :=
  match s.pcr.power with | .off | .stuck | .starting => false | _ => true

/-- LIFE_CHECKPOINT (R507): 60 s after the last. -/
def execLifeCheckpoint (s : State) : Host.Outcome State Fault Refusal :=
  .next (if !s.lifeRuns then s else (s.advanceTo (s.pcr.lastCkpt + 60000000000)).checkpoint)

/-- PWR_FAIL (R508). -/
def execPwrFail (s : State) : Host.Outcome State Fault Refusal :=
  .next (
    if !s.lifeRuns || s.b pcrC R.PcrC.PCR_PFW_PFW || s.g pcrC R.PcrC.PCR_PFW_PFW_LEVEL = 0 then s else
    let s := s.checkpoint.p pcrC R.PcrC.PCR_PFW_PFW 1
    let s := s.psB ikwC R.IkwC.STAT_PFW true
    (s.ikwOffer 0x006 (srcOf 0 0) []).irq pcrC 4)

/-- PWR_FAIL_CLEAR (R508). -/
def execPwrFailClear (s : State) : Host.Outcome State Fault Refusal :=
  .next (
    if !s.b pcrC R.PcrC.PCR_PFW_PFW then s
    else (s.p pcrC R.PcrC.PCR_PFW_PFW 0).psB ikwC R.IkwC.STAT_PFW false)

/-- A block of a domain has `CTRL.EN` = 1 (R512). -/
def State.domBusy (s : State) (d : Nat) : Bool :=
  s.regs.any fun x =>
    match locate x.1 with
    | some l => l.kind.isPage && l.rel == 0x008 && blkDomain l.block == d && fget R.Hdr.CTRL_EN x.2 == 1
    | none => false

/-- A write of `CTRL` of a domain's page (R512). -/
def State.domWrite (s : State) (ini : Ini) (d : Nat) (v : Word) : State :=
  let en := fget R.Hdr.CTRL_EN v == 1
  let was := s.b (pcrP d) R.Hdr.CTRL_EN
  if d < 3 || d = 5 || en = was then s
  else if en then
    let s := (s.p (pcrP d) R.Hdr.CTRL_EN 1).domPower d
    if (d = 3 || d = 4) && s.dom d = 1 && s.pst (d - 3) = 0 then s.pairBoot (d - 3) (s.bootPref (d - 3)) else s
  else if d = 3 || d = 4 then
    match ini with
    | .pair p =>
      if s.pst p.val = 4 && p.val ≠ d - 3 then
        (((s.p (pcrP d) R.Hdr.CTRL_EN 0).pairFail (d - 3) 1).domLose d).setDom d 0
      else s.flt (pcrP d)
    | _ => s.flt (pcrP d)
  else if s.domBusy d then s.flt (pcrP d)
  else
    let s := ((s.p (pcrP d) R.Hdr.CTRL_EN 0).domLose d).setDom d 0
    if d = 9 then s.clkOk 4 false else s

/-- DOMAIN_ENABLE (R512). -/
def execDomainEnable (ini : Ini) (d : Fin 10) (v : Word) (s : State) : Host.Outcome State Fault Refusal :=
  .next (s.onWrite ini (pcrP d.val + 0x008) fun s => s.domWrite ini d.val v)

/-! ### The lanes' supplies -/

/-- The switches of a lane open. -/
def State.openLane (s : State) (l : Nat) : State := (List.range 12).foldl (fun (m : State) o => m.setSwitch l o false) s

/-- LANE_SUPPLY_LOSS (R61). -/
def execLaneSupplyLoss (sage : Bool) (s : State) : Host.Outcome State Fault Refusal :=
  .next (
    let l := b2n sage
    if !s.laneUp l then s else s.laneDone fun s => (s.openLane l).setDom (if sage then 1 else 2) 0)

/-- VDDIO_S_LOW (R565). -/
def execVddioSLow (s : State) : Host.Outcome State Fault Refusal :=
  .next (
    if s.safe.vddLow || !(s.laneUp 0 || s.laneUp 1) then s
    else s.laneDone fun s => { (s.openLane 0).openLane 1 with safe := { ((s.openLane 0).openLane 1).safe with vddLow := true } })

/-- VDDIO_S_RECOVER (R565). -/
def execVddioSRecover (s : State) : Host.Outcome State Fault Refusal :=
  .next (if s.safe.vddLow then { s with safe := { s.safe with vddLow := false } } else s)

end Sys2Proof.Machine
end

