-- ==== Sys2Proof/Machine/MemCmd.lean ====
section
/-! DEFINITION. MEM: error correction, scrubbing, LPDDR4X, xSPI, OTP, anti-rollback, attestation, debug and JTAG (R513
to R534). -/

namespace Sys2Proof.Machine

/-! ### Error correction (R514, R515, R518, R520) -/

/-- The grade of an error stored in the word at `a` (a multiple of 8). -/
def State.eccAt (s : State) (a : Nat) : Nat := Tab.get (fun _ => 0) s.memc.bad a
def State.setEcc (s : State) (a k : Nat) : State :=
  { s with memc := { s.memc with bad := Tab.set (fun _ => 0) s.memc.bad a k } }

/-- What a region does with errors: the filter of a correctable one, both counters and the event of an uncorrectable
one. -/
inductive EccKind where
  | sram | mram | ddr
deriving DecidableEq, Repr

/-- Its filter, its counters and its event (R515, R518, R520, R533). -/
def eccFilter : EccKind → Nat | .sram => 0xEB | .mram => 0xEC | .ddr => 0xED
def eccCeFld : EccKind → Fld | .sram => R.MemC.SRAM_CE | .mram => R.MemC.MRAM_CE | .ddr => R.MemC.DDR_CE
def eccUeFld : EccKind → Fld | .sram => R.MemC.SRAM_UE | .mram => R.MemC.MRAM_UE | .ddr => R.MemC.DDR_UE
def eccBit : EccKind → Nat | .sram => 0 | .mram => 1 | .ddr => 2

/-- A correctable error at word `a`: written back, counted, fed to its filter. -/
def State.eccCe (s : State) (k : EccKind) (a : Nat) : State := ((s.setEcc a 0).inc memC (eccCeFld k)).fwOccur (eccFilter k)

/-- An uncorrectable error at word `a`: counted, its address written, the event raised; in pair-local SRAM the pair
fails with `ECC`, in SLP memory the lanes latch `SELFTEST`. -/
def State.eccUe (s : State) (k : EccKind) (a : Nat) : State :=
  let s := (((s.setEcc a 2).inc memC (eccUeFld k)).wr (memC + 0x04C) (wd a)).irq memC (eccBit k)
  if 0x10000000 ≤ a && a < 0x10400000 then s.pairFail 0 2
  else if 0x10400000 ≤ a && a < 0x10800000 then s.pairFail 1 2
  else if 0x11600000 ≤ a && a < 0x11700000 then s.laneDone fun s => s.laneLatchAll 0 0x20
  else s

/-- Words touched by `n` bytes from `a`. -/
def eccWords (a n : Nat) : List Nat := (List.range ((a + n + 7) / 8 - a / 8)).map fun i => (a / 8 + i) * 8

/-- One word of a read: whether it fails, and the state after (R514). -/
def State.eccWord (s : State) (k : EccKind) (a found : Nat) : Bool × State :=
  match max (s.eccAt a) found with
  | 0 => (false, s)
  | 1 => (false, s.eccCe k a)
  | _ => (true, s.eccUe k a)

/-- A read of words with `found` seen in the first: whether a word of it fails, and the state after (R514). -/
def State.eccRead (s : State) (k : EccKind) : List Nat → Nat → Bool × State
  | [], _ => (false, s)
  | a :: ws, found =>
    let r := s.eccWord k a found
    let t := State.eccRead r.2 k ws 0
    (r.1 || t.1, t.2)

/-- The words of an access that it writes only in part: they are read first (R514). -/
def partialWords (a n : Nat) : List Nat := (eccWords a n).filter fun w => decide (w < a) || decide (a + n < w + 8)

/-- The domain of a byte of SRAM (R513). -/
def sramDomain (a : Nat) : Nat :=
  if a < 0x10400000 then 3 else if a < 0x10800000 then 4 else if a < 0x11600000 then 5
  else if a < 0x11700000 then 2 else if a < 0x11780000 then 7 else 5

/-- The next word of the scrubber: SLP memory is left out (R515). -/
def scrubNext (a : Nat) : Nat :=
  let b := a + 8
  if b = 0x11600000 then 0x11700000 else if 0x11800000 ≤ b then 0x10000000 else b

/-- SCRUB_READ (R515): one word every `SCRUB_DIV` clocks; 0 stops the scrubber. -/
def execScrubRead (ecc : Fin 3) (s : State) : Host.Outcome State Fault Refusal :=
  .next (
    let d := s.g memC R.MemC.MEM_ECC_CFG_SCRUB_DIV
    if d = 0 || !s.domOn 5 then s else
    let a := s.memc.scrub
    let s := s.advance (cdiv d 6)
    let s := { s with memc := { s.memc with scrub := scrubNext a } }
    if !s.domOn (sramDomain a) then s else (s.eccRead .sram [a] ecc.val).2)

/-! ### LPDDR4X (R519, R520) -/

/-- A write of `MEM_DDR_CFG`: `ECC` may change only while `READY` = 0 (R520, R574); `INIT` is no RWL field, so it starts
initialisation whatever the lock (R71), and reads 0. -/
def State.ddrWrite (s : State) (v : Word) : State :=
  if s.b memC R.MemC.STAT_DDR_READY && fget R.MemC.MEM_DDR_CFG_ECC v ≠ s.g memC R.MemC.MEM_DDR_CFG_ECC then s.flt memC else
  let s1 := (s.land (memC + 0x054) v).p memC R.MemC.MEM_DDR_CFG_INIT 0
  if fget R.MemC.MEM_DDR_CFG_INIT v = 0 || !s1.domOn 9 then s1
  else
    let s2 := (s1.psB memC R.MemC.STAT_DDR_READY false).p memC R.MemC.MEM_DDR_STAT_TRAIN_FAIL 0
    { s2 with memc := { s2.memc with ddrInit := true, ddrBy := s2.tbs.el + 25000000 } }

/-- DDR_INIT (R519). -/
def execDdrInit (ini : Ini) (v : Word) (s : State) : Host.Outcome State Fault Refusal :=
  .next (s.onWrite ini (memC + 0x054) fun s => s.ddrWrite (v ||| 0x100#32))

/-- Fitted size in MiB (R519, R533): two dies a rank, each of the density; an eighth holds check bits (R520). -/
def State.ddrMiB (s : State) : Nat × State :=
  let ranks := s.g memC R.MemC.MEM_DDR_CFG_RANKS
  let den := s.g memC R.MemC.MEM_DDR_CFG_DENSITY
  if (ranks = 1 || ranks = 2) && den < 4 then
    let n := 512 * 2 ^ den * ranks
    (if s.b memC R.MemC.MEM_DDR_CFG_ECC then n * 7 / 8 else n, s)
  else (s.free % 8193, s.drew)

/-- DDR_READY (R519): `READY` sets within 25 ms of `INIT`, or `TRAIN_FAIL` sets. -/
def execDdrReady (ok : Bool) (s : State) : Host.Outcome State Fault Refusal :=
  .next (
    if !s.memc.ddrInit || s.dom 9 ≠ 1 || !s.domOn 5 then s else
    let by_ := s.memc.ddrBy
    let s := { s with memc := { s.memc with ddrInit := false, mr4At := s.tbs.el + 16000000 } }
    if ok && decide (s.tbs.el ≤ by_) then
      let (n, s) := s.ddrMiB
      ((s.wr (memC + 0x05C) (wd n)).psB memC R.MemC.STAT_DDR_READY true).irq memC 3
    else (s.p memC R.MemC.MEM_DDR_STAT_TRAIN_FAIL 1).irq memC 3)

/-- DDR_MR4_POLL (R519): every 16 ms. -/
def execDdrMr4Poll (rate : Fin 8) (s : State) : Host.Outcome State Fault Refusal :=
  .next (
    if !s.b memC R.MemC.STAT_DDR_READY || s.dom 9 ≠ 1 then s else
    let s := s.advanceTo s.memc.mr4At
    { s with memc := { s.memc with mr4At := max s.memc.mr4At s.tbs.el + 16000000, ddrDerate := rate.val } })

/-! ### xSPI (R521) -/

/-- A write of `MEM_XSPI_CMD` that starts a command: only by the duty pair, and not while one runs. -/
def State.xspiWrite (s : State) (ini : Ini) (v : Word) : State :=
  let op := fget R.MemC.MEM_XSPI_CMD_OP v
  let fromPair := match ini with | .pair _ => true | _ => false
  if op = 0 || op = 3 then s.land (memC + 0x064) v
  else if !fromPair || s.b memC R.MemC.STAT_XSPI_BUSY then s.flt memC
  else
    let s := s.land (memC + 0x064) v
    let words := (List.range 64).map fun i => s.rd (memC + 0x500 + 4 * i)
    let data := (wordsBytes words).take (fget R.MemC.MEM_XSPI_CMD_LEN v)
    let a := (s.rd (memC + 0x068)).toNat % 0x20000000
    ({ s with memc := { s.memc with xspi := some ⟨op, a, data⟩ } }.psB memC R.MemC.STAT_XSPI_BUSY true).arcShow

/-- XSPI_ERASE (R521). -/
def execXspiErase (ini : Ini) (v : Word) (s : State) : Host.Outcome State Fault Refusal :=
  .next (s.onWrite ini (memC + 0x064) fun s => s.xspiWrite ini (fput R.MemC.MEM_XSPI_CMD_OP v 1))

/-- XSPI_PROGRAM (R521). -/
def execXspiProgram (ini : Ini) (v : Word) (s : State) : Host.Outcome State Fault Refusal :=
  .next (s.onWrite ini (memC + 0x064) fun s => s.xspiWrite ini (fput R.MemC.MEM_XSPI_CMD_OP v 2))

/-- The bytes a command leaves in flash, with their offset: an erased sector reads 0xFF, a program clears bits; after a
failure they are free. -/
def State.xspiBytes (s : State) (c : XspiCmd) (ok : Bool) : Nat × List Nat :=
  let a := if c.op = 1 then c.addr / 4096 * 4096 else c.addr
  let n := if c.op = 1 then 4096 else c.data.length
  if !ok then (a, (List.range n).map fun i => Config.freeNat (s.fresh + i) % 256)
  else if c.op = 1 then (a, List.replicate n 255)
  else (a, (List.range n).map fun i => Nat.land (s.byte (flash + a + i)) (c.data.getD i 0))

/-- XSPI_DONE (R521). -/
def execXspiDone (ok : Bool) (s : State) : Host.Outcome State Fault Refusal :=
  .next (
    match s.memc.xspi with
    | none => s
    | some c =>
      if !s.domOn 5 then s else
      let (a, bs) := s.xspiBytes c ok
      let s := (s.mput (flash + a) bs).drew (if ok then 0 else bs.length)
      let s := ({ s with memc := { s.memc with xspi := none } }.psB memC R.MemC.STAT_XSPI_BUSY false).arcShow
      let s := if ok then s else (s.inc memC R.MemC.XSPI_ERR).fwOccur 0xEE
      s.irq memC 4)

/-! ### OTP and anti-rollback (R522 to R525) -/

/-- A field program that MEM refuses (R523). -/
def State.otpRefused (s : State) (a d : Nat) : Bool :=
  (0x190 ≤ a && a < 0x1B8) || 0x300 ≤ a || (0x200 ≤ a && a < 0x300) ||
    Nat.land (s.otpWord a) d != s.otpWord a

/-- A write of `MEM_OTP_DATA` (R523). -/
def State.otpWrite (s : State) (v : Word) : State :=
  if s.memc.otp.isSome then s.flt memC else
  let s := s.wr (memC + 0x090) v
  let a := s.g memC R.MemC.MEM_OTP_ADDR / 4 * 4
  if s.otpRefused a v.toNat then s.p memC R.MemC.MEM_OTP_STAT_RESULT 1
  else { s with memc := { s.memc with otp := some (a, v.toNat) } }

/-- OTP_PROGRAM (R523). -/
def execOtpProgram (ini : Ini) (v : Word) (s : State) : Host.Outcome State Fault Refusal :=
  .next (s.onWrite ini (memC + 0x090) fun s => s.otpWrite v)

/-- OTP_DONE (R523): a word that fails its read-back holds a free part of the bits asked for. -/
def execOtpDone (ok : Bool) (s : State) : Host.Outcome State Fault Refusal :=
  .next (
    match s.memc.otp with
    | none => s
    | some (a, d) =>
      if !s.domOn 5 then s else
      let got := if ok then d else Nat.lor (s.otpWord a) (Nat.land d s.freeW.toNat)
      let t := (s.mput (otpBase + a) (bytesLE 4 got)).drew (b2n !ok)
      let t := { t with memc := { t.memc with otp := none } }
      (((t.p memC R.MemC.MEM_OTP_STAT_RESULT (if ok then 0 else 2)).memShow s)).irq memC 7)

/-- The answer to an advance (R525): 0 `OK`, 1 `LOWER`, 2 `IN_USE`, 3 `EXHAUSTED`. -/
def State.arbCheck (s : State) (n : Nat) : Nat :=
  if n ≤ s.arbCounter then 1
  else if [0, 1].any (fun p => s.live p && decide ((s.pair p).version < n)) then 2
  else if 32 ≤ s.arbUsed then 3
  else 0

/-- A write of `MEM_ARB_NEW_HI` (R525). -/
def State.arbWrite (s : State) (v : Word) : State :=
  let s := s.wr (memC + 0x084) v
  let n := (s.rd (memC + 0x080)).toNat + 2 ^ 32 * v.toNat
  let r := s.arbCheck n
  let s := if r = 0 then s.mput (otpBase + 0x200 + 8 * s.arbUsed) (bytesLE 8 n) else s
  (s.p memC R.MemC.MEM_ARB_STAT_RESULT r).irq memC 6

/-- ARB_ADVANCE (R525). -/
def execArbAdvance (ini : Ini) (v : Word) (s : State) : Host.Outcome State Fault Refusal :=
  .next (s.onWrite ini (memC + 0x084) fun s => s.arbWrite v)

/-- A write of `MEM_BOOT_SEL` (R527): the copy not in force is written with `SEQ` + 1. -/
def State.bootSelWrite (s : State) (v : Word) : State :=
  let s := s.land (memC + 0x070) v
  let sel := s.g memC R.MemC.MEM_BOOT_SEL
  let (n, seq) := match s.bootRecNo with
    | some k => (1 - k, s.mget (bootRec k) 4 + 1)
    | none => (0, 1)
  let b := bytesLE 4 seq ++ [sel % 2, sel / 2] ++ List.replicate 54 0
  s.mputEcc (bootRec n) (b ++ bytesLE 4 (crc32c b).toNat)

/-- MEM_BOOT_SEL (R527). -/
def execMemBootSel (ini : Ini) (v : Word) (s : State) : Host.Outcome State Fault Refusal :=
  .next (s.onWrite ini (memC + 0x070) fun s => s.bootSelWrite v)

/-! ### Attestation (R529) -/

/-- A write of `MEM_ATT_CTRL`. -/
def State.attWrite (s : State) (v : Word) : State :=
  if fget R.MemC.MEM_ATT_CTRL_REQ v = 0 then s
  else if s.b memC R.MemC.STAT_ATT_BUSY then s.flt memC
  else
    let nonce := (List.range 8).map fun i => s.rd (memC + 0x0A0 + 4 * i)
    { s with memc := { s.memc with attNonce := nonce, attAt := s.stamp } }.psB memC R.MemC.STAT_ATT_BUSY true

/-- ATT_REQ (R529). -/
def execAttReq (ini : Ini) (v : Word) (s : State) : Host.Outcome State Fault Refusal :=
  .next (s.onWrite ini (memC + 0x0C0) fun s => s.attWrite (v ||| 1#32))

/-- A pair's image hash; zeros if it never booted. -/
def State.hashOf (s : State) (p : Nat) : List Word :=
  ((s.pair p).hash ++ List.replicate 16 0#32).take 16

/-- Bytes 0x000 to 0x0FF of the report, as words (R529). -/
def State.attReport (s : State) : List Word :=
  let flags := b2n s.memc.dbgUnlocked + 2 * s.g apxC R.ApxC.STAT_SIMPLEX + 4 * s.g pcrC R.PcrC.STAT_LIMP +
    8 * s.g sagC R.SagC.SAG_COMM_SIG_OK
  let slots := (s.pair0.slot + 2 * s.pair1.slot) + 16 * b2n (s.live 0) + 32 * b2n (s.live 1)
  let comm := (s.rd (sagC + R.SagC.SAG_COMM_STATE_U.off)).toNat % 16
  [0x5454414C#32, wd (1 + flags * 65536), wd (s.otpWord 0x1B0), wd (s.otpWord 0x1B4), s.look (pcrC + 0x040),
   wd s.pcr.pcycle, lo32 s.optime, hi32 (s.optime % 2 ^ 48), lo32 s.memc.attAt, hi32 s.memc.attAt,
   wd (s.lifecycle + 256 * slots), s.rd (sagC + R.SagC.SAG_SAFE_CHECK.off),
   wd (if s.safe.spbIn then s.spbN 0x01C 4 else 0), wd comm, lo32 s.arbCounter, hi32 s.arbCounter] ++
  s.hashOf 0 ++ s.hashOf 1 ++ ((List.range 8).map fun i => wd (s.lastingMap i)) ++
  (s.memc.attNonce ++ List.replicate 8 0#32).take 8

/-- ATT_DONE (R529): `us` µs later the report is signed with `DEV_PRIV`. -/
def execAttDone (us : Fin 2001) (s : State) : Host.Outcome State Fault Refusal :=
  .next (
    if !s.b memC R.MemC.STAT_ATT_BUSY || !s.domOn 5 then s else
    let s := s.advance (us.val * 100)
    let rep := s.attReport
    let ws := rep ++ bytesWords 16 (edSign (s.mbytes (otpBase + 0x300) 32) (wordsBytes rep))
    let s := (List.range 80).foldl (fun (m : State) i => m.wr (memC + 0x200 + 4 * i) (ws.getD i 0#32)) s
    (s.psB memC R.MemC.STAT_ATT_BUSY false).irq memC 5)

/-! ### Debug and JTAG (R530, R531) -/

/-- A new challenge: 20 random bytes, `DEV_SERIAL`, the power-cycle count. -/
def State.drawChal (s : State) : State :=
  let ws := ((List.range 5).map fun i => Config.freeWord (s.fresh + i)) ++
    [wd (s.otpWord 0x1B0), wd (s.otpWord 0x1B4), wd s.pcr.pcycle]
  let s := { s.drew 5 with memc := { s.memc with chalOpen := true } }
  (List.range 8).foldl (fun (m : State) i => m.wr (memC + 0x400 + 4 * i) (ws.getD i 0#32)) s

/-- Challenges are refused for 60 s after three failures: the words read 0. -/
def State.refuseChal (s : State) : State :=
  (List.range 8).foldl (fun (m : State) i => m.wr (memC + 0x400 + 4 * i) 0#32)
    { s with memc := { s.memc with chalOpen := false } }

/-- DBG_CHALLENGE: a read of `MEM_DBG_CHAL0` (R531). -/
def execDbgChallenge (ini : Ini) (s : State) : Host.Outcome State Fault Refusal :=
  .next (
    match s.verdictR ini (memC + 0x400) with
    | .ok => (if s.memc.dbgLockEnd.isSome then s.refuseChal else s.drawChal).readReg ini (memC + 0x400)
    | _ => s.readReg ini (memC + 0x400))

/-- The key submitted is the one `DEBUG_HASH` names, and its signature over the challenge and the scope verifies (R531). -/
def State.dbgVerdict (s : State) : Bool :=
  let ws (o n : Nat) : List Nat := wordsBytes ((List.range n).map fun i => s.rd (memC + o + 4 * i))
  sha512 (ws 0x480 8) == s.mbytes (otpBase + 0x140) 64 && edVerify (ws 0x480 8) (ws 0x440 16) (ws 0x400 8 ++ ws 0x420 1)

/-- A write of `MEM_DBG_SUBMIT`: one submission a challenge; key, signature and scope are taken as they stand (R531). -/
def State.dbgSubmit (s : State) (v : Word) : State :=
  let s := s.wr (memC + 0x4A0) v
  if !s.memc.chalOpen || s.memc.dbgSub then s.flt memC
  else { s with memc := { s.memc with
    chalOpen := false, dbgSub := true, subOk := s.dbgVerdict, subScope := (s.rd (memC + 0x420)).toNat } }

/-- DBG_SUBMIT (R531). -/
def execDbgSubmit (ini : Ini) (v : Word) (s : State) : Host.Outcome State Fault Refusal :=
  .next (s.onWrite ini (memC + 0x4A0) fun s => s.dbgSubmit v)

/-- The verdict on a submission takes effect (R530, R531): in SEALED access is never open. -/
def State.dbgResult (s : State) : State :=
  let s := { s with memc := { s.memc with dbgSub := false } }
  if s.memc.subOk && s.lifecycle != 2 then
    let s := { s with memc := { s.memc with dbgUnlocked := true, failRun := 0 } }.memShow s
    let s := (s.p memC R.MemC.MEM_DBG_STAT_SCOPE s.memc.subScope).p memC R.MemC.MEM_DBG_STAT_FAILS 0
    s.irq memC 8
  else
    let s := (s.p memC R.MemC.MEM_DBG_STAT_FAILS (min (s.g memC R.MemC.MEM_DBG_STAT_FAILS + 1) 15)).irq memC 9
    let n := s.memc.failRun + 1
    if n < 3 then { s with memc := { s.memc with failRun := n } }
    else { s with memc := { s.memc with failRun := 0, dbgLockEnd := some (s.tbs.el + 60000000000) } }

/-- DBG_RESULT (R531): the verdict, `us` µs and `ticks` ticks later. -/
def execDbgResult (us : Fin 2000) (ticks : Fin 101) (s : State) : Host.Outcome State Fault Refusal :=
  .next (if !s.memc.dbgSub || !s.domOn 5 then s else (s.advance (us.val * 100 + ticks.val)).dbgResult)

/-- DBG_LOCKOUT_END (R531). -/
def execDbgLockoutEnd (s : State) : Host.Outcome State Fault Refusal :=
  .next (
    match s.memc.dbgLockEnd with
    | none => s
    | some t => let s := s.advanceTo t; { s with memc := { s.memc with dbgLockEnd := none } })

/-- JTAG_INSTRUCTION (R530): `EXTEST` and `CLAMP` force the outputs to 0 and are available only while debug access is
open; an instruction that is not available acts as `BYPASS`. -/
def execJtagInstruction (ir : JtagIr) (s : State) : Host.Outcome State Fault Refusal :=
  .next (
    let set (s : State) (ir out : Nat) (force : Bool) : State :=
      { s with memc := { s.memc with jtagIr := ir, jtagOut := out, jtagForce := force } }
    match ir with
    | .idcode => set s 1 (s.look (pcrC + 0x040)).toNat false
    | .samplePreload => (set s 2 s.free false).drew
    | .extest => if s.dbgOpen then set s 3 0 true else set s 0 0 false
    | .clamp => if s.dbgOpen then set s 4 0 true else set s 0 0 false
    | .bypass | .other => set s 0 0 false)

end Sys2Proof.Machine
end

