-- ==== Sys2Proof/Machine/BniCmd.lean ====
section
/-! DEFINITION. BNI: the Ethernet ports (R535 to R547). -/

namespace Sys2Proof.Machine

/-- A port beside its registers. -/
def State.bni (s : State) (n : Nat) : Bni := Tab.get (fun _ => ({} : Bni)) s.bnis n
def State.setBni (s : State) (n : Nat) (x : Bni) : State := { s with bnis := Tab.set (fun _ => ({} : Bni)) s.bnis n x }

/-- The port is served and enabled. -/
def State.bniOn (s : State) (n : Nat) : Bool := s.dom 8 == 1 && s.b (bniP n) R.Hdr.CTRL_EN

/-! ### Link (R535, R536) -/

/-- `LINK` changes; a fall feeds filter 0xE6 + n. -/
def State.setLink (s : State) (n : Nat) (up : Bool) : State :=
  if s.b (bniP n) R.Bni.STAT_LINK = up then s else
  let s := (s.psB (bniP n) R.Bni.STAT_LINK up).irq (bniP n) 8
  if up then s else
  let t := s.fwOccur (0xE6 + n)
  if becameLasting (0xE6 + n) s t then (t.ps (bniP n) R.Bni.STAT_FAULT 1).irq (bniP n) 10 else t

/-- LINK_CHANGE (R535, R536): at another speed or half duplex the link stays down. -/
def execLinkChange (n : Fin 2) (up speedOk : Bool) (s : State) : Host.Outcome State Fault Refusal :=
  .next (
    if !s.bniOn n.val then s
    else (s.psB (bniP n.val) R.Bni.STAT_SPEED_ERR (up && !speedOk)).setLink n.val (up && speedOk))

/-! ### Rings and their memory (R539, R540) -/

/-- Register page of ring `r`, for the fields of R546. -/
abbrev ringP (n r : Nat) : Nat := bniP n + 0x10 * (r % 8)

/-- A ring or buffer address with `UPPER` (R540). -/
def State.bniAddr (s : State) (n a : Nat) : Nat := a + 2 ^ 32 * s.g (bniP n) R.Bni.BNI_DMA_HI_UPPER

/-- Whether DMA reaches `len` bytes: shared SRAM, or the fitted LPDDR4X (R540). -/
def State.dmaOk (s : State) (a len : Nat) : Bool :=
  (0x10800000 ≤ a && a + len ≤ 0x11600000 && s.dom 5 == 1) ||
    (ddrBase ≤ a && a + len ≤ ddrBase + (s.rd (memC + 0x05C)).toNat * 0x100000 && s.b memC R.MemC.STAT_DDR_READY &&
      s.dom 9 == 1)

/-- The words of an access of the port that it reads, with their check bits (R514, R520): whether one fails. -/
def State.dmaEcc (s : State) (a : Nat) (ws : List Nat) : Bool × State :=
  if a < ddrBase then s.eccRead .sram ws 0
  else if s.b memC R.MemC.MEM_DDR_CFG_ECC then s.eccRead .ddr ws 0
  else (false, s)

/-- A read of the port: whether it fails (R514, R540). -/
def State.dmaRead (s : State) (a n : Nat) : Bool × State := if s.dmaOk a n then s.dmaEcc a (eccWords a n) else (true, s)

/-- A write of the port: whether it fails (R514, R540). -/
def State.dmaWrite (s : State) (a : Nat) (bs : List Nat) : Bool × State :=
  if !s.dmaOk a bs.length then (true, s) else
  let r := s.dmaEcc a (partialWords a bs.length)
  if r.1 then r else (false, r.2.mputEcc a bs)

/-- Address of the descriptor at `HEAD` of a ring. -/
def State.descAt (s : State) (n r : Nat) : Nat :=
  s.bniAddr n ((s.rd (ringP n r + 0x100)).toNat + 16 * s.g (ringP n r) R.Bni.RING_HEAD)

/-- A ring holds a descriptor for the port. -/
def State.ringHas (s : State) (n r : Nat) : Bool :=
  s.g (ringP n r) R.Bni.RING_HEAD != s.g (ringP n r) R.Bni.RING_TAIL

/-- `HEAD` moves on. -/
def State.ringNext (s : State) (n r : Nat) : State :=
  s.p (ringP n r) R.Bni.RING_HEAD ((s.g (ringP n r) R.Bni.RING_HEAD + 1) % max 1 (s.g (ringP n r) R.Bni.RING_SIZE))

/-- A descriptor is handed back: `ERR`, a stamp, the length (R539). -/
def State.descBack (s : State) (n r len : Nat) (err : Bool) (ts : Option Nat) : State :=
  let d := s.descAt n r
  let w1 := b2n err * 2 ^ 30 + b2n ts.isSome * 2 ^ 29 + len % 65536
  let s := if s.dmaOk d 16 && !s.ueIn d 8 then s.mput (d + 4) (bytesLE 4 w1) else s
  let s := match ts with
    | some t => if s.dmaOk d 16 then s.mputEcc (d + 8) (bytesLE 8 (t % 2 ^ 64)) else s
    | none => s
  s.ringNext n r

/-- An access of the port failed: the frame is abandoned (R540). -/
def State.dmaErr (s : State) (n r : Nat) : State :=
  let len := s.mget (s.descAt n r + 4) 2
  ((s.inc (bniP n) R.Bni.DMA_ERR).irq (bniP n) 11).descBack n r len true none

/-! ### Frames (R537, R541) -/

/-- A big-endian 16-bit field of a frame. -/
def be16 (f : List Nat) (o : Nat) : Nat := f.getD o 0 * 256 + f.getD (o + 1) 0

/-- The offset of the EtherType, after any 802.1Q tag. -/
def etOff (f : List Nat) : Nat := if be16 f 12 = 0x8100 then 16 else 12

/-- The UDP destination port of an IPv4 frame, and the offset of its payload. -/
def udpOf (f : List Nat) : Option (Nat × Nat) :=
  let o := etOff f
  if be16 f o ≠ 0x0800 || f.getD (o + 2) 0 / 16 ≠ 4 || f.getD (o + 11) 0 ≠ 17 then none else
  let u := o + 2 + f.getD (o + 2) 0 % 16 * 4
  some (be16 f (u + 2), u + 8)

/-- PTP event messages (R537): `Sync`, `Delay_Req`, `Pdelay_Req`, `Pdelay_Resp` over IEEE 802.3 or UDP port 319. -/
def ptpEvent (f : List Nat) : Bool :=
  let ev (o : Nat) : Bool := decide (o < f.length) && decide (f.getD o 0 % 16 < 4)
  if be16 f (etOff f) = 0x88F7 then ev (etOff f + 2)
  else match udpOf f with
    | some (319, o) => ev o
    | _ => false

/-- The class of a received frame; none: not for the port (R541). -/
def State.bniClass (s : State) (n : Nat) (f : List Nat) : Option Nat :=
  let udp := match udpOf f with | some (p, _) => p == 319 || p == 320 | none => false
  let mac := bytesLE 4 (s.rd (bniP n + 0x044)).toNat ++ bytesLE 2 (s.g (bniP n) R.Bni.BNI_MAC_HI)
  let dst := f.take 6
  let et := be16 f (etOff f)
  if et = 0x88F7 || udp then some 0
  else if et = 0x88B5 then some 1
  else if dst = mac || dst = List.replicate 6 255 || (f.getD 0 0 % 2 = 1 && s.b (bniP n) R.Bni.BNI_CFG_MCAST) then some 2
  else none

/-- A pause frame: its time in ns (R535). -/
def pauseOf (f : List Nat) : Option Nat :=
  if be16 f 12 = 0x8808 && be16 f 14 = 1 then some (be16 f 16 * 512) else none

/-- `RX_LIMIT` of a class and the frames taken in the last 1 ms (R541). -/
def State.rxLimited (s : State) (n c : Nat) : Bool :=
  let lim := s.g (bniP n + 4 * c) R.Bni.SHAPE_RX_LIMIT
  let l := (Tab.get (fun _ => []) (s.bni n).taken c).filter fun t => decide (s.tbs.el < t + 1000000)
  lim != 0 && decide (lim ≤ l.length)

/-- A frame of a class is taken. -/
def State.rxTake (s : State) (n c : Nat) : State :=
  let x := s.bni n
  let l := (Tab.get (fun _ => []) x.taken c).filter fun t => decide (s.tbs.el < t + 1000000)
  s.setBni n { x with taken := Tab.set (fun _ => []) x.taken c ((s.tbs.el :: l).take 256) }

/-- A frame goes to a receive ring (R539 to R541). -/
def State.ethStore (s : State) (n c : Nat) (f : List Nat) : State :=
  let r := 4 + c
  let d := s.descAt n r
  let (bad, s) := s.dmaRead d 16
  if bad then s.dmaErr n r else
  let (bad, s) := s.dmaWrite (s.bniAddr n (s.mget d 4 / 8 * 8)) f
  if bad then s.dmaErr n r else
  let ts := if ptpEvent f then some (s.stampAgo (s.g (bniP n) R.Bni.BNI_LAT_RX_LAT)) else none
  let s := (s.descBack n r f.length false ts).rxTake n c
  (s.inc (bniP n) R.Bni.BNI_RX_OK_CNT).irq (bniP n) (4 + c)

/-- A received frame, good and of a carried length (R541). -/
def State.rxFrame (s : State) (n : Nat) (f : List Nat) : State :=
  match pauseOf f with
  | some t =>
    if s.b (bniP n) R.Bni.BNI_CFG_PAUSE_EN then s.setBni n { s.bni n with pauseUntil := s.tbs.el + t } else s
  | none =>
    match s.bniClass n f with
    | none => s
    | some c =>
      if s.rxLimited n c then s.incIrq (bniP n) R.Bni.RX_LIMITED (bniP n) 9
      else if !s.ringHas n (4 + c) then s.incIrq (bniP n) R.Bni.RX_NODESC (bniP n) 9
      else s.ethStore n c f

/-- ETH_FRAME_RECEIVED (R535, R541): lengths count the FCS. -/
def execEthFrameReceived (n : Fin 2) (f : EthFrame) (s : State) : Host.Outcome State Fault Refusal :=
  .next (
    let bs := f.data.map fun b => b.toNat
    if !s.bniOn n.val || !s.b (bniP n.val) R.Bni.STAT_LINK then s
    else if 1518 < bs.length then s.inc (bniP n.val) R.Bni.LONG
    else if !f.fcsOk then s.inc (bniP n.val) R.Bni.CRC_ERR
    else if bs.length < 60 then s
    else s.rxFrame n.val bs)

/-! ### Sending (R542) -/

/-- Largest credit of a class, in 1/1000 bit. -/
def State.burstOf (s : State) (n c : Nat) : Nat := s.g (bniP n + 4 * c) R.Bni.SHAPE_BURST * 8192000

/-- Credit of a class now. -/
def State.creditOf (s : State) (n c : Nat) : Nat :=
  min (s.burstOf n c) (Tab.get (fun _ => 0) (s.bni n).credit c +
    s.g (bniP n + 4 * c) R.Bni.SHAPE_RATE * (s.tbs.el - (s.bni n).creditAt))

/-- Credits are brought up to now. -/
def State.credits (s : State) (n : Nat) : State :=
  let x := s.bni n
  s.setBni n { x with
    creditAt := s.tbs.el,
    credit := (List.range 4).foldl (fun m c => Tab.set (fun _ => 0) m c (s.creditOf n c)) x.credit }

/-- Length of the frame at the head of a transmit ring, and what it costs with its FCS, in 1/1000 bit. -/
def State.txLen (s : State) (n c : Nat) : Nat := s.mget (s.descAt n c + 4) 2
def State.txCost (s : State) (n c : Nat) : Nat := (s.txLen n c + 4) * 8000

/-- A class has a frame waiting and holds credit for it. -/
def State.txMay (s : State) (n c : Nat) : Bool :=
  s.ringHas n c && (s.g (bniP n + 4 * c) R.Bni.SHAPE_RATE == 0 || decide (s.txCost n c ≤ s.creditOf n c))

/-- The frame of class `c` is sent, or refused, or lost with the link (R537, R539, R540, R544). -/
def State.txFrame (s : State) (n c : Nat) (linkLost : Bool) : State :=
  let d := s.descAt n c
  let (bad, s) := s.dmaRead d 16
  if bad then (s.dmaErr n c).irq (bniP n) c else
  let len := s.txLen n c
  let buf := s.bniAddr n (s.mget d 4 / 8 * 8)
  let (bad, s) := s.dmaRead buf len
  if bad then (s.dmaErr n c).irq (bniP n) c
  else if linkLost || 1518 < len then (s.descBack n c len true none).irq (bniP n) c
  else
    let s := s.credits n
    let x := s.bni n
    let left := Tab.get (fun _ => 0) x.credit c - s.txCost n c
    let s := if s.g (bniP n + 4 * c) R.Bni.SHAPE_RATE = 0 then s
      else s.setBni n { x with credit := Tab.set (fun _ => 0) x.credit c left }
    let ts := if ptpEvent (s.mbytes buf len) then some (s.stamp + s.g (bniP n) R.Bni.BNI_LAT_TX_LAT) else none
    ((s.descBack n c len false ts).inc (bniP n) R.Bni.BNI_TX_OK_CNT).irq (bniP n) c

/-- ETH_FRAME_SENT (R542). -/
def execEthFrameSent (n : Fin 2) (linkLost : Bool) (s : State) : Host.Outcome State Fault Refusal :=
  .next (
    let n := n.val
    if !s.bniOn n || !s.b (bniP n) R.Bni.STAT_LINK || decide (s.tbs.el < (s.bni n).pauseUntil) then s else
    match [0, 1, 2, 3].find? (s.txMay n) with
    | none => s
    | some c =>
      let s := s.txFrame n c linkLost
      if linkLost then s.setLink n false else s)

/-! ### Registers (R539, R544, R546) -/

/-- RING_TAIL (R539). -/
def execRingTail (ini : Ini) (n : Fin 2) (r : Fin 8) (v : Word) (s : State) : Host.Outcome State Fault Refusal :=
  .next (s.onWrite ini (ringP n.val r.val + 0x10C) fun s => s.land (ringP n.val r.val + 0x10C) v)

/-- Every descriptor the port still owns is returned with `ERR` = 1 (R544). -/
def State.ringFlush (n r : Nat) : Nat → State → State
  | 0, s => s
  | k + 1, s =>
    if !s.ringHas n r then s else
    let s := s.descBack n r (s.mget (s.descAt n r + 4) 2) true none
    State.ringFlush n r k (if r < 4 then s.irq (bniP n) r else s)

/-- A write of `CTRL` of a port (R544). -/
def State.bniCtrl (s : State) (n : Nat) (v : Word) : State :=
  let was := s.b (bniP n) R.Hdr.CTRL_EN
  let s := s.land (bniP n + 0x008) v
  let now := s.b (bniP n) R.Hdr.CTRL_EN
  if now && !was then s.setBni n { creditAt := s.tbs.el }
  else if was && !now then (List.range 8).foldl (fun (m : State) r => State.ringFlush n r 1024 m) s
  else s

/-- BNI_ENABLE (R544). -/
def execBniEnable (ini : Ini) (n : Fin 2) (v : Word) (s : State) : Host.Outcome State Fault Refusal :=
  .next (s.onWrite ini (bniP n.val + 0x008) fun s => s.bniCtrl n.val v)

/-- A W1C write of `STAT` of a port (R536). -/
def State.bniStatWrite (s : State) (n : Nat) (v : Word) : State :=
  if fget R.Bni.STAT_FAULT v = 0 then s
  else if s.fwLasting (0xE6 + n) then s.flt (bniP n)
  else s.ps (bniP n) R.Bni.STAT_FAULT 0

/-- BNI_FAULT_CLEAR (R536). -/
def execBniFaultClear (ini : Ini) (n : Fin 2) (v : Word) (s : State) : Host.Outcome State Fault Refusal :=
  .next (s.onWrite ini (bniP n.val + 0x00C) fun s => s.bniStatWrite n.val (v ||| 4#32))

end Sys2Proof.Machine
end

