-- ==== Sys2Proof/Machine/PfiCmd.lean ====
section
/-! DEFINITION. The commands of PFI (R119 to R144). -/

namespace Sys2Proof.Machine

/-- PFI_ENABLE: `v` is the word written to `CTRL` of channel FBn (R121). -/
def execPfiEnable (ini : Ini) (n : Fin 8) (v : Word) (s : State) : Host.Outcome State Fault Refusal :=
  .next (s.onWrite ini (fbP n.val + 0x008) fun s => (s.fbCtrl n.val v).settle)

/-- QUAD_COUNT: `A` and `B` have stood at the levels `ab` for `clks` filter clocks (R115, R119, R120). -/
def execQuadCount (n : Fin 8) (ab : Bool × Bool) (clks : Nat) (s : State) : Host.Outcome State Fault Refusal :=
  .next (s.quadStep n.val ab.1 ab.2 clks).settle

/-- A write of `PFI_POS_SET` (R122). -/
def State.posSet (s : State) (n : Nat) (v : Word) : State :=
  ((s.wr (fbP n + R.Fb.PFI_POS_SET.off) v).setOrigin n v.toInt (s.fb n).hcnt).settle

/-- POS_SET (R122). -/
def execPosSet (ini : Ini) (n : Fin 8) (v : Word) (s : State) : Host.Outcome State Fault Refusal :=
  .next (s.onWrite ini (fbP n.val + R.Fb.PFI_POS_SET.off) fun s => s.posSet n.val v)

/-- SPD_WINDOW: the speed window of channel FBn ends (R126, R127). -/
def execSpdWindow (n : Fin 8) (s : State) : Host.Outcome State Fault Refusal := .next (s.spdWindow n.val).settle

/-- SER_REQUEST: the next request starts, with `SYNC` = 0 when its period has passed, with `SYNC` = 1 at a hoist
boundary (R128). -/
def execSerRequest (n : Fin 8) (s : State) : Host.Outcome State Fault Refusal :=
  .next (
    let n := n.val
    if !s.serRuns n || (s.fb n).sageTap then s
    else if s.b (fbP n) R.Fb.SYNC then (if (s.fb n).reqDue then s.serStart n else s)
    else (s.advanceTo (s.fb n).reqNext).serStart n)

/-- SER_WORD: a serial word is received and classified (R128, R129). -/
def execSerWord (n : Fin 8) (started : Bool) (data : Nat) (nE nW : Bool) (crc delay : Nat) (s : State) :
    Host.Outcome State Fault Refusal :=
  .next (s.serWord n.val started data nE nW crc delay).settle

/-- SER_STALE: two request periods without a good word have passed since the request of the last one (R129). -/
def execSerStale (n : Fin 8) (s : State) : Host.Outcome State Fault Refusal :=
  .next (
    let n := n.val
    if !s.serRuns n || !s.b (fbP n) R.Fb.STAT_SER_OK then s else
    let s := s.advanceTo ((s.fb n).goodAt + 3 * s.serPeriod n)
    ((s.psB (fbP n) R.Fb.STAT_SER_OK false).fbValidate n).settle)

/-- INDEX_EDGE: a level of an index input (R130). -/
def execIndexEdge (n : Fin 8) (e : IndexLevel) (s : State) : Host.Outcome State Fault Refusal :=
  .next (if e.src.val = 0 then (s.zLevel n.val e.pin.lvl e.pin.samples).settle
    else (s.probeLevel n.val (e.src.val - 1) e.pin.lvl e.pin.samples).settle)

/-- PROBE_EDGE: a level of probe input `q` (R131). -/
def execProbeEdge (n : Fin 8) (q : Fin 2) (e : PinLevel) (s : State) : Host.Outcome State Fault Refusal :=
  .next (s.probeLevel n.val q.val e.lvl e.samples).settle

/-- CMP_ARM: `v` is the word written to the control word of unit `c`; its `ARM` bit is 1 (R133). -/
def execCmpArm (ini : Ini) (n : Fin 8) (c : Fin 4) (v : Word) (s : State) : Host.Outcome State Fault Refusal :=
  .next (s.onWrite ini (cmpP n.val c.val + 0x104) fun s => (s.cmpWrite n.val c.val (v ||| 8#32)).settle)

/-- CMP_DISARM: as CMP_ARM; its `DISARM` bit is 1 (R144). -/
def execCmpDisarm (ini : Ini) (n : Fin 8) (c : Fin 4) (v : Word) (s : State) : Host.Outcome State Fault Refusal :=
  .next (s.onWrite ini (cmpP n.val c.val + 0x104) fun s => (s.cmpWrite n.val c.val (v ||| 256#32)).settle)

/-- PFI_FAULT_CLEAR: `v` is the word written to `STAT` (R138). -/
def execPfiFaultClear (ini : Ini) (n : Fin 8) (v : Word) (s : State) : Host.Outcome State Fault Refusal :=
  .next (s.onWrite ini (fbP n.val + 0x00C) fun s => (s.fbStatWrite n.val v).settle)

/-- PFI_SNAP: `v` is the word written (R143). -/
def execPfiSnap (ini : Ini) (v : Word) (s : State) : Host.Outcome State Fault Refusal :=
  .next (s.onWrite ini (pfiC + R.PfiC.PFI_SNAP.off) fun s => s.fbSnap v)

/-- PO_STEP: pulse output POk makes one step (R141). -/
def execPoStep (k : Fin 2) (s : State) : Host.Outcome State Fault Refusal := .next (s.poStep k.val)

end Sys2Proof.Machine
end

