-- ==== Sys2Proof/Machine/SioCmd.lean ====
section
/-! DEFINITION. The commands and events of the safety inputs and outputs (R315 to R344). -/

namespace Sys2Proof.Machine

/-- When the next pulse of `TPj` starts: as it falls due, or 20 µs after the pulse then in progress ends (R319). -/
def State.tpStart (s : State) (j : Nat) : Nat :=
  if (s.tp j).due ≤ s.safe.tpEnd then s.safe.tpEnd + 20000 else (s.tp j).due

/-- The width of a pulse of `TPj` in ns (R319). -/
def State.tpWidth (s : State) (j : Nat) : Nat := s.spbB (0x0B9 + 2 * j) * 10000

/-- The levels of the channels that `TPj` feeds are held: from 10 µs before a pulse until 100 µs after it (R319). -/
def State.tpHolds (s : State) (j : Nat) : Bool :=
  let now := s.tbs.el
  s.tpPeriod j != 0 && ((decide (s.tpStart j ≤ now + 10000) && decide (now < s.tpStart j + s.tpWidth j + 100000)) ||
    (match (s.tp j).endAt with | some t => decide (now < t + 100000) | none => false))

/-- INPUT_CHANGE: a lane has taken `samples` equal samples of a channel; with 5 it accepts a new level, unless a test pulse
holds the channel (R318, R319); the SLP lane's change is stamped. -/
def execInputChange (i : Fin 32) (sage chB : Bool) (e : PinLevel) (s : State) : Host.Outcome State Fault Refusal :=
  .next (
    let i := i.val
    let l := b2n sage
    let x := s.lin l i
    let held := s.b (inP i) R.Sib.IN_CFG_TP_EN &&
      s.tpHolds (s.g (inP i) (if chB then R.Sib.IN_CFG_TP_B else R.Sib.IN_CFG_TP_A))
    if !s.laneUp l || e.samples < 5 || held || (if chB then x.b else x.a) = e.lvl then s else
    s.laneDone fun s =>
      let s := s.setLin l i (if chB then { x with b := e.lvl } else { x with a := e.lvl })
      let f := if sage then (if chB then R.Sib.IN_B_SG else R.Sib.IN_A_SG) else (if chB then R.Sib.IN_B else R.Sib.IN_A)
      let s := s.pB (inP i) f e.lvl
      if sage then s else s.pTs (inP i) R.Sib.IN_TS_LO R.Sib.IN_TS_HI s.stamp)

/-- A lane's check of one channel of an input at a pulse of `TPj` (R321); `pre`: the channels high at the last sample before
the pulse. -/
def State.tpCheck (s : State) (l j i ch pre endLow anyLow : Nat) : State :=
  let fed := s.g (inP i) (if ch = 0 then R.Sib.IN_CFG_TP_A else R.Sib.IN_CFG_TP_B) == j
  if !s.inUsed i || !s.b (inP i) R.Sib.IN_CFG_TP_EN || !bitOf pre (2 * i + ch) then s
  else if fed && !bitOf endLow (2 * i + ch) then (s.inc (inP i) R.Sib.IN_TEST_CNT).inFault l i 3
  else if !fed && bitOf anyLow (2 * i + ch) then (s.inc (inP i) R.Sib.IN_TEST_CNT).inFault l i 4
  else s

/-- A lane's checks at a pulse of `TPj` (R321, R322); `rb`: the read-back during and after the pulse. -/
def State.tpLane (s : State) (l j pre endLow anyLow rb : Nat) : State :=
  if !s.laneUp l then s else
  let s := (List.range 64).foldl (fun (m : State) k => m.tpCheck l j (k / 2) (k % 2) pre endLow anyLow) s
  if rb = 2 then s else
  let s := (s.setTpFault j true).irq sioC 4
  (List.range 32).foldl (fun (m : State) i => if (m.inTps i).contains j then m.inFault l i 5 else m) s

/-- TEST_PULSE of `TPj` (R319 to R322): at its due time, or 20 µs after another pulse; held while `VDDIO_S` is low. -/
def execTestPulse (j : Fin 4) (pre ends : BitVec 64 × BitVec 64) (any0 any1 : BitVec 64) (rb0 rb1 : BitVec 2) (s : State) :
    Host.Outcome State Fault Refusal :=
  .next (
    let j := j.val
    let per := s.tpPeriod j
    if !s.laneUp 0 || per = 0 || s.safe.vddLow then s else
    let s := s.advanceTo (s.tpStart j + s.tpWidth j)
    let good := rb0 = 2#2 && rb1 = 2#2
    let s := s.setTp j { due := (s.tp j).due + per * 1000000, okN := if good then min ((s.tp j).okN + 1) 3 else 0,
                          endAt := some s.tbs.el }
    let s := { s with safe := { s.safe with tpEnd := s.tbs.el } }
    let s := s.pB sioC ⟨R.SioC.TP_LVL.off, R.SioC.TP_LVL.lo + j, 1⟩ (bitOf rb0.toNat 1)
    s.laneDone fun s => (s.tpLane 0 j pre.1.toNat ends.1.toNat any0.toNat rb0.toNat).tpLane 1 j
      pre.2.toNat ends.2.toNat any1.toNat rb1.toNat)

/-- TP_HELD_READBACK (R320): the read-back of a held `TPj` low for 1 ms, or high for 10 ms. -/
def execTpHeldReadback (j : Fin 4) (low : Bool) (s : State) : Host.Outcome State Fault Refusal :=
  .next (
    if !s.laneUp 0 || s.tpPeriod j.val ≠ 0 then s else
    let s := s.pB sioC ⟨R.SioC.TP_LVL.off, R.SioC.TP_LVL.lo + j.val, 1⟩ !low
    if low then (if s.tpFault j.val then s else (s.setTpFault j.val true).irq sioC 4) else s.setTpFault j.val false)

/-- DISC_FAULT: a lane's discrepancy timer runs up to `T_DISC` (R323). -/
def execDiscFault (i : Fin 32) (sage : Bool) (s : State) : Host.Outcome State Fault Refusal :=
  .next (
    let i := i.val
    let l := b2n sage
    let x := s.lin l i
    let t := s.g (inP i) R.Sib.IN_CFG_T_DISC
    if !s.laneUp l || !s.inUsed i || s.inPerm l i || s.inSafe l i || s.safe.vddLow || x.fault ≠ 0 || t ≤ x.disc then s else
    let s := s.advanceTo (s.tbs.el + (t - x.disc) * 1000000)
    s.laneDone fun s =>
      let s := s.setLin l i { x with disc := t }
      (if sage then s else s.p (inP i) R.Sib.IN_DISC_NOW t).inFault l i 1)

/-- A write of `SIO_IN_RESET`: evaluated at the next SLP boundary; reads 0 (R324). -/
def State.sioInReset (s : State) (v : Word) : State :=
  { s with safe := { s.safe with rstIn := Nat.lor s.safe.rstIn v.toNat } }

/-- SIO_IN_RESET (R324). -/
def execSioInReset (ini : Ini) (v : Word) (s : State) : Host.Outcome State Fault Refusal :=
  .next (s.onWrite ini (sioC + 0x04C) fun s => s.sioInReset v)

/-- A write of `SIO_OUT_RESET` and `DZ_RST` (R333, R337). -/
def State.sioOutReset (s : State) (v : Word) : State :=
  { s with safe := { s.safe with rstOut := Nat.lor s.safe.rstOut (v.toNat % 64), rstDz := Nat.lor s.safe.rstDz (v.toNat / 0x10000 % 4) } }

/-- SIO_OUT_RESET (R333). -/
def execSioOutReset (ini : Ini) (v : Word) (s : State) : Host.Outcome State Fault Refusal :=
  .next (s.onWrite ini (sioC + 0x050) fun s => s.sioOutReset v)

/-- DZ_RST (R337): the same register. -/
def execDzRst (ini : Ini) (v : Word) (s : State) : Host.Outcome State Fault Refusal :=
  .next (s.onWrite ini (sioC + 0x050) fun s => s.sioOutReset v)

/-- DARK_TEST (R329): 10 s after energising or the last test, the lanes in turn, SLP first. A lane that no longer finds its
permit abandons the test and leaves its switch open. -/
def execDarkTest (o : Fin 12) (rbLow : Bool) (s : State) : Host.Outcome State Fault Refusal :=
  .next (
    let o := o.val
    if !s.outOn o || !s.laneUp 0 || !s.laneUp 1 then s else
    let x := s.sw o
    let s := s.advanceTo (x.darkAt + 10000000000)
    let s := s.advanceTo (s.tbs.el + 400000)
    s.laneDone fun s =>
      let s := s.setSw o { x with darkAt := s.tbs.el, darkSg := !x.darkSg }
      let l := b2n x.darkSg
      if !s.permit l o then s.setSwitch l o false
      else if rbLow then s.inc (outP o) R.Sog.SO_DARK_CNT
      else s.groupFault l (o / 2) (o % 2) (if x.darkSg then 6 else 5))

/-- RB_FAULT (R330): `SOo_RB` has been 0 for 2 ms with both switches closed, or 1 with either open, outside the energising
of R328. -/
def execRbFault (o : Fin 12) (sage rb : Bool) (s : State) : Host.Outcome State Fault Refusal :=
  .next (
    let o := o.val
    let l := b2n sage
    if !s.laneUp l || s.outOn o = rb || (s.sw o).wait then s else
    (s.advanceTo (s.tbs.el + 2000000)).laneDone fun s => s.groupFault l (o / 2) (o % 2) (if rb then 4 else 3))

/-- FB_TIMEOUT (R331): a lane's feedback timer runs up to `T_FB` while the feedback disagrees. -/
def execFbTimeout (o : Fin 12) (sage : Bool) (s : State) : Host.Outcome State Fault Refusal :=
  .next (
    let o := o.val
    let l := b2n sage
    let x := s.lout l o
    let t := s.g (outP o) R.Sog.SO_T_FB
    if !s.laneUp l || x.fb != s.outOn o || s.safe.vddLow || t ≤ x.tmr then s else
    let s := s.advanceTo (s.tbs.el + (t - x.tmr) * 1000000)
    s.laneDone fun s => (s.setLout l o { x with tmr := t }).groupFault l (o / 2) (o % 2) (if s.outOn o then 2 else 1))

/-- ON_REQ: a write of `CTRL` of a group page (R327). -/
def execOnReq (ini : Ini) (g : Fin 6) (v : Word) (s : State) : Host.Outcome State Fault Refusal :=
  .next (s.onWrite ini (sogP g.val + 0x008) fun s => s.land (sogP g.val + 0x008) v)

end Sys2Proof.Machine
end

