-- ==== Sys2Proof/Machine/TbsCmd.lean ====
section
/-! DEFINITION. The commands of TBS (R91 to R101, R109). -/

namespace Sys2Proof.Machine

/-- A write of `TBS_OFS_LO` commits the pair, or is discarded while discipline is disabled (R91, R92). -/
def State.ofsCommit (s : State) (v : Word) : State :=
  let s := s.wr (tbsC + 0x04C) v
  if !s.b tbsC R.Hdr.CTRL_EN then (s.irq tbsC 3).flt tbsC
  else { s with tbs := { s.tbs with ofs := s.tbs.ofs ++ [toS 64 (v.toNat + 2 ^ 32 * (s.rd (tbsC + 0x050)).toNat)] } }

/-- OFS_COMMIT (R91, R92). -/
def execOfsCommit (ini : Ini) (v : Word) (s : State) : Host.Outcome State Fault Refusal :=
  .next (s.onWrite ini (tbsC + 0x04C) fun s => s.ofsCommit v)

/-- TB_STEP: the tick on which a committed step acts (R91); launch times it passes make their buffers eligible (R369). -/
def execTbStep (s : State) : Host.Outcome State Fault Refusal :=
  .next (
    match s.tbs.ofs with
    | o :: _ => if isStep o && !s.tbs.stopped then (List.range 8).foldl (fun m n => m.txSelect n) s.tick else s
    | [] => s)

/-- SLEW_DONE: the ticks until the remaining slew has run down (R90, R91). -/
def execSlewDone (s : State) : Host.Outcome State Fault Refusal :=
  .next (
    if s.tbs.stopped || s.tbs.slew == 0 || s.slewInc == 0 then s
    else s.advance (cdiv s.tbs.slew.natAbs s.slewInc))

/-- A W1C write of `STAT` (R109). -/
def State.tbsStatWrite (s : State) (v : Word) : State :=
  if fget R.TbsC.STAT_RESEEDED v = 0 then s
  else (s.ps tbsC R.TbsC.STAT_RESEEDED 0).pTs tbsC R.TbsC.TBS_UNCERT_LO R.TbsC.TBS_UNCERT_HI 0

/-- RESEEDED_CLEAR (R109). -/
def execReseededClear (ini : Ini) (v : Word) (s : State) : Host.Outcome State Fault Refusal :=
  .next (s.onWrite ini (tbsC + 0x00C) fun s => s.tbsStatWrite (v ||| 1#32))

/-- The legs that take part in a `SYNC` (R97). -/
def State.syncLegOk (s : State) (n : Nat) : Bool :=
  s.engine n && s.opm n == 3 && !s.b (sbcP n) R.Sbc.STAT_ALONE

/-- The `SYNC` of a network is queued on its legs with a launch time (R97, R101). `SYNC_CNT` counts it once here, whatever
becomes of its copies (DESIGN CHOICE, log entry 151). -/
def State.syncQueue (s : State) (k launch : Nat) : State :=
  let a := s.syncLegOk (2 * k)
  let b := s.syncLegOk (2 * k + 1)
  let s := (s.psB (tbsP k) R.TbsN.STAT_LEG_A a).psB (tbsP k) R.TbsN.STAT_LEG_B b
  if !a && !b then s else
  let (seq, s) := s.bcSeq k
  let f : EFrm := { id := elithId 0 0 1 0xFF 0, data := bytesLE 2 seq ++ bytesLE 8 launch ++ [0, 0], launch := some launch,
                    kind := .sync }
  let leg (on : Bool) : SyncLeg := if on then .queued else .none
  let s := s.setNet k { s.net k with
    legA := leg a, legB := leg b, launch := launch, deadline := launch + 2000000, owed := true }
  let s := (s.p (tbsP k) R.TbsN.SYNC_SEQ seq).inc (tbsP k) R.TbsN.SYNC_CNT
  let s := if a then s.enqueue (2 * k) 0 f else s
  if b then s.enqueue (2 * k + 1) 0 f else s

/-- What the timebase gains on a tick now, in 2⁻³² ns (R90). -/
def State.tickInc (s : State) : Int :=
  10 * 2 ^ 32 + s.rate + (if 0 < s.tbs.slew then (s.slewInc : Int) else if s.tbs.slew < 0 then -(s.slewInc : Int) else 0)

/-- The next multiple of 10 ms at which a network's `SYNC` goes out (R97): one that the present tick has reached, else the
next. -/
def State.nextSync (s : State) (k : Nat) : Nat :=
  let t := s.stamp / 10000000 * 10000000
  if (s.net k).nextMul ≤ t ∧ (s.tbs.acc : Int) - s.tickInc < (t * 2 ^ 32 : Nat) then t else max (t + 10000000) (s.net k).nextMul

/-- A step has carried the timebase past `t` (R97); one that lands on `t` reaches it. -/
def State.stepOver (s : State) (t : Nat) : Bool := s.tbs.steps.any fun x => decide (x.1 < t) && decide (t < x.2)

/-- SYNC_SEND: the timebase reaches the next whole multiple of 10 ms (R97); multiples a step passes are left out. -/
def execSyncSend (n : Fin 4) (s : State) : Host.Outcome State Fault Refusal :=
  .next (
    let k := n.val
    if s.tbs.stopped || !s.b (tbsP k) R.Hdr.CTRL_EN then s else
    let t := s.nextSync k
    let s := s.untilStamp t
    let s := s.setNet k { s.net k with nextMul := t + 10000000 }
    if s.stepOver t then s else s.syncQueue k t)

/-- One leg at the deadline (R99): a copy that has started completes, its cancellation requested; one that has not is
abandoned, counted and fed to filter 0xEF, wherever it waits, also when its port was disabled meanwhile. -/
def State.syncAbandon (s : State) (n : Nat) : State :=
  let k := netOf n
  let cur := ((s.port n).cur0.map fun f => f.kind == .sync).getD false
  if cur && s.txs n 0 == 2 then s.txAbort n 0 else
  let s := s.setPort n { s.port n with q0 := (s.port n).q0.filter fun f => f.kind ≠ .sync }
  let s := (if cur then s.txAbort n 0 else s).syncLeg n none
  let s := s.incIrq (tbsP k) (if n % 2 = 0 then R.TbsN.MISS_A else R.TbsN.MISS_B) (tbsP k) 0
  let t := s.fwOccur 0xEF
  if becameLasting 0xEF s t then t.irq tbsC 5 else t

/-- SYNC_DEADLINE: `LAUNCH_TS` + 2 ms (R99). TBS stands in PD_AON: it decides whether PD_NET runs or not. -/
def execSyncDeadline (n : Fin 4) (s : State) : Host.Outcome State Fault Refusal :=
  .next (
    let k := n.val
    let open_ (l : SyncLeg) : Bool := match l with | .queued => true | _ => false
    let x := s.net k
    if !s.tbs.stopped && x.owed && (open_ x.legA || open_ x.legB) then
      let s := s.untilStamp x.deadline
      let go (s : State) (n : Nat) (l : SyncLeg) : State := if open_ l then (s.syncAbandon n).txKick n else s
      go (go s (2 * k) x.legA) (2 * k + 1) x.legB
    else s)

/-- FOLLOW_UP_SEND: both copies have completed or been abandoned; the `FOLLOW_UP` is queued on the same legs (R100,
R101). -/
def execFollowUpSend (n : Fin 4) (s : State) : Host.Outcome State Fault Refusal :=
  .next (
    let k := n.val
    let x := s.net k
    let settled (l : SyncLeg) : Bool := match l with | .queued => false | _ => true
    if x.owed && settled x.legA && settled x.legB then
      let stampOf (l : SyncLeg) : Nat := match l with | .done t => t | _ => 2 ^ 64 - 1
      let took (l : SyncLeg) : Bool := match l with | .none => false | _ => true
      let (seq, s) := s.bcSeq k
      let re := s.g tbsC R.TbsC.STAT_RESEEDED
      let flags := re + 2 * s.g tbsC R.TbsC.STAT_SLEWING + 4 * s.g tbsC R.TbsC.STAT_LIMP + 8 * b2n x.stepped
      let unc := if re = 1 then s.gTs tbsC R.TbsC.TBS_UNCERT_LO R.TbsC.TBS_UNCERT_HI else 0
      let f : EFrm := {
        id := elithId 0 1 1 0xFF 0, kind := .followUp,
        data := bytesLE 2 seq ++ bytesLE 2 (s.g (tbsP k) R.TbsN.SYNC_SEQ) ++ bytesLE 8 (stampOf x.legA) ++
          bytesLE 8 (stampOf x.legB) ++ [flags, 0, 0, 0] ++ bytesLE 8 unc }
      let toA := s.netOn && took x.legA && s.engine (2 * k)
      let toB := s.netOn && took x.legB && s.engine (2 * k + 1)
      let s := s.setNet k { s.net k with owed := false, stepped := x.stepped && !(toA || toB) }
      let s := if toA then s.enqueue (2 * k) 0 f else s
      if toB then s.enqueue (2 * k + 1) 0 f else s
    else s)

end Sys2Proof.Machine
end

