-- ==== Sys2Proof/Machine/RegWrite.lean ====
section
/-! DEFINITION. A permitted register write, register by register: the rules that discard a write as a whole (R39, R71,
R574 and the rules of the blocks), the registers whose write is a command of its block, and the access types (R70) for
all others. -/

namespace Sys2Proof.Machine

/-- Whether a write would change one of the fields `fs` of a word (R574). -/
def differs (fs : List Fld) (old v : Word) : Bool := fs.any fun f => fget f old != fget f v

/-- A write that its block's rule discards when `bad` holds (R71), and that takes effect otherwise (R70). -/
def State.landUnless (s : State) (a : Nat) (v : Word) (bad : Bool) : State := if bad then s.discard a else s.land a v

/-- Whether a number lies in a range. -/
def within (lo hi n : Nat) : Bool := decide (lo ≤ n) && decide (n ≤ hi)

/-! ### PCR, TBS, RDM, IKW, MEM -/

/-- Common page of PCR (R490, R492, R510, R561). -/
def State.wPcr (s : State) (a rel : Nat) (v : Word) : State :=
  match rel with
  | 0x04C => s.oppWrite v
  | 0x050 => s.sleepReq (fget R.PcrC.PCR_SLEEP_REQ_TARGET v) 0
  | 0x058 => s.land a (v ||| 0x180#32)
  | 0x088 => s.landUnless a v (fget R.PcrC.PCR_PFW_PFW_LEVEL v != 0 && !within 92 106 (fget R.PcrC.PCR_PFW_PFW_LEVEL v))
  | 0x08C => s.landUnless a v (fget R.PcrC.PCR_DVS_DVS_TMO v == 0)
  | _ => s.land a v

/-- Common page of TBS (R91, R109, R111). -/
def State.wTbs (s : State) (a rel : Nat) (v : Word) : State :=
  match rel with
  | 0x00C => s.tbsStatWrite v
  | 0x048 => s.landUnless a v (decide (4294967 < v.toInt.natAbs))
  | 0x04C => s.ofsCommit v
  | 0x05C => s.landUnless a v (!within 1 100 (fget R.TbsC.SLEW_PPM v) || decide (1000 < fget R.TbsC.AON_PPM v))
  | _ => s.land a v

/-- Common page of RDM (R443, R458, R459). -/
def State.wRdm (s : State) (a rel : Nat) (v : Word) : State :=
  match rel with
  | 0x060 => s.pairCtrl v
  | 0x064 => s.landUnless a v (!within 110 10000 (fget R.RdmC.RDM_TIMING_HR_TMO v) ||
      !within 1 1000 (fget R.RdmC.RDM_TIMING_WDG_TMO v))
  | _ => if within 0x100 0x1FF rel && rel % 8 = 0 then s.quillWrite ((rel - 0x100) / 8) v else s.land a v

/-- `LASTING` of a filter is written 1 while it is 1 (R85): the window empties. -/
def State.fwClear (s : State) (f : Nat) (v : Word) : State :=
  if fget R.Fw.LASTING v = 1 && s.fwLasting f then
    { s with rdm := { s.rdm with occ := Tab.set (fun _ => []) s.rdm.occ f [] } }
  else s

/-- The filters (R85, R86). -/
def State.wFw (s : State) (a rel : Nat) (v : Word) : State :=
  match rel % 16 with
  | 0 => (s.fwPrune (rel / 16)).landUnless a v (fget R.Fw.K v == 0 || fget R.Fw.W v == 0)
  | 4 => (s.fwClear (rel / 16) v).land a v
  | _ => s.land a v

/-- Common page of IKW (R472, R473, R477, R480). -/
def State.wIkw (s : State) (ini : Ini) (a rel : Nat) (v : Word) : State :=
  match rel with
  | 0x008 => s.ikwCtrl v
  | 0x00C => s.ikwStatWrite v
  | 0x058 => s.landUnless a v (v.toNat % 4096 != 0)
  | 0x05C => s.landUnless a v (fget R.IkwC.ARC_BLOCKS v < 64)
  | 0x0A0 => s.ikwSw ini v
  | 0x0B0 => s.ikwRdIdx v
  | _ => s.land a v

/-- Common page of MEM (R519 to R531). -/
def State.wMem (s : State) (ini : Ini) (a rel : Nat) (v : Word) : State :=
  match rel with
  | 0x054 => s.ddrWrite v
  | 0x064 => s.xspiWrite ini v
  | 0x070 => s.bootSelWrite v
  | 0x084 => s.arbWrite v
  | 0x090 => s.otpWrite v
  | 0x0C0 => s.attWrite v
  | 0x4A0 => s.dbgSubmit v
  | _ => s.land a v

/-! ### SIO, SLP, SAG -/

/-- Common page of SIO (R324, R333, R337, R348). -/
def State.wSio (s : State) (a rel : Nat) (v : Word) : State :=
  match rel with
  | 0x04C => s.sioInReset v
  | 0x050 => s.sioOutReset v
  | _ => s.land a v

/-- Common page of SLP (R310, R311). -/
def State.wSlp (s : State) (a rel : Nat) (v : Word) : State :=
  if within 0x100 0x2FF rel && rel % 0x100 = 0x3C then s.mbDoor (rel / 0x100 - 1) v else s.land a v

/-- Common page of SAG (R304, R312). -/
def State.wSag (s : State) (a rel : Nat) (v : Word) : State :=
  match rel with
  | 0x040 => s.gateKey v
  | 0x044 => s.loadAddr v
  | 0x048 => s.loadData v
  | 0x04C => s.loadCtrl v
  | 0x058 => s.safeConfirm v
  | 0x064 => s.latchClr v
  | _ => s.sagTouch.land a v

/-! ### MPG, SEP, PFI, DLK, CLG -/

/-- A write that R39 protects while `held`: discarded with `WR_REJ`, but under R71 alone while the lock is closed. -/
def State.mapGuard (s : State) (a : Nat) (v : Word) (held : Bool) : State :=
  let rows := match locate a with | some l => rowsOf l | none => []
  let rel := match locate a with | some l => l.rel | none => 0
  if held && s.lockOpen mpgC && rwlChange rows rel (s.rd a) v then (s.flt mpgC).pm R.MpgC.MAP_WR_REJ 1 else s.land a v

/-- The map stands still for car `c`, or for the landing table (R39). -/
def State.carHeld (s : State) (c : Nat) : Bool := s.b mpgC R.MpgC.MAP_BUSY || s.armed c
def State.tableHeld (s : State) : Bool := s.b mpgC R.MpgC.MAP_BUSY || s.armed 0 || s.armed 1

/-- A W1C write of `MPG_MAP_STAT`; a change stamps the page (R44). -/
def State.mapStatWrite (s : State) (v : Word) : State :=
  [R.MpgC.MAP_DONE, R.MpgC.MAP_WR_REJ, R.MpgC.MAP_DIS_REJ].foldl (fun (m : State) f =>
    if fget f v = 1 then m.pm f 0 else m) s

/-- Common page of MPG (R37, R39, R42 to R46). -/
def State.wMpgC (s : State) (a rel : Nat) (v : Word) : State :=
  if rel = 0x040 then (s.mapGuard a v s.tableHeld).sepShow
  else if rel = 0x044 then s.mapCtrl v
  else if rel = 0x048 then s.mapStatWrite v
  else if within 0x080 0x09B rel then s.mapGuard a v (s.carHeld 0)
  else if within 0x0C0 0x0DB rel then s.mapGuard a v (s.carHeld 1)
  else s.land a v

/-- The ranges of R171 and R214. -/
def State.mpgBad (s : State) (c rel : Nat) (v : Word) : Bool :=
  let n := v.toNat
  let pg := mpgP c
  match rel with
  | 0x060 => decide (24000000 < n)
  | 0x064 => !within 100000 2500000 n
  | 0x068 => differs [R.Mpg.MPG_SRC_SRC_PRI, R.Mpg.MPG_SRC_SRC_SEC] (s.rd (pg + 0x068)) v && decide (1 < s.gst c)
  | 0x06C => !within 100 1000000 n
  | 0x070 => !within 100 5000 (fget R.Mpg.LVL_TOL v) || fget R.Mpg.LVL_SETTLE v == 0 ||
      decide (s.g pg R.Mpg.RLV_START ≤ fget R.Mpg.LVL_TOL v)
  | 0x074 => !within 10 65535 (fget R.Mpg.LVL_TMO v)
  | 0x078 => decide (fget R.Mpg.RLV_START v ≤ s.g pg R.Mpg.LVL_TOL) || decide (20000 < fget R.Mpg.RLV_START v)
  | 0x07C => !within 1000 300000 n
  | 0x080 => !within 10000 2500000 n
  | 0x084 => !within 10000 5000000 n
  | 0x090 => decide (12499 < fget R.Mpg.PHASE v) || (fget R.Mpg.PHASE v != s.g pg R.Mpg.PHASE && s.gst c != 0)
  | 0x184 => decide (800000 < fget R.Mpg.EXE_PREOPEN_V v)
  | _ => false

/-- A generator page (R158 to R171, R204, R214); the last word of a burst at a command port is its command (R432). -/
def State.wMpg (s : State) (c a rel : Nat) (v : Word) : State :=
  let pg := mpgP c
  match rel with
  | 0x008 => s.mpgCtrl c v
  | 0x108 => (s.land a v).mpgOp c (s.rd (pg + 0x100)) (s.rd (pg + 0x104)) v
  | 0x210 => (s.land a v).xOp c (s.rd (pg + 0x200)) (s.rd (pg + 0x204)) (s.rd (pg + 0x208)) (s.rd (pg + 0x20C)) v
  | _ => (s.landUnless a v (s.mpgBad c rel v)).settle

/-- Common page of SEP (R192, R197, R212). -/
def State.wSep (s : State) (a rel : Nat) (v : Word) : State :=
  match rel with
  | 0x00C => s.sepStatWrite v
  | 0x05C => s.landUnless a v (decide (2000000 < v.toNat))
  | _ => (s.land a v).sepShow

/-- The ranges of R115, R123, R125, R128 and R144. -/
def State.fbBad (s : State) (n rel : Nat) (v : Word) : Bool :=
  match rel with
  | 0x040 => fget R.Fb.MODE v == 3 || fget R.Fb.FILT_N v == 0 || fget R.Fb.FILT_NK v == 0 || fget R.Fb.PRB_N v == 0
  | 0x048 => decide (s.gs (fbP n) R.Fb.PFI_SOFTMAX < v.toInt)
  | 0x04C => decide (v.toInt < s.gs (fbP n) R.Fb.PFI_SOFTMIN)
  | 0x060 => !within 50 10000 (fget R.Fb.WIN v)
  | 0x140 => !within 8 32 (fget R.Fb.POS_LEN v) || !within 8 48 (fget R.Fb.DATA_LEN v)
  | 0x144 => fget R.Fb.TMO v == 0 || fget R.Fb.MONO v == 0 || decide (16 < fget R.Fb.CRC_LEN v) ||
      decide (fget R.Fb.CLK_DIV v < 9)
  | 0x14C => !within 20 2000 (fget R.Fb.PERIOD v)
  | _ => false

/-- The fields that `EN` = 1 protects (R125), and those that read the SPB on a channel Sage drives (R140). -/
def State.fbHeld (s : State) (n rel : Nat) (v : Word) : Bool :=
  let cfg := within 0x040 0x047 rel || within 0x140 0x14F rel
  let rows := R.Fb.tbl.filter fun r => r.covers rel && r.acc == .rwl
  let ser := if rel = 0x040 then [R.Fb.MODE] else if within 0x140 0x14F rel then rows.map (·.f) else []
  (cfg && s.b (fbP n) R.Hdr.CTRL_EN && differs (rows.map (·.f)) (s.rd (fbP n + rel)) v) ||
    ((s.fb n).sageTap && differs ser (s.rd (fbP n + rel)) v)

/-- The levels shown follow a change of a probe's `INV` without an edge (R130). -/
def State.probeInv (s : State) (n : Nat) (old : State) : State :=
  let flip (m : State) (inv lvl : Fld) : State :=
    if s.b (fbP n) inv = old.b (fbP n) inv then m else m.psB (fbP n) lvl (!m.b (fbP n) lvl)
  flip (flip s R.Fb.P0_INV R.Fb.STAT_P0_LVL) R.Fb.P1_INV R.Fb.STAT_P1_LVL

/-- A feedback channel's page (R121 to R144). -/
def State.wFb (s : State) (n a rel : Nat) (v : Word) : State :=
  if rel = 0x008 then (s.fbCtrl n v).settle
  else if rel = 0x00C then (s.fbStatWrite n v).settle
  else if rel = 0x058 then s.posSet n v
  else if rel = 0x0E0 then (s.land a v).probeInv n s
  else if within 0x100 0x13F rel && rel % 16 = 4 then (s.cmpWrite n ((rel - 0x100) / 16) v).settle
  else s.landUnless a v (s.fbBad n rel v || s.fbHeld n rel v)

/-- A pulse output's page (R141, R146). -/
def State.wPo (s : State) (a rel : Nat) (v : Word) : State :=
  match rel with
  | 0x040 => s.landUnless a v (fget R.Po.MIN_GAP v == 0)
  | 0x044 => s.landUnless a v (fget R.Po.N v == 0 || fget R.Po.M v == 0 || decide (fget R.Po.M v < fget R.Po.N v))
  | _ => s.land a v

/-- A drive link's page (R183 to R186). -/
def State.wDlk (s : State) (n a rel : Nat) (v : Word) : State :=
  let off := s.lst n == 0
  match rel with
  | 0x008 => s.dlkCtrl n v
  | 0x040 => s.landUnless a v (fget R.Dlk.LOSS_N v == 0 || !within 14 48 (fget R.Dlk.RESP_MAX v) ||
      fget R.Dlk.RUN_N v == 0 || (!off && differs [R.Dlk.TX_INV, R.Dlk.RX_INV, R.Dlk.RUN_N, R.Dlk.RESP_MAX, R.Dlk.LOSS_N]
        (s.rd a) v))
  | 0x044 => s.landUnless a v (fget R.Dlk.DLK_HELLO_HELLO_TMO v == 0 ||
      (!off && differs [R.Dlk.DLK_HELLO_HELLO_TMO] (s.rd a) v))
  | _ => s.land a v

/-- A command at the port of CLG (R224); Nib's numbers follow one another. -/
def State.clgBurst (s : State) (v : Word) : State :=
  let w (k : Nat) : Nat := (s.rd (clgC + 0x100 + 4 * k)).toNat
  s.clgOp ⟨w 0, w 1, w 2, w 3, w 4, w 5, w 6 % 16384, fget R.ClgC.CLG_CMD_OP_OP v, fget R.ClgC.CLG_CMD_OP_TAG v,
    (s.g clgC R.ClgC.CLG_APPLIED + 1) % 65536⟩

/-- Common page of CLG (R224, R229, R233, R235). -/
def State.wClg (s : State) (a rel : Nat) (v : Word) : State :=
  match rel with
  | 0x008 => s.clgCtrl v
  | 0x00C => s.clgStatWrite v
  | 0x040 =>
    (s.landUnless a v (!within 1 12288 (fget R.ClgC.CLG_CFG_HIWAT v) || decide (4096 < fget R.ClgC.CLG_CFG_RESERVE v))).hiwatShow
  | 0x11C => s.clgBurst v
  | _ => s.land a v

/-! ### DMC -/

/-- A speed field (R269): 1,000 to 1,000,000, or 0. -/
def dmcSpeedOk (n : Nat) : Bool := n == 0 || within 1000 1000000 n

/-- The ranges of R245 and R269. -/
def doorRange (rel : Nat) (v : Word) : Bool :=
  match rel with
  | 0x040 => !within 10 255 (fget R.Dmc.DEADTIME v) || fget R.Dmc.MODE_SEL v == 3 || decide (8 < fget R.Dmc.MSTEP v)
  | 0x044 => fget R.Dmc.TBLANK v == 0 || !within 2 40 (fget R.Dmc.TOFF v) || !within 2000 10000 (fget R.Dmc.PWM_PER v)
  | 0x060 => !dmcSpeedOk (fget R.Dmc.V_OPEN v)
  | 0x064 => !dmcSpeedOk (fget R.Dmc.V_CLOSE v)
  | 0x068 => !dmcSpeedOk (fget R.Dmc.V_CREEP v)
  | 0x06C => v.toNat != 0 && !within 10000 5000000 v.toNat
  | 0x070 => v.toNat != 0 && !within 10000 5000000 v.toNat
  | 0x090 => !dmcSpeedOk (fget R.Dmc.SW_V v)
  | 0x094 => decide (100000 < fget R.Dmc.SW_HYST v)
  | 0x098 => fget R.Dmc.STALL_N v == 0 || !within 32 256 (fget R.Dmc.STALL_MARGIN v)
  | 0x09C => !dmcSpeedOk (fget R.Dmc.STALL_VMIN v)
  | 0x0A4 => !within 1 1000 (fget R.Dmc.F_LIMIT v)
  | 0x0A8 => !dmcSpeedOk (fget R.Dmc.HOME_V v)
  | _ => false

/-- The registers that a moving channel protects (R259). -/
def State.doorHeld (s : State) (n rel : Nat) (v : Word) : Bool :=
  let st := s.dst n
  let rows := R.Dmc.tbl.filter fun r => r.covers rel && r.acc == .rwl
  [0x040, 0x048, 0x04C, 0x058, 0x05C].contains rel && !(st == 0 || st == 1 || st == 3 || st == 9) &&
    differs (rows.map (·.f)) (s.rd (dmcP n + rel)) v

/-- A door channel's page (R254, R259, R266, R269). -/
def State.wDmc (s : State) (n a rel : Nat) (v : Word) : State :=
  match rel with
  | 0x008 => s.doorCtrl n v
  | 0x00C => s.doorStatWrite n v
  | 0x108 => (s.land a v).doorCmd (s.doorMembers (if h : n < 8 then .chan ⟨n, h⟩ else .all)) v
  | _ =>
    let s := s.landUnless a v (doorRange rel v || s.doorHeld n rel v)
    if !within 0x040 0x05F rel then s else
    let s := (s.doorNow n).doorShow n
    if rel = 0x040 then (((s.swLook n false false).swLook n true false).sideOut).doorSignals else s

/-! ### Shaft buses -/

/-- The ranges of R352 and R354. -/
def sbcBad (rel : Nat) (v : Word) : Bool :=
  match rel with
  | 0x040 => fget R.Sbc.SBC_NBT_NTSEG1 v == 0 || decide (fget R.Sbc.SBC_NBT_NTSEG2 v < fget R.Sbc.SBC_NBT_NSJW v)
  | 0x044 => decide (fget R.Sbc.SBC_DBT_DTSEG2 v < fget R.Sbc.SBC_DBT_DSJW v)
  | 0x04C => fget R.Sbc.SBC_CFG_TEST v == 3
  | _ => false

/-- The fields that `EN` = 1 protects (R354). -/
def State.sbcHeld (s : State) (n rel : Nat) (v : Word) : Bool :=
  let rows := R.Sbc.tbl.filter fun r => r.covers rel && r.acc == .rwl
  within 0x040 0x04F rel && s.b (sbcP n) R.Hdr.CTRL_EN && differs (rows.map (·.f)) (s.rd (sbcP n + rel)) v

/-- A write of a transmit buffer's content (R363, R364): its RO words ignore writes (R70), and while the buffer is not IDLE
only a write that would change a field is discarded (R574). -/
def State.wTxb (s : State) (n b a : Nat) (v : Word) : State :=
  let rel := a - sbcP n
  let rows := R.Sbc.tbl.filter fun r => r.covers rel && r.acc == .rw
  s.landUnless a v (!rows.isEmpty &&
    ((s.engine n && decide (b < 2)) || (s.txs n b != 0 && differs (rows.map (·.f)) (s.rd a) v)))

/-- A port's page (R354 to R381). -/
def State.wSbc (s : State) (n a rel : Nat) (v : Word) : State :=
  if rel = 0x008 then s.sbcCtrl n v
  else if rel = 0x00C then s.sbcStatWrite n v
  else if within 0x100 0x21F rel then
    let b := (rel - 0x100) / 0x60
    if (rel - 0x100) % 0x60 = 0 then (s.txCtrl n b v).txSelect n else s.wTxb n b a v
  else if within 0x240 0x53F rel then s.landUnless a v (s.engine n && decide ((rel - 0x240) / 0xC < 32))
  else if within 0x600 0xFFF rel then s.landUnless a v (s.engine n && decide ((rel - 0x600) / 0x50 < 16))
  else
    let s := s.landUnless a v (sbcBad rel v || s.sbcHeld n rel v)
    if rel = 0x04C then s.tbsShow (n / 2) else s

/-! ### CVE -/

/-- The sixteen data words of a command port. -/
def State.portData (s : State) (pg : Nat) : List Word := (List.range 16).map fun i => s.rd (pg + 0x104 + 4 * i)

/-- Common page of CVE (R412, R425). -/
def State.wCve (s : State) (a rel : Nat) (v : Word) : State :=
  match rel with
  | 0x040 => s.landUnless a v (fget R.CveC.CVE_CFG_INV_GAP v == 0 || decide (fget R.CveC.CVE_CFG_INV_TMO v < 100))
  | 0x044 => s.landUnless a v ((List.range 4).any fun n => v.toNat / 256 ^ n % 256 == 0)
  | 0x144 => s.noticeOp (s.rd (cveC + 0x100)) (s.portData cveC) v
  | _ => s.land a v

/-- The ranges of R427. -/
def ctxRange (rel : Nat) (v : Word) : Bool :=
  match rel with
  | 0x048 => fget R.Ctx.CVE_TIMING_HB_PER v == 0 || fget R.Ctx.CVE_TIMING_LOSS_N v == 0 ||
      !within 1 50 (fget R.Ctx.CVE_TIMING_T_RTX v) || !within 1 50 (fget R.Ctx.CVE_TIMING_P_RTX v)
  | 0x04C => decide (895 < fget R.Ctx.CVE_RXQ_RXQ_BASE v)
  | _ => false

/-- The registers that `EN` = 1 protects (R403). -/
def State.ctxHeld (s : State) (c rel : Nat) (v : Word) : Bool :=
  let rows := R.Ctx.tbl.filter fun r => r.covers rel && r.acc == .rwl
  (rel = 0x040 || rel = 0x048 || rel = 0x04C) && s.b (ctxP c) R.Hdr.CTRL_EN &&
    differs (rows.map (·.f)) (s.rd (ctxP c + rel)) v

/-- A context's page (R403, R405, R412, R419, R427). -/
def State.wCtx (s : State) (c a rel : Nat) (v : Word) : State :=
  match rel with
  | 0x008 => s.ctxCtrl c v
  | 0x00C => s.ctxStatWrite c v
  | 0x144 => s.ctxOp c (s.rd (ctxP c + 0x100)) (s.portData (ctxP c)) v true
  | _ => s.landUnless a v (ctxRange rel v || s.ctxHeld c rel v)

/-! ### BNI, APX -/

/-- A port's page (R536, R540, R544, R546). -/
def State.wBni (s : State) (n a rel : Nat) (v : Word) : State :=
  let en := s.b (bniP n) R.Hdr.CTRL_EN
  let rows := R.Bni.tbl.filter fun r => r.covers rel && r.acc == .rwl
  let held := en && differs (rows.map (·.f)) (s.rd a) v
  if rel = 0x008 then s.bniCtrl n v
  else if rel = 0x00C then s.bniStatWrite n v
  else if rel = 0x060 then s.landUnless a v (fget R.Bni.BNI_DMA_HI_UPPER v == 3 || held)
  else if within 0x080 0x08F rel then s.landUnless a v (decide (1000 < fget R.Bni.SHAPE_RATE v))
  else if within 0x100 0x17F rel && rel % 16 < 8 then s.landUnless a v held
  else s.land a v

/-- Common page of APX (R455). -/
def State.wApx (s : State) (a rel : Nat) (v : Word) : State :=
  match rel with
  | 0x040 => s.landUnless a v (!within 1 1000 (fget R.ApxC.NIB_CFG_LAG_TMO v))
  | _ => s.land a v

/-- The submission window of pair `p` (R433, R440, R442, R449, R457). -/
def State.wWin (s : State) (p a rel : Nat) (v : Word) : State :=
  match rel with
  | 0x048 => s.winCommit p v
  | 0x050 => s.kick p
  | 0x054 => s.hello p v
  | 0x0BC => s.report p v
  | _ => s.land a v

/-! ### All of them -/

/-- Whether a word of a page is one of the header's own registers beside `CTRL` and `STAT` (R69). -/
def hdrReg (rel : Nat) : Bool := within 0x010 0x03F rel

/-- A write of a word of a common page. -/
def State.wCommon (s : State) (ini : Ini) (b a rel : Nat) (v : Word) : State :=
  match b with
  | 0x00 => s.wPcr a rel v
  | 0x01 => s.wTbs a rel v
  | 0x02 => s.wRdm a rel v
  | 0x03 => s.wIkw ini a rel v
  | 0x04 => s.wMem ini a rel v
  | 0x05 => s.wSio a rel v
  | 0x06 => s.wSlp a rel v
  | 0x07 => s.wSag a rel v
  | 0x08 => s.wMpgC a rel v
  | 0x09 => s.wSep a rel v
  | 0x0B => if rel = 0x040 then s.fbSnap v else s.land a v
  | 0x0E => s.wCve a rel v
  | 0x0F => s.wClg a rel v
  | 0x11 => s.wApx a rel v
  | _ => s.land a v

/-- A write of a word of a channel page. -/
def State.wChannel (s : State) (ini : Ini) (b n a rel : Nat) (v : Word) : State :=
  match b with
  | 0x00 => if rel = 0x008 then s.domWrite ini n v else s.land a v
  | 0x01 => if rel = 0x008 then (s.land a v).tbsShow n else s.land a v
  | 0x07 => s.sagTouch.land a v
  | 0x08 => s.wMpg n a rel v
  | 0x0A => s.wDmc n a rel v
  | 0x0B => if n < 8 then s.wFb n a rel v else s.wPo a rel v
  | 0x0C => s.wDlk n a rel v
  | 0x0D => s.wSbc n a rel v
  | 0x0E => s.wCtx n a rel v
  | 0x10 => s.wBni n a rel v
  | _ => s.land a v

/-- A write of `v` at a word of a common page, a channel page or a table takes effect (R70, R71). -/
def State.landPage (s : State) (ini : Ini) (a : Nat) (v : Word) : State :=
  match locate a with
  | none => s
  | some l =>
    if l.kind.isPage && hdrReg l.rel then (if l.block = 0x07 then s.sagTouch else s).land a v
    else
      match l.kind with
      | .common b => s.wCommon ini b a l.rel v
      | .channel b n => s.wChannel ini b n a l.rel v
      | .ldg => s.mapGuard a v s.tableHeld
      | .fw => s.wFw a l.rel v
      | .ikwCode => s.ikwCodeWrite (l.rel / 4) v
      | .win p => s.wWin p a l.rel v
      | .ikwSup | .otp => s.land a v
      | .group _ _ | .bcast _ => s

/-! ### Group and broadcast pages (R75 to R77) -/

/-- The channel pages that a group page, or the broadcast page (`none`), reaches. -/
def State.members (s : State) (b : Nat) (g : Option Nat) : List Nat :=
  (List.range (nchanPresent s.lh6161 b)).filter fun n =>
    match g with
    | some g => bitOf (s.g (chPage b n) R.Hdr.GRPMASK) g
    | none => true

/-- A write lands in every member under the member's own rules; `ID`, `CAP` and `GRPMASK` ignore it. A door command
word reaches all members in one clock. -/
def State.landMembers (s : State) (ini : Ini) (b : Nat) (ms : List Nat) (rel : Nat) (v : Word) : State :=
  if rel = 0x000 || rel = 0x004 || rel = 0x030 then s
  else if b = 0x0A && rel = 0x108 then
    (ms.foldl (fun (m : State) n => (m.breakHalf (dmcP n + rel)).land (dmcP n + rel) v) s).doorCmd ms v
  else ms.foldl (fun (m : State) n => (m.breakHalf (chPage b n + rel)).landPage ini (chPage b n + rel) v) s

/-- A permitted write of `v` at `a` by `ini` takes effect (R70, R71, R76). -/
def State.landWrite (s : State) (ini : Ini) (a : Nat) (v : Word) : State :=
  match locate a with
  | none => s
  | some l =>
    match l.kind with
    | .group b g => s.landMembers ini b (s.members b (some g)) l.rel v
    | .bcast b => s.landMembers ini b (s.members b none) l.rel v
    | _ => s.landPage ini a v

/-- A write of a register word by an initiator, under all rules (R50, R51, R60, R68). -/
def State.regWrite (s : State) (ini : Ini) (a : Nat) (v : Word) : State := s.onWrite ini a fun s => s.landWrite ini a v

/-- REGISTER_WRITE (R70). -/
def execRegisterWrite (ini : Ini) (a v : Word) (s : State) : Host.Outcome State Fault Refusal :=
  .next (s.regWrite ini a.toNat v)

/-- Address of page `p` of the slot of block `b`: 0 the common page, n + 1 channel page n (R65, R67). -/
def pageAt (b p : Nat) : Nat := blk b + p * 0x1000

/-- LOCK_KEY (R73). -/
def execLockKey (ini : Ini) (b : Fin 18) (p : Fin 256) (v : Word) (s : State) : Host.Outcome State Fault Refusal :=
  .next (s.regWrite ini (pageAt b.val p.val + 0x020) v)

/-- IRQ_FORCE (R78). -/
def execIrqForce (ini : Ini) (b : Fin 18) (p : Fin 256) (v : Word) (s : State) : Host.Outcome State Fault Refusal :=
  .next (s.regWrite ini (pageAt b.val p.val + 0x01C) v)

/-- FW_LASTING_CLEAR (R85): `v` is the word written; its `LASTING` bit is 1. -/
def execFwLastingClear (ini : Ini) (f : Fin 256) (v : Word) (s : State) : Host.Outcome State Fault Refusal :=
  .next (s.regWrite ini (fwP f.val + 4) (v ||| 0x80000000#32))

/-- GROUP_PAGE_WRITE (R76): `g` names a group page, none the broadcast page. -/
def execGroupPageWrite (ini : Ini) (b : Fin 18) (g : Option (Fin 4)) (rel : Fin 1024) (v : Word) (s : State) :
    Host.Outcome State Fault Refusal :=
  let page := match g with | some g => grpPage b.val g.val | none => bcastPage b.val
  .next (s.regWrite ini (page + 4 * rel.val) v)

/-! ### Reads -/

/-- A read of a register word (R14, R70); `MEM_DBG_CHAL0` draws a challenge (R531). -/
def State.regRead (s : State) (ini : Ini) (a : Nat) : State :=
  if a = memC + 0x400 && s.verdictR ini a == .ok then
    (if s.memc.dbgLockEnd.isSome then s.refuseChal else s.drawChal).readReg ini a
  else s.readReg ini a

/-- TIME_LO_READ (R14, R96). -/
def execTimeLoRead (ini : Ini) (a : Word) (s : State) : Host.Outcome State Fault Refusal :=
  .next (s.regRead ini a.toNat)

end Sys2Proof.Machine
end

