-- ==== Sys2Proof/Machine/MemAccess.lean ====
section
/-! DEFINITION. Accesses to the memories (R50, R64, R443, R513 to R521), reads of the ledger region (R230), and
accesses that reach nothing (R60, R64, R68). -/

namespace Sys2Proof.Machine

/-! ### The address map -/

/-- The memories of the address map (R64, R513). -/
inductive Region where
  | rom | mram | localSram (p : Nat) | shared | slp | ledger | store | crypto | xspi | ddr
deriving DecidableEq, Repr

/-- The memory at an address, and where it ends (R64, R513). -/
def regionOf (a : Nat) : Option (Region × Nat) :=
  if a < 0x20000 then some (.rom, 0x20000)
  else if 0x04000000 ≤ a && a < 0x04200000 then some (.mram, 0x04200000)
  else if 0x10000000 ≤ a && a < 0x10400000 then some (.localSram 0, 0x10400000)
  else if 0x10400000 ≤ a && a < 0x10800000 then some (.localSram 1, 0x10800000)
  else if 0x10800000 ≤ a && a < 0x11600000 then some (.shared, 0x11600000)
  else if 0x11600000 ≤ a && a < 0x11700000 then some (.slp, 0x11700000)
  else if 0x11700000 ≤ a && a < 0x11764000 then some (.ledger, 0x11764000)
  else if 0x11764000 ≤ a && a < 0x11780000 then some (.store, 0x11780000)
  else if 0x11780000 ≤ a && a < 0x11800000 then some (.crypto, 0x11800000)
  else if 0x60000000 ≤ a && a < 0x80000000 then some (.xspi, 0x80000000)
  else if ddrBase ≤ a && a < 0x280000000 then some (.ddr, 0x280000000)
  else none

/-- The power domain of a memory beside PD_FAB, in which the interconnect lies (R59, R513). -/
def Region.domain : Region → Nat
  | .mram => 0 | .localSram p => 3 + p | .slp => 2 | .ledger | .store => 7 | .ddr => 9 | _ => 5

/-- A memory answers at `len` bytes from `a` (R60, R519). -/
def State.regionOn (s : State) (r : Region) (a len : Nat) : Bool :=
  s.domOn 5 && s.domOn r.domain && match r with
  | .ddr => s.b memC R.MemC.STAT_DDR_READY && decide (a + len ≤ ddrBase + (s.rd (memC + 0x05C)).toNat * 0x100000)
  | _ => true

/-- The boot ROM runs on a pair (R513, R528). -/
def State.inRom (s : State) (i : Ini) : Bool :=
  match i with
  | .pair p => s.pst p.val == 1 && (s.pair p.val).booting
  | _ => false

/-- Debug access to memory is open (R530, R531). -/
def State.dbgMem (s : State) : Bool := s.dbgOpen && s.dbgScope

/-- Who may read a memory (R50, R513, R516, R521). -/
def State.mayRead (s : State) (i : Ini) : Region → Bool
  | .rom | .mram | .xspi => i != .debug || s.dbgMem
  | .localSram p => match i with | .pair q => q.val == p | .quill => true | _ => false
  | .shared | .ddr => i != .nib && (i != .debug || s.dbgMem)
  | .slp => false
  | .ledger | .store => match i with | .pair _ | .quill => true | .debug => s.dbgMem | _ => false
  | .crypto => i == .crypto || s.inRom i

/-- Who may write a memory at `a` (R50, R443, R513, R516, R521). The ledger region is written by CLG alone and the
conversation store by CVE (R218): CLG is no initiator, its own writes are the commands of its port. -/
def State.mayWrite (s : State) (i : Ini) (a : Nat) : Region → Bool
  | .rom | .xspi | .slp => false
  | .mram =>
    match i with
    | .pair p => 0x04018000 ≤ a && a < 0x04100000 && s.pst p.val == 4
    | .ikw => 0x04100000 ≤ a
    | _ => false
  | .localSram p => match i with | .pair q => q.val == p | .quill => s.pst p == 2 || s.pst p == 3 | _ => false
  | .shared | .ddr => i != .nib && (i != .debug || s.dbgMem)
  | .ledger => false
  | .store => i == .cve
  | .crypto => i == .crypto || s.inRom i

/-- A refused write is counted in `FAULT_CNT` of the APX common page: the targets of R50's table. -/
def refusedCounts (a : Nat) : Region → Bool
  | .mram => decide (a < 0x04005000)
  | .localSram _ | .slp | .ledger | .store | .shared | .ddr => true
  | .rom | .xspi | .crypto => false

/-! ### Contents -/

/-- A byte as it is read; the save area's layout is not given, so its bytes are free while it holds an image
(R495). -/
def State.byteAt (s : State) (i : Ini) (a k : Nat) : Nat :=
  if a < 0x20000 then Config.romByte a % 256
  else if s.pcr.saved && 0x04008000 ≤ a && a < 0x04018000 then Config.freeNat (s.fresh + k) % 256
  else if clgBase ≤ a && a < 0x11764000 then s.ledByte i (a - clgBase)
  else s.byte a

/-- The bytes of an access, as they are read. -/
def State.bytesAt (s : State) (i : Ini) (a n : Nat) : List Nat := (List.range n).map fun k => s.byteAt i (a + k) k

/-- A byte is stored. -/
def State.putByte (s : State) (a v : Nat) : State :=
  if clgBase ≤ a && a < 0x11764000 then
    let off := (a - clgBase) / 4 * 4
    let w := ledR s.clg.led off
    { s with clg := { s.clg with led := ledW s.clg.led off (bitsW w (8 * (a % 4)) 8 v) } }
  else s.setByte a v

/-- Bytes are stored, each unless `skip` holds of its address. -/
def State.putBytes (s : State) (a : Nat) (skip : Nat → Bool) : List Nat → State
  | [] => s
  | b :: bs => State.putBytes (if skip a then s else s.putByte a b) (a + 1) skip bs

/-- How a memory handles errors (R514, R518, R520). -/
def State.eccOf (s : State) : Region → Option EccKind
  | .localSram _ | .shared | .slp | .ledger | .store | .crypto => some .sram
  | .mram => some .mram
  | .ddr => if s.b memC R.MemC.MEM_DDR_CFG_ECC then some .ddr else none
  | .rom | .xspi => none

/-- Words are read: whether one holds an uncorrectable error (R514). -/
def State.eccPass (s : State) (r : Region) (ws : List Nat) (found : Nat) : Bool × State :=
  match s.eccOf r with
  | some k => s.eccRead k ws found
  | none => (false, s)

/-- Fresh check bits over the words of a write. -/
def State.eccFresh (s : State) (a n : Nat) : State := (eccWords a n).foldl (fun (m : State) w => m.setEcc w 0) s

/-! ### Reads and writes -/

/-- The pair whose read of the ledger is held until its V is applied (R230). -/
def State.readHeld (s : State) (i : Ini) (r : Region) : Option Nat :=
  match r, i with
  | .ledger, .pair p => if s.viewHeld p.val then some p.val else none
  | _, _ => none

/-- A permitted read. -/
def State.memRead (s : State) (i : Ini) (r : Region) (a n found : Nat) : State :=
  let (bad, s) := s.eccPass r (eccWords a n) found
  if bad then { s with bus := .error }
  else if let some p := s.readHeld i r then
    { s with bus := .held, clg := { s.clg with reads := s.clg.reads ++ [(p, a, n)] } }
  else { s with bus := .done (ofBytesLE (s.bytesAt i a n)) }.drew (if s.pcr.saved && r == Region.mram then n else 0)

/-- The windows of Quill that an access to local SRAM touches. -/
def State.qwTouched (s : State) (off n : Nat) : List Nat :=
  (List.range 32).filter fun w => (List.range n).any fun k => s.qwOf (off + k) == some w

/-- A pair's write to its own SRAM (R443): into an enabled window it is mirrored from the duty, and dropped on the pair
that Quill copies to. -/
def State.localWrite (s : State) (p a : Nat) (bs : List Nat) : State :=
  let base := localSram p
  let inWin (x : Nat) : Bool := (s.qwOf (x - base)).isSome
  if s.quillTo = some p then
    let s' := (s.qwTouched (a - base) bs.length).foldl (fun (m : State) w => m.inc (qwP w) R.RdmC.QW_DROP) s
    s'.putBytes a inWin bs
  else if s.duty = some p && s.quillTo.isSome then
    let b := a - base + localSram (1 - p)
    (s.putBytes a (fun _ => false) bs).putBytes b (fun x => (s.qwOf (x - localSram (1 - p))).isNone) bs
  else s.putBytes a (fun _ => false) bs

/-- A permitted write. -/
def State.memWrite (s : State) (i : Ini) (r : Region) (a : Nat) (bs : List Nat) (found : Nat) : State :=
  let (bad, s) := s.eccPass r (partialWords a bs.length) found
  if bad then { s with bus := .error } else
  let s := { s with bus := .done 0 }.eccFresh a bs.length
  match r, i with
  | .localSram p, .pair _ => s.localWrite p a bs
  | _, _ => s.putBytes a (fun _ => false) bs

/-- The little-endian word of up to four bytes. -/
def wordOf (bs : List Nat) : Word := wd (ofBytesLE bs)

/-- An access by an initiator (R50, R64, R68, R514). -/
def State.access (s : State) (i : Ini) (a : Nat) (op : MemOp) (found : Nat) : State :=
  let bs := match op with | .write d => d.map (·.toNat) | .read _ => []
  let n := match op with | .write _ => bs.length | .read n => n.val
  let blocked := match i with | .pair p => s.pairBlocked p.val | _ => false
  if blocked then s
  else if 0x40000000 ≤ a && a < 0x60000000 then
    if a % 4 ≠ 0 || n ≠ 4 then { s with bus := .error }
    else match op with
      | .read _ => s.regRead i a
      | .write _ => s.regWrite i a (wordOf bs)
  else
    match regionOf a with
    | none => { s with bus := .error }
    | some (r, e) =>
      if e < a + n || !s.regionOn r a n then { s with bus := .error }
      else match op with
        | .read _ => if s.mayRead i r then s.memRead i r a n found else { s with bus := .error }
        | .write _ =>
          if s.mayWrite i a r then s.memWrite i r a bs found
          else if refusedCounts a r then { s with bus := .error }.flt apxC
          else { s with bus := .error }

/-- MEMORY_ACCESS (R50, R514). -/
def execMemoryAccess (ini : Ini) (a : BitVec 34) (op : MemOp) (ecc : Fin 3) (s : State) :
    Host.Outcome State Fault Refusal :=
  .next (s.access ini a.toNat op ecc.val)

/-- LEDGER_READ (R230). -/
def execLedgerRead (p : Fin 2) (line : Fin 12800) (s : State) : Host.Outcome State Fault Refusal :=
  .next (s.access (.pair p) (clgBase + line.val * 32) (.read 32) 0)

/-! ### Accesses that reach nothing -/

/-- An access of `n` bytes reaches nothing (R60, R64, R68). -/
def State.unreached (s : State) (a n : Nat) : Bool :=
  if 0x40000000 ≤ a && a < 0x60000000 then
    match locate a with
    | none => true
    | some l => a % 4 != 0 || n != 4 || !s.domOn 5 || !s.domOn (blkDomain l.block)
  else
    match regionOf a with
    | none => true
    | some (r, _) => !s.regionOn r a n

/-- UNMAPPED_ACCESS (R60, R64, R68): a bus error, no effect. An access that reaches something is another command. -/
def execUnmappedAccess (ini : Ini) (a : BitVec 64) (n : Fin 65) (s : State) : Host.Outcome State Fault Refusal :=
  .next (
    let blocked := match ini with | .pair p => s.pairBlocked p.val | _ => false
    if !blocked && s.unreached a.toNat n.val then { s with bus := .error } else s)

end Sys2Proof.Machine
end

