-- ==== Sys2Proof/Machine/Dispatch.lean ====
section
/-! DEFINITION. The dispatch: one arm per command, one direct call of its meaning. -/

namespace Sys2Proof.Machine

def exec (i : Instr) (s : State) : Host.Outcome State Fault Refusal :=
  match i with
  | .registerWrite ini a v => Sys2Proof.Machine.execRegisterWrite ini a v s
  | .unmappedAccess ini a n => Sys2Proof.Machine.execUnmappedAccess ini a n s
  | .memoryAccess ini a op ecc => Sys2Proof.Machine.execMemoryAccess ini a op ecc s
  | .ledgerRead p line => Sys2Proof.Machine.execLedgerRead p line s
  | .lockKey ini b p v => Sys2Proof.Machine.execLockKey ini b p v s
  | .irqForce ini b p v => Sys2Proof.Machine.execIrqForce ini b p v s
  | .groupPageWrite ini b g rel v => Sys2Proof.Machine.execGroupPageWrite ini b g rel v s
  | .fwLastingClear ini f v => Sys2Proof.Machine.execFwLastingClear ini f v s
  | .armU ini v => Sys2Proof.Machine.execArmU ini v s
  | .armL ini v => Sys2Proof.Machine.execArmL ini v s
  | .armCheckDone => Sys2Proof.Machine.execArmCheckDone s
  | .disarmU ini v => Sys2Proof.Machine.execDisarmU ini v s
  | .disarmL ini v => Sys2Proof.Machine.execDisarmL ini v s
  | .ofsCommit ini v => Sys2Proof.Machine.execOfsCommit ini v s
  | .tbStep => Sys2Proof.Machine.execTbStep s
  | .slewDone => Sys2Proof.Machine.execSlewDone s
  | .reseededClear ini v => Sys2Proof.Machine.execReseededClear ini v s
  | .syncSend n => Sys2Proof.Machine.execSyncSend n s
  | .syncDeadline n => Sys2Proof.Machine.execSyncDeadline n s
  | .followUpSend n => Sys2Proof.Machine.execFollowUpSend n s
  | .pfiEnable ini n v => Sys2Proof.Machine.execPfiEnable ini n v s
  | .quadCount n ab clks => Sys2Proof.Machine.execQuadCount n ab clks s
  | .posSet ini n v => Sys2Proof.Machine.execPosSet ini n v s
  | .spdWindow n => Sys2Proof.Machine.execSpdWindow n s
  | .serRequest n => Sys2Proof.Machine.execSerRequest n s
  | .serWord n started data nE nW crc delay => Sys2Proof.Machine.execSerWord n started data nE nW crc delay s
  | .serStale n => Sys2Proof.Machine.execSerStale n s
  | .indexEdge n e => Sys2Proof.Machine.execIndexEdge n e s
  | .probeEdge n q e => Sys2Proof.Machine.execProbeEdge n q e s
  | .cmpArm ini n c v => Sys2Proof.Machine.execCmpArm ini n c v s
  | .cmpDisarm ini n c v => Sys2Proof.Machine.execCmpDisarm ini n c v s
  | .pfiFaultClear ini n v => Sys2Proof.Machine.execPfiFaultClear ini n v s
  | .pfiSnap ini v => Sys2Proof.Machine.execPfiSnap ini v s
  | .poStep k => Sys2Proof.Machine.execPoStep k s
  | .hoistPeriodBoundary c => Sys2Proof.Machine.execHoistPeriodBoundary c s
  | .levelled c => Sys2Proof.Machine.execLevelled c s
  | .levelMiss c => Sys2Proof.Machine.execLevelMiss c s
  | .mpgStop c tag => Sys2Proof.Machine.execMpgStop c tag s
  | .mpgStopRamp c d j tag => Sys2Proof.Machine.execMpgStopRamp c d j tag s
  | .mpgRelevel c tag => Sys2Proof.Machine.execMpgRelevel c tag s
  | .haltClr ini c v => Sys2Proof.Machine.execHaltClr ini c v s
  | .mpgEnable ini c v => Sys2Proof.Machine.execMpgEnable ini c v s
  | .downFrame n => Sys2Proof.Machine.execDownFrame n s
  | .upFrame n bytes dt => Sys2Proof.Machine.execUpFrame n bytes dt s
  | .periodMiss n => Sys2Proof.Machine.execPeriodMiss n s
  | .symbolLock n => Sys2Proof.Machine.execSymbolLock n s
  | .symbolLockLoss n => Sys2Proof.Machine.execSymbolLockLoss n s
  | .helloTimeout n => Sys2Proof.Machine.execHelloTimeout n s
  | .lossClr ini n v => Sys2Proof.Machine.execLossClr ini n v s
  | .dlkEnable ini n v => Sys2Proof.Machine.execDlkEnable ini n v s
  | .sepDisagreeClear ini v => Sys2Proof.Machine.execSepDisagreeClear ini v s
  | .exeLoad c idx w0 w1 w2 w3 tag => Sys2Proof.Machine.execExeLoad c idx w0 w1 w2 w3 tag s
  | .exeGo c idx tag => Sys2Proof.Machine.execExeGo c idx tag s
  | .exeHold c tag => Sys2Proof.Machine.execExeHold c tag s
  | .exeResume c tag => Sys2Proof.Machine.execExeResume c tag s
  | .exeCancel c w0 w1 tag => Sys2Proof.Machine.execExeCancel c w0 w1 tag s
  | .exeRelease c tag => Sys2Proof.Machine.execExeRelease c tag s
  | .dwellDone c => Sys2Proof.Machine.execDwellDone c s
  | .evtTimeout c => Sys2Proof.Machine.execEvtTimeout c s
  | .clgInsert w0 w1 w2 w3 w4 w5 tag seq => Sys2Proof.Machine.execClgInsert w0 w1 w2 w3 w4 w5 tag seq s
  | .clgAssign idx car tag seq => Sys2Proof.Machine.execClgAssign idx car tag seq s
  | .clgUnassign idx tag seq => Sys2Proof.Machine.execClgUnassign idx tag seq s
  | .clgServe idx tag seq => Sys2Proof.Machine.execClgServe idx tag seq s
  | .clgCancel idx tag seq => Sys2Proof.Machine.execClgCancel idx tag seq s
  | .clgSetApp idx flags app tag seq => Sys2Proof.Machine.execClgSetApp idx flags app tag seq s
  | .viewStallApply => Sys2Proof.Machine.execViewStallApply s
  | .clgEnable ini v => Sys2Proof.Machine.execClgEnable ini v s
  | .clgInitDone => Sys2Proof.Machine.execClgInitDone s
  | .peakClr ini v => Sys2Proof.Machine.execPeakClr ini v s
  | .clgFaultClear ini v => Sys2Proof.Machine.execClgFaultClear ini v s
  | .dmcOpen d arg tag => Sys2Proof.Machine.execDmcOpen d arg tag s
  | .dmcClose d tag => Sys2Proof.Machine.execDmcClose d tag s
  | .dmcStop d tag => Sys2Proof.Machine.execDmcStop d tag s
  | .dmcHome d tag => Sys2Proof.Machine.execDmcHome d tag s
  | .dmcCal d tag => Sys2Proof.Machine.execDmcCal d tag s
  | .dmcEnable ini n v => Sys2Proof.Machine.execDmcEnable ini n v s
  | .doorMoveDone n => Sys2Proof.Machine.execDoorMoveDone n s
  | .doorAtRest n => Sys2Proof.Machine.execDoorAtRest n s
  | .obstruction n => Sys2Proof.Machine.execObstruction n s
  | .lostStep n => Sys2Proof.Machine.execLostStep n s
  | .reverseStart n => Sys2Proof.Machine.execReverseStart n s
  | .overCurrent n phaseB => Sys2Proof.Machine.execOverCurrent n phaseB s
  | .driverFault n low => Sys2Proof.Machine.execDriverFault n low s
  | .endSwitch n isOpen pin us => Sys2Proof.Machine.execEndSwitch n isOpen pin us s
  | .homeTimeout n => Sys2Proof.Machine.execHomeTimeout n s
  | .calDone n sums reach rise mv ma => Sys2Proof.Machine.execCalDone n sums reach rise mv ma s
  | .oosClear ini n v => Sys2Proof.Machine.execOosClear ini n v s
  | .slpCycle rb fb ck fails slpRec sgRec => Sys2Proof.Machine.execSlpCycle rb fb ck fails slpRec sgRec s
  | .sageCycle rb fb vanes wordU wordL fail => Sys2Proof.Machine.execSageCycle rb fb vanes wordU wordL fail s
  | .sageWordTimeout c => Sys2Proof.Machine.execSageWordTimeout c s
  | .lockstepError => Sys2Proof.Machine.execLockstepError s
  | .sageRecordMissing => Sys2Proof.Machine.execSageRecordMissing s
  | .sagLatchClr ini v => Sys2Proof.Machine.execSagLatchClr ini v s
  | .sagSafeKey ini v => Sys2Proof.Machine.execSagSafeKey ini v s
  | .gateTimeout => Sys2Proof.Machine.execGateTimeout s
  | .sagLoadData ini v => Sys2Proof.Machine.execSagLoadData ini v s
  | .sagLoadAbort ini v => Sys2Proof.Machine.execSagLoadAbort ini v s
  | .spbCommit ini v => Sys2Proof.Machine.execSpbCommit ini v s
  | .spbCheckDone same => Sys2Proof.Machine.execSpbCheckDone same s
  | .spbCopiesWritten okA okB => Sys2Proof.Machine.execSpbCopiesWritten okA okB s
  | .sagSafeConfirm ini v => Sys2Proof.Machine.execSagSafeConfirm ini v s
  | .slpGetStatus p seq => Sys2Proof.Machine.execSlpGetStatus p seq s
  | .slpRunTest p seq => Sys2Proof.Machine.execSlpRunTest p seq s
  | .slpReadSpb p seq => Sys2Proof.Machine.execSlpReadSpb p seq s
  | .inputChange k sage chB e => Sys2Proof.Machine.execInputChange k sage chB e s
  | .testPulse j pre ends any0 any1 rb0 rb1 => Sys2Proof.Machine.execTestPulse j pre ends any0 any1 rb0 rb1 s
  | .tpHeldReadback j low => Sys2Proof.Machine.execTpHeldReadback j low s
  | .discFault k sage => Sys2Proof.Machine.execDiscFault k sage s
  | .sioInReset ini v => Sys2Proof.Machine.execSioInReset ini v s
  | .darkTest o rbLow => Sys2Proof.Machine.execDarkTest o rbLow s
  | .rbFault o sage rb => Sys2Proof.Machine.execRbFault o sage rb s
  | .fbTimeout o sage => Sys2Proof.Machine.execFbTimeout o sage s
  | .sioOutReset ini v => Sys2Proof.Machine.execSioOutReset ini v s
  | .onReq ini g v => Sys2Proof.Machine.execOnReq ini g v s
  | .dzRst ini v => Sys2Proof.Machine.execDzRst ini v s
  | .vddioSLow => Sys2Proof.Machine.execVddioSLow s
  | .vddioSRecover => Sys2Proof.Machine.execVddioSRecover s
  | .sbcEnable ini n v => Sys2Proof.Machine.execSbcEnable ini n v s
  | .busIntegrated n => Sys2Proof.Machine.execBusIntegrated n s
  | .restrictedEnd n => Sys2Proof.Machine.execRestrictedEnd n s
  | .sbcOos ini n v => Sys2Proof.Machine.execSbcOos ini n v s
  | .borReq ini n v => Sys2Proof.Machine.execBorReq ini n v s
  | .busOffRecovered n => Sys2Proof.Machine.execBusOffRecovered n s
  | .txReq ini n b v idle => Sys2Proof.Machine.execTxReq ini n b v idle s
  | .txAbort ini n b v => Sys2Proof.Machine.execTxAbort ini n b v s
  | .txLaunchDue n b idle => Sys2Proof.Machine.execTxLaunchDue n b idle s
  | .txAttemptEnd n res tdcv dom => Sys2Proof.Machine.execTxAttemptEnd n res tdcv dom s
  | .aloneRetry n => Sys2Proof.Machine.execAloneRetry n s
  | .frameReceived n f => Sys2Proof.Machine.execFrameReceived n f s
  | .sbcFaultClear ini n v => Sys2Proof.Machine.execSbcFaultClear ini n v s
  | .ctxEnable ini n v => Sys2Proof.Machine.execCtxEnable ini n v s
  | .ctxDisable ini n v => Sys2Proof.Machine.execCtxDisable ini n v s
  | .inviteSlot => Sys2Proof.Machine.execInviteSlot s
  | .inviteTimeout n => Sys2Proof.Machine.execInviteTimeout n s
  | .join port src seq serial ver cls first age => Sys2Proof.Machine.execJoin port src seq serial ver cls first age s
  | .welcome n => Sys2Proof.Machine.execWelcome n s
  | .leave port src seq reason age => Sys2Proof.Machine.execLeave port src seq reason age s
  | .data port src prio stream seq msg age => Sys2Proof.Machine.execData port src prio stream seq msg age s
  | .ack port src seq cum held full age => Sys2Proof.Machine.execAck port src seq cum held full age s
  | .nak port src seq ref refType reason detail age => Sys2Proof.Machine.execNak port src seq ref refType reason detail age s
  | .heartbeat port src seq next full per heard age => Sys2Proof.Machine.execHeartbeat port src seq next full per heard age s
  | .gapTimeout n => Sys2Proof.Machine.execGapTimeout n s
  | .ackDue n => Sys2Proof.Machine.execAckDue n s
  | .retransmitDue n => Sys2Proof.Machine.execRetransmitDue n s
  | .heartbeatMiss n => Sys2Proof.Machine.execHeartbeatMiss n s
  | .bcastHeartbeat net => Sys2Proof.Machine.execBcastHeartbeat net s
  | .cveSend n hdr d tag => Sys2Proof.Machine.execCveSend n hdr d tag s
  | .cveRelease n pair count tag => Sys2Proof.Machine.execCveRelease n pair count tag s
  | .cveNotice hdr d tag => Sys2Proof.Machine.execCveNotice hdr d tag s
  | .ctxBarClear ini n v => Sys2Proof.Machine.execCtxBarClear ini n v s
  | .nibSubmit ini p v => Sys2Proof.Machine.execNibSubmit ini p v s
  | .nibForward blk => Sys2Proof.Machine.execNibForward blk s
  | .lagTimeout p => Sys2Proof.Machine.execLagTimeout p s
  | .nibHello ini p v => Sys2Proof.Machine.execNibHello ini p v s
  | .nibWdgKick ini p v => Sys2Proof.Machine.execNibWdgKick ini p v s
  | .wdgTimeout p => Sys2Proof.Machine.execWdgTimeout p s
  | .bootTimeout p => Sys2Proof.Machine.execBootTimeout p s
  | .autoRestart => Sys2Proof.Machine.execAutoRestart s
  | .roleSwap ini v => Sys2Proof.Machine.execRoleSwap ini v s
  | .admitPair ini v => Sys2Proof.Machine.execAdmit ini v s
  | .admitted => Sys2Proof.Machine.execAdmitted s
  | .pairRestart ini p v => Sys2Proof.Machine.execPairRestart ini p v s
  | .quillBulkDone w => Sys2Proof.Machine.execQuillBulkDone w s
  | .healthReport ini p v => Sys2Proof.Machine.execHealthReport ini p v s
  | .hrTimeout p => Sys2Proof.Machine.execHrTimeout p s
  | .testSlot march nibOk wdgOk => Sys2Proof.Machine.execTestSlot march nibOk wdgOk s
  | .testReq ini v => Sys2Proof.Machine.execTestReq ini v s
  | .bootDone p us dirErr hdrErr bodyErr eccErr => Sys2Proof.Machine.execBootDone p us dirErr hdrErr bodyErr eccErr s
  | .ikwSwRecord ini v => Sys2Proof.Machine.execIkwSwRecord ini v s
  | .recordDrain fails => Sys2Proof.Machine.execRecordDrain fails s
  | .tokenRefill c => Sys2Proof.Machine.execTokenRefill c s
  | .ikwEnable ini v => Sys2Proof.Machine.execIkwEnable ini v s
  | .scanDone => Sys2Proof.Machine.execScanDone s
  | .archiveCopy ok => Sys2Proof.Machine.execArchiveCopy ok s
  | .ikwRdIdx ini v => Sys2Proof.Machine.execIkwRdIdx ini v s
  | .ikwCodeWrite ini c v => Sys2Proof.Machine.execIkwCodeWrite ini c v s
  | .ikwFaultClear ini v => Sys2Proof.Machine.execIkwFaultClear ini v s
  | .ikwRead n => Sys2Proof.Machine.execIkwRead n s
  | .oppReq ini v => Sys2Proof.Machine.execOppReq ini v s
  | .oppDone ok => Sys2Proof.Machine.execOppDone ok s
  | .dvsAckTimeout => Sys2Proof.Machine.execDvsAckTimeout s
  | .dvsAckLost => Sys2Proof.Machine.execDvsAckLost s
  | .coreWfi p c => Sys2Proof.Machine.execCoreWfi p c s
  | .sleepStandby ini v active => Sys2Proof.Machine.execSleepStandby ini v active s
  | .sleepHibernate ini v active => Sys2Proof.Machine.execSleepHibernate ini v active s
  | .sleepCoresTimeout => Sys2Proof.Machine.execSleepCoresTimeout s
  | .standbyEntry => Sys2Proof.Machine.execStandbyEntry s
  | .hibernateEntry => Sys2Proof.Machine.execHibernateEntry s
  | .wakeEvent src ch => Sys2Proof.Machine.execWakeEvent src ch s
  | .wakeAttemptTimeout osc => Sys2Proof.Machine.execWakeAttemptTimeout osc s
  | .brownOut => Sys2Proof.Machine.execBrownOut s
  | .undervoltage => Sys2Proof.Machine.execUndervoltage s
  | .clockFail mon => Sys2Proof.Machine.execClockFail mon s
  | .xaonFail => Sys2Proof.Machine.execXaonFail s
  | .xaonRecover => Sys2Proof.Machine.execXaonRecover s
  | .nresetAssert => Sys2Proof.Machine.execNresetAssert s
  | .nresetRelease => Sys2Proof.Machine.execNresetRelease s
  | .resetStuck => Sys2Proof.Machine.execResetStuck s
  | .powerOn pmode vsage regFails oscFails => Sys2Proof.Machine.execPowerOn pmode vsage regFails oscFails s
  | .powerLoss => Sys2Proof.Machine.execPowerLoss s
  | .lifeCheckpoint => Sys2Proof.Machine.execLifeCheckpoint s
  | .pwrFail => Sys2Proof.Machine.execPwrFail s
  | .pwrFailClear => Sys2Proof.Machine.execPwrFailClear s
  | .domainEnable ini d v => Sys2Proof.Machine.execDomainEnable ini d v s
  | .scrubRead ecc => Sys2Proof.Machine.execScrubRead ecc s
  | .ddrInit ini v => Sys2Proof.Machine.execDdrInit ini v s
  | .ddrReady ok => Sys2Proof.Machine.execDdrReady ok s
  | .ddrMr4Poll rate => Sys2Proof.Machine.execDdrMr4Poll rate s
  | .xspiErase ini v => Sys2Proof.Machine.execXspiErase ini v s
  | .xspiProgram ini v => Sys2Proof.Machine.execXspiProgram ini v s
  | .xspiDone ok => Sys2Proof.Machine.execXspiDone ok s
  | .otpProgram ini v => Sys2Proof.Machine.execOtpProgram ini v s
  | .otpDone ok => Sys2Proof.Machine.execOtpDone ok s
  | .arbAdvance ini v => Sys2Proof.Machine.execArbAdvance ini v s
  | .memBootSel ini v => Sys2Proof.Machine.execMemBootSel ini v s
  | .attReq ini v => Sys2Proof.Machine.execAttReq ini v s
  | .attDone us => Sys2Proof.Machine.execAttDone us s
  | .dbgChallenge ini => Sys2Proof.Machine.execDbgChallenge ini s
  | .dbgSubmit ini v => Sys2Proof.Machine.execDbgSubmit ini v s
  | .dbgResult us ticks => Sys2Proof.Machine.execDbgResult us ticks s
  | .dbgLockoutEnd => Sys2Proof.Machine.execDbgLockoutEnd s
  | .jtagInstruction ir => Sys2Proof.Machine.execJtagInstruction ir s
  | .linkChange n up speedOk => Sys2Proof.Machine.execLinkChange n up speedOk s
  | .ethFrameReceived n f => Sys2Proof.Machine.execEthFrameReceived n f s
  | .ethFrameSent n linkLost => Sys2Proof.Machine.execEthFrameSent n linkLost s
  | .ringTail ini n r v => Sys2Proof.Machine.execRingTail ini n r v s
  | .bniEnable ini n v => Sys2Proof.Machine.execBniEnable ini n v s
  | .bniFaultClear ini n v => Sys2Proof.Machine.execBniFaultClear ini n v s
  | .doorProfileTick n => Sys2Proof.Machine.execDoorProfileTick n s
  | .pwmPeriodBoundary n codeA codeB moreA moreB => Sys2Proof.Machine.execPwmPeriodBoundary n codeA codeB moreA moreB s
  | .busError n code dataPhase dom => Sys2Proof.Machine.execBusError n code dataPhase dom s
  | .protocolException n => Sys2Proof.Machine.execProtocolException n s
  | .laneSupplyLoss sage => Sys2Proof.Machine.execLaneSupplyLoss sage s
  | .wakeComplete crcOk => Sys2Proof.Machine.execWakeComplete crcOk s
  | .timeLoRead ini a => Sys2Proof.Machine.execTimeLoRead ini a s

end Sys2Proof.Machine
end

