-- ==== Sys2Proof/Machine/Pins.lean ====
section
/-! DEFINITION. The levels the device drives at its safety, gate and fault pins (R503, R505, R530, R564). -/

namespace Sys2Proof.Machine

/-- Power-on reset or `nRESET` is in force: every logic output of a powered bank drives low (R503, R564). -/
def State.resetInForce (s : State) : Bool := s.pcr.power == .off || s.pcr.power == .held

/-- The level of `SOo_HS` (`hs`) or `SOo_LS`: the lane's switch command, forced to 0 by `EXTEST` and `CLAMP` (R530). -/
def State.soPin (s : State) (o : Nat) (hs : Bool) : Bool :=
  (if hs then s.hs o else s.ls o) && !s.memc.jtagForce && !s.resetInForce

/-- The on-time of gate `k` of a door channel in a PWM period, in `CK_MOT` clocks (R239, R530). -/
def State.gatePin (s : State) (n k : Nat) : Nat :=
  if s.memc.jtagForce || s.resetInForce then 0 else (s.door n).gates.getD k 0

/-- The `FAULT` output (R505). -/
def State.faultPin (s : State) : Bool := s.rd (pcrC + R.PcrC.PCR_FAULT_NO_PAIR.off) != 0#32 && !s.resetInForce

end Sys2Proof.Machine
end

