-- ==== Sys2Proof/Safety.lean ====
section
/-! DEFINITION. What counts as a sound state and as a quiet command, in the terms the statements use. -/

namespace Sys2Proof.Machine

/-- Memory is in its canonical form: addresses strictly rising, no byte equal to what an unlisted one reads as. -/
def Memory.wf (m : List Host.Cell) : Bool := Tab.wf (fun _ => 0#8) m

/-- The register file is in its canonical form: no word listed at its reset value. -/
def Regs.wf (m : List (Nat × Word)) : Bool := Tab.wf resetOf m

/-- The command `c` answers state `t` from state `s`. -/
abbrev Runs (c : Instr) (s t : State) : Prop := exec c s = .next t

/-- Every register word outside `as` reads as before. -/
def SameRegs (as : List Nat) (s t : State) : Prop := ∀ a, a ∉ as → t.rd a = s.rd a

/-- Every byte of memory reads as before. -/
def SameMem (s t : State) : Prop := ∀ a, t.byte a = s.byte a

/-- The command `c` answers a next state from `s`, and `P` holds of it. -/
def Does (c : Instr) (s : State) (P : State → Prop) : Prop := ∃ t, exec c s = .next t ∧ P t

/-- The state in which a permitted write at `a` takes its effect: the access is done, and a half-open lock of the page
has closed unless `LOCK` itself is written (R73). -/
def State.granted (s : State) (a : Nat) : State := { s with bus := .done 0 }.breakHalf a

end Sys2Proof.Machine
end

