-- ==== Sys2Proof/Certificates/Slice0/Obligations.lean ====
section
/-! DEFINITION. The statements for the provers: the rules of the manual command by command (`Rule`), and the obligations
over them. -/

namespace Sys2Proof.Rule
open Sys2Proof Machine

/-- A counter one higher, saturating at all ones (R81). -/
@[reducible] def bump (s : State) (pg : Nat) (f : Fld) : Nat := min (s.g pg f + 1) (2 ^ f.w - 1)

/-- Whether the event of bit `i` stands in `IRQ_RAW` of a page. -/
@[reducible] def raised (s : State) (pg i : Nat) : Bool := bitOf (s.g pg R.Hdr.IRQ_RAW) i


/-- The command answers the state `v` after the reactions that close it: what the generators, executors and doors make
of compare events, lost sources, finished motions and the lanes' signals (`State.settle`); and `P` holds of `v`. -/
@[reducible] def Settles (c : Instr) (s v : State) (P : State → Prop) : Prop := exec c s = .next v.settle ∧ P v

/-- Source word of a firmware record by its initiator (R480). -/
@[reducible] def iniSrc : Ini → Nat
  | .pair p => srcOf 0x11 p
  | _ => 0x11FF

/-! ### PFI -/

/-- R121, R126: `EN` from 0 to 1 starts the count from the raw count, with the direction not known, no index seen and, on a
quadrature channel, the speed window open; from 1 to 0 it clears the origin, `SER_OK`, `VALID` and the window. A write that
leaves `EN` leaves the channel. -/
@[reducible] def pfiEnable (ini : Ini) (n : Fin 8) (v : Word) (s : State) : Prop :=
  let a := fbP n + 0x008
  let u := s.granted a
  let was := u.b (fbP n) R.Hdr.CTRL_EN
  let now := bitOf v.toNat 0
  s.verdictW ini a = .ok →
  Does (.pfiEnable ini n v) s fun t =>
    t.b (fbP n) R.Hdr.CTRL_EN = now ∧ (t.fb n).raw = (u.fb n).raw ∧
    (was = false → now = true → t.b (fbP n) R.Fb.STAT_DIR_KNOWN = false ∧ (t.fb n).hcnt = (u.fb n).raw ∧
      (t.fb n).winOpen = !u.fbSerial n ∧ (t.fb n).winRaw = (u.fb n).raw ∧ (t.fb n).idx = none ∧
      (t.fb n).gotWord = false) ∧
    (was = true → now = false → t.b (fbP n) R.Fb.STAT_ORG_SET = false ∧ t.b (fbP n) R.Fb.STAT_SER_OK = false ∧
      t.b (fbP n) R.Fb.STAT_VALID = false ∧ (t.fb n).winOpen = false ∧ (t.fb n).hcnt = (u.fb n).hcnt) ∧
    (was = now → t.fb n = u.fb n)

/-- The step between two places of the cycle of `A` and `B` (R119): 1, -1, or 0 for none or both. -/
@[reducible] def quadSign (p q : Nat) : Int := if (q + 4 - p) % 4 = 1 then 1 else if (q + 4 - p) % 4 = 3 then -1 else 0

/-- R115, R119, R120: `A` and `B` go through their filters; on an enabled quadrature channel an accepted edge of one input
changes the count by one, the sense reversed by `CNT_INV`; edges of both accepted at one sample leave the count and add one
to `ILLEGAL_CNT`, at two samples they count in their order. Levels that are not accepted, and a channel that is disabled or
serial, leave the count. -/
@[reducible] def quadCount (n : Fin 8) (a b : Bool) (clks : Nat) (s : State) : Prop :=
  let x := s.fb n
  let fa := x.fA.see a clks (s.filtN n false)
  let fb := x.fB.see b clks (s.filtN n false)
  let p := quadPos x.fA.lvl x.fB.lvl
  let q := quadPos fa.1.lvl fb.1.lvl
  let m := if decide (fb.2.getD 0 ≤ fa.2.getD 0) then quadPos fa.1.lvl x.fB.lvl else quadPos x.fA.lvl fb.1.lvl
  let two := fa.2.isSome && fb.2.isSome && fa.2 != fb.2
  let on := s.b (fbP n) R.Hdr.CTRL_EN && !s.fbSerial n
  let sg : Int := if s.b (fbP n) R.Fb.CNT_INV then -1 else 1
  let d : Int := if !on then 0 else if two then sg * (quadSign p m + quadSign m q) else sg * quadSign p q
  Does (.quadCount n (a, b) clks) s fun t =>
    (t.fb n).fA = fa.1 ∧ (t.fb n).fB = fb.1 ∧ (t.fb n).raw = x.raw + d ∧
    (d ≠ 0 → t.g (fbP n) R.Fb.PFI_RAW = ofS 32 (x.raw + d)) ∧
    (d = 0 → two = false → t.g (fbP n) R.Fb.PFI_RAW = s.g (fbP n) R.Fb.PFI_RAW) ∧
    t.g (fbP n) R.Fb.ILLEGAL_CNT = (if on ∧ two = false ∧ (q + 4 - p) % 4 = 2 then bump s (fbP n) R.Fb.ILLEGAL_CNT
      else s.g (fbP n) R.Fb.ILLEGAL_CNT)

/-- R122, R123: a write of `PFI_POS_SET` sets the origin: the reported position becomes the value written, within the
soft limits, unless the channel is frozen by `FAULT`. -/
@[reducible] def posSet (ini : Ini) (n : Fin 8) (v : Word) (s : State) : Prop :=
  let a := fbP n + R.Fb.PFI_POS_SET.off
  let u := s.granted a
  s.verdictW ini a = .ok →
  Does (.posSet ini n v) s fun t =>
    t.b (fbP n) R.Fb.STAT_ORG_SET = true ∧ (t.fb n).posOrg = v.toInt ∧ (t.fb n).hOrg = (u.fb n).hcnt ∧
    (u.b (fbP n) R.Fb.STAT_FAULT = false → t.gs (fbP n) R.Fb.PFI_POS =
      max (u.gs (fbP n) R.Fb.PFI_SOFTMIN) (min v.toInt (u.gs (fbP n) R.Fb.PFI_SOFTMAX)))

/-- R126, R127, R137: at the end of a speed window of an enabled channel, `PFI_SPD_CNT` is the count of the window, also
while `FAULT` is 1, and the next window starts from the present count; in a serial mode whose last request brought no good
word the window closes without a speed. -/
@[reducible] def spdWindow (n : Fin 8) (s : State) : Prop :=
  let x := s.fb n
  let u := s.advanceTo (x.winAt + s.winHalf n * 500)
  s.b (fbP n) R.Hdr.CTRL_EN = true → x.winOpen = true →
  Does (.spdWindow n) s fun t =>
    t.tbs.el = u.tbs.el ∧
    (s.fbSerial n = true → x.lastGood = false → (t.fb n).winOpen = false ∧ (t.fb n).winRaw = x.winRaw ∧
      t.g (fbP n) R.Fb.PFI_SPD_CNT = s.g (fbP n) R.Fb.PFI_SPD_CNT ∧ t.g (fbP n) R.Fb.PFI_SPD = s.g (fbP n) R.Fb.PFI_SPD) ∧
    (s.fbSerial n = false ∨ x.lastGood = true →
      t.g (fbP n) R.Fb.PFI_SPD_CNT = ofS 32 (x.raw - x.winRaw) ∧
      t.g (fbP n) R.Fb.PFI_SPD = (if s.b (fbP n) R.Fb.STAT_FAULT then s.g (fbP n) R.Fb.PFI_SPD else
        ofS 32 (Int.tdiv ((x.raw - x.winRaw) * s.gs (fbP n) R.Fb.PFI_SCALE * 2000000) (s.winHalf n * 65536 : Nat))) ∧
      (t.fb n).winRaw = x.raw ∧ (t.fb n).winOpen = true ∧ (t.fb n).winAt = u.tbs.el ∧ raised t (fbP n) 11 = true)

/-- R128, R129: a serial request of an enabled channel starts, with `SYNC` = 1 once its boundary has come and with `SYNC` =
0 when its period has passed; the request before it that brought no good word counts as missed, and the second missed in a
row clears `SER_OK`. A channel that does not run or that Sage drives takes none. -/
@[reducible] def serRequest (n : Fin 8) (s : State) : Prop :=
  let x := s.fb n
  let sync := s.b (fbP n) R.Fb.SYNC
  let u := if sync then s else s.advanceTo x.reqNext
  let m := if x.lastGood then 0 else x.missed + 1
  (s.serRuns n = false ∨ x.sageTap = true ∨ (sync = true ∧ x.reqDue = false) → exec (.serRequest n) s = .next s) ∧
  (s.serRuns n = true → x.sageTap = false → (sync = false ∨ x.reqDue = true) →
    Does (.serRequest n) s fun t =>
      (t.fb n).reqDue = false ∧ (t.fb n).lastGood = false ∧ (t.fb n).reqAt = u.tbs.el ∧ (t.fb n).reqStamp = u.stamp ∧
      (t.fb n).reqNext = u.tbs.el + s.serPeriod n ∧ (t.fb n).missed = m ∧
      t.b (fbP n) R.Fb.STAT_SER_OK = (s.b (fbP n) R.Fb.STAT_SER_OK && decide (m < 2)))

/-- R128, R129: a serial word is classified in the order of R129. A word that never starts counts in `TMO_CNT`; a BiSS-C
word whose CRC does not hold in `CRC_CNT`, one with `nE` = 0 in `NE_CNT`; a word further than `MAXSTEP` from the one before
in `JUMP_CNT`; each leaves the count. A good word sets `SER_OK` and moves the count by its step; the first loads the count
and sets the origin. -/
@[reducible] def serWord (n : Fin 8) (started : Bool) (data : Nat) (nE nW : Bool) (crc delay : Nat) (s : State) : Prop :=
  let x := s.fb n
  let biss := s.g (fbP n) R.Fb.MODE == 2
  let dl := s.g (fbP n) R.Fb.DATA_LEN
  let cl := s.g (fbP n) R.Fb.CRC_LEN
  let len := s.g (fbP n) R.Fb.POS_LEN
  let raw := data % 2 ^ dl
  let word := if !biss && s.b (fbP n) R.Fb.GRAY then grayDecode dl raw else raw
  let field := word / 2 ^ s.g (fbP n) R.Fb.POS_LSB % 2 ^ len
  let step := toS len (field + 2 ^ len - x.field % 2 ^ len)
  let badCrc := biss && cl != 0 && crc % 2 ^ cl != serCrc (s.g (fbP n) R.Fb.PFI_SER_POLY) cl dl raw nE nW
  let badNe := biss && !nE
  let jump := x.gotWord && !x.noCheck && decide (s.g (fbP n) R.Fb.MAXSTEP < step.natAbs)
  s.serRuns n = true →
  Does (.serWord n started data nE nW crc delay) s fun t =>
    (started = true → t.rd (fbP n + R.Fb.PFI_SER_WORD_LO.off) = lo32 word) ∧
    t.g (fbP n) R.Fb.TMO_CNT = (if started then s.g (fbP n) R.Fb.TMO_CNT else bump s (fbP n) R.Fb.TMO_CNT) ∧
    t.g (fbP n) R.Fb.CRC_CNT = (if started && badCrc then bump s (fbP n) R.Fb.CRC_CNT else s.g (fbP n) R.Fb.CRC_CNT) ∧
    t.g (fbP n) R.Fb.NE_CNT = (if started && !badCrc && badNe then bump s (fbP n) R.Fb.NE_CNT else s.g (fbP n) R.Fb.NE_CNT) ∧
    t.g (fbP n) R.Fb.JUMP_CNT = (if started && !badCrc && !badNe && jump then bump s (fbP n) R.Fb.JUMP_CNT
      else s.g (fbP n) R.Fb.JUMP_CNT) ∧
    (started = false ∨ badCrc = true ∨ badNe = true ∨ jump = true → (t.fb n).raw = x.raw ∧ (t.fb n).gotWord = x.gotWord) ∧
    (started = true → badCrc = false → badNe = false → jump = false →
      t.b (fbP n) R.Fb.STAT_SER_OK = true ∧ (t.fb n).gotWord = true ∧ (t.fb n).missed = 0 ∧ (t.fb n).field = field ∧
      (x.gotWord = false → (t.fb n).raw = (field : Nat) ∧ t.b (fbP n) R.Fb.STAT_ORG_SET = true) ∧
      (x.gotWord = true → (t.fb n).raw = x.raw + step))

/-- R129: two request periods without a good word clear `SER_OK`; with it goes `VALID` (R124). A channel that does not run
or whose `SER_OK` is 0 stays as it is. -/
@[reducible] def serStale (n : Fin 8) (s : State) : Prop :=
  (s.serRuns n = false ∨ s.b (fbP n) R.Fb.STAT_SER_OK = false → exec (.serStale n) s = .next s) ∧
  (s.serRuns n = true → s.b (fbP n) R.Fb.STAT_SER_OK = true →
    Does (.serStale n) s fun t =>
      t.b (fbP n) R.Fb.STAT_SER_OK = false ∧ t.b (fbP n) R.Fb.STAT_VALID = false ∧
      t.tbs.el = (s.advanceTo ((s.fb n).goodAt + 3 * s.serPeriod n)).tbs.el)

/-- R115, R117, R122, R130: `Z` goes through its filter and `Z_LVL` follows the accepted level; a rising edge of the index
after its inversion latches, on an enabled channel whose index is `Z`, the raw count and its stamp, and with `ORG_ARM` sets
the origin. Any other edge latches nothing. A probe input named as source goes through its own filter. -/
@[reducible] def indexEdge (n : Fin 8) (src : Fin 3) (lvl : Bool) (clks : Nat) (s : State) : Prop :=
  let x := s.fb n
  let f := x.fZ.see lvl clks (s.filtN n false)
  let inv := s.b (fbP n) R.Fb.Z_INV
  let edge := f.2.isSome && s.b (fbP n) R.Hdr.CTRL_EN && s.g (fbP n) R.Fb.ZSRC == 0 &&
    s.b (fbP n) R.Fb.STAT_Z_LVL == inv && lvl != inv
  (src = 1 → exec (.indexEdge n ⟨src, lvl, clks⟩) s = exec (.probeEdge n 0 ⟨lvl, clks⟩) s) ∧
  (src = 2 → exec (.indexEdge n ⟨src, lvl, clks⟩) s = exec (.probeEdge n 1 ⟨lvl, clks⟩) s) ∧
  (src = 0 → Does (.indexEdge n ⟨src, lvl, clks⟩) s fun t =>
    (t.fb n).fZ = f.1 ∧ t.b (fbP n) R.Fb.STAT_Z_LVL = (if f.2.isSome then lvl else s.b (fbP n) R.Fb.STAT_Z_LVL) ∧
    (edge = true →
      t.g (fbP n) R.Fb.PFI_IDX_LATCH = ofS 32 x.raw ∧
      t.gTs (fbP n) R.Fb.PFI_IDX_TS_LO R.Fb.PFI_IDX_TS_HI = s.edgeStamp n false (f.2.getD 0) % 2 ^ 64 ∧
      (t.fb n).idx = some (x.raw, s.b (fbP n) R.Fb.STAT_DIRH) ∧ (t.fb n).idxRev = false ∧ raised t (fbP n) 1 = true ∧
      t.b (fbP n) R.Fb.CTRL_ORG_ARM = false ∧
      (s.b (fbP n) R.Fb.CTRL_ORG_ARM = true → t.b (fbP n) R.Fb.STAT_ORG_SET = true ∧ raised t (fbP n) 5 = true ∧
        (t.fb n).posOrg = s.gs (fbP n) R.Fb.PFI_HOME_POS ∧ (t.fb n).hOrg = x.hcnt)) ∧
    (edge = false →
      t.g (fbP n) R.Fb.PFI_IDX_LATCH = s.g (fbP n) R.Fb.PFI_IDX_LATCH ∧ (t.fb n).idx = x.idx ∧ (t.fb n).posOrg = x.posOrg ∧
      t.b (fbP n) R.Fb.CTRL_ORG_ARM = s.b (fbP n) R.Fb.CTRL_ORG_ARM))

/-- R115, R117, R131, R137: a probe input goes through its filter and its level, after inversion, shows in `STAT`; a rising
or falling edge for which its latch is set up fills it when it is empty, is counted in `OVR_CNT` when it is full, and does
nothing while `FAULT` is 1; no other edge touches a latch. -/
@[reducible] def probeEdge (n : Fin 8) (q : Fin 2) (lvl : Bool) (clks : Nat) (s : State) : Prop :=
  let x := s.fb n
  let f := (if q = 0 then x.f0 else x.f1).see lvl clks (s.filtN n true)
  let fld := if q = 0 then R.Fb.STAT_P0_LVL else R.Fb.STAT_P1_LVL
  let now := lvl != s.b (fbP n) (if q = 0 then R.Fb.P0_INV else R.Fb.P1_INV)
  let k := 2 * q.val + b2n !now
  let sel := if now then (if q = 0 then R.Fb.P0_RISE else R.Fb.P1_RISE) else (if q = 0 then R.Fb.P0_FALL else R.Fb.P1_FALL)
  let hit := f.2.isSome && s.b (fbP n) R.Hdr.CTRL_EN && s.b (fbP n) fld != now && s.b (fbP n) sel
  let full := s.g (fbP n) R.Fb.FULL
  let fill := hit && !bitOf full k && !s.b (fbP n) R.Fb.STAT_FAULT
  Does (.probeEdge n q ⟨lvl, clks⟩) s fun t =>
    (if q = 0 then (t.fb n).f0 else (t.fb n).f1) = f.1 ∧
    t.b (fbP n) fld = (if f.2.isSome then now else s.b (fbP n) fld) ∧
    (fill = true → t.g (fbP n) R.Fb.FULL = Nat.lor full (2 ^ k) ∧ t.g (prbP n k) R.Fb.PRB_RAW = ofS 32 x.raw ∧
      t.gTs (prbP n k) R.Fb.PRB_TS_LO R.Fb.PRB_TS_HI = s.edgeStamp n true (f.2.getD 0) % 2 ^ 64 ∧ raised t (fbP n) 9 = true) ∧
    (fill = false → t.g (fbP n) R.Fb.FULL = full ∧ t.g (prbP n k) R.Fb.PRB_RAW = s.g (prbP n k) R.Fb.PRB_RAW) ∧
    t.g (fbP n) R.Fb.OVR_CNT = (if hit && bitOf full k then bump s (fbP n) R.Fb.OVR_CNT else s.g (fbP n) R.Fb.OVR_CNT) ∧
    (hit = true → bitOf full k = true → s.g (fbP n) R.Fb.OVR_CNT ≠ 2 ^ R.Fb.OVR_CNT.w - 1 → raised t (fbP n) 10 = true)

/-- R133, R134: `ARM` with `DIR` 0 is discarded and counted; on a channel that is not valid it misses the compare; on a
valid one that is not behind it arms it, and behind it fires with `FIRE_IF_PASSED` and misses without. -/
@[reducible] def cmpArm (ini : Ini) (n : Fin 8) (c : Fin 4) (v : Word) (s : State) : Prop :=
  let a := cmpP n c + 0x104
  let u := s.granted a
  let dir := fget R.Fb.CMP_DIR v
  let late := behind dir (u.gs (fbP n) R.Fb.PFI_POS) (u.gs (cmpP n c) R.Fb.CMP_VAL)
    (u.b (fbP n) R.Fb.STAT_DIR_KNOWN) (u.b (fbP n) R.Fb.STAT_DIRH)
  let valid := u.b (fbP n) R.Fb.STAT_VALID
  s.verdictW ini a = .ok →
  Does (.cmpArm ini n c v) s fun t =>
    t.g (fbP n) R.Hdr.FAULT_CNT = (if dir = 0 then bump u (fbP n) R.Hdr.FAULT_CNT else u.g (fbP n) R.Hdr.FAULT_CNT) ∧
    (dir ≠ 0 → valid = true → late = false → t.b (cmpP n c) R.Fb.CMP_ARMED = true) ∧
    (dir ≠ 0 → valid = true → late = true → fget R.Fb.CMP_FIRE_IF_PASSED v = 1 →
      t.b (cmpP n c) R.Fb.CMP_ARMED = false ∧ t.b (cmpP n c) R.Fb.CMP_FIRED = true ∧ t.b (cmpP n c) R.Fb.CMP_PASSED = true ∧
      raised t (fbP n) (12 + c) = true) ∧
    (dir ≠ 0 → (valid = false ∨ (late = true ∧ fget R.Fb.CMP_FIRE_IF_PASSED v = 0)) →
      t.b (cmpP n c) R.Fb.CMP_ARMED = false ∧ t.b (cmpP n c) R.Fb.CMP_MISSED = true ∧ raised t (fbP n) (16 + c) = true)

/-- R136: `DISARM` without `ARM` disarms the compare. -/
@[reducible] def cmpDisarm (ini : Ini) (n : Fin 8) (c : Fin 4) (v : Word) (s : State) : Prop :=
  let a := cmpP n c + 0x104
  s.verdictW ini a = .ok → fget R.Fb.CMP_ARM v = 0 →
  Does (.cmpDisarm ini n c v) s fun t => t.b (cmpP n c) R.Fb.CMP_ARMED = false ∧ t.fb n = s.fb n

/-- R138: `FAULT` written 1 clears it once its filter is not lasting; in quadrature the origin is lost, in a serial mode it
is kept. While the filter is lasting the write is discarded and counted. -/
@[reducible] def pfiFaultClear (ini : Ini) (n : Fin 8) (v : Word) (s : State) : Prop :=
  let a := fbP n + 0x00C
  let u := s.granted a
  let fl := u.b (fbP n) R.Fb.STAT_FAULT
  let org := u.b (fbP n) R.Fb.STAT_ORG_SET
  let one := fget R.Fb.STAT_FAULT v == 1
  let last := u.fwLasting (0xA0 + n)
  s.verdictW ini a = .ok →
  Does (.pfiFaultClear ini n v) s fun t =>
    t.b (fbP n) R.Fb.STAT_FAULT = (fl && !(one && !last)) ∧
    t.b (fbP n) R.Fb.STAT_ORG_SET = (org && !(one && !last && fl && !u.fbSerial n)) ∧
    t.g (fbP n) R.Hdr.FAULT_CNT = (if one && last then bump u (fbP n) R.Hdr.FAULT_CNT else u.g (fbP n) R.Hdr.FAULT_CNT) ∧
    t.fb n = u.fb n

/-- R143: one write of `PFI_SNAP` captures raw count, position and one stamp in every channel it names, and leaves the
others as they are. -/
@[reducible] def pfiSnap (ini : Ini) (v : Word) (s : State) : Prop :=
  let a := pfiC + R.PfiC.PFI_SNAP.off
  s.verdictW ini a = .ok →
  Does (.pfiSnap ini v) s fun t => ∀ n < 8,
    (bitOf v.toNat n = true →
      t.g (fbP n) R.Fb.PFI_SNAP_RAW = ofS 32 (s.fb n).raw ∧ t.g (fbP n) R.Fb.PFI_SNAP_POS = s.g (fbP n) R.Fb.PFI_POS ∧
      t.gTs (fbP n) R.Fb.PFI_SNAP_TS_LO R.Fb.PFI_SNAP_TS_HI = s.stamp) ∧
    (bitOf v.toNat n = false →
      t.g (fbP n) R.Fb.PFI_SNAP_RAW = s.g (fbP n) R.Fb.PFI_SNAP_RAW ∧
      t.g (fbP n) R.Fb.PFI_SNAP_POS = s.g (fbP n) R.Fb.PFI_SNAP_POS)

/-- R141, R142: a pulse output that is enabled, with its source enabled and not in `FAULT`, makes one step towards `PEND` = 0,
no earlier than `MIN_GAP` after the edge before it; else it makes none. -/
@[reducible] def poStep (k : Fin 2) (s : State) : Prop :=
  let pend := s.gs (poP k) R.Po.PFI_PO_PEND
  let src := s.g (poP k) R.Po.SRC
  let on := s.b (poP k) R.Hdr.CTRL_EN && s.b (fbP src) R.Hdr.CTRL_EN && !s.b (fbP src) R.Fb.STAT_FAULT
  (on = false ∨ pend = 0 → exec (.poStep k) s = .next s) ∧
  (on = true → pend ≠ 0 →
    Does (.poStep k) s fun t =>
      t.gs (poP k) R.Po.PFI_PO_PEND = pend - pend.sign ∧
      (t.po k).phase = ((s.po k).phase + if (0 < pend) ≠ (s.b (poP k) R.Po.INV = true) then 1 else 3) % 4 ∧
      (s.po k).lastEdge + s.g (poP k) R.Po.MIN_GAP * s.pfiTf ≤ t.tbs.el ∧ t.b (poP k) R.Po.STAT_SAT = false)

/-! ### TBS -/

/-- R91, R92: a write of `TBS_OFS_LO` commits the 64-bit offset, last in the order of the commits; with discipline
disabled it is discarded, raises event 3 and is counted. -/
@[reducible] def ofsCommit (ini : Ini) (v : Word) (s : State) : Prop :=
  let u := s.granted (tbsC + 0x04C)
  s.verdictW ini (tbsC + 0x04C) = .ok →
  Does (.ofsCommit ini v) s fun t =>
    (u.b tbsC R.Hdr.CTRL_EN = true →
      t.tbs.ofs = u.tbs.ofs ++ [toS 64 (v.toNat + 2 ^ 32 * (u.rd (tbsC + 0x050)).toNat)] ∧ t.rd (tbsC + 0x04C) = v) ∧
    (u.b tbsC R.Hdr.CTRL_EN = false →
      t.tbs = u.tbs ∧ t.g tbsC R.Hdr.FAULT_CNT = min (u.g tbsC R.Hdr.FAULT_CNT + 1) (2 ^ 32 - 1) ∧
      bitOf (t.g tbsC R.Hdr.IRQ_RAW) 3 = true)

/-- R91: an offset above 1 ms is a step: on its tick the timebase gains the increment and the offset, the remaining slew
is discarded, and `STEP_CNT` counts it. With no offset waiting, or with one that is no step, there is no step. -/
@[reducible] def tbStep (o : Int) (rest : List Int) (s : State) : Prop :=
  (s.tbs.stopped = true ∨ s.tbs.ofs = [] → exec .tbStep s = .next s) ∧
  (s.tbs.ofs = o :: rest → o ≤ 1000000 → exec .tbStep s = .next s) ∧
  (s.tbs.stopped = false → s.tbs.ofs = o :: rest → 1000000 < o →
    Does .tbStep s fun t =>
      t.tbs.ofs = rest ∧ t.tbs.slew = 0 ∧ t.tbs.el = s.tbs.el + 10 ∧
      (t.tbs.acc : Int) = (s.tbs.acc + (10 * 2 ^ 32 + s.rate) + o * 2 ^ 32) % 2 ^ 96 ∧
      t.g tbsC R.TbsC.STEP_CNT = min (s.g tbsC R.TbsC.STEP_CNT + 1) (2 ^ R.TbsC.STEP_CNT.w - 1) ∧
      t.b tbsC R.TbsC.STAT_SLEWING = false ∧ bitOf (t.g tbsC R.Hdr.IRQ_RAW) 0 = true)

/-- R90, R91: with no committed offset waiting the remaining slew runs down at its rate; at 0 `SLEWING` clears and the
event is raised. With no slew remaining, or none that runs, there is nothing to end. -/
@[reducible] def slewDone (s : State) : Prop :=
  (s.tbs.stopped = true ∨ s.tbs.slew = 0 ∨ s.slewInc = 0 → exec .slewDone s = .next s) ∧
  (s.tbs.stopped = false → s.tbs.ofs = [] → s.tbs.slew ≠ 0 → s.slewInc ≠ 0 →
    Does .slewDone s fun t =>
      t.tbs.slew = 0 ∧ t.tbs.el = s.tbs.el + 10 * cdiv s.tbs.slew.natAbs s.slewInc ∧
      t.b tbsC R.TbsC.STAT_SLEWING = false ∧ bitOf (t.g tbsC R.Hdr.IRQ_RAW) 2 = true)

/-- R109: `RESEEDED` written 1 clears it and sets `TBS_UNCERT` to 0. -/
@[reducible] def reseededClear (ini : Ini) (v : Word) (s : State) : Prop :=
  s.verdictW ini (tbsC + 0x00C) = .ok →
  Does (.reseededClear ini v) s fun t =>
    t.g tbsC R.TbsC.STAT_RESEEDED = 0 ∧ t.gTs tbsC R.TbsC.TBS_UNCERT_LO R.TbsC.TBS_UNCERT_HI = 0 ∧ t.tbs = s.tbs

/-- R97: at the next whole multiple of 10 ms, unless a step carried the timebase over it, an enabled network with a leg that
takes part owes a `SYNC`: its launch time is the multiple, its deadline 2 ms later, and each leg that takes part waits for
its copy. With no such leg nothing is owed anew. A multiple that the present tick has just reached is the one taken. -/
@[reducible] def syncSend (n : Fin 4) (s : State) : Prop :=
  let m := s.nextSync n
  let u := s.untilStamp m
  let la := u.syncLegOk (2 * n)
  let lb := u.syncLegOk (2 * n + 1)
  (s.tbs.stopped = true ∨ s.b (tbsP n) R.Hdr.CTRL_EN = false → exec (.syncSend n) s = .next s) ∧
  (s.tbs.stopped = false → s.b (tbsP n) R.Hdr.CTRL_EN = true →
    Does (.syncSend n) s fun t =>
      (t.net n).nextMul = m + 10000000 ∧ m % 10000000 = (if m = (s.net n).nextMul then (s.net n).nextMul % 10000000 else 0) ∧
      (u.stepOver m = true → t = u.setNet n { u.net n with nextMul := m + 10000000 }) ∧
      (u.stepOver m = false → t.b (tbsP n) R.TbsN.STAT_LEG_A = la ∧ t.b (tbsP n) R.TbsN.STAT_LEG_B = lb) ∧
      (u.stepOver m = false → (la || lb) = true →
        (t.net n).owed = true ∧ (t.net n).launch = m ∧ (t.net n).deadline = m + 2000000 ∧
        (t.net n).legA = (if la then .queued else .none) ∧ (t.net n).legB = (if lb then .queued else .none) ∧
        t.g (tbsP n) R.TbsN.SYNC_CNT = bump u (tbsP n) R.TbsN.SYNC_CNT) ∧
      (u.stepOver m = false → (la || lb) = false → (t.net n).owed = (u.net n).owed ∧
        t.g (tbsP n) R.TbsN.SYNC_CNT = u.g (tbsP n) R.TbsN.SYNC_CNT)) ∧
  (s.stamp % 10000000 = 0 → (s.net n).nextMul ≤ s.stamp → (s.tbs.acc : Int) - s.tickInc < (s.stamp * 2 ^ 32 : Nat) →
    m = s.stamp ∧ u = s)

/-- R99: at the deadline a copy that has not started is abandoned, also when its port has dropped it, and counted in `MISS_A`
or `MISS_B`, with the event while the counter is not at its end (R82); one that has started completes, its cancellation
requested. With no copy outstanding there is nothing to decide. -/
@[reducible] def syncDeadline (n : Fin 4) (s : State) : Prop :=
  let u := s.untilStamp (s.net n).deadline
  let started (p : Nat) : Bool := ((s.port p).cur0.map fun f => f.kind == .sync).getD false && s.txs p 0 == 2
  let x := s.net n
  (s.tbs.stopped = true ∨ x.owed = false ∨ (x.legA ≠ .queued ∧ x.legB ≠ .queued) → exec (.syncDeadline n) s = .next s) ∧
  (s.tbs.stopped = false → x.owed = true → (x.legA = .queued ∨ x.legB = .queued) →
    Does (.syncDeadline n) s fun t =>
      t.tbs.el = u.tbs.el ∧
      (x.legA = .queued → started (2 * n) = false → (t.net n).legA = .lost ∧
        t.g (tbsP n) R.TbsN.MISS_A = bump s (tbsP n) R.TbsN.MISS_A ∧
        ((t.port (2 * n)).q0.all fun f => f.kind ≠ .sync) = true ∧
        (s.g (tbsP n) R.TbsN.MISS_A ≠ 2 ^ R.TbsN.MISS_A.w - 1 → raised t (tbsP n) 0 = true)) ∧
      (x.legB = .queued → started (2 * n + 1) = false → (t.net n).legB = .lost ∧
        t.g (tbsP n) R.TbsN.MISS_B = bump s (tbsP n) R.TbsN.MISS_B ∧
        ((t.port (2 * n + 1)).q0.all fun f => f.kind ≠ .sync) = true ∧
        (s.g (tbsP n) R.TbsN.MISS_B ≠ 2 ^ R.TbsN.MISS_B.w - 1 → raised t (tbsP n) 0 = true)) ∧
      (x.legA = .queued → started (2 * n) = true → (t.net n).legA = .queued ∧ (t.port (2 * n)).abort = true ∧
        t.g (tbsP n) R.TbsN.MISS_A = s.g (tbsP n) R.TbsN.MISS_A) ∧
      (x.legB = .queued → started (2 * n + 1) = true → (t.net n).legB = .queued ∧ (t.port (2 * n + 1)).abort = true ∧
        t.g (tbsP n) R.TbsN.MISS_B = s.g (tbsP n) R.TbsN.MISS_B) ∧
      (x.legA ≠ .queued → (t.net n).legA = x.legA) ∧ (x.legB ≠ .queued → (t.net n).legB = x.legB))

/-- R100, R101: once no copy of the `SYNC` is outstanding, the `FOLLOW_UP` takes the network's next broadcast number and
the network owes none; the note of a step is cleared when it goes out on a leg that took part. While a copy is outstanding,
or none is owed, nothing is sent. -/
@[reducible] def followUpSend (n : Fin 4) (s : State) : Prop :=
  let out := s.netOn && ((decide ((s.net n).legA ≠ .none) && s.engine (2 * n)) ||
    (decide ((s.net n).legB ≠ .none) && s.engine (2 * n + 1)))
  ((s.net n).owed = false ∨ (s.net n).legA = .queued ∨ (s.net n).legB = .queued → exec (.followUpSend n) s = .next s) ∧
  ((s.net n).owed = true → (s.net n).legA ≠ .queued → (s.net n).legB ≠ .queued →
    Does (.followUpSend n) s fun t =>
      (t.net n).owed = false ∧ (t.net n).stepped = ((s.net n).stepped && !out) ∧
      Tab.get (fun _ => 0) t.cve.bcCtl n = (Tab.get (fun _ => 0) s.cve.bcCtl n + 1) % 65536)

/-! ### Shaft bus ports -/

/-- R358: `EN` from 0 to 1 puts the port into INTEGRATING with both error counters at 0; while a frame that `EN` = 0 left to
complete still runs, the port stays as it is until that frame has ended. `EN` from 1 to 0 ends the PENDING buffers and takes
an idle port to OFF; a frame being sent or received completes first. R360: with `OOS` 1 the write is discarded and counted
while the other port of the network is out of service. -/
@[reducible] def sbcEnable (ini : Ini) (n : Fin 8) (v : Word) (s : State) : Prop :=
  let a := sbcP n + 0x008
  let u := s.granted a
  let was := u.b (sbcP n) R.Hdr.CTRL_EN
  let now := bitOf v.toNat 0
  let runs := (u.active n).isSome || ((u.port n).busy && (u.opm n == 2 || u.opm n == 3))
  let barred := bitOf v.toNat 1 && u.b (sbcP (if n.val % 2 = 0 then n.val + 1 else n.val - 1)) R.Sbc.CTRL_OOS
  s.verdictW ini a = .ok →
  Does (.sbcEnable ini n v) s fun t =>
    (barred = true → t = u.flt (sbcP n)) ∧
    (barred = false → t.b (sbcP n) R.Hdr.CTRL_EN = now ∧ t.b (sbcP n) R.Sbc.CTRL_OOS = bitOf v.toNat 1 ∧
      (was = false → now = true → (u.port n).closing = false →
        t.opm n = 1 ∧ t.g (sbcP n) R.Sbc.SBC_ERRC_TEC = 0 ∧ t.g (sbcP n) R.Sbc.SBC_ERRC_REC = 0) ∧
      (was = false → now = true → (u.port n).closing = true → u.opm n ≠ 2 → u.opm n ≠ 3 →
        t.opm n = u.opm n ∧ (t.port n).closing = true ∧ t.g (sbcP n) R.Sbc.SBC_ERRC_TEC = u.g (sbcP n) R.Sbc.SBC_ERRC_TEC) ∧
      (was = true → now = false → (∀ k < 3, t.txs n k ≠ 1) ∧ (t.port n).q1 = [] ∧
        (runs = false → t.opm n = 0 ∧ (t.port n).closing = false) ∧
        (runs = true → (t.port n).closing = true ∧ t.active n = u.active n)))

/-- R358, R360: `OOS` written 1 on a NORMAL port makes it fall to RESTRICTED, held, at once where no attempt is in
progress, and else when that attempt has ended; a RESTRICTED port is held; in the other states the bit waits. While the
other port of its network is out of service the write is discarded and counted. -/
@[reducible] def sbcOos (ini : Ini) (n : Fin 8) (v : Word) (s : State) : Prop :=
  let a := sbcP n + 0x008
  let u := s.granted a
  let other := sbcP (if n.val % 2 = 0 then n.val + 1 else n.val - 1)
  s.verdictW ini a = .ok → u.b (sbcP n) R.Hdr.CTRL_EN = true → bitOf v.toNat 0 = true → bitOf v.toNat 1 = true →
  Does (.sbcOos ini n v) s fun t =>
    (u.b other R.Sbc.CTRL_OOS = false →
      t.b (sbcP n) R.Sbc.CTRL_OOS = true ∧
      (u.opm n = 3 → u.active n = none → t.opm n = 2 ∧ t.b (sbcP n) R.Sbc.STAT_HELD = true) ∧
      (u.opm n = 3 → u.active n ≠ none → t.opm n = 3 ∧ t.active n = u.active n) ∧
      (u.opm n = 2 → t.opm n = 2 ∧ t.b (sbcP n) R.Sbc.STAT_HELD = true) ∧
      (u.opm n ≠ 2 → u.opm n ≠ 3 → t.opm n = u.opm n)) ∧
    (u.b other R.Sbc.CTRL_OOS = true →
      t.g (sbcP n) R.Hdr.FAULT_CNT = bump u (sbcP n) R.Hdr.FAULT_CNT ∧ t.opm n = u.opm n ∧
      t.b (sbcP n) R.Sbc.CTRL_OOS = u.b (sbcP n) R.Sbc.CTRL_OOS)

/-- R358: `BOR_REQ` written 1 in BUS_OFF asks for recovery; in another state it has no effect. -/
@[reducible] def borReq (ini : Ini) (n : Fin 8) (v : Word) (s : State) : Prop :=
  let a := sbcP n + 0x008
  let u := s.granted a
  s.verdictW ini a = .ok → u.b (sbcP n) R.Hdr.CTRL_EN = true → v.toNat % 4 = 1 →
  Does (.borReq ini n v) s fun t =>
    (u.opm n = 4 → (t.port n).borReq = true ∧ t.opm n = 4) ∧
    (u.opm n ≠ 4 → (t.port n).borReq = (u.port n).borReq)

/-- R358: 11 recessive bits take an INTEGRATING port to RESTRICTED, held while `OOS` or `FAULT` is set. -/
@[reducible] def busIntegrated (n : Fin 8) (s : State) : Prop :=
  (s.netOn = false ∨ s.opm n ≠ 1 → exec (.busIntegrated n) s = .next s) ∧
  (s.netOn = true → s.opm n = 1 →
    Does (.busIntegrated n) s fun t =>
      t.opm n = 2 ∧ (t.port n).restrAt = s.tbs.el ∧
      t.b (sbcP n) R.Sbc.STAT_HELD = (s.b (sbcP n) R.Sbc.CTRL_OOS || s.b (sbcP n) R.Sbc.STAT_FAULT))

/-- R358: after 200 ms in RESTRICTED that are not held the port is NORMAL, and event 8 is raised; a port that is held, or in
another state, stays. -/
@[reducible] def restrictedEnd (n : Fin 8) (s : State) : Prop :=
  (s.netOn = false ∨ s.opm n ≠ 2 ∨ s.b (sbcP n) R.Sbc.STAT_HELD = true → exec (.restrictedEnd n) s = .next s) ∧
  (s.netOn = true → s.opm n = 2 → s.b (sbcP n) R.Sbc.STAT_HELD = false →
    Does (.restrictedEnd n) s fun t =>
      t.opm n = 3 ∧ raised t (sbcP n) 8 = true ∧ (s.port n).restrAt + 200000000 ≤ t.tbs.el)

/-- R358: recovery that was asked for, or is automatic, takes a port from BUS_OFF to INTEGRATING, counters at 0; without it
the port stays in BUS_OFF. -/
@[reducible] def busOffRecovered (n : Fin 8) (s : State) : Prop :=
  let asked := s.b (sbcP n) R.Sbc.SBC_CFG_AUTO_REC || (s.port n).borReq
  (s.netOn = false ∨ s.opm n ≠ 4 ∨ asked = false → exec (.busOffRecovered n) s = .next s) ∧
  (s.netOn = true → s.opm n = 4 → asked = true →
    Does (.busOffRecovered n) s fun t =>
      t.opm n = 1 ∧ t.g (sbcP n) R.Sbc.SBC_ERRC_TEC = 0 ∧ t.g (sbcP n) R.Sbc.SBC_ERRC_REC = 0 ∧ (t.port n).borReq = false)

/-- R364, R365: `REQ` on an IDLE buffer of software makes it PENDING with its results cleared, and on an idle bus of a port
that may send it can be the one that starts; on a buffer that is not IDLE, on a remote FD frame and on a buffer of the
engine (R363) the write is counted and requests nothing. -/
@[reducible] def txReq (ini : Ini) (n : Fin 8) (b : Fin 3) (v : Word) (idle : Bool) (s : State) : Prop :=
  let a := txbP n b + 0x100
  let u := s.granted a
  let engs := u.engine n && decide (b.val < 2)
  let rtrFd := u.b (txbP n b) R.Sbc.TXB_FMT_RTR && u.b (txbP n b) R.Sbc.TXB_FMT_FDF
  s.verdictW ini a = .ok →
  Does (.txReq ini n b v idle) s fun t =>
    (engs = true ∨ u.txs n b ≠ 0 ∨ rtrFd = true →
      t.g (sbcP n) R.Hdr.FAULT_CNT = bump u (sbcP n) R.Hdr.FAULT_CNT ∧
      (idle = false → engs = true ∨ bitOf v.toNat 1 = false ∨ u.txs n b = 0 → t.txs n b = u.txs n b)) ∧
    (engs = false → u.txs n b = 0 → rtrFd = false →
      t.g (txbP n b) R.Sbc.TXB_STAT_RESULT = 0 ∧
      t.g (txbP n b) R.Sbc.TXB_CTRL_RETRY = fget R.Sbc.TXB_CTRL_RETRY v ∧
      t.g (txbP n b) R.Sbc.TXB_CTRL_TAT = fget R.Sbc.TXB_CTRL_TAT v ∧
      ((t.txs n b = 1 ∧ t.g (txbP n b) R.Sbc.TXB_STAT_ATTEMPTS = 0) ∨
        (idle = true ∧ t.txs n b = 2 ∧ t.g (txbP n b) R.Sbc.TXB_STAT_ATTEMPTS = 1)) ∧
      (idle = true → u.opm n = 3 → u.b (sbcP n) R.Sbc.STAT_ALONE = false → u.g (sbcP n) R.Sbc.SBC_CFG_TEST ≠ 1 →
        (u.port n).closing = false → (∀ k < 3, k ≠ b.val → u.txs n k = 0) → fget R.Sbc.TXB_CTRL_TAT v = 0 → t.txs n b = 2))

/-- R368: an abort of a PENDING buffer ends it at once, `ABORTED`; of an ACTIVE one it waits for the attempt's end; a buffer
of the engine (R363) stays, and the write is counted. -/
@[reducible] def txAbort (ini : Ini) (n : Fin 8) (b : Fin 3) (v : Word) (s : State) : Prop :=
  let a := txbP n b + 0x100
  let u := s.granted a
  let engs := u.engine n && decide (b.val < 2)
  s.verdictW ini a = .ok →
  Does (.txAbort ini n b v) s fun t =>
    (engs = true → t = u.flt (sbcP n)) ∧
    (engs = false → u.txs n b = 1 →
      t.txs n b = 0 ∧ t.g (txbP n b) R.Sbc.TXB_STAT_RESULT = 2 ∧ raised t (sbcP n) b = true) ∧
    (engs = false → u.txs n b = 2 → t.txs n b = 2 ∧ (t.port n).abort = true) ∧
    (engs = false → u.txs n b = 0 → bitOf v.toNat 0 = false → t.txs n b = 0)

/-- R369: a timed buffer whose launch time is reached becomes ACTIVE on an idle bus of a NORMAL port with no other
buffer in use; on a bus that carries a frame it stays PENDING. -/
@[reducible] def txLaunchDue (n : Fin 8) (b : Fin 3) (idle : Bool) (s : State) : Prop :=
  let u := s.untilStamp (s.gTs (txbP n b) R.Sbc.TXB_LAUNCH_LO R.Sbc.TXB_LAUNCH_HI)
  (s.netOn = false ∨ s.txs n b ≠ 1 ∨ s.b (txbP n b) R.Sbc.TXB_CTRL_TAT = false → exec (.txLaunchDue n b idle) s = .next s) ∧
  (s.netOn = true → s.txs n b = 1 → s.b (txbP n b) R.Sbc.TXB_CTRL_TAT = true →
    Does (.txLaunchDue n b idle) s fun t =>
      t.stamp = u.stamp ∧ (idle = false → t.txs n b = 1) ∧
      (idle = true → s.opm n = 3 → s.b (sbcP n) R.Sbc.STAT_ALONE = false → s.g (sbcP n) R.Sbc.SBC_CFG_TEST ≠ 1 →
        (s.port n).closing = false → (∀ k < 3, k ≠ b.val → s.txs n k = 0) →
        s.gTs (txbP n b) R.Sbc.TXB_LAUNCH_LO R.Sbc.TXB_LAUNCH_HI ≤ u.stamp →
        t.txs n b = 2 ∧ t.g (txbP n b) R.Sbc.TXB_STAT_ATTEMPTS = bump s (txbP n b) R.Sbc.TXB_STAT_ATTEMPTS ∧
        t.gTs (txbP n b) R.Sbc.TXB_TS_LO R.Sbc.TXB_TS_HI = u.stamp))

/-- R367, R368: an acknowledged attempt ends `TX_DONE` and is counted; where an abort came too late for it, `ABORT_LATE` says
so. Without an attempt there is nothing to end. -/
@[reducible] def txAttemptOk (n : Fin 8) (b : Fin 3) (tdcv : Nat) (dom : Bool) (s : State) : Prop :=
  (s.netOn = false ∨ s.active n = none → exec (.txAttemptEnd n .ok tdcv dom) s = .next s) ∧
  (s.netOn = true → s.active n = some b.val →
    Does (.txAttemptEnd n .ok tdcv dom) s fun t =>
      t.g (sbcP n) R.Sbc.SBC_TX_OK_CNT = bump s (sbcP n) R.Sbc.SBC_TX_OK_CNT ∧ raised t (sbcP n) b = true ∧
      (s.engine n = false → t.g (txbP n b) R.Sbc.TXB_STAT_RESULT = 1 ∧ t.txs n b = 0 ∧
        ((s.port n).abort = true → t.b (txbP n b) R.Sbc.TXB_STAT_ABORT_LATE = true)))

/-- R365, R368: an attempt that loses arbitration leaves its buffer PENDING, and another node's frame is on the bus; one
whose abort waits, or whose port closes, ends `ABORTED`. -/
@[reducible] def txAttemptLost (n : Fin 8) (b : Fin 3) (tdcv : Nat) (dom : Bool) (s : State) : Prop :=
  (s.netOn = false ∨ s.active n = none → exec (.txAttemptEnd n .lost tdcv dom) s = .next s) ∧
  (s.netOn = true → s.active n = some b.val →
    Does (.txAttemptEnd n .lost tdcv dom) s fun t =>
      (t.port n).busy = true ∧
      ((s.port n).abort = false → (s.port n).closing = false → (s.engine n = false ∨ b ≠ 1) → t.txs n b = 1) ∧
      (((s.port n).abort = true ∨ (s.port n).closing = true) → s.engine n = false →
        t.txs n b = 0 ∧ t.g (txbP n b) R.Sbc.TXB_STAT_RESULT = 2 ∧ raised t (sbcP n) b = true))

/-- R361, R367, R368: an attempt that ends in an error is recorded and counted. While its abort waits or its port closes the
buffer ends `ABORTED`; with repeats left it is PENDING again, or has started anew; else it ends `RETRY_EXHAUSTED`. -/
@[reducible] def txAttemptErr (n : Fin 8) (b : Fin 3) (code : BitVec 3) (data : Bool) (tdcv : Nat) (dom : Bool) (s : State) : Prop :=
  let retry := s.g (txbP n b) R.Sbc.TXB_CTRL_RETRY
  let ends := (s.port n).abort || (s.port n).closing
  let again := decide (retry = 15) || decide ((s.port n).errs b < retry)
  (s.netOn = false ∨ s.active n = none → exec (.txAttemptEnd n (.err code data) tdcv dom) s = .next s) ∧
  (s.netOn = true → s.active n = some b.val →
    Does (.txAttemptEnd n (.err code data) tdcv dom) s fun t =>
      t.g (sbcP n) R.Sbc.SBC_LASTERR_CODE = code.toNat ∧ t.b (sbcP n) R.Sbc.SBC_LASTERR_DATA_PHASE = data ∧
      t.g (sbcP n) R.Sbc.ERR_CNT = bump s (sbcP n) R.Sbc.ERR_CNT ∧
      (s.engine n = false →
        t.g (txbP n b) R.Sbc.TXB_STAT_LAST_ERR = code.toNat ∧ t.b (txbP n b) R.Sbc.TXB_STAT_DATA_PHASE = data ∧
        (ends = true → t.txs n b = 0 ∧ t.g (txbP n b) R.Sbc.TXB_STAT_RESULT = 2) ∧
        (ends = false → again = true → (t.txs n b = 1 ∨ t.txs n b = 2) ∧ (t.port n).errs b = (s.port n).errs b + 1) ∧
        (ends = false → again = false → t.txs n b = 0 ∧ t.g (txbP n b) R.Sbc.TXB_STAT_RESULT = 3)))

/-- R370: once `ALONE_GAP` has passed, a NORMAL port with `ALONE` starts its one PENDING buffer again; on a port that is not
alone nothing waits for the gap. -/
@[reducible] def aloneRetry (n : Fin 8) (b : Fin 3) (s : State) : Prop :=
  (s.netOn = false ∨ s.b (sbcP n) R.Sbc.STAT_ALONE = false → exec (.aloneRetry n) s = .next s) ∧
  (s.netOn = true → s.b (sbcP n) R.Sbc.STAT_ALONE = true →
    Does (.aloneRetry n) s fun t =>
      (s.port n).gapUntil ≤ t.tbs.el ∧
      (s.opm n = 3 → s.g (sbcP n) R.Sbc.SBC_CFG_TEST ≠ 1 → (s.port n).closing = false → (s.port n).busy = false →
        (∀ k < 3, k ≠ b.val → s.txs n k = 0) → s.txs n b = 1 → s.b (txbP n b) R.Sbc.TXB_CTRL_TAT = false →
        t.txs n b = 2 ∧ t.g (txbP n b) R.Sbc.TXB_STAT_ATTEMPTS = bump s (txbP n b) R.Sbc.TXB_STAT_ATTEMPTS))

/-- R359, R371, R372: a port that is NORMAL or RESTRICTED filters a frame for software, on a port of the engine with its own
filters only and all but the engine's frames: one that no filter matches is counted in `NOMATCH_CNT`; a rejecting filter
drops it; an empty mailbox takes it and shows `NEW`; a full one is overwritten with `OVW`, or the frame is lost and
counted. -/
@[reducible] def frameReceived (n : Fin 8) (f : RxFrame) (s : State) : Prop :=
  let fs := if s.engine n then (List.range 32).map (· + 32) else List.range 64
  let hears := s.netOn && (s.opm n == 2 || s.opm n == 3) && s.g (sbcP n) R.Sbc.SBC_CFG_TEST != 2
  (hears = false → exec (.frameReceived n f) s = .next s) ∧
  (hears = true → (s.engine n && f.ide && f.fdf && !f.rtr) = false →
    Does (.frameReceived n f) s fun t =>
      (s.fltMatch n fs f = none → t.g (sbcP n) R.Sbc.NOMATCH_CNT = bump s (sbcP n) R.Sbc.NOMATCH_CNT) ∧
      (∀ k < 64, s.fltMatch n fs f = some k →
        let m := s.g (fltP n k) R.Sbc.FLT_CFG_MB
        let new := s.b (mbxP n m) R.Sbc.MBX_CTRL_NEW
        let ovw := s.b (fltP n k) R.Sbc.FLT_CFG_OVW
        t.g (sbcP n) R.Sbc.NOMATCH_CNT = s.g (sbcP n) R.Sbc.NOMATCH_CNT ∧
        (s.b (fltP n k) R.Sbc.FLT_CFG_REJECT = true → t.rd (mbxP n m + 0x600) = s.rd (mbxP n m + 0x600) ∧
          t.g (sbcP n) R.Sbc.SBC_RX_OK_CNT = s.g (sbcP n) R.Sbc.SBC_RX_OK_CNT) ∧
        (s.b (fltP n k) R.Sbc.FLT_CFG_REJECT = false → (new = false ∨ ovw = true) →
          t.b (mbxP n m) R.Sbc.MBX_CTRL_NEW = true ∧ t.g (mbxP n m) R.Sbc.MBX_ID = f.id.toNat ∧
          t.g (mbxP n m) R.Sbc.MBX_CTRL_FILT = k ∧ t.g (mbxP n m) R.Sbc.MBX_CTRL_DLC = f.dlc ∧
          t.b (mbxP n m) R.Sbc.MBX_CTRL_OVR = (new || s.b (mbxP n m) R.Sbc.MBX_CTRL_OVR) ∧
          t.g (sbcP n) R.Sbc.SBC_RX_OK_CNT = bump s (sbcP n) R.Sbc.SBC_RX_OK_CNT ∧ raised t (sbcP n) 3 = true ∧
          (new = true → raised t (sbcP n) 4 = true)) ∧
        (s.b (fltP n k) R.Sbc.FLT_CFG_REJECT = false → new = true → ovw = false →
          t.b (mbxP n m) R.Sbc.MBX_CTRL_OVR = true ∧ t.g (mbxP n m) R.Sbc.MBX_ID = s.g (mbxP n m) R.Sbc.MBX_ID ∧
          t.g (sbcP n) R.Sbc.RX_LOST_CNT = bump s (sbcP n) R.Sbc.RX_LOST_CNT ∧
          t.g (sbcP n) R.Sbc.SBC_RX_OK_CNT = s.g (sbcP n) R.Sbc.SBC_RX_OK_CNT)))

/-- R362: `FAULT` written 1 clears it once its filter is not lasting; while it is lasting the write is discarded and
counted. -/
@[reducible] def sbcFaultClear (ini : Ini) (n : Fin 8) (v : Word) (s : State) : Prop :=
  let a := sbcP n + 0x00C
  let u := s.granted a
  s.verdictW ini a = .ok →
  Does (.sbcFaultClear ini n v) s fun t =>
    (u.fwLasting (0xDE + n) = false → t.b (sbcP n) R.Sbc.STAT_FAULT = false) ∧
    (u.fwLasting (0xDE + n) = true → t.g (sbcP n) R.Hdr.FAULT_CNT = bump u (sbcP n) R.Hdr.FAULT_CNT ∧
      t.b (sbcP n) R.Sbc.STAT_FAULT = u.b (sbcP n) R.Sbc.STAT_FAULT)

/-- R359, R361: an error on a received frame is recorded and counted, with its event unless the counter stood at all
ones (R82); in RESTRICTED in `RESTR_ERR`, in NORMAL in REC. A port that `EN` = 0 left to complete that frame is then OFF,
or INTEGRATING with `EN` 1 again. A port in another state, or in internal loopback, receives nothing. -/
@[reducible] def busError (n : Fin 8) (code : BitVec 3) (data dom : Bool) (s : State) : Prop :=
  (s.netOn = false ∨ (s.opm n ≠ 2 ∧ s.opm n ≠ 3) ∨ s.g (sbcP n) R.Sbc.SBC_CFG_TEST = 2 →
    exec (.busError n code data dom) s = .next s) ∧
  (s.netOn = true → (s.opm n = 2 ∨ s.opm n = 3) → s.g (sbcP n) R.Sbc.SBC_CFG_TEST ≠ 2 →
  Does (.busError n code data dom) s fun t =>
    t.g (sbcP n) R.Sbc.SBC_LASTERR_CODE = code.toNat ∧ t.b (sbcP n) R.Sbc.SBC_LASTERR_DATA_PHASE = data ∧
    t.g (sbcP n) R.Sbc.ERR_CNT = bump s (sbcP n) R.Sbc.ERR_CNT ∧
    (s.g (sbcP n) R.Sbc.ERR_CNT < 2 ^ R.Sbc.ERR_CNT.w - 1 → raised t (sbcP n) 11 = true) ∧
    (s.opm n = 2 → t.g (sbcP n) R.Sbc.RESTR_ERR = bump s (sbcP n) R.Sbc.RESTR_ERR) ∧
    (s.opm n = 3 → t.g (sbcP n) R.Sbc.RESTR_ERR = s.g (sbcP n) R.Sbc.RESTR_ERR) ∧
    ((s.port n).closing = false ∨ s.b (sbcP n) R.Hdr.CTRL_EN = false →
      t.g (sbcP n) R.Sbc.SBC_ERRC_REC = (if s.opm n = 2 then s.g (sbcP n) R.Sbc.SBC_ERRC_REC else
        min 255 (s.g (sbcP n) R.Sbc.SBC_ERRC_REC + if dom then 8 else 1))) ∧
    ((s.port n).closing = true → t.opm n = (if s.b (sbcP n) R.Hdr.CTRL_EN then 1 else 0)))

/-- R352: with `PEX_EN` a protocol exception takes the port to INTEGRATING and raises event 10; a port whose `EN` = 0
left that frame to complete is then OFF (R358). Without `PEX_EN` it is a form error; a port that is neither NORMAL nor
RESTRICTED sees none. -/
@[reducible] def protocolException (n : Fin 8) (s : State) : Prop :=
  (s.netOn = false ∨ (s.opm n ≠ 2 ∧ s.opm n ≠ 3) → exec (.protocolException n) s = .next s) ∧
  (s.b (sbcP n) R.Sbc.SBC_CFG_PEX_EN = false → exec (.protocolException n) s = exec (.busError n 2 false false) s) ∧
  (s.netOn = true → (s.opm n = 2 ∨ s.opm n = 3) → s.b (sbcP n) R.Sbc.SBC_CFG_PEX_EN = true →
    Does (.protocolException n) s fun t =>
      t.opm n = (if (s.port n).closing && !s.b (sbcP n) R.Hdr.CTRL_EN then 0 else 1) ∧
      t.b (sbcP n) R.Sbc.STAT_HELD = false ∧ raised t (sbcP n) 10 = true)

/-! ### CVE -/

/-- A frame of node `src` on a port of the engine that hears (R358, R359) and belongs to roster context `c` (R384, R400). -/
@[reducible] def fromRoster (s : State) (port : Fin 8) (src : Byte) (c : Nat) : Prop :=
  s.netOn = true ∧ (s.opm port = 2 ∨ s.opm port = 3) ∧ s.engine port = true ∧ s.g (sbcP port) R.Sbc.SBC_CFG_TEST ≠ 2 ∧
  src.toNat ≠ 0 ∧ src.toNat ≠ 1 ∧ src.toNat ≠ 255 ∧ s.roster (netOf port) src.toNat = some c

/-- The class of a control number of a context (R390): 0 acceptable, 1 accepted before, 2 stale. -/
@[reducible] def ctlClass (s : State) (c : Nat) (seq : BitVec 16) : Nat :=
  recClass ((s.ctx c).h.getD seq.toNat) (s.ctx c).acc seq.toNat

/-- A control frame that is not acted on (R390, R400, R402): on a context that is not live nothing changes its state; a number
accepted before is counted as a duplicate; a stale one is a violation. -/
@[reducible] def ctlRefused (s t : State) (c : Nat) (seq : BitVec 16) : Prop :=
  (s.cLive c = false → t.cst c = s.cst c ∧ (t.ctx c).h = (s.ctx c).h) ∧
  (s.cLive c = true → ctlClass s c seq = 1 → t.cst c = s.cst c ∧ (t.ctx c).h = (s.ctx c).h ∧
    t.g (ctxP c) R.Ctx.DUP_CNT = bump s (ctxP c) R.Ctx.DUP_CNT) ∧
  (s.cLive c = true → ctlClass s c seq = 2 →
    t.g (ctxP c) R.Ctx.VIOL_CNT = bump s (ctxP c) R.Ctx.VIOL_CNT ∧ t.g (ctxP c) R.Ctx.LAST_VIOL = 4)

/-- R403, R405, R423: enabling a context that may start empties its queue and listens, or shows BARRED; one that may not
start is left as it is and counted; one that is enabled already goes on. -/
@[reducible] def ctxEnable (ini : Ini) (n : Fin 160) (v : Word) (s : State) : Prop :=
  let a := ctxP n + 0x008
  let u := s.granted a
  s.verdictW ini a = .ok →
  Does (.ctxEnable ini n v) s fun t =>
    (u.b (ctxP n) R.Hdr.CTRL_EN = true → t = u) ∧
    (u.b (ctxP n) R.Hdr.CTRL_EN = false → u.ctxBad n = false →
      t.b (ctxP n) R.Hdr.CTRL_EN = true ∧ t.cst n = (if u.b (ctxP n) R.Ctx.STAT_BAR then 6 else 1) ∧
      t.g (ctxP n) R.Ctx.USED = 0 ∧ t.g (ctxP n) R.Ctx.HEAD = 0 ∧ t.g (ctxP n) R.Ctx.RXQ_QSEQ = 0 ∧ n.val ∈ t.cve.on ∧
      t.ctx n = {}) ∧
    (u.b (ctxP n) R.Hdr.CTRL_EN = false → u.ctxBad n = true →
      t.b (ctxP n) R.Hdr.CTRL_EN = false ∧ t.g (ctxP n) R.Hdr.FAULT_CNT = bump u (ctxP n) R.Hdr.FAULT_CNT ∧ t.cve = u.cve)

/-- R405: `EN` written 0 ends the context: FREE, no longer barred, off the roster; one that is disabled stays so. -/
@[reducible] def ctxDisable (ini : Ini) (n : Fin 160) (v : Word) (s : State) : Prop :=
  let a := ctxP n + 0x008
  let u := s.granted a
  s.verdictW ini a = .ok →
  Does (.ctxDisable ini n v) s fun t =>
    (u.b (ctxP n) R.Hdr.CTRL_EN = false → t = u) ∧
    (u.b (ctxP n) R.Hdr.CTRL_EN = true →
      t.b (ctxP n) R.Hdr.CTRL_EN = false ∧ t.cst n = 0 ∧ t.b (ctxP n) R.Ctx.STAT_BAR = false ∧ n.val ∉ t.cve.on)

/-- R407: a due slot goes to the first context of the roster that awaits one: one that listens then awaits its `JOIN`, and the
next slot is `INV_GAP` later. With no such context the slot is lost; with no slot due, or PD_NET off, nothing happens. -/
@[reducible] def inviteSlot (c d : Nat) (s : State) : Prop :=
  let u := s.advanceTo d
  (s.netOn = false ∨ s.cve.slotAt = none → exec .inviteSlot s = .next s) ∧
  (s.netOn = true → s.cve.slotAt = some d →
    Does .inviteSlot s fun t =>
      d ≤ t.tbs.el ∧ t.cve.slotAt = some (t.tbs.el + s.g cveC R.CveC.CVE_CFG_INV_GAP * 1000000) ∧
      (u.cve.on.find? u.wantsSlot = none → ∀ k ∈ s.cve.on, t.cst k = s.cst k) ∧
      (u.cve.on.find? u.wantsSlot = some c → (t.ctx c).inviteAt = some t.tbs.el ∧
        t.cst c = (if s.cst c = 1 then 2 else s.cst c) ∧ (t.ctx c).txCtl = ((s.ctx c).txCtl + 1) % 65536)) ∧
  (s.netOn = true → s.cve.slotAt = some d → s.cve.on.head? = some c → s.cst c = 1 → s.netUp (s.cNet c) = true →
    Does .inviteSlot s fun t => t.cst c = 2)

/-- R405, R407: `INV_TMO` after its `INVITE` a context that has seen no `JOIN` listens again; one that is LOST stays so and
awaits a slot again. A context in another state, or that was not invited, has no such timer. -/
@[reducible] def inviteTimeout (n : Fin 160) (d : Nat) (s : State) : Prop :=
  (s.netOn = false ∨ (s.ctx n).inviteAt = none ∨ (s.cst n ≠ 2 ∧ s.cst n ≠ 5) → exec (.inviteTimeout n) s = .next s) ∧
  (s.netOn = true → (s.ctx n).inviteAt = some d → (s.cst n = 2 ∨ s.cst n = 5) →
    Does (.inviteTimeout n) s fun t => t.cst n = (if s.cst n = 2 then 1 else 5) ∧
      d + s.g cveC R.CveC.CVE_CFG_INV_TMO * 1000000 ≤ t.tbs.el)

/-- R386, R400, R402, R404, R405: a `JOIN` is a frame of its layout; its serial, version and class are shown. On a barred context
it changes nothing; one accepted before is counted; a wrong serial, a version other than 1 and another serial in a live
conversation are refused; any other passes: the numbers start, and `WELCOME` is on its way. -/
@[reducible] def join (port : Fin 8) (src : Byte) (c : Nat) (seq : BitVec 16) (serial : Word) (ver cls : Byte) (first : BitVec 16)
    (age : Nat) (s : State) : Prop :=
  let ros := s.rd (ctxP c + 0x044)
  let dup := (s.ctx c).h.isSome && ctlClass s c seq == 1
  let bad := (ros != 0#32 && ros != serial) || ver != 1 || (s.cLive c && serial != (s.ctx c).serial)
  exec (.join port src seq serial ver cls first age) s = exec (.frameReceived port (elithFrame 5 3 src.toNat 0
    (bytesLE 2 seq.toNat ++ bytesLE 4 serial.toNat ++ [ver.toNat, cls.toNat] ++ bytesLE 2 first.toNat ++ [0, 0]) age)) s ∧
  (fromRoster s port src c →
    Does (.join port src seq serial ver cls first age) s fun t =>
      t.rd (ctxP c + 0x064) = serial ∧ t.rd (ctxP c + 0x060) = wd (cls.toNat * 256 + ver.toNat) ∧
      (s.cst c = 6 ∨ dup = true ∨ bad = true → t.cst c = s.cst c ∧ (t.ctx c).h = (s.ctx c).h ∧
        (t.ctx c).serial = (s.ctx c).serial ∧ (t.ctx c).welcoming = (s.ctx c).welcoming) ∧
      (s.cst c ≠ 6 → dup = true → t.g (ctxP c) R.Ctx.DUP_CNT = bump s (ctxP c) R.Ctx.DUP_CNT) ∧
      (s.cst c ≠ 6 → dup = false → bad = false →
        (t.ctx c).h = some seq.toNat ∧ (t.ctx c).serial = serial ∧ (t.ctx c).welcoming = true ∧ t.cE c = first.toNat ∧
        (t.ctx c).held = [] ∧ (t.ctx c).out = [] ∧ t.cst c = (if s.cst c = 4 then 3 else s.cst c) ∧
        t.gTs (ctxP c) R.Ctx.CVE_RX_TS_LO R.Ctx.CVE_RX_TS_HI = s.stampAgo age))

/-- R405: the first copy of the `WELCOME` to be acknowledged makes the context LIVE; a later copy changes no state, and while no
port sends one the command finds nothing. -/
@[reducible] def welcome (n : Fin 160) (k : Fin 8) (f : EFrm) (s : State) : Prop :=
  (s.netOn = false ∨ (∀ j < 8, s.active j ≠ some 1) → exec (.welcome n) s = .next s) ∧
  (s.netOn = true → (∀ j < 8, j ≠ k.val → s.active j ≠ some 1) → s.active k = some 1 → (s.port k).cur1 = some f →
    f.kind = .welcome n →
    exec (.welcome n) s = exec (.txAttemptEnd k .ok (s.g (sbcP k) R.Sbc.SBC_TDC_TDCV) false) s) ∧
  (s.netOn = true → (∀ j < 8, j ≠ k.val → s.active j ≠ some 1) → s.active k = some 1 → (s.port k).cur1 = some f →
    f.kind = .welcome n → s.g (sbcP k) R.Sbc.SBC_CFG_TEST ≠ 2 →
    Does (.welcome n) s fun t => (t.ctx n).welcoming = false ∧ t.cst n = if (s.ctx n).welcoming then 3 else s.cst n)

/-- R386, R405: a `LEAVE` is a frame of its layout; one that is accepted ends the conversation, and the context listens. -/
@[reducible] def leave (port : Fin 8) (src : Byte) (c : Nat) (seq : BitVec 16) (reason : Byte) (age : Nat) (s : State) : Prop :=
  exec (.leave port src seq reason age) s = exec (.frameReceived port (elithFrame 5 0xA src.toNat 0
    (bytesLE 2 seq.toNat ++ [reason.toNat, 0, 0, 0, 0, 0]) age)) s ∧
  (fromRoster s port src c →
    Does (.leave port src seq reason age) s fun t => ctlRefused s t c seq ∧
      (s.cLive c = true → ctlClass s c seq = 0 →
        t.cst c = 1 ∧ (t.ctx c).h = none ∧ (t.ctx c).out = [] ∧ (t.ctx c).held = []))

/-- R386, R391, R392, R395, R400, R402, R417: a data frame of its layout. The number expected is delivered, unless the queue is
full, which is counted; a number up to 8 beyond it is held; one further on is a violation; one before it is a duplicate,
or stale and a violation. A priority or stream that data may not have is a violation; without a live conversation the frame
is counted. -/
@[reducible] def data (port : Fin 8) (src : Byte) (c : Nat) (prio : BitVec 3) (stream : BitVec 6) (seq : BitVec 16)
    (msg : List Byte) (age : Nat) (s : State) : Prop :=
  let e := s.cE c
  let d := (seq.toNat + 65536 - e) % 65536
  let good := (prio == 1 || prio == 3 || prio == 6 || prio == 7) && stream != 0
  let cls := recClass (s.ctx c).hD (s.ctx c).accD seq.toNat
  let pg := ctxP c
  exec (.data port src prio stream seq msg age) s = exec (.frameReceived port (elithFrame prio.toNat 8 src.toNat stream.toNat
    (bytesLE 2 seq.toNat ++ (msg.take 62).map BitVec.toNat) age)) s ∧
  (fromRoster s port src c →
    Does (.data port src prio stream seq msg age) s fun t =>
      (s.cLive c = false → t.cst c = s.cst c ∧ t.cE c = e) ∧
      (s.cLive c = true → good = false → t.g pg R.Ctx.VIOL_CNT = bump s pg R.Ctx.VIOL_CNT ∧ t.g pg R.Ctx.LAST_VIOL = 1) ∧
      (s.cLive c = true → good = true → d = 0 → 1 < s.qFree c → (t.ctx c).ackOwed = true ∧
        ((s.ctx c).held = [] → t.cE c = (e + 1) % 65536) ∧
        ((s.ctx c).held = [] → (s.ctx c).waitq = [] → t.g pg R.Ctx.USED = s.g pg R.Ctx.USED + 1 ∧
          t.g pg R.Ctx.DELIV_CNT = bump s pg R.Ctx.DELIV_CNT)) ∧
      (s.cLive c = true → good = true → d = 0 → s.qFree c ≤ 1 → t.cE c = e ∧
        t.g pg R.Ctx.QFULL_CNT = bump s pg R.Ctx.QFULL_CNT ∧ (t.ctx c).held = (s.ctx c).held) ∧
      (s.cLive c = true → good = true → 1 ≤ d → d ≤ 8 → t.cE c = e ∧ (∃ h ∈ (t.ctx c).held, h.seq = seq.toNat) ∧
        (((s.ctx c).held.any fun h => h.seq == seq.toNat) = true → t.g pg R.Ctx.DUP_CNT = bump s pg R.Ctx.DUP_CNT) ∧
        (((s.ctx c).held.any fun h => h.seq == seq.toNat) = false → (t.ctx c).ackOwed = true ∧
          (t.ctx c).held.length = (s.ctx c).held.length + 1)) ∧
      (s.cLive c = true → good = true → 8 < d → d < 32768 →
        t.g pg R.Ctx.VIOL_CNT = bump s pg R.Ctx.VIOL_CNT ∧ t.g pg R.Ctx.LAST_VIOL = 0xC) ∧
      (s.cLive c = true → good = true → 32768 ≤ d → cls = 2 →
        t.g pg R.Ctx.VIOL_CNT = bump s pg R.Ctx.VIOL_CNT ∧ t.g pg R.Ctx.LAST_VIOL = 4) ∧
      (s.cLive c = true → good = true → 32768 ≤ d → cls ≠ 2 →
        t.cE c = e ∧ t.g pg R.Ctx.DUP_CNT = bump s pg R.Ctx.DUP_CNT))

/-- R386, R396, R412: an `ACK` is a frame of its layout; accepted, it sets `PEER_FULL`, and `CUM` in range moves `TX_CUM`. -/
@[reducible] def ack (port : Fin 8) (src : Byte) (c : Nat) (seq cum : BitVec 16) (held : Byte) (full : Bool) (age : Nat)
    (s : State) : Prop :=
  let out := seqAfter (s.g (ctxP c) R.Ctx.TX_CUM) cum.toNat ||
    seqAfter cum.toNat ((s.g (ctxP c) R.Ctx.TX_NEXT + 65535) % 65536)
  exec (.ack port src seq cum held full age) s = exec (.frameReceived port (elithFrame 2 6 src.toNat 0
    (bytesLE 2 seq.toNat ++ bytesLE 2 cum.toNat ++ [held.toNat, b2n full, 0, 0]) age)) s ∧
  (fromRoster s port src c →
    Does (.ack port src seq cum held full age) s fun t => ctlRefused s t c seq ∧
      (s.cLive c = true → ctlClass s c seq = 0 →
        t.cst c = 3 ∧ t.b (ctxP c) R.Ctx.STAT_PEER_FULL = full ∧ t.g (ctxP c) R.Ctx.STAT_MISS = 0 ∧
        t.g (ctxP c) R.Ctx.TX_CUM = (if out then s.g (ctxP c) R.Ctx.TX_CUM else cum.toNat)))

/-- R386, R396: a `NAK` is a frame of its layout; accepted with reason 6 it gives the frame it names its retries again, with
reason 5 the numbers it names are covered, and with another reason nothing outstanding changes its retries. -/
@[reducible] def nak (port : Fin 8) (src : Byte) (c : Nat) (seq ref : BitVec 16) (refType reason : Byte) (detail : BitVec 16)
    (age : Nat) (s : State) : Prop :=
  exec (.nak port src seq ref refType reason detail age) s = exec (.frameReceived port (elithFrame 2 7 src.toNat 0
    (bytesLE 2 seq.toNat ++ bytesLE 2 ref.toNat ++ [refType.toNat, reason.toNat] ++ bytesLE 2 detail.toNat) age)) s ∧
  (fromRoster s port src c →
    Does (.nak port src seq ref refType reason detail age) s fun t => ctlRefused s t c seq ∧
      (s.cLive c = true → ctlClass s c seq = 0 →
        t.cst c = 3 ∧ t.g (ctxP c) R.Ctx.STAT_MISS = 0 ∧
        t.gTs (ctxP c) R.Ctx.CVE_RX_TS_LO R.Ctx.CVE_RX_TS_HI = s.stampAgo age ∧
        (reason = 6 → ∀ f ∈ (t.ctx c).out, f.seq = ref.toNat → f.sent = true → f.tries = 0) ∧
        (reason = 5 → ∀ g ∈ (t.ctx c).out, ∀ i < 8, g.seq = ((s.ctx c).cov + 1 + i) % 65536 →
          (g.seq + 65536 - ref.toNat) % 65536 < detail.toNat →
          seqAfter g.seq ((s.g (ctxP c) R.Ctx.TX_NEXT + 65535) % 65536) = false →
          ∃ f ∈ (s.ctx c).out, f.seq = g.seq ∧ f.sent = false) ∧
        (reason ≠ 5 → reason ≠ 6 → (t.ctx c).out.map (·.tries) = (s.ctx c).out.map (·.tries))))

/-- R386, R392, R405, R408: a `HEARTBEAT` is a frame of its layout; accepted, it restarts the loss timer and ends QUIET; a `NEXT`
beyond E with nothing held starts the gap timer. -/
@[reducible] def heartbeat (port : Fin 8) (src : Byte) (c : Nat) (seq next : BitVec 16) (full : Bool) (per heard : Byte)
    (age : Nat) (s : State) : Prop :=
  exec (.heartbeat port src seq next full per heard age) s = exec (.frameReceived port (elithFrame 4 5 src.toNat 0
    (bytesLE 2 seq.toNat ++ bytesLE 2 next.toNat ++ [b2n full, per.toNat, heard.toNat, 0]) age)) s ∧
  (fromRoster s port src c →
    Does (.heartbeat port src seq next full per heard age) s fun t => ctlRefused s t c seq ∧
      (s.cLive c = true → ctlClass s c seq = 0 →
        t.cst c = 3 ∧ t.g (ctxP c) R.Ctx.STAT_MISS = 0 ∧ (t.ctx c).lastAt = s.tbs.el ∧
        t.b (ctxP c) R.Ctx.STAT_PEER_FULL = full ∧
        (seqAfter next.toNat (s.cE c) = true → (s.ctx c).held = [] → (s.ctx c).gapAt = none →
          (t.ctx c).gapAt = some s.tbs.el ∧ (t.ctx c).gapNext = next.toNat) ∧
        (seqAfter next.toNat (s.cE c) = false ∨ (s.ctx c).held ≠ [] ∨ (s.ctx c).gapAt ≠ none →
          (t.ctx c).gapAt = (s.ctx c).gapAt)))

/-- R392, R393: when the gap timer ends, E moves to the first number held, or with nothing held to the `NEXT` that started the
timer, and past the held numbers that follow; the numbers passed over are counted lost. While frames stay held the timer
starts again; where none runs there is nothing to end. -/
@[reducible] def gapTimeout (n : Fin 160) (d : Nat) (s : State) : Prop :=
  let e := s.cE n
  let x := match (s.ctx n).held.head? with
    | some f => f.seq
    | none => (s.ctx n).gapNext
  (s.netOn = false ∨ (s.ctx n).gapAt = none → exec (.gapTimeout n) s = .next s) ∧
  (s.netOn = true → (s.ctx n).gapAt = some d → x < 65536 →
    Does (.gapTimeout n) s fun t =>
      d + 20000000 ≤ t.tbs.el ∧ (t.ctx n).gapAt = (if (t.ctx n).held.isEmpty then none else some t.tbs.el) ∧
      (seqAfter x e = false → t.cE n = e ∧ (t.ctx n).held = (s.ctx n).held) ∧
      (seqAfter x e = true → (s.ctx n).held = [] → t.cE n = x) ∧
      (seqAfter x e = true →
        t.g (ctxP n) R.Ctx.GAP_CNT = min (s.g (ctxP n) R.Ctx.GAP_CNT + (x + 65536 - e) % 65536) 65535))

/-- R395: an owed `ACK` is sent once: none is owed, and the context's control number has moved on; where none is owed nothing
is sent. -/
@[reducible] def ackDue (n : Fin 160) (s : State) : Prop :=
  (s.netOn = false ∨ (s.ctx n).ackOwed = false → exec (.ackDue n) s = .next s) ∧
  (s.netOn = true → (s.ctx n).ackOwed = true →
    Does (.ackDue n) s fun t =>
      (t.ctx n).ackOwed = false ∧ (t.ctx n).lastAck = some s.tbs.el ∧ (t.ctx n).txCtl = ((s.ctx n).txCtl + 1) % 65536)

/-- R396, R412: `T_RTX` after it was sent, the frame due first is resent while it has retries, else given up; without a usable
leg, or with nothing sent and outstanding, nothing is due (R420). -/
@[reducible] def retransmitDue (n : Fin 160) (f : OutFrm) (s : State) : Prop :=
  (s.netOn = false ∨ s.netUp (s.cNet n) = false ∨ dueFirst (s.ctx n).out = none → exec (.retransmitDue n) s = .next s) ∧
  (s.netOn = true → s.netUp (s.cNet n) = true → dueFirst (s.ctx n).out = some f →
    Does (.retransmitDue n) s fun t =>
      f.sentAt + s.g (ctxP n) R.Ctx.CVE_TIMING_T_RTX * 1000000 ≤ t.tbs.el ∧
      (f.tries < s.g (ctxP n) R.Ctx.CVE_TIMING_N_RTX →
        t.g (ctxP n) R.Ctx.RTX_CNT = bump s (ctxP n) R.Ctx.RTX_CNT ∧
        { f with tries := f.tries + 1, sentAt := t.tbs.el } ∈ (t.ctx n).out) ∧
      (s.g (ctxP n) R.Ctx.CVE_TIMING_N_RTX ≤ f.tries →
        t.g (ctxP n) R.Ctx.GIVEUP_CNT = bump s (ctxP n) R.Ctx.GIVEUP_CNT ∧ ∀ g ∈ (t.ctx n).out, g.seq ≠ f.seq))

/-- R405, R408: a missed heartbeat makes a live context QUIET, and LOST at `LOSS_N`; a context without a live conversation
misses none. -/
@[reducible] def heartbeatMiss (n : Fin 160) (s : State) : Prop :=
  let m := s.g (ctxP n) R.Ctx.STAT_MISS + 1
  (s.netOn = false ∨ s.cLive n = false → exec (.heartbeatMiss n) s = .next s) ∧
  (s.netOn = true → s.cLive n = true →
    Does (.heartbeatMiss n) s fun t =>
      (m < s.g (ctxP n) R.Ctx.CVE_TIMING_LOSS_N → t.cst n = 4 ∧ t.g (ctxP n) R.Ctx.STAT_MISS = m) ∧
      (s.g (ctxP n) R.Ctx.CVE_TIMING_LOSS_N ≤ m → t.cst n = 5 ∧
        t.g (ctxP n) R.Ctx.LOSS_CNT = bump s (ctxP n) R.Ctx.LOSS_CNT ∧ (t.ctx n).h = none))

/-- R387, R409: a broadcast `HEARTBEAT` takes the network's next broadcast number, one period after the one before; on a network
without a usable leg none is due. -/
@[reducible] def bcastHeartbeat (net : Fin 4) (d : Nat) (s : State) : Prop :=
  (s.netOn = false ∨ Tab.get (fun _ => none) s.cve.hbAt net.val = none → exec (.bcastHeartbeat net) s = .next s) ∧
  (s.netOn = true → Tab.get (fun _ => none) s.cve.hbAt net.val = some d →
    Does (.bcastHeartbeat net) s fun t =>
      Tab.get (fun _ => 0) t.cve.bcCtl net = (Tab.get (fun _ => 0) s.cve.bcCtl net + 1) % 65536 ∧
      Tab.get (fun _ => none) t.cve.hbAt net.val = some t.tbs.el ∧
      d + fget ⟨0, 8 * net, 8⟩ (s.rd (cveC + 0x044)) * 10000000 ≤ t.tbs.el)

/-- R411, R412: a `SEND` with a good header on a live context whose network is up and whose 16 places are not all taken is
numbered with `TX_NEXT` and answered `OK`; else its code says the first thing that is wrong, event 7 is raised and nothing
is sent. -/
@[reducible] def cveSend (n : Fin 160) (hdr : Word) (d : List Word) (tag : BitVec 16) (s : State) : Prop :=
  let u := s.granted (ctxP n + 0x144)
  let code := if u.b (ctxP n) R.Hdr.CTRL_EN = false then 1
    else if fget R.Ctx.CVE_CMD_HDR_STREAM hdr = 0 ∨ 62 < fget R.Ctx.CVE_CMD_HDR_LEN hdr ∨
      fget R.Ctx.CVE_CMD_HDR_PRIO hdr ∉ [1, 3, 6, 7] then 3
    else if u.cLive n = false then 4 else if u.netUp (u.cNet n) = false then 5 else if 16 ≤ (u.ctx n).out.length then 6 else 0
  s.verdictW .nib (ctxP n + 0x144) = .ok →
  Does (.cveSend n hdr d tag) s fun t =>
    t.g (ctxP n) R.Ctx.CVE_RESULT_CODE = code ∧ t.g (ctxP n) R.Ctx.CVE_RESULT_TAG = tag.toNat ∧
    (code = 0 → t.g (ctxP n) R.Ctx.TX_NEXT = (u.g (ctxP n) R.Ctx.TX_NEXT + 1) % 65536 ∧
      t.g (ctxP n) R.Ctx.CVE_RESULT_RESULT_SEQ = u.g (ctxP n) R.Ctx.TX_NEXT ∧
      (t.ctx n).out.length = (u.ctx n).out.length + 1) ∧
    (code ≠ 0 → t.g (ctxP n) R.Ctx.TX_NEXT = u.g (ctxP n) R.Ctx.TX_NEXT ∧ t.cve = u.cve ∧ raised t (ctxP n) 7 = true)

/-- R411, R416: a `RELEASE` of a pair whose `COUNT` is not 0 and not above the entries it has not released advances its
position and is answered `OK`; any other is answered with code 3, and one on a context with `EN` 0 with code 1. -/
@[reducible] def cveRelease (n : Fin 160) (p : Fin 2) (count : BitVec 7) (tag : BitVec 16) (s : State) : Prop :=
  let u := s.granted (ctxP n + 0x144)
  let ok := count != 0 && decide (count.toNat ≤ u.unreleased n p)
  let en := u.b (ctxP n) R.Hdr.CTRL_EN
  s.verdictW .nib (ctxP n + 0x144) = .ok →
  Does (.cveRelease n p count tag) s fun t =>
    t.g (ctxP n) R.Ctx.CVE_RESULT_TAG = tag.toNat ∧
    t.g (ctxP n) R.Ctx.CVE_RESULT_CODE = (if en = false then 1 else if ok then 0 else 3) ∧
    (t.ctx n).rel0 = (u.ctx n).rel0 + (if en ∧ ok ∧ p = 0 then count.toNat else 0) ∧
    (t.ctx n).rel1 = (u.ctx n).rel1 + (if en ∧ ok ∧ p = 1 then count.toNat else 0)

/-- R411, R412: a `NOTICE` with a good header on a network that is up takes the network's broadcast data number and is
answered `OK`; else its code says the first thing that is wrong, event 5 is raised and nothing is sent. -/
@[reducible] def cveNotice (hdr : Word) (d : List Word) (tag : BitVec 16) (s : State) : Prop :=
  let u := s.granted (cveC + 0x144)
  let net := fget R.CveC.CVE_CMD_HDR_NET hdr
  let q := Tab.get (fun _ => 0) u.cve.bcData net
  let code := if u.b cveC R.Hdr.CTRL_EN = false then 1
    else if fget R.CveC.CVE_CMD_HDR_STREAM hdr = 0 ∨ 62 < fget R.CveC.CVE_CMD_HDR_LEN hdr ∨
      fget R.CveC.CVE_CMD_HDR_PRIO hdr ∉ [3, 6, 7] then 3
    else if u.netUp net = false then 5 else 0
  s.verdictW .nib (cveC + 0x144) = .ok →
  Does (.cveNotice hdr d tag) s fun t =>
    t.g cveC R.CveC.CVE_BRESULT_TAG = tag.toNat ∧ t.g cveC R.CveC.CVE_BRESULT_CODE = code ∧
    (code = 0 → Tab.get (fun _ => 0) t.cve.bcData net = (q + 1) % 65536 ∧
      t.g cveC R.CveC.CVE_BRESULT_RESULT_SEQ = q % 65536) ∧
    (code ≠ 0 → t.cve = u.cve ∧ raised t cveC 5 = true)

/-- R419: `BAR` written 1 clears it once its filter is not lasting, and a BARRED context listens; while it is lasting the
write is discarded and counted; a `BAR` that is 0 stays. -/
@[reducible] def ctxBarClear (ini : Ini) (n : Fin 160) (v : Word) (s : State) : Prop :=
  let a := ctxP n + 0x00C
  let u := s.granted a
  s.verdictW ini a = .ok →
  Does (.ctxBarClear ini n v) s fun t =>
    (u.b (ctxP n) R.Ctx.STAT_BAR = false → t = u) ∧
    (u.b (ctxP n) R.Ctx.STAT_BAR = true → u.fwLasting n = false →
      t.b (ctxP n) R.Ctx.STAT_BAR = false ∧ t.cst n = (if u.cst n = 6 then 1 else u.cst n)) ∧
    (u.b (ctxP n) R.Ctx.STAT_BAR = true → u.fwLasting n = true → t.b (ctxP n) R.Ctx.STAT_BAR = true ∧ t.cst n = u.cst n ∧
      t.g (ctxP n) R.Hdr.FAULT_CNT = bump u (ctxP n) R.Hdr.FAULT_CNT)

/-! ### The map, MPG, SEP and the executors -/

/-- What a write of `MPG_MAP_CTRL` with the bits `w` leaves (R34, R35, R37). One that arms and disarms the same car is ignored
and `WR_REJ` set. Else a car disarms at rest with its executor idle, and is refused in `DIS_REJ` otherwise; and while no
check runs, each car that is to be armed, and is at rest with its executor idle or not armed, awaits the check, and `WR_REJ`
tells of one that is not. An LH6161 has no car L to arm. -/
@[reducible] def mapTaken (u : State) (w : Nat) (t : State) : Prop :=
  let rej := (bitOf w 0 && bitOf w 4) || (bitOf w 1 && bitOf w 5)
  let asked (c : Nat) : Bool := bitOf w c && !u.b mpgC R.MpgC.MAP_BUSY && !(decide (c = 1) && u.lh6161)
  let fits (c : Nat) : Bool := !u.armed c || u.restIdle c
  let add := (if asked 0 && fits 0 then [0] else []) ++ (if asked 1 && fits 1 then [1] else [])
  (rej = true → t.hoist = u.hoist ∧ t.b mpgC R.MpgC.MAP_WR_REJ = true ∧ t.armed 0 = u.armed 0 ∧ t.armed 1 = u.armed 1 ∧
    t.b mpgC R.MpgC.MAP_BUSY = u.b mpgC R.MpgC.MAP_BUSY) ∧
  (rej = false → t.hoist.arming = u.hoist.arming ++ add ∧
    t.b mpgC R.MpgC.MAP_BUSY = (u.b mpgC R.MpgC.MAP_BUSY || decide (add ≠ [])) ∧
    ((asked 0 = true ∧ fits 0 = false) ∨ (asked 1 = true ∧ fits 1 = false) → t.b mpgC R.MpgC.MAP_WR_REJ = true) ∧
    ∀ c < 2,
      (bitOf w (4 + c) = false ∨ u.armed c = false → t.armed c = u.armed c ∧ t.gst c = u.gst c) ∧
      (bitOf w (4 + c) = true → u.armed c = true → u.restIdle c = true →
        t.armed c = false ∧ t.gst c = 0 ∧ t.rd (carP c + R.MpgC.CAR_WHERE_LDG.off) = 0#32) ∧
      (bitOf w (4 + c) = true → u.armed c = true → u.restIdle c = false →
        t.armed c = true ∧ t.b mpgC R.MpgC.MAP_DIS_REJ = true ∧ t.gst c = u.gst c))

/-- R34, R35, R37: `ARM_U` starts the check of car U; the word's other bits act as they say. -/
@[reducible] def armU (ini : Ini) (v : Word) (s : State) : Prop :=
  s.verdictW ini (mpgC + 0x044) = .ok →
  Does (.armU ini v) s fun t => mapTaken (s.granted (mpgC + 0x044)) (v ||| 1#32).toNat t

/-- R34, R35, R37: `ARM_L` starts the check of car L, where the chip has one; the word's other bits act as they say. -/
@[reducible] def armL (ini : Ini) (v : Word) (s : State) : Prop :=
  s.verdictW ini (mpgC + 0x044) = .ok →
  Does (.armL ini v) s fun t => mapTaken (s.granted (mpgC + 0x044)) (v ||| 2#32).toNat t

/-- R34, R35: the check of the cars that await it ends: a car that passes is armed, one that fails is not, the first failure
stands in `ERR`, `ERR_LDG` and `ERR_CAR`, `BUSY` clears and `DONE` is set. While no check runs there is none to end. -/
@[reducible] def armCheckDone (c : Fin 2) (s : State) : Prop :=
  let e := (((s.hoist.arming.filterMap fun k => s.mapCheck k).head?).getD ⟨0, 0, false⟩)
  (s.domOn 6 = false ∨ s.b mpgC R.MpgC.MAP_BUSY = false → exec .armCheckDone s = .next s) ∧
  (s.domOn 6 = true → s.b mpgC R.MpgC.MAP_BUSY = true →
    Settles .armCheckDone s s.armOutcome fun t =>
      t.b mpgC R.MpgC.MAP_BUSY = false ∧ t.b mpgC R.MpgC.MAP_DONE = true ∧ t.hoist.arming = [] ∧
      t.g mpgC R.MpgC.MAP_ERR = e.err % 2 ^ R.MpgC.MAP_ERR.w ∧ t.g mpgC R.MpgC.MAP_ERR_LDG = e.ldg % 2 ^ R.MpgC.MAP_ERR_LDG.w ∧
      t.b mpgC R.MpgC.MAP_ERR_CAR = e.car ∧
      (s.hoist.arming = [] → t.armed c = s.armed c) ∧
      (s.hoist.arming = [c.val] → t.armed c = (s.mapCheck c).isNone ∧ t.armed (1 - c) = s.armed (1 - c)) ∧
      (s.hoist.arming = [0, 1] → t.armed c = (s.mapCheck c).isNone))

/-- R37: `DISARM_U` disarms car U at rest with its executor idle, and is refused otherwise; the word's other bits act as
they say. -/
@[reducible] def disarmU (ini : Ini) (v : Word) (s : State) : Prop :=
  s.verdictW ini (mpgC + 0x044) = .ok →
  Does (.disarmU ini v) s fun t => mapTaken (s.granted (mpgC + 0x044)) (v ||| 16#32).toNat t

/-- R37: `DISARM_L` likewise for car L. -/
@[reducible] def disarmL (ini : Ini) (v : Word) (s : State) : Prop :=
  s.verdictW ini (mpgC + 0x044) = .ok →
  Does (.disarmL ini v) s fun t => mapTaken (s.granted (mpgC + 0x044)) (v ||| 32#32).toNat t

/-- Nothing but the generator of car `c` acts at its boundary: one car in the shaft, a source `VALID`, no source loss
signalled, the executor IDLE, and the two sources do not differ by more than `SRC_TOL` (R30, R165 to R167, R205). -/
@[reducible] def calm (c : Fin 2) (s : State) : Prop :=
  s.twin = false ∧ s.hoist.lost = [] ∧ s.xst c = 0 ∧
  (s.chValid (s.srcPri c) = true ∨ s.chValid (s.srcSec c) = true) ∧
  (s.chValid (s.srcPri c) = true → s.chValid (s.srcSec c) = true →
    (s.gs (fbP (s.srcPri c)) R.Fb.PFI_POS - s.gs (fbP (s.srcSec c)) R.Fb.PFI_POS).natAbs ≤ s.g (mpgP c) R.Mpg.SRC_TOL)

/-- The reference stands at rest at `p` (R148). -/
@[reducible] def restsAt (c : Fin 2) (p : Int) (t : State) : Prop :=
  (t.gen c).pos = p ∧ t.g (mpgP c) R.Mpg.MPG_REF_VEL = 0 ∧ t.g (mpgP c) R.Mpg.MPG_REF_ACC = 0

/-- R40, R147, R148, R152, R155 to R160, R169: the hoist reaches the car's next boundary, which is stamped, and `WHERE` is
resolved; with nothing else acting, an armed and enabled generator in OFF wakes at its source, READY and HALTED hold, a move
starts in its direction or, at its target, settles, a profile gives the reference its point and at its end SETTLING, a stop
that waits begins, STOPPING ends in READY or HALTED, and SETTLING watches `LVL_TOL`. -/
@[reducible] def hoistPeriodBoundary (c : Fin 2) (s : State) : Prop :=
  let k := s.nextBoundary c
  let u := s.advanceTo k
  let g := s.gen c
  let p := s.carPos c
  let n := s.nearest p
  let y := (u.profPoint c).getD ⟨0, 0, 0⟩
  (s.domOn 6 = false → exec (.hoistPeriodBoundary c) s = .next s) ∧
  (s.domOn 6 = true → s.lh6161 = true → c = 1 →
    exec (.hoistPeriodBoundary c) s = .next ((u.setGen c { g with bndAt := some k }).markSync c)) ∧
  (s.domOn 6 = true → (c = 0 ∨ s.lh6161 = false) →
    Does (.hoistPeriodBoundary c) s fun t =>
      t.tbs = u.tbs ∧ k ≤ t.tbs.el ∧ t.pulses = [] ∧ (t.gen c).bndAt = some k ∧
      t.g (mpgP c) R.Mpg.MPG_REF_TS_LO = u.stamp % 2 ^ 32 ∧
      (s.armed c = false → t.rd (carP c + R.MpgC.CAR_WHERE_LDG.off) = 0#32) ∧
      (s.armed c = true → s.carValid c = true → t.rd (carP c + R.MpgC.CAR_WHERE_LDG.off) =
        wd (n + b2n (s.inDz n p) * 0x100 + b2n (s.inUz n p) * 0x200 + b2n (s.inTz c p) * 0x400 + 0x1000)) ∧
      (calm c s →
        (s.gst c = 0 → (s.b (mpgP c) R.Hdr.CTRL_EN = false ∨ s.armed c = false) → t.gst c = 0) ∧
        (s.gst c = 0 → s.b (mpgP c) R.Hdr.CTRL_EN = true → s.armed c = true → s.carValid c = true → g.kept = none →
          t.gst c = 1 ∧ restsAt c (p * 2 ^ 24) t) ∧
        (s.gst c = 1 → g.kept = none → t.gst c = 1 ∧ restsAt c g.pos t ∧ (t.gen c).relevel = []) ∧
        (s.gst c = 6 → t.gst c = 6 ∧ restsAt c (if g.follow then p * 2 ^ 24 else g.pos) t) ∧
        (s.gst c = 4 → t.gst c = 4 ∧ restsAt c g.pos t ∧
          (t.gen c).okAt = if s.inTol c then some (g.okAt.getD t.tbs.el) else none) ∧
        ((s.gst c = 2 ∨ s.gst c = 5) → g.start = true → g.reqs = [] → g.replan = false →
          (s.gs (mpgP c) R.Mpg.MPG_TARGET = p → t.gst c = 4 ∧ restsAt c (p * 2 ^ 24) t) ∧
          (s.gs (mpgP c) R.Mpg.MPG_TARGET ≠ p →
            t.b (mpgP c) R.Mpg.STAT_DIR_UP = decide (p < s.gs (mpgP c) R.Mpg.MPG_TARGET) ∧ (t.gen c).start = false ∧
            (t.gst c = s.gst c ∨ t.gst c = 4))) ∧
        ((s.gst c = 2 ∨ s.gst c = 5) → g.start = false → g.reqs = [] → g.replan = false →
          (u.profPoint c = none → t.gst c = 4 ∧ restsAt c (s.gs (mpgP c) R.Mpg.MPG_TARGET * 2 ^ 24) t) ∧
          ((u.profPoint c).isSome = true → t.gst c = s.gst c ∧ (t.gen c).pos = y.p ∧ (t.gen c).v = y.v ∧ (t.gen c).a = y.a)) ∧
        ((s.gst c = 2 ∨ s.gst c = 5) → g.start = false → g.reqs ≠ [] → g.replan = false → (u.profPoint c).isSome = true →
          t.g (mpgP c) R.Mpg.STAT_STOP_CAUSE = leadCause g.reqs % 16 ∧ raised t (mpgP c) 3 = true ∧
          (t.gst c = 3 ∨ t.gst c = if g.halt then 6 else 1)) ∧
        (s.gst c = 3 → g.reqs = [] →
          (u.profPoint c = none → t.gst c = (if g.halt then 6 else 1) ∧ t.g (mpgP c) R.Mpg.MPG_REF_VEL = 0 ∧
            raised t (mpgP c) 4 = true) ∧
          ((u.profPoint c).isSome = true → t.gst c = 3 ∧ (t.gen c).pos = y.p ∧ (t.gen c).v = y.v ∧ (t.gen c).a = y.a))))

/-- R156: SETTLING ends levelled: `LEVELLED` is set, the result is `OK` with the move's tag, and the generator is READY and
keeps the landing it was sent to; of an executor's entry the doors follow, or its cancel is too late (R205, R207). -/
@[reducible] def levelled (c : Fin 2) (s : State) : Prop :=
  ((s.domOn 6 = false ∨ s.gst c ≠ 4 ∨ s.willLevel c = false) → exec (.levelled c) s = .next s) ∧
  (s.domOn 6 = true → s.gst c = 4 → s.willLevel c = true →
    Settles (.levelled c) s (s.levelEnd c) fun t =>
      t.gst c = 1 ∧ t.b (mpgP c) R.Mpg.STAT_LEVELLED = true ∧ t.g (mpgP c) R.Mpg.RESULT_CODE = 0 ∧
      t.g (mpgP c) R.Mpg.RESULT_TAG = (s.gen c).tag % 2 ^ R.Mpg.RESULT_TAG.w ∧ (t.gen c).kept = (s.gen c).dest ∧
      raised t (mpgP c) 0 = true) ∧
  (s.domOn 6 = true → s.gst c = 4 → s.willLevel c = true → s.hoist.lost = [] →
    (s.xst c ≠ 2 ∨ (s.exe c).cancel = true ∨ s.entF c 4 2 ≠ 0) → (c = 0 ∨ s.lh6161 = false) →
    Does (.levelled c) s fun t =>
      t.gst c = 1 ∧ t.b (mpgP c) R.Mpg.STAT_LEVELLED = true ∧ t.g (mpgP c) R.Mpg.RESULT_CODE = 0 ∧
      t.g (mpgP c) R.Mpg.RESULT_TAG = (s.gen c).tag % 2 ^ R.Mpg.RESULT_TAG.w ∧ (t.gen c).kept = (s.gen c).dest ∧
      raised t (mpgP c) 0 = true ∧
      (s.xst c = 2 → (s.exe c).cancel = false → t.xst c = 5) ∧
      (s.xst c = 2 → (s.exe c).cancel = true →
        t.xst c = 0 ∧ t.g (mpgP c) R.Mpg.EXE_ENTRY_RESULT_CODE = 0x16))

/-- R156: `LVL_TMO` passes without levelling: `LEVEL_MISS` is set, the generator is READY and keeps no landing; an executor's
entry holds with its code, or its cancel is too late (R205, R207). -/
@[reducible] def levelMiss (c : Fin 2) (s : State) : Prop :=
  ((s.domOn 6 = false ∨ s.gst c ≠ 4 ∨ s.willLevel c = true) → exec (.levelMiss c) s = .next s) ∧
  (s.domOn 6 = true → s.gst c = 4 → s.willLevel c = false →
    Settles (.levelMiss c) s (s.missEnd c) fun t =>
      t.gst c = 1 ∧ t.b (mpgP c) R.Mpg.STAT_LEVEL_MISS = true ∧ (t.gen c).kept = none ∧
      raised t (mpgP c) 0 = true ∧ raised t (mpgP c) 1 = true ∧
      (s.gen c).settleAt + s.g (mpgP c) R.Mpg.LVL_TMO * 1000000 ≤ t.tbs.el) ∧
  (s.domOn 6 = true → s.gst c = 4 → s.willLevel c = false → s.hoist.lost = [] → (c = 0 ∨ s.lh6161 = false) →
    Does (.levelMiss c) s fun t =>
      t.gst c = 1 ∧ t.b (mpgP c) R.Mpg.STAT_LEVEL_MISS = true ∧ (t.gen c).kept = none ∧
      raised t (mpgP c) 0 = true ∧ raised t (mpgP c) 1 = true ∧
      (s.gen c).settleAt + s.g (mpgP c) R.Mpg.LVL_TMO * 1000000 ≤ t.tbs.el ∧
      (s.xst c = 2 → t.g (mpgP c) R.Mpg.EXE_ENTRY_RESULT_CODE = (if (s.exe c).cancel then 0x16 else 0x1A) ∧
        t.xst c = if (s.exe c).cancel then 0 else 7))

/-- What a stop command leaves (R158, R162): refused in OFF; answered `NO_MOTION` at rest; in motion it waits for the
boundary and its cause is seen. -/
@[reducible] def stopTaken (c : Fin 2) (r : StopReq) (u t : State) : Prop :=
  (u.gst c = 0 → t.g (mpgP c) R.Mpg.RESULT_CODE = 2 ∧ t.g (mpgP c) R.Mpg.RESULT_TAG = r.tag % 2 ^ R.Mpg.RESULT_TAG.w ∧
    raised t (mpgP c) 8 = true) ∧
  ((u.gst c = 1 ∨ u.gst c = 4 ∨ u.gst c = 6) → t.g (mpgP c) R.Mpg.RESULT_CODE = 8 ∧
    t.g (mpgP c) R.Mpg.RESULT_TAG = r.tag % 2 ^ R.Mpg.RESULT_TAG.w ∧ t.gst c = u.gst c) ∧
  ((u.gst c = 2 ∨ u.gst c = 3 ∨ u.gst c = 5) → (t.gen c).reqs = (u.gen c).reqs ++ [{ r with at_ := u.tbs.el }] ∧ t.gst c = u.gst c ∧
    bitOf (t.g (mpgP c) R.Mpg.MPG_CAUSE_SEEN) 0 = true ∧ t.rd (mpgP c + R.Mpg.RESULT_CODE.off) = u.rd (mpgP c + R.Mpg.RESULT_CODE.off))

/-- R158, R162: `STOP` with the ramp in force. -/
@[reducible] def mpgStop (c : Fin 2) (tag : BitVec 16) (s : State) : Prop :=
  let a := mpgP c + 0x108
  let u := (s.granted a).mpgWords c 0 0 (mpgWord tag 1)
  let r : StopReq := { cause := 1, tag := tag.toNat }
  s.verdictW .nib a = .ok → Settles (.mpgStop c tag) s (u.genStop c r) (stopTaken c r (s.granted a))

/-- R161: `STOP` with a ramp of its own. -/
@[reducible] def mpgStopRamp (c : Fin 2) (d j : Word) (tag : BitVec 16) (s : State) : Prop :=
  let a := mpgP c + 0x108
  let u := (s.granted a).mpgWords c d j (mpgWord tag 2)
  let r : StopReq := { cause := 1, vals := some (d.toNat, j.toNat), tag := tag.toNat }
  s.verdictW .nib a = .ok → Settles (.mpgStopRamp c d j tag) s (u.genStop c r) (stopTaken c r (s.granted a))

/-- R157, R173: `RELEVEL` is kept for the boundary in READY with a kept landing; otherwise its result says why not. -/
@[reducible] def mpgRelevel (c : Fin 2) (tag : BitVec 16) (s : State) : Prop :=
  let a := mpgP c + 0x108
  let u := s.granted a
  s.verdictW .nib a = .ok →
  Does (.mpgRelevel c tag) s fun t =>
    t.gst c = u.gst c ∧
    (u.gst c = 1 → (u.gen c).kept.isSome = true → (t.gen c).relevel = (u.gen c).relevel ++ [tag.toNat]) ∧
    (u.gst c = 1 → (u.gen c).kept = none → t.g (mpgP c) R.Mpg.RESULT_CODE = 0x0A ∧ t.g (mpgP c) R.Mpg.RESULT_TAG = tag.toNat) ∧
    ((u.gst c = 0 ∨ u.gst c = 6) → t.g (mpgP c) R.Mpg.RESULT_CODE = 2 ∧ t.g (mpgP c) R.Mpg.RESULT_TAG = tag.toNat) ∧
    (2 ≤ u.gst c → u.gst c ≤ 5 → t.g (mpgP c) R.Mpg.RESULT_CODE = 1 ∧ t.g (mpgP c) R.Mpg.RESULT_TAG = tag.toNat)

/-- R168, R169: `HALT_CLR` in HALTED with the main group closed, no lasting source difference and a source at rest returns to
READY, the reference at the source in use; otherwise it is discarded and counted. A write that also clears `EN` leaves OFF,
or is discarded in motion. -/
@[reducible] def haltClr (ini : Ini) (c : Fin 2) (v : Word) (s : State) : Prop :=
  let a := mpgP c + 0x008
  let u := s.granted a
  let still (n : Nat) : Bool := u.chValid n && decide (u.gs (fbP n) R.Fb.PFI_SPD = 0)
  let ok := u.gst c = 6 ∧ u.mainOpen c = false ∧ u.fwLasting (0xF4 + c) = false ∧
    (still (u.srcPri c) = true ∨ still (u.srcSec c) = true)
  let bars := bitOf v.toNat 0 = false ∧ 2 ≤ u.gst c ∧ u.gst c ≤ 5
  s.verdictW ini a = .ok →
  (bars → Does (.haltClr ini c v) s fun t => t = u.flt (mpgP c)) ∧
  (¬bars → Settles (.haltClr ini c v) s (u.mpgCtrlAct c (v ||| 2#32)) fun t =>
    t.b (mpgP c) R.Hdr.CTRL_EN = bitOf v.toNat 0 ∧
    (bitOf v.toNat 0 = true → ok → t.gst c = 1 ∧ t.b (mpgP c) R.Mpg.STAT_LEVELLED = false ∧ (t.gen c).kept = none ∧
      (t.gen c).halt = false ∧ (t.gen c).pos = u.carPos c * 2 ^ 24 ∧ (t.gen c).v = 0) ∧
    (¬ok → t.g (mpgP c) R.Hdr.FAULT_CNT = bump u (mpgP c) R.Hdr.FAULT_CNT) ∧
    (bitOf v.toNat 0 = true → ¬ok → t.gst c = u.gst c ∧ t.gen c = u.gen c) ∧
    (bitOf v.toNat 0 = false → t.gst c = 0))

/-- R169: a write of `CTRL`: `EN` cleared in motion is discarded and counted; cleared at rest it leaves the generator OFF; set it
changes nothing else. With `HALT_CLR` in it the write acts as `Rule.haltClr` says. -/
@[reducible] def mpgEnable (ini : Ini) (c : Fin 2) (v : Word) (s : State) : Prop :=
  let a := mpgP c + 0x008
  let u := s.granted a
  (bitOf v.toNat 1 = true → exec (.mpgEnable ini c v) s = exec (.haltClr ini c v) s) ∧
  (s.verdictW ini a = .ok → bitOf v.toNat 1 = false →
    (bitOf v.toNat 0 = false → 2 ≤ u.gst c → u.gst c ≤ 5 → Does (.mpgEnable ini c v) s fun t => t = u.flt (mpgP c)) ∧
    ((bitOf v.toNat 0 = true ∨ u.gst c ≤ 1 ∨ u.gst c = 6) →
      Settles (.mpgEnable ini c v) s (u.mpgCtrlAct c v) fun t =>
        t.b (mpgP c) R.Hdr.CTRL_EN = bitOf v.toNat 0 ∧ t.gst c = (if bitOf v.toNat 0 then u.gst c else 0)))

/-- R197: `DISAGREE` written 1 clears unless the filter is still lasting: then the write is discarded and counted. -/
@[reducible] def sepDisagreeClear (ini : Ini) (v : Word) (s : State) : Prop :=
  let a := sepC + 0x00C
  let u := s.granted a
  s.verdictW ini a = .ok →
  Does (.sepDisagreeClear ini v) s fun t =>
    (bitOf v.toNat 2 = true → u.fwLasting 0xF6 = false → t.b sepC R.SepC.STAT_DISAGREE = false ∧
      t.g sepC R.Hdr.FAULT_CNT = u.g sepC R.Hdr.FAULT_CNT) ∧
    (bitOf v.toNat 2 = true → u.fwLasting 0xF6 = true → t.rd (sepC + 0x00C) = u.rd (sepC + 0x00C) ∧
      t.g sepC R.Hdr.FAULT_CNT = bump u sepC R.Hdr.FAULT_CNT) ∧
    (bitOf v.toNat 2 = false → t = u)

/-- The executor's port holds the words of a command (R214). -/
@[reducible] def xWords (u : State) (c : Nat) (w0 w1 w2 w3 op : Word) : State :=
  ((((u.wr (mpgP c + 0x200) w0).wr (mpgP c + 0x204) w1).wr (mpgP c + 0x208) w2).wr (mpgP c + 0x20C) w3).wr (mpgP c + 0x210) op

/-- `EXE_CMD_RESULT` shows a code and the command's tag (R204, R216). -/
@[reducible] def xCode (t : State) (c : Nat) (tag : BitVec 16) (code : Nat) : Prop :=
  t.rd (mpgP c + R.Mpg.EXE_CMD_RESULT_CODE.off) = wd (tag.toNat * 0x100 + code)

/-- R203, R204: `LOAD` stores a valid entry that the executor is not running; `BAD_ENTRY` and `BUSY` store nothing. -/
@[reducible] def exeLoad (c : Fin 2) (idx : Fin 64) (w0 w1 w2 w3 : Word) (tag : BitVec 16) (s : State) : Prop :=
  let a := mpgP c + 0x210
  let u := xWords (s.granted a) c w0 w1 w2 w3 (exeWord tag idx 1)
  s.verdictW .nib a = .ok →
  Settles (.exeLoad c idx w0 w1 w2 w3 tag) s (u.xLoad c idx w0 w1 w2 w3 tag.toNat) fun t =>
    ((idx.val = s.xcur c ∧ s.xst c ≠ 0 ∧ s.xst c ≠ 7) → xCode t c tag 0x13 ∧ ∀ k < 4, t.entW c idx k = s.entW c idx k) ∧
    (¬(idx.val = s.xcur c ∧ s.xst c ≠ 0 ∧ s.xst c ≠ 7) → u.badEntry c w0 w1 = true →
      xCode t c tag 0x12 ∧ ∀ k < 4, t.entW c idx k = s.entW c idx k) ∧
    (¬(idx.val = s.xcur c ∧ s.xst c ≠ 0 ∧ s.xst c ≠ 7) → u.badEntry c w0 w1 = false →
      xCode t c tag 0 ∧ t.entW c idx 0 = w0 &&& 0xFFFF7FFF#32 ∧ t.entW c idx 1 = w1 ∧ t.entW c idx 2 = w2 ∧ t.entW c idx 3 = w3)

/-- R204, R205: `GO` on an armed car with its executor IDLE starts the entry; a wait or a dwell waits, an end leaves IDLE, a
move with a door open holds; otherwise the code says why not. -/
@[reducible] def exeGo (c : Fin 2) (idx : Fin 64) (tag : BitVec 16) (s : State) : Prop :=
  let a := mpgP c + 0x210
  let u := xWords (s.granted a) c 0 0 0 0 (exeWord tag idx 2)
  let op := (s.entW c idx 0).toNat % 16
  s.verdictW .nib a = .ok →
  Settles (.exeGo c idx tag) s (u.xGo c idx tag.toNat) fun t =>
    (s.armed c = false → xCode t c tag 0x10 ∧ t.xst c = s.xst c) ∧
    (s.armed c = true → s.xst c ≠ 0 → xCode t c tag 0x14 ∧ t.xst c = s.xst c) ∧
    (s.armed c = true → s.xst c = 0 →
      xCode t c tag 0 ∧ t.xcur c = idx.val ∧ (op = 3 → t.xst c = 3) ∧ (op = 4 → t.xst c = 4) ∧
      (op = 0 → t.xst c = 0 ∧ raised t mpgC (3 + 16 * c) = true) ∧
      ((op = 1 ∨ op = 2) → s.locked c = false → t.xst c = 7 ∧ t.g (mpgP c) R.Mpg.EXE_ENTRY_RESULT_CODE = 0x11))

/-- R204: `HOLD` marks a hold for the end of the entry, unless the executor is IDLE or HELD. -/
@[reducible] def exeHold (c : Fin 2) (tag : BitVec 16) (s : State) : Prop :=
  let a := mpgP c + 0x210
  let u := xWords (s.granted a) c 0 0 0 0 (exeWord tag 0 3)
  s.verdictW .nib a = .ok →
  Settles (.exeHold c tag) s (u.xHold c tag.toNat) fun t =>
    xCode t c tag 0 ∧ t.xst c = s.xst c ∧
    t.b (mpgP c) R.Mpg.EXE_STAT_HOLD_PEND = (if s.xst c = 0 ∨ s.xst c = 7 then s.b (mpgP c) R.Mpg.EXE_STAT_HOLD_PEND else true)

/-- R204: `RESUME` in HELD starts the current entry; otherwise the code says why not. -/
@[reducible] def exeResume (c : Fin 2) (tag : BitVec 16) (s : State) : Prop :=
  let a := mpgP c + 0x210
  let u := xWords (s.granted a) c 0 0 0 0 (exeWord tag 0 4)
  let op := (s.entW c (s.xcur c) 0).toNat % 16
  s.verdictW .nib a = .ok →
  Settles (.exeResume c tag) s (u.xResume c tag.toNat) fun t =>
    (s.armed c = false → xCode t c tag 0x10 ∧ t.xst c = s.xst c) ∧
    (s.armed c = true → s.xst c ≠ 7 → xCode t c tag 0x14 ∧ t.xst c = s.xst c) ∧
    (s.armed c = true → s.xst c = 7 → xCode t c tag 0 ∧ (op = 3 → t.xst c = 3) ∧ (op = 4 → t.xst c = 4) ∧
      (op = 0 → t.xst c = 0 ∧ raised t mpgC (3 + 16 * c) = true))

/-- R207: `CANCEL`: IDLE answers `OK`; a waiting entry ends at once in IDLE; a running move is stopped, one that settles is
too late; with the doors open the car closes first. -/
@[reducible] def exeCancel (c : Fin 2) (w0 w1 : Word) (tag : BitVec 16) (s : State) : Prop :=
  let a := mpgP c + 0x210
  let u := xWords (s.granted a) c w0 w1 0 0 (exeWord tag 0 5)
  s.verdictW .nib a = .ok →
  Settles (.exeCancel c w0 w1 tag) s (u.xCancel c w0 w1 tag.toNat) fun t =>
    (s.xst c = 0 → xCode t c tag 0 ∧ t.xst c = 0) ∧
    ((s.xst c = 1 ∨ s.xst c = 3 ∨ s.xst c = 4 ∨ s.xst c = 7) →
      xCode t c tag 0 ∧ t.xst c = 0 ∧ t.g (mpgP c) R.Mpg.EXE_ENTRY_RESULT_CODE = 0x15 ∧ raised t mpgC (5 + 16 * c) = true) ∧
    (s.xst c = 2 → s.gst c = 4 → xCode t c tag 0x16 ∧ (t.exe c).cancel = true ∧ (t.exe c).late = true ∧ t.xst c = 2) ∧
    (s.xst c = 2 → s.gst c = 2 → xCode t c tag 0 ∧ (t.exe c).cancel = true ∧ t.xst c = 2 ∧
      (t.gen c).reqs = (s.gen c).reqs ++ [⟨2, if w0 ≠ 0 ∧ w1 ≠ 0 then some (w0.toNat, w1.toNat) else s.stopVals c,
        (s.entW c (s.xcur c) 0).toNat / 2 ^ 16, s.tbs.el⟩]) ∧
    ((s.xst c = 5 ∨ s.xst c = 6) → xCode t c tag 0 ∧ t.xst c = 6 ∧ (t.exe c).cancel = true)

/-- R204: `RELEASE` in DOORS begins CLOSING; elsewhere it is refused. -/
@[reducible] def exeRelease (c : Fin 2) (tag : BitVec 16) (s : State) : Prop :=
  let a := mpgP c + 0x210
  let u := xWords (s.granted a) c 0 0 0 0 (exeWord tag 0 6)
  s.verdictW .nib a = .ok →
  Settles (.exeRelease c tag) s (u.xRelease c tag.toNat) fun t =>
    (s.xst c = 5 → xCode t c tag 0 ∧ t.xst c = 6) ∧
    (s.xst c ≠ 5 → xCode t c tag 0x14 ∧ t.xst c = s.xst c ∧ raised t mpgC (4 + 16 * c) = true)

/-- R205: a dwell ends once its milliseconds have passed: the entry is done, its operation cleared, and with a hold marked
the executor is HELD at the next entry, which else starts. An executor that does not dwell has none to end. -/
@[reducible] def dwellDone (c : Fin 2) (s : State) : Prop :=
  (s.xst c ≠ 4 ∨ s.domOn 6 = false → exec (.dwellDone c) s = .next s) ∧
  (s.xst c = 4 → s.domOn 6 = true →
    Settles (.dwellDone c) s ((s.advanceTo (s.xDue c)).xComplete c) fun t =>
      t.xcur c = (s.xcur c + 1) % 64 ∧ (t.entW c (s.xcur c) 0).toNat % 16 = 0 ∧
      t.g (mpgP c) R.Mpg.EXE_DONE_CNT = bump s (mpgP c) R.Mpg.EXE_DONE_CNT ∧ s.xDue c ≤ t.tbs.el ∧
      raised t mpgC (1 + 16 * c) = true ∧
      (s.b (mpgP c) R.Mpg.EXE_STAT_HOLD_PEND = true → t.xst c = 7 ∧ t.b (mpgP c) R.Mpg.EXE_STAT_HOLD_PEND = false ∧
        t.g (mpgP c) R.Mpg.EXE_ENTRY_RESULT_CODE = 0 ∧ raised t mpgC (2 + 16 * c) = true) ∧
      (s.b (mpgP c) R.Mpg.EXE_STAT_HOLD_PEND = false →
        let op := (s.entW c ((s.xcur c + 1) % 64) 0).toNat % 16
        (op = 0 → t.xst c = 0 ∧ raised t mpgC (3 + 16 * c) = true) ∧ (op = 3 → t.xst c = 3) ∧ (op = 4 → t.xst c = 4)))

/-- R205: the timeout of a wait holds the executor with `EVT_TMO`; a wait without one, and an executor that does not wait, has
none. -/
@[reducible] def evtTimeout (c : Fin 2) (s : State) : Prop :=
  (s.xst c ≠ 3 ∨ s.entW c (s.xcur c) 1 = 0#32 ∨ s.domOn 6 = false → exec (.evtTimeout c) s = .next s) ∧
  (s.xst c = 3 → s.entW c (s.xcur c) 1 ≠ 0#32 → s.domOn 6 = true →
    Settles (.evtTimeout c) s ((s.advanceTo (s.xDue c)).xFail c 0x19) fun t =>
      t.xst c = 7 ∧ t.xcur c = s.xcur c ∧ t.g (mpgP c) R.Mpg.EXE_ENTRY_RESULT_CODE = 0x19 ∧ s.xDue c ≤ t.tbs.el ∧
      raised t mpgC (2 + 16 * c) = true)

/-! ### DLK -/

/-- R177: a link in HELLO, TRIAL, RUN or LOST sends the down frame of the period: the next sequence number, 32 bytes of which
the last four are the CRC-32C of the others, the period undecided. A period still undecided is missed first (R181). A link
in OFF or SYNC sends none. -/
@[reducible] def downFrame (n : Fin 2) (s : State) : Prop :=
  let u := s.dlkExpire n
  (s.domOn 6 = false ∨ s.lst n < 2 → exec (.downFrame n) s = .next s) ∧
  (s.domOn 6 = true → 2 ≤ s.lst n →
    Does (.downFrame n) s fun t =>
      t.g (dlkP n) R.Dlk.TX_SEQ = (s.g (dlkP n) R.Dlk.TX_SEQ + 1) % 65536 ∧
      (t.dlk n).sent = true ∧ (t.dlk n).decided = false ∧ (t.dlk n).got = false ∧
      (t.dlk n).txAt = t.tbs.el ∧ (t.dlk n).txStamp = t.stamp ∧ u.dlkDue n ≤ t.tbs.el ∧
      (t.dlk n).frame.length = 32 ∧ (t.dlk n).frame.drop 28 = bytesLE 4 (crc32c ((t.dlk n).frame.take 28)).toNat ∧
      t.gTs (dlkP n) R.Dlk.DLK_TX_TS_LO R.Dlk.DLK_TX_TS_HI = t.stamp ∧
      ((s.dlk n).decided = true ∨ s.lst n ≠ 4 → t.lst n = s.lst n) ∧
      t.g (dlkP n) R.Dlk.MISS_CNT = (if (s.dlk n).decided then s.g (dlkP n) R.Dlk.MISS_CNT else bump s (dlkP n) R.Dlk.MISS_CNT))

/-- R180 to R183: the reply of a period, in HELLO, TRIAL, RUN or LOST: a second reply counts in `EXTRA_CNT`; a bad CRC, a wrong
echo and lateness each in their counter, and none of these decides the period; a good frame in time shows the drive's
values and decides it. In HELLO version 1 leads to TRIAL and another version fails the handshake; in TRIAL `RUN_N` good
periods lead to RUN; in RUN a drive that reports a fault drops the link. With no frame sent a reply is no reply. -/
@[reducible] def upFrame (n : Fin 2) (bytes : List Byte) (dt : Nat) (s : State) : Prop :=
  let pg := dlkP n
  let x := s.dlk n
  let u := s.advanceTo (x.txAt + dt)
  let inTime := decide (x.txAt + dt ≤ s.dlkDeadline n)
  let crc := crc32c ((bytes.take 28).map BitVec.toNat) ≠ wd (frameN bytes 28 4) ∨ bytes.length ≠ 32
  let echo := frameN bytes 4 2 ≠ s.g pg R.Dlk.TX_SEQ
  let late := x.txStamp + s.g pg R.Dlk.RESP_MAX * 1000 < u.stamp ∨ x.decided = true
  let kind := frameN bytes 0 1 = (if s.lst n = 2 then 0x82 else 0x81)
  let bad := bitOf (frameN bytes 1 1) 2
  (s.domOn 6 = false ∨ s.lst n = 0 ∨ x.sent = false → exec (.upFrame n bytes dt) s = .next s) ∧
  (s.domOn 6 = true → s.lst n ≠ 0 → x.sent = true →
    Does (.upFrame n bytes dt) s fun t =>
      (x.got = true → t.g pg R.Dlk.EXTRA_CNT = bump s pg R.Dlk.EXTRA_CNT ∧ (inTime = true → t.dlk n = x)) ∧
      (x.got = false → (t.dlk n).got = true ∧
        t.g pg R.Dlk.CRC_CNT = (if crc then bump s pg R.Dlk.CRC_CNT else s.g pg R.Dlk.CRC_CNT) ∧
        t.g pg R.Dlk.ECHO_CNT = (if echo then bump s pg R.Dlk.ECHO_CNT else s.g pg R.Dlk.ECHO_CNT)) ∧
      (inTime = false → x.decided = false → t.g pg R.Dlk.MISS_CNT = bump s pg R.Dlk.MISS_CNT ∧ (t.dlk n).decided = true) ∧
      (inTime = false → x.got = false → t.g pg R.Dlk.LATE_CNT = bump s pg R.Dlk.LATE_CNT) ∧
      (inTime = true → x.got = false →
        t.g pg R.Dlk.LATE_CNT = (if late then bump s pg R.Dlk.LATE_CNT else s.g pg R.Dlk.LATE_CNT)) ∧
      (inTime = true → x.got = false → (crc ∨ echo ∨ late ∨ ¬kind) → (t.dlk n).decided = x.decided ∧ t.lst n = s.lst n) ∧
      (inTime = true → x.got = false → ¬(crc ∨ echo ∨ late) → kind →
        (t.dlk n).decided = true ∧ (t.dlk n).misses = 0 ∧ t.g pg R.Dlk.RX_ECHO = frameN bytes 4 2 ∧
        t.g pg R.Dlk.VDC = frameN bytes 16 2 ∧ t.g pg R.Dlk.TEMP = frameN bytes 18 1 ∧
        t.g pg R.Dlk.DLK_FB_AUX0 = frameN bytes 22 4 ∧ t.g pg R.Dlk.DLK_FB_AUX1 = frameN bytes 26 2 ∧
        t.g pg R.Dlk.DLK_DRV_CODE = frameN bytes 6 2 ∧
        t.b pg R.Dlk.STAT_DRV_READY = bitOf (frameN bytes 1 1) 0 ∧ t.b pg R.Dlk.STAT_DRV_ENERGISED = bitOf (frameN bytes 1 1) 1 ∧
        t.b pg R.Dlk.STAT_DRV_FAULT = bad ∧ raised t pg 4 = true ∧ (bad = true → raised t pg 3 = true) ∧
        (s.lst n ≠ 2 → (t.dlk n).goods = x.goods + 1 ∧ t.g pg R.Dlk.DLK_FB_VEL = frameN bytes 8 4 ∧
          t.g pg R.Dlk.DLK_FB_TORQUE = frameN bytes 12 4) ∧
        (s.lst n = 2 → t.g pg R.Dlk.DLK_FB_VEL = s.g pg R.Dlk.DLK_FB_VEL ∧
          (frameN bytes 8 1 = 1 → t.lst n = 3 ∧ (t.dlk n).goods = 0 ∧ t.g pg R.Dlk.DLK_DRV_ID = frameN bytes 12 4) ∧
          (frameN bytes 8 1 ≠ 1 → t.lst n = 1 ∧ t.g pg R.Dlk.HS_FAIL_CNT = bump s pg R.Dlk.HS_FAIL_CNT ∧
            raised t pg 5 = true)) ∧
        (s.lst n = 3 → t.lst n = (if s.g pg R.Dlk.RUN_N ≤ x.goods + 1 then 4 else 3)) ∧
        (s.lst n = 4 → t.lst n = (if bad then 5 else 4) ∧ (bad = true → t.g pg R.Dlk.STAT_LOSS_REASON = 4))))

/-- R181, R183, R82: the deadline of an undecided period passes: the period is missed, counted, and its event raised while the
counter is not at its end. In RUN `LOSS_N` misses in a row drop the link with reason 1, and so does the lasting filter with
reason 2. A decided period is not missed. -/
@[reducible] def periodMiss (n : Fin 2) (s : State) : Prop :=
  let m := (s.dlk n).misses + 1
  (s.domOn 6 = false ∨ (s.dlk n).decided = true → exec (.periodMiss n) s = .next s) ∧
  (s.domOn 6 = true → (s.dlk n).decided = false →
    Does (.periodMiss n) s fun t =>
      (t.dlk n).decided = true ∧ (t.dlk n).misses = m ∧ (t.dlk n).goods = 0 ∧
      t.g (dlkP n) R.Dlk.MISS_CNT = bump s (dlkP n) R.Dlk.MISS_CNT ∧ s.dlkDeadline n ≤ t.tbs.el ∧
      (s.g (dlkP n) R.Dlk.MISS_CNT ≠ 2 ^ R.Dlk.MISS_CNT.w - 1 → raised t (dlkP n) 2 = true) ∧
      (s.lst n ≠ 4 → t.lst n = s.lst n) ∧
      (s.lst n = 4 → s.g (dlkP n) R.Dlk.LOSS_N ≤ m → t.lst n = 5 ∧ t.g (dlkP n) R.Dlk.STAT_LOSS_REASON = 1) ∧
      (s.lst n = 4 → m < s.g (dlkP n) R.Dlk.LOSS_N → s.fwLasting (0xDC + n) = false → t.fwLasting (0xDC + n) = true →
        t.lst n = 5 ∧ t.g (dlkP n) R.Dlk.STAT_LOSS_REASON = 2) ∧
      (s.lst n = 4 → m < s.g (dlkP n) R.Dlk.LOSS_N → s.fwLasting (0xDC + n) = t.fwLasting (0xDC + n) → t.lst n = 4))

/-- R183: symbol lock: from SYNC to HELLO; elsewhere only `LOCK` is set; a link that is OFF takes no notice. -/
@[reducible] def symbolLock (n : Fin 2) (s : State) : Prop :=
  (s.domOn 6 = false ∨ s.lst n = 0 → exec (.symbolLock n) s = .next s) ∧
  (s.domOn 6 = true → s.lst n ≠ 0 →
    Does (.symbolLock n) s fun t =>
      t.b (dlkP n) R.Dlk.STAT_LOCK = true ∧ t.lst n = (if s.lst n = 1 then 2 else s.lst n) ∧
      (s.lst n = 1 → (t.dlk n).helloAt = s.tbs.el) ∧ t.tbs = s.tbs)

/-- R183: the loss of symbol lock: from RUN to LOST with reason 3; elsewhere only `LOCK` clears; a link that is OFF takes no
notice. -/
@[reducible] def symbolLockLoss (n : Fin 2) (s : State) : Prop :=
  (s.domOn 6 = false ∨ s.lst n = 0 → exec (.symbolLockLoss n) s = .next s) ∧
  (s.domOn 6 = true → s.lst n ≠ 0 →
    (s.lst n ≠ 4 → Does (.symbolLockLoss n) s fun t => t.b (dlkP n) R.Dlk.STAT_LOCK = false ∧ t.lst n = s.lst n) ∧
    (s.lst n = 4 → Settles (.symbolLockLoss n) s ((s.ps (dlkP n) R.Dlk.STAT_LOCK 0).dlkDrop n 3) fun t =>
      t.b (dlkP n) R.Dlk.STAT_LOCK = false ∧ t.lst n = 5 ∧ t.g (dlkP n) R.Dlk.STAT_LOSS_REASON = 3 ∧
      raised t (dlkP n) 1 = true))

/-- R183: `HELLO_TMO` passes in HELLO: the handshake fails and the link seeks symbol lock again; in another state no such timer
runs. -/
@[reducible] def helloTimeout (n : Fin 2) (s : State) : Prop :=
  (s.domOn 6 = false ∨ s.lst n ≠ 2 → exec (.helloTimeout n) s = .next s) ∧
  (s.domOn 6 = true → s.lst n = 2 →
    Does (.helloTimeout n) s fun t =>
      t.lst n = 1 ∧ t.g (dlkP n) R.Dlk.HS_FAIL_CNT = bump s (dlkP n) R.Dlk.HS_FAIL_CNT ∧ raised t (dlkP n) 5 = true ∧
      (s.dlk n).helloAt + s.g (dlkP n) R.Dlk.DLK_HELLO_HELLO_TMO * 1000000 ≤ t.tbs.el)

/-- R184, R185: `LOSS_CLR`: with `EN` kept, from LOST to SYNC when the car is not in motion and the filter is not lasting, else
it is discarded and counted; a write that clears `EN` of an enabled link in motion is discarded as a whole, and one that
clears it at rest turns the link OFF. -/
@[reducible] def lossClr (ini : Ini) (n : Fin 2) (v : Word) (s : State) : Prop :=
  let a := dlkP n + 0x008
  let u := s.granted a
  let ok := u.lst n = 5 ∧ (u.gst n = 0 ∨ u.gst n = 1 ∨ u.gst n = 6) ∧ u.fwLasting (0xDC + n) = false
  let bars := bitOf v.toNat 0 = false ∧ u.b (dlkP n) R.Hdr.CTRL_EN = true ∧ 2 ≤ u.gst n ∧ u.gst n ≤ 5
  s.verdictW ini a = .ok →
  Does (.lossClr ini n v) s fun t =>
    (bars → t = u.flt (dlkP n)) ∧
    (¬bars → t.b (dlkP n) R.Hdr.CTRL_EN = bitOf v.toNat 0) ∧
    (¬bars → bitOf v.toNat 0 = false → t.lst n = 0 ∧ t.b (dlkP n) R.Dlk.STAT_ENABLE = false ∧ (t.dlk n).sent = false) ∧
    (bitOf v.toNat 0 = true → ok → t.lst n = 1 ∧ (t.dlk n).misses = 0) ∧
    (¬bars → ¬ok → t.g (dlkP n) R.Hdr.FAULT_CNT = bump u (dlkP n) R.Hdr.FAULT_CNT) ∧
    (bitOf v.toNat 0 = true → ¬ok → u.lst n ≠ 0 → t.lst n = u.lst n ∧ t.dlk n = u.dlk n)

/-- R183, R185: a write of `CTRL`: `EN` set starts a link that is OFF; cleared with the car not in motion, or already clear
(R574), it turns the link OFF; cleared in motion the write is discarded and counted. With `LOSS_CLR` in it the write acts as
`Rule.lossClr` says. -/
@[reducible] def dlkEnable (ini : Ini) (n : Fin 2) (v : Word) (s : State) : Prop :=
  let a := dlkP n + 0x008
  let u := s.granted a
  (bitOf v.toNat 2 = true → exec (.dlkEnable ini n v) s = exec (.lossClr ini n v) s) ∧
  (s.verdictW ini a = .ok → bitOf v.toNat 2 = false →
  Does (.dlkEnable ini n v) s fun t =>
    (bitOf v.toNat 0 = true → t.b (dlkP n) R.Hdr.CTRL_EN = true ∧
      t.b (dlkP n) R.Dlk.CTRL_ENABLE_REQ = bitOf v.toNat 1 ∧ t.lst n = (if u.lst n = 0 then 1 else u.lst n)) ∧
    (bitOf v.toNat 0 = false → (u.gst n ≤ 1 ∨ 6 ≤ u.gst n ∨ u.b (dlkP n) R.Hdr.CTRL_EN = false) →
      t.b (dlkP n) R.Hdr.CTRL_EN = false ∧ t.lst n = 0 ∧
      t.b (dlkP n) R.Dlk.STAT_ENABLE = false ∧ t.b (dlkP n) R.Dlk.STAT_LOCK = false ∧ (t.dlk n).sent = false) ∧
    (bitOf v.toNat 0 = false → u.b (dlkP n) R.Hdr.CTRL_EN = true → 2 ≤ u.gst n → u.gst n ≤ 5 →
      t.b (dlkP n) R.Hdr.CTRL_EN = u.b (dlkP n) R.Hdr.CTRL_EN ∧ t.lst n = u.lst n ∧
      t.g (dlkP n) R.Hdr.FAULT_CNT = bump u (dlkP n) R.Hdr.FAULT_CNT))

/-! ### CLG -/

/-- The state in which CLG takes a command that Nib brings: its words stand in the port (R224). -/
@[reducible] def clgIn (s : State) (c : ClgCmd) : State :=
  ([c.w0, c.w1, c.w2, c.w3, c.w4, c.w5, c.idx, c.tag * 0x10000 + c.op].zip [0, 1, 2, 3, 4, 5, 6, 7]).foldl
    (fun (m : State) (x, k) => m.wr (clgC + 0x100 + 4 * k) (wd x)) (s.granted (clgC + 0x11C))

/-- CLG takes the command `c` at once: no earlier one is held and the view buffer has room for it (R231). -/
@[reducible] def clgTakes (s : State) (c : ClgCmd) : Prop :=
  s.verdictW .nib (clgC + 0x11C) = .ok ∧ s.clg.held = [] ∧ (clgIn s c).clgRoom c = true

/-- R227, R231: a command that CLG cannot take at once, since an earlier one is held or the view buffer has no room for it, is
held behind the others: its write is not answered, and the ledger stays. -/
@[reducible] def clgHolds (i : Instr) (s : State) (c : ClgCmd) : Prop :=
  s.verdictW .nib (clgC + 0x11C) = .ok → (s.clg.held ≠ [] ∨ (clgIn s c).clgRoom c = false) →
  Does i s fun t =>
    t.clg.held = s.clg.held ++ [c] ∧ t.clg.led = s.clg.led ∧ t.bus = .held ∧
    t.g clgC R.ClgC.CLG_APPLIED = s.g clgC R.ClgC.CLG_APPLIED ∧
    t.g clgC R.ClgC.VIEW_STALL_CNT = (if s.clg.held.isEmpty then bump s clgC R.ClgC.VIEW_STALL_CNT
      else s.g clgC R.ClgC.VIEW_STALL_CNT)

/-- The answer of a command: its tag, code and entry, and the number of the last command applied (R226, R227). -/
@[reducible] def clgSays (t : State) (c : ClgCmd) (code idx : Nat) : Prop :=
  t.g clgC R.ClgC.CLG_CMD_RESULT_TAG = c.tag % 2 ^ 16 ∧ t.g clgC R.ClgC.CLG_CMD_RESULT_CODE = code ∧
  t.g clgC R.ClgC.CLG_CMD_RESULT_INDEX = idx % 2 ^ 14 ∧
  t.g clgC R.ClgC.CLG_APPLIED = c.seq % 2 ^ 16 ∧ t.b clgC R.ClgC.APPLIED_VALID = true

/-- What a refused command leaves (R226): the ledger as it was, the code of the first check it fails; with CLG disabled or
initialising, code 7; a command on an entry in a state that does not fit, code 5. -/
@[reducible] def clgRefused (u t : State) (c : ClgCmd) : Prop :=
  (u.clgCheck c ≠ 0 → t.clg.led = u.clg.led ∧ clgSays t c (u.clgCheck c) (if c.op = 1 then 0 else c.idx)) ∧
  ((u.b clgC R.Hdr.CTRL_EN = false ∨ u.b clgC R.ClgC.STAT_INIT = true) → u.clgCheck c = 7) ∧
  (u.b clgC R.Hdr.CTRL_EN = true → u.b clgC R.ClgC.STAT_INIT = false → c.op ≠ 1 → 12288 ≤ c.idx → u.clgCheck c = 6)

/-- R220, R225, R226: `INSERT`: a call that matches a waiting one merges into it; with no room for it the code is `FULL` and the
ledger stays; else it takes an entry, OPEN or, for a carried destination, CARRIED, and is counted. -/
@[reducible] def clgInsert (w0 w1 w2 w3 w4 w5 : Word) (tag seq : BitVec 16) (s : State) : Prop :=
  let c : ClgCmd := ⟨w0.toNat, w1.toNat, w2.toNat, w3.toNat, w4.toNat, w5.toNat, 0, 1, tag.toNat, seq.toNat⟩
  let u := clgIn s c
  let kind := bitsR w0.toNat 27 2
  let code := (u.clgPlan c).2.1
  let e := (u.clgPlan c).2.2
  clgHolds (.clgInsert w0 w1 w2 w3 w4 w5 tag seq) s c ∧
  (clgTakes s c →
  Does (.clgInsert w0 w1 w2 w3 w4 w5 tag seq) s fun t =>
    clgRefused u t c ∧
    (u.clgCheck c = 0 → code ≤ 2 ∧ clgSays t c code e) ∧
    (u.clgCheck c = 0 → code = 0 → eState t.clg.led e = (if kind = 2 then 3 else 1) ∧ eKind t.clg.led e = kind ∧
      ledR t.clg.led (e * 32 + 16) = w4.toNat ∧ ledR t.clg.led (e * 32 + 20) = w5.toNat ∧
      t.g clgC R.ClgC.INS_CNT = bump u clgC R.ClgC.INS_CNT) ∧
    (u.clgCheck c = 0 → code = 1 → eState t.clg.led e = eState u.clg.led e ∧
      entR t.clg.led e 2 28 4 = min 15 (entR u.clg.led e 2 28 4 + 1) ∧
      t.g clgC R.ClgC.MERGE_CNT = bump u clgC R.ClgC.MERGE_CNT) ∧
    (u.clgCheck c = 0 → code = 2 → t.clg.led = u.clg.led ∧ t.g clgC R.ClgC.FULL_CNT = bump u clgC R.ClgC.FULL_CNT ∧
      raised t clgC 1 = true))

/-- R224: `ASSIGN` gives a waiting entry to a car: ASSIGNED, in its place in the chain. -/
@[reducible] def clgAssign (idx : BitVec 14) (car : Fin 4) (tag seq : BitVec 16) (s : State) : Prop :=
  let c := clgCmd 2 idx.toNat car 0 0 tag.toNat seq.toNat
  let u := clgIn s c
  clgHolds (.clgAssign idx car tag seq) s c ∧
  (clgTakes s c →
  Does (.clgAssign idx car tag seq) s fun t =>
    clgRefused u t c ∧
    (u.clgCheck c = 0 → clgSays t c 0 idx.toNat ∧ eState t.clg.led idx.toNat = 2 ∧ eCar t.clg.led idx.toNat = car ∧
      eNext t.clg.led idx.toNat = eNext u.clg.led idx.toNat ∧ ePrev t.clg.led idx.toNat = ePrev u.clg.led idx.toNat))

/-- R224: `UNASSIGN` returns an assigned entry to OPEN. -/
@[reducible] def clgUnassign (idx : BitVec 14) (tag seq : BitVec 16) (s : State) : Prop :=
  let c := clgCmd 3 idx.toNat 0 0 0 tag.toNat seq.toNat
  let u := clgIn s c
  clgHolds (.clgUnassign idx tag seq) s c ∧
  (clgTakes s c →
  Does (.clgUnassign idx tag seq) s fun t =>
    clgRefused u t c ∧
    (u.clgCheck c = 0 → clgSays t c 0 idx.toNat ∧ eState t.clg.led idx.toNat = 1 ∧ eCar t.clg.led idx.toNat = 0 ∧
      eNext t.clg.led idx.toNat = eNext u.clg.led idx.toNat ∧ ePrev t.clg.led idx.toNat = ePrev u.clg.led idx.toNat))

/-- R224: `SERVE`: an assigned destination call boards and is CARRIED; any other served entry is FREE. -/
@[reducible] def clgServe (idx : BitVec 14) (tag seq : BitVec 16) (s : State) : Prop :=
  let c := clgCmd 4 idx.toNat 0 0 0 tag.toNat seq.toNat
  let u := clgIn s c
  let boards := eState u.clg.led idx.toNat = 2 ∧ eKind u.clg.led idx.toNat = 1
  clgHolds (.clgServe idx tag seq) s c ∧
  (clgTakes s c →
  Does (.clgServe idx tag seq) s fun t =>
    clgRefused u t c ∧
    (u.clgCheck c = 0 → clgSays t c 0 idx.toNat ∧ eState t.clg.led idx.toNat = (if boards then 3 else 0) ∧
      t.g clgC R.ClgC.SERVED_CNT = (if boards then u.g clgC R.ClgC.SERVED_CNT else bump u clgC R.ClgC.SERVED_CNT)))

/-- R224: `CANCEL` frees an entry and is counted. -/
@[reducible] def clgCancel (idx : BitVec 14) (tag seq : BitVec 16) (s : State) : Prop :=
  let c := clgCmd 5 idx.toNat 0 0 0 tag.toNat seq.toNat
  let u := clgIn s c
  clgHolds (.clgCancel idx tag seq) s c ∧
  (clgTakes s c →
  Does (.clgCancel idx tag seq) s fun t =>
    clgRefused u t c ∧
    (u.clgCheck c = 0 → clgSays t c 0 idx.toNat ∧ eState t.clg.led idx.toNat = 0 ∧
      t.g clgC R.ClgC.CANCEL_CNT = bump u clgC R.ClgC.CANCEL_CNT))

/-- R224: `SET_APP` writes the application's flags and word of an entry and nothing else of it but its stamp. -/
@[reducible] def clgSetApp (idx : BitVec 14) (flags : BitVec 6) (app : Word) (tag seq : BitVec 16) (s : State) : Prop :=
  let c := clgCmd 6 idx.toNat 0 flags.toNat app.toNat tag.toNat seq.toNat
  let u := clgIn s c
  clgHolds (.clgSetApp idx flags app tag seq) s c ∧
  (clgTakes s c →
  Does (.clgSetApp idx flags app tag seq) s fun t =>
    clgRefused u t c ∧
    (u.clgCheck c = 0 → clgSays t c 0 idx.toNat ∧ entR t.clg.led idx.toNat 2 22 6 = flags.toNat ∧
      ledR t.clg.led (idx.toNat * 32 + 12) = app.toNat ∧ eState t.clg.led idx.toNat = eState u.clg.led idx.toNat ∧
      eNext t.clg.led idx.toNat = eNext u.clg.led idx.toNat ∧ ePrev t.clg.led idx.toNat = ePrev u.clg.led idx.toNat))

/-- R231: once images have retired the oldest held command is applied if the buffer has room for it, else it stays held; with none
held only the images retire. -/
@[reducible] def viewStallApply (c : ClgCmd) (rest : List ClgCmd) (s : State) : Prop :=
  (s.clg.held = [] → Does .viewStallApply s fun t => t = s.clgRetire ∧ t.clg.led = s.clg.led ∧ t.clg.held = []) ∧
  (s.clg.held = c :: rest →
    Does .viewStallApply s fun t =>
      (s.clgRetire.clgRoom c = true → t.clg.held = rest ∧ t.g clgC R.ClgC.CLG_APPLIED = c.seq % 2 ^ 16 ∧
        t.b clgC R.ClgC.APPLIED_VALID = true) ∧
      (s.clgRetire.clgRoom c = false → t.clg.held = c :: rest ∧ t.clg.led = s.clg.led ∧
        t.g clgC R.ClgC.CLG_APPLIED = s.g clgC R.ClgC.CLG_APPLIED))

/-- R233, R235: `EN` from 0 to 1 clears the ledger and its counters and begins the initialisation; any other write of `CTRL`
changes only `EN`; with `PEAK_CLR` in it `PEAK` also takes the value of `USED`. -/
@[reducible] def clgEnable (ini : Ini) (v : Word) (s : State) : Prop :=
  let a := clgC + 0x008
  let u := s.granted a
  s.verdictW ini a = .ok →
  Does (.clgEnable ini v) s fun t =>
    t.b clgC R.Hdr.CTRL_EN = bitOf v.toNat 0 ∧ t.clg.held = u.clg.held ∧
    t.g clgC R.ClgC.PEAK = (if bitOf v.toNat 1 then u.g clgC R.ClgC.USED else u.g clgC R.ClgC.PEAK) ∧
    (u.b clgC R.Hdr.CTRL_EN = false → bitOf v.toNat 0 = true →
      t.clg.led = [] ∧ t.clg.images = [] ∧ t.clg.v0 = none ∧ t.clg.v1 = none ∧ t.b clgC R.ClgC.STAT_INIT = true ∧
      t.g clgC R.ClgC.USED = 0 ∧ t.b clgC R.ClgC.APPLIED_VALID = false) ∧
    ((u.b clgC R.Hdr.CTRL_EN = true ∨ bitOf v.toNat 0 = false) →
      t.clg = u.clg ∧ t.rd (clgC + 0x00C) = u.rd (clgC + 0x00C) ∧ t.g clgC R.ClgC.USED = u.g clgC R.ClgC.USED)

/-- R233: the initialisation ends; while none runs there is nothing to end. -/
@[reducible] def clgInitDone (s : State) : Prop :=
  (s.domOn 7 = false ∨ s.b clgC R.ClgC.STAT_INIT = false → exec .clgInitDone s = .next s) ∧
  (s.domOn 7 = true → s.b clgC R.ClgC.STAT_INIT = true →
    Does .clgInitDone s fun t => t.b clgC R.ClgC.STAT_INIT = false ∧ raised t clgC 4 = true ∧ t.clg = s.clg)

/-- R235, R233: `PEAK_CLR` sets `PEAK` to `USED`; `EN` in the same write acts as `Rule.clgEnable` says. -/
@[reducible] def peakClr (ini : Ini) (v : Word) (s : State) : Prop :=
  let a := clgC + 0x008
  let u := s.granted a
  (bitOf v.toNat 1 = true → exec (.peakClr ini v) s = exec (.clgEnable ini v) s) ∧
  (s.verdictW ini a = .ok →
    Does (.peakClr ini v) s fun t =>
      t.g clgC R.ClgC.PEAK = u.g clgC R.ClgC.USED ∧ t.b clgC R.Hdr.CTRL_EN = bitOf v.toNat 0 ∧
      (bitOf v.toNat 0 = u.b clgC R.Hdr.CTRL_EN → t.g clgC R.ClgC.USED = u.g clgC R.ClgC.USED ∧ t.clg = u.clg))

/-- R229, R234: `FAULT` written 1 clears unless its filter is still lasting: then the write is discarded as a whole and
counted; `EMPTIED` written 1 clears in a write that is not discarded. -/
@[reducible] def clgFaultClear (ini : Ini) (v : Word) (s : State) : Prop :=
  let a := clgC + 0x00C
  let u := s.granted a
  s.verdictW ini a = .ok →
  Does (.clgFaultClear ini v) s fun t =>
    (bitOf v.toNat 2 = true → u.fwLasting 0xF2 = false → t.b clgC R.ClgC.STAT_FAULT = false) ∧
    (bitOf v.toNat 2 = true → u.fwLasting 0xF2 = true → t.b clgC R.ClgC.STAT_FAULT = u.b clgC R.ClgC.STAT_FAULT ∧
      t.g clgC R.Hdr.FAULT_CNT = bump u clgC R.Hdr.FAULT_CNT) ∧
    (bitOf v.toNat 2 = true → u.fwLasting 0xF2 = true → t.b clgC R.ClgC.STAT_EMPTIED = u.b clgC R.ClgC.STAT_EMPTIED) ∧
    (bitOf v.toNat 4 = true → (bitOf v.toNat 2 = false ∨ u.fwLasting 0xF2 = false) → t.b clgC R.ClgC.STAT_EMPTIED = false)

/-! ### DMC -/

/-- What is due at the channels `ms` in this clock has happened, but for a pending calibration, which gives way to a command
(R258). -/
@[reducible] def doorDue (ms : List Nat) (s : State) : State := ms.foldl (fun (m : State) n => (m.doorNow n).calBack n) s

/-- The channels a command page reaches hold its words, their half-open locks closed, and what is due has happened (R76,
R254, R258, R270). -/
@[reducible] def doorIn (s : State) (d : DoorDst) (arg op : Word) : State :=
  doorDue (s.doorMembers d) ((s.doorMembers d).foldl
    (fun (m : State) n => (((m.breakHalf (dmcP n + 0x108)).wr (dmcP n + 0x100) arg).wr (dmcP n + 0x104) 0#32).wr (dmcP n + 0x108) op) s)

/-- The code of a command for channel `n` (R255, R257): its first failing check, or `PARTNER_REJ` when the linked channel that
takes the same command fails one. -/
@[reducible] def doorCode (u : State) (d : DoorDst) (n op : Nat) (arg : Int) : Nat :=
  if u.doorCheck n op arg ≠ 0 then u.doorCheck n op arg
  else match u.doorLink n with
    | some m => if (u.doorMembers d).contains m && u.doorCheck m op arg ≠ 0 && u.doorCheck m op arg ≠ 8 then 9 else 0
    | none => 0

/-- A channel that rests in UNHOMED or IDLE with a calibration pending calibrates (R259, R264). -/
@[reducible] def calNext (u : State) (n st : Nat) : Nat := if u.b (dmcP n) R.Dmc.STAT_CAL_PEND ∧ (st = 1 ∨ st = 3) then 8 else st

/-- Every member answers a command with the code and tag; a refused one stays in its state, disabled ones with code 2
(R255). -/
@[reducible] def doorAnswers (u t : State) (d : DoorDst) (op : Nat) (arg : Int) (tag : BitVec 16) : Prop :=
  ∀ n ∈ u.doorMembers d,
    t.g (dmcP n) R.Dmc.DMC_RESULT_CODE = doorCode u d n op arg ∧ t.g (dmcP n) R.Dmc.DMC_RESULT_TAG = tag.toNat ∧
    (doorCode u d n op arg ≠ 0 → t.dst n = calNext u n (u.dst n)) ∧
    (u.b (dmcP n) R.Hdr.CTRL_EN = false → doorCode u d n op arg = 2)

/-- A channel that accepts a move and does not stand at the target in IDLE is under way toward it from where it is (R246,
R254). -/
@[reducible] def doorGoes (u t : State) (n st : Nat) (target : Int) (tag : BitVec 16) : Prop :=
  ¬(u.dst n = 3 ∧ (u.door n).v = 0 ∧ (u.door n).ustep = target) →
    t.dst n = st ∧ (t.door n).target = target ∧ (t.door n).tag = tag.toNat ∧ (t.door n).held = true ∧
    (t.door n).pos = (u.door n).pos

/-- R254, R255, R257, R76: `OPEN` by channel, group or all: a channel that accepts it and does not stand at the target is
OPENING toward it. -/
@[reducible] def dmcOpen (d : DoorDst) (arg : Word) (tag : BitVec 16) (s : State) : Prop :=
  let u := doorIn (s.granted (doorPage d + 0x108)) d arg (doorOp 1 tag)
  s.verdictW .nib (doorPage d + 0x108) = .ok →
  Does (.dmcOpen d arg tag) s fun t =>
    doorAnswers u t d 1 arg.toInt tag ∧
    ∀ n ∈ u.doorMembers d, doorCode u d n 1 arg.toInt = 0 →
      doorGoes u t n 4 (if arg.toInt = 0 then u.gs (dmcP n) R.Dmc.DMC_OPEN_POS else arg.toInt) tag

/-- R254: `CLOSE`, toward the closed position. -/
@[reducible] def dmcClose (d : DoorDst) (tag : BitVec 16) (s : State) : Prop :=
  let u := doorIn (s.granted (doorPage d + 0x108)) d 0#32 (doorOp 2 tag)
  s.verdictW .nib (doorPage d + 0x108) = .ok →
  Does (.dmcClose d tag) s fun t =>
    doorAnswers u t d 2 0 tag ∧
    ∀ n ∈ u.doorMembers d, doorCode u d n 2 0 = 0 → doorGoes u t n 5 (u.gs (dmcP n) R.Dmc.DMC_CLOSED_POS) tag

/-- R254, R258, R259: `STOP`: a door in motion is STOPPING, one that waits to reverse is at rest, any other stays. -/
@[reducible] def dmcStop (d : DoorDst) (tag : BitVec 16) (s : State) : Prop :=
  let u := doorIn (s.granted (doorPage d + 0x108)) d 0#32 (doorOp 3 tag)
  s.verdictW .nib (doorPage d + 0x108) = .ok →
  Does (.dmcStop d tag) s fun t =>
    ∀ n ∈ u.doorMembers d,
      (doorCode u d n 3 0 ≠ 0 → t.dst n = calNext u n (u.dst n) ∧ t.g (dmcP n) R.Dmc.DMC_RESULT_CODE = doorCode u d n 3 0) ∧
      (doorCode u d n 3 0 = 0 →
        ((u.dst n = 2 ∨ u.dst n = 4 ∨ u.dst n = 5) → t.dst n = 6 ∧ (t.door n).endCode = 0x12 ∧
          (t.door n).endState = (if u.dst n = 2 then 1 else 3) ∧ t.g (dmcP n) R.Dmc.DMC_RESULT_CODE = 0) ∧
        (u.dst n = 7 → t.dst n = calNext u n 3 ∧
          t.g (dmcP n) R.Dmc.DMC_RESULT_CODE = 0x12 ∧ t.g (dmcP n) R.Dmc.DMC_RESULT_TAG = (u.door n).tag % 2 ^ 16) ∧
        (u.dst n ≠ 2 → u.dst n ≠ 4 → u.dst n ≠ 5 → u.dst n ≠ 7 → t.dst n = calNext u n (u.dst n) ∧
          t.g (dmcP n) R.Dmc.DMC_RESULT_CODE = 0 ∧ (u.b (dmcP n) R.Dmc.STAT_CAL_PEND = false → t.door n = u.door n)))

/-- R254, R261: `HOME` begins homing, away from the home end where its switch is made. -/
@[reducible] def dmcHome (d : DoorDst) (tag : BitVec 16) (s : State) : Prop :=
  let u := doorIn (s.granted (doorPage d + 0x108)) d 0#32 (doorOp 4 tag)
  s.verdictW .nib (doorPage d + 0x108) = .ok →
  Does (.dmcHome d tag) s fun t =>
    doorAnswers u t d 4 0 tag ∧
    ∀ n ∈ u.doorMembers d, doorCode u d n 4 0 = 0 →
      t.dst n = 2 ∧ t.b (dmcP n) R.Dmc.STAT_HOMED = false ∧ (t.door n).tag = tag.toNat ∧ (t.door n).travel = 0 ∧
      (t.door n).held = true ∧ (t.door n).hstep = (if u.b (dmcP n) (swFld (u.b (dmcP n) R.Dmc.HOME_END)) then 2 else 3)

/-- R254, R264: `CAL` begins the calibration with the motor de-energised, or is kept for the end of a motion (code 8). -/
@[reducible] def dmcCal (d : DoorDst) (tag : BitVec 16) (s : State) : Prop :=
  let u := doorIn (s.granted (doorPage d + 0x108)) d 0#32 (doorOp 5 tag)
  s.verdictW .nib (doorPage d + 0x108) = .ok →
  Does (.dmcCal d tag) s fun t =>
    doorAnswers u t d 5 0 tag ∧
    ∀ n ∈ u.doorMembers d,
      (doorCode u d n 5 0 = 0 → t.dst n = 8 ∧ (t.door n).calTag = tag.toNat ∧ (t.door n).calPrev = u.dst n ∧
        (t.door n).energised = false ∧ (t.door n).gates.all (· == 0) = true) ∧
      (doorCode u d n 5 0 = 8 → t.b (dmcP n) R.Dmc.STAT_CAL_PEND = true)

/-- R259: `EN` set takes a channel from OFF to UNHOMED; cleared in OFF, UNHOMED, IDLE or OUT it is OFF, no longer out of
service; cleared in any other state the write is discarded and counted. -/
@[reducible] def dmcEnable (ini : Ini) (n : Fin 8) (v : Word) (s : State) : Prop :=
  let a := dmcP n + 0x008
  let u := (s.granted a).doorNow n
  let idle := u.dst n = 0 ∨ u.dst n = 1 ∨ u.dst n = 3 ∨ u.dst n = 9
  s.verdictW ini a = .ok →
  Does (.dmcEnable ini n v) s fun t =>
    (bitOf v.toNat 0 = true → t.b (dmcP n) R.Hdr.CTRL_EN = true ∧ t.dst n = (if u.dst n = 0 then calNext u n 1 else u.dst n)) ∧
    (bitOf v.toNat 0 = false → idle → t.b (dmcP n) R.Hdr.CTRL_EN = false ∧ t.dst n = 0 ∧
      t.b (dmcP n) R.Dmc.STAT_OOS = false ∧ t.b (dmcP n) R.Dmc.STAT_HOMED = false ∧ (t.door n).energised = false) ∧
    (bitOf v.toNat 0 = false → ¬idle → t.b (dmcP n) R.Hdr.CTRL_EN = u.b (dmcP n) R.Hdr.CTRL_EN ∧ t.dst n = u.dst n ∧
      t.g (dmcP n) R.Hdr.FAULT_CNT = bump u (dmcP n) R.Hdr.FAULT_CNT)

/-- No end switch has a new level under way (R260). -/
@[reducible] def swQuiet (n : Nat) (s : State) : Prop := (s.door n).endC.cand = none ∧ (s.door n).endO.cand = none

/-- R246, R259: the door reaches its target and `END_SETTLE` passes: the result is `OK`; the channel is IDLE, or calibrates when
a calibration is pending. Of a channel that runs no move only the time is caught up with. -/
@[reducible] def doorMoveDone (n : Fin 8) (s : State) : Prop :=
  let u := s.doorNow n
  let x := u.door n
  (s.doorHere n = false → exec (.doorMoveDone n) s = .next s) ∧
  (s.doorHere n = true → u.dst n ≠ 4 → u.dst n ≠ 5 → Does (.doorMoveDone n) s fun t => t = u) ∧
  (s.doorHere n = true → swQuiet n s → (u.dst n = 4 ∨ u.dst n = 5) → (x.segs ≠ [] ∨ (x.v = 0 ∧ x.settleAt.isSome = true)) →
  Does (.doorMoveDone n) s fun t =>
    t.dst n = calNext u n 3 ∧ (t.door n).v = 0 ∧
    (t.door n).pos = (if x.segs = [] then x.pos else x.target * 2 ^ 16) ∧
    t.g (dmcP n) R.Dmc.DMC_RESULT_CODE = 0 ∧ t.g (dmcP n) R.Dmc.DMC_RESULT_TAG = x.tag % 2 ^ 16 ∧
    raised t (dmcP n) (if u.dst n = 4 then 0 else 1) = true ∧
    (if x.segs = [] then x.settleAt.getD 0 else u.doorEnd n) + s.g (dmcP n) R.Dmc.END_SETTLE * 1000000 ≤ t.tbs.el)

/-- R256, R257, R259, R261, R262: the ramp of STOPPING ends: at rest, with the code of the stop; a channel that follows its
partner out of service is OUT with reason `PARTNER`. The ramp that ends homing leaves it homed and IDLE, or, after
`HOME_MAX`, UNHOMED. No other channel has a ramp to
end. -/
@[reducible] def doorAtRest (n : Fin 8) (s : State) : Prop :=
  let u := s.doorNow n
  let x := u.door n
  (s.doorHere n = false → exec (.doorAtRest n) s = .next s) ∧
  (s.doorHere n = true → ¬(u.dst n = 6 ∨ (u.dst n = 2 ∧ (x.hstep = 4 ∨ x.hstep = 5))) → Does (.doorAtRest n) s fun t => t = u) ∧
  (s.doorHere n = true → swQuiet n s → (x.segs ≠ [] ∨ x.v = 0) → (u.dst n = 6 ∨ (u.dst n = 2 ∧ (x.hstep = 4 ∨ x.hstep = 5))) →
  Does (.doorAtRest n) s fun t =>
    (t.door n).v = 0 ∧
    (u.dst n = 6 → (x.endState = 1 ∨ x.endState = 3) →
      t.dst n = calNext u n x.endState ∧
      t.g (dmcP n) R.Dmc.DMC_RESULT_CODE = x.endCode % 2 ^ R.Dmc.DMC_RESULT_CODE.w ∧ raised t (dmcP n) 3 = true) ∧
    (u.dst n = 6 → x.endState = 9 → t.dst n = 9 ∧ t.b (dmcP n) R.Dmc.STAT_OOS = true ∧
      t.g (dmcP n) R.Dmc.STAT_OOS_REASON = 3 ∧ raised t (dmcP n) 7 = true ∧ (t.door n).energised = false) ∧
    (u.dst n = 2 → x.hstep = 4 → t.dst n = calNext u n 3 ∧ t.b (dmcP n) R.Dmc.STAT_HOMED = true ∧
      t.g (dmcP n) R.Dmc.DMC_RESULT_CODE = 0 ∧ t.g (dmcP n) R.Dmc.DMC_RESULT_TAG = x.tag % 2 ^ 16 ∧ raised t (dmcP n) 4 = true) ∧
    (u.dst n = 2 → x.hstep = 5 → t.dst n = calNext u n 1 ∧ t.b (dmcP n) R.Dmc.STAT_HOMED = false))

/-- R251, R253: an obstruction of a channel without a link, decided while it is in force: CLOSING waits to reverse; OPENING and
homing end with `OBSTRUCTED`; the door stands from the next tick on. -/
@[reducible] def obstruction (n : Fin 8) (s : State) : Prop :=
  let u := s.doorNow n
  let r := u.doorUntil n ((u.obstructAt n).getD 0)
  (s.doorHere n = false → exec (.obstruction n) s = .next s) ∧
  (s.doorHere n = true → (¬(u.dst n = 2 ∨ u.dst n = 4 ∨ u.dst n = 5) ∨ u.b (dmcP n) R.Dmc.STAT_STALL_VALID = false) → Does (.obstruction n) s fun t => t = u) ∧
  (s.doorHere n = true → (u.dst n = 2 ∨ u.dst n = 4 ∨ u.dst n = 5) → u.b (dmcP n) R.Dmc.STAT_STALL_VALID = true →
  s.b (dmcP n) R.Dmc.LINK_EN = false → r.b (dmcP n) R.Dmc.STAT_CAL_PEND = false →
  Does (.obstruction n) s fun t =>
    (u.obstructAt n = none → t = u) ∧
    ((u.obstructAt n).isSome = true → (r.dst n ≠ u.dst n ∨ r.b (dmcP n) R.Dmc.STAT_STALL_VALID = false) → t = r) ∧
    ((u.obstructAt n).isSome = true → r.dst n = u.dst n → r.b (dmcP n) R.Dmc.STAT_STALL_VALID = true →
      t.g (dmcP n) R.Dmc.STALL_CNT = bump r (dmcP n) R.Dmc.STALL_CNT ∧ raised t (dmcP n) 2 = true ∧
      (t.door n).segs.length ≤ 1 ∧ t.tbs = r.tbs ∧
      (r.dst n = 5 → t.dst n = 7 ∧ (t.door n).revAt = t.tbs.el) ∧
      (r.dst n = 4 → t.dst n = 3 ∧ t.g (dmcP n) R.Dmc.DMC_RESULT_CODE = 0x10) ∧
      (r.dst n = 2 → t.dst n = 1 ∧ t.g (dmcP n) R.Dmc.DMC_RESULT_CODE = 0x10 ∧ raised t (dmcP n) 5 = true)))

/-- R252, R265: lost steps end the motion with `LOST_STEP` and lose the position; the channel is UNHOMED unless the occurrence
makes its filter lasting. Without
`STALL_VALID` none is seen. -/
@[reducible] def lostStep (n : Fin 8) (s : State) : Prop :=
  let u := s.doorNow n
  (s.doorHere n = false → exec (.lostStep n) s = .next s) ∧
  (s.doorHere n = true → u.b (dmcP n) R.Dmc.STAT_STALL_VALID = false → Does (.lostStep n) s fun t => t = u) ∧
  (s.doorHere n = true → u.b (dmcP n) R.Dmc.STAT_STALL_VALID = true →
  Does (.lostStep n) s fun t =>
    t.g (dmcP n) R.Dmc.DMC_RESULT_CODE = 0x17 ∧ t.g (dmcP n) R.Dmc.DMC_RESULT_TAG = (u.door n).tag % 2 ^ 16 ∧
    raised t (dmcP n) 12 = true ∧ t.b (dmcP n) R.Dmc.STAT_HOMED = false ∧ (t.door n).v = 0 ∧
    (t.fwLasting (0xD4 + n) = u.fwLasting (0xD4 + n) → t.dst n = calNext u n 1))

/-- R253: `REV_GAP` passes in REVERSING: with the permissions the door opens again, else the command ends with
`OBSTRUCTED`. -/
@[reducible] def reverseStart (n : Fin 8) (s : State) : Prop :=
  let pg := dmcP n
  let u := s.doorNow n
  (s.doorHere n = false → exec (.reverseStart n) s = .next s) ∧
  (s.doorHere n = true → u.dst n ≠ 7 → Does (.reverseStart n) s fun t => t = u) ∧
  (s.doorHere n = true → u.dst n = 7 → s.b pg R.Dmc.LINK_EN = false → swQuiet n s →
  Does (.reverseStart n) s fun t =>
    (u.door n).revAt + s.g pg R.Dmc.REV_GAP * 1000000 ≤ t.tbs.el ∧
    (s.b pg R.Dmc.STAT_PERMIT = true → s.b pg R.Dmc.STAT_SIO_OK = true →
      t.dst n = 4 ∧ t.g pg R.Dmc.REV_CNT = bump s pg R.Dmc.REV_CNT ∧ t.b pg R.Dmc.STAT_OBST = true ∧
      (t.door n).target = s.gs pg R.Dmc.DMC_OPEN_POS) ∧
    ((s.b pg R.Dmc.STAT_PERMIT = false ∨ s.b pg R.Dmc.STAT_SIO_OK = false) →
      t.dst n = calNext u n 3 ∧ t.g pg R.Dmc.DMC_RESULT_CODE = 0x10 ∧ t.g pg R.Dmc.REV_CNT = s.g pg R.Dmc.REV_CNT))

/-- R241: an over-current turns the phase off from now and is counted; a phase that QUIET has turned off in this period has
none. -/
@[reducible] def overCurrent (n : Fin 8) (phaseB : Bool) (s : State) : Prop :=
  let u := s.doorNow n
  let x := u.door n
  let off := x.drv.force = false ∧ (if phaseB then x.ocB else x.ocA).isSome = true
  (s.doorHere n = false → exec (.overCurrent n phaseB) s = .next s) ∧
  (s.doorHere n = true →
  Does (.overCurrent n phaseB) s fun t =>
    (off → t = u) ∧
    (¬off → t.g (dmcP n) R.Dmc.OC_CNT = bump u (dmcP n) R.Dmc.OC_CNT ∧
      (u.g (dmcP n) R.Dmc.OC_CNT < 2 ^ R.Dmc.OC_CNT.w - 1 → raised t (dmcP n) 10 = true) ∧
      (t.door n).ocA = (if phaseB then x.ocA else some u.tbs.el) ∧ (t.door n).ocB = (if phaseB then some u.tbs.el else x.ocB)))

/-- R241: a driver fault de-energises the motor at once, loses the position and is counted, in OFF and OUT too, which stay;
the release of `nFLT` changes only its level. -/
@[reducible] def driverFault (n : Fin 8) (low : Bool) (s : State) : Prop :=
  let u := s.doorNow n
  (s.doorHere n = false → exec (.driverFault n low) s = .next s) ∧
  (s.doorHere n = true → s.b (dmcP n) R.Dmc.STAT_FLT_LVL = low → Does (.driverFault n low) s fun t => t = u) ∧
  (s.doorHere n = true → s.b (dmcP n) R.Dmc.STAT_FLT_LVL ≠ low →
  Does (.driverFault n low) s fun t =>
    t.b (dmcP n) R.Dmc.STAT_FLT_LVL = low ∧
    (low = false → t.dst n = u.dst n ∧ t.door n = u.door n) ∧
    (low = true → (t.door n).v = 0 ∧ (t.door n).energised = false ∧ (t.door n).gates.all (· == 0) = true ∧
      t.g (dmcP n) R.Dmc.DRVF_CNT = bump u (dmcP n) R.Dmc.DRVF_CNT ∧
      (u.g (dmcP n) R.Dmc.DRVF_CNT < 2 ^ R.Dmc.DRVF_CNT.w - 1 → raised t (dmcP n) 9 = true) ∧
      ((u.dst n = 0 ∨ u.dst n = 9) → t.dst n = u.dst n) ∧
      (u.dst n ≠ 0 → u.dst n ≠ 9 → t.b (dmcP n) R.Dmc.STAT_HOMED = false) ∧
      ((u.dst n = 2 ∨ u.dst n = 4 ∨ u.dst n = 5) → t.g (dmcP n) R.Dmc.DMC_RESULT_CODE = 0x16)))

/-- R260, R261, R263: the pin of an end switch takes a level that, after its inversion, is new: held for less than 8 ms it is
not accepted, and `DMC_POS` at the edge is kept; after 8 ms it is. A channel that is OFF only shows it; homing ends at the
home edge, which takes the home position; a homed channel at rest learns the edge it did not know. -/
@[reducible] def endSwitch (n : Fin 8) (isOpen pin : Bool) (us : Nat) (s : State) : Prop :=
  let pg := dmcP n
  let u := s.doorNow n
  let lvl := pin != s.b pg (if isOpen then R.Dmc.ENDO_INV else R.Dmc.ENDC_INV)
  let old := s.b pg (swFld isOpen)
  let edge := if isOpen then R.Dmc.DMC_SW_POS_O.off else R.Dmc.DMC_SW_POS_C.off
  (s.doorHere n = false → exec (.endSwitch n isOpen pin us) s = .next s) ∧
  (s.doorHere n = true → swQuiet n s →
  Does (.endSwitch n isOpen pin us) s fun t =>
    ((t.door n).sw isOpen).pin = pin ∧ u.tbs.el + us * 1000 ≤ t.tbs.el ∧
    (lvl = old → t.b pg (swFld isOpen) = old ∧ t.dst n = u.dst n) ∧
    (lvl ≠ old → us < 7999 → t.b pg (swFld isOpen) = old ∧ t.dst n = u.dst n ∧
      ((t.door n).sw isOpen).cand = some (u.tbs.el, (u.door n).ustep)) ∧
    (lvl ≠ old → 8000 ≤ us → (s.door n).chatC = [] → (s.door n).chatO = [] → t.b pg (swFld isOpen) = lvl ∧
      (u.dst n = 0 → t.dst n = 0) ∧
      (u.dst n = 2 → (u.door n).hstep = 3 → lvl = true → s.b pg R.Dmc.HOME_END = isOpen →
        t.dst n = 2 ∧ (t.door n).hstep = 4 ∧ t.rd (pg + edge) = s.rd (pg + R.Dmc.DMC_HOME_POS.off)) ∧
      (u.dst n = 3 → lvl = true → s.b pg R.Dmc.STAT_HOMED = true → (s.door n).learnC = false → (s.door n).learnO = false →
        t.dst n = 3 ∧ t.gs pg (if isOpen then R.Dmc.DMC_SW_POS_O else R.Dmc.DMC_SW_POS_C) = toS 32 (ofS 32 (u.door n).ustep))))

/-- R262: homing that travels `HOME_MAX` without the edge is answered `HOME_TMO` and ramps to rest, the position unknown; until
it has travelled so far nothing ends. -/
@[reducible] def homeTimeout (n : Fin 8) (s : State) : Prop :=
  let u := s.doorNow n
  let x := u.door n
  let limit := s.g (dmcP n) R.Dmc.DMC_HOME_MAX * 2 ^ 16
  let r := match u.doorPathAt n (limit - x.travel0) with
    | some t => u.doorUntil n t
    | none => u
  (s.doorHere n = false → exec (.homeTimeout n) s = .next s) ∧
  (s.doorHere n = true → ¬(u.dst n = 2 ∧ (x.hstep = 2 ∨ x.hstep = 3)) → Does (.homeTimeout n) s fun t => t = u) ∧
  (s.doorHere n = true → swQuiet n s → u.dst n = 2 → (x.hstep = 2 ∨ x.hstep = 3) →
  Does (.homeTimeout n) s fun t =>
    ((r.door n).travel < limit → t = r) ∧
    (limit ≤ (r.door n).travel →
      t.g (dmcP n) R.Dmc.DMC_RESULT_CODE = 0x15 ∧ t.g (dmcP n) R.Dmc.DMC_RESULT_TAG = x.tag % 2 ^ 16 ∧
      raised t (dmcP n) 5 = true ∧
      (t.fwLasting (0xD4 + n) = u.fwLasting (0xD4 + n) → t.dst n = 2 ∧ (t.door n).hstep = 5)))

/-- R264: calibration ends: with `I_RUN` reached within 20 ms and its four values within the limits they are stored and the
result is `OK`, 102 ms and the rise after it began; else none is stored and it is `CAL_FAIL`. -/
@[reducible] def calDone (n : Fin 8) (sumA sumB : BitVec 24) (reach rise : Nat) (mv ma : Nat) (s : State) : Prop :=
  let pg := dmcP n
  let u := s.doorNow n
  let x := u.door n
  let ofsA := (u.calVals n sumA sumB rise mv ma).1
  let ofsB := (u.calVals n sumA sumB rise mv ma).2.1
  let l := (u.calVals n sumA sumB rise mv ma).2.2.1
  let r := (u.calVals n sumA sumB rise mv ma).2.2.2
  let good := reach ≤ 20000000 ∧ ofsA.natAbs ≤ 1024 ∧ ofsB.natAbs ≤ 1024 ∧ ma ≠ 0 ∧ 100 ≤ r ∧ r ≤ 65535 ∧ 10 ≤ l ∧ l ≤ 65535
  (s.doorHere n = false → exec (.calDone n (sumA, sumB) reach rise mv ma) s = .next s) ∧
  (s.doorHere n = true → u.dst n ≠ 8 → Does (.calDone n (sumA, sumB) reach rise mv ma) s fun t => t = u) ∧
  (s.doorHere n = true → swQuiet n s → u.dst n = 8 → (x.calPrev = 1 ∨ x.calPrev = 3) →
  Does (.calDone n (sumA, sumB) reach rise mv ma) s fun t =>
    t.g pg R.Dmc.DMC_RESULT_TAG = x.calTag % 2 ^ 16 ∧ raised t pg 6 = true ∧ x.calAt + 2000000 ≤ t.tbs.el ∧
    (good → t.gs pg R.Dmc.OFS_A = ofsA ∧ t.gs pg R.Dmc.OFS_B = ofsB ∧ t.g pg R.Dmc.R_PH = r.toNat ∧ t.g pg R.Dmc.L_PH = l.toNat ∧
      t.g pg R.Dmc.DMC_RESULT_CODE = 0 ∧ t.dst n = calNext u n x.calPrev ∧ x.calAt + 102000000 + reach ≤ t.tbs.el) ∧
    (¬good → t.gs pg R.Dmc.OFS_A = s.gs pg R.Dmc.OFS_A ∧ t.gs pg R.Dmc.OFS_B = s.gs pg R.Dmc.OFS_B ∧
      t.g pg R.Dmc.R_PH = s.g pg R.Dmc.R_PH ∧ t.g pg R.Dmc.L_PH = s.g pg R.Dmc.L_PH ∧
      t.g pg R.Dmc.DMC_RESULT_CODE = 0x18))

/-- R266: `OOS` written 1 returns a channel to UNHOMED unless its filter is still lasting or its partner is out: then the write
is discarded and counted; a channel that is not out of service stays. R269: `OBST` written 1 clears. -/
@[reducible] def oosClear (ini : Ini) (n : Fin 8) (v : Word) (s : State) : Prop :=
  let pg := dmcP n
  let u := s.granted (pg + 0x00C)
  let held := u.fwLasting (0xD4 + n) = true ∨ (u.g pg R.Dmc.STAT_OOS_REASON = 3 ∧ u.dst (u.g pg R.Dmc.LINK) = 9)
  s.verdictW ini (pg + 0x00C) = .ok →
  Does (.oosClear ini n v) s fun t =>
    (u.b pg R.Dmc.STAT_OOS = false → t.dst n = u.dst n ∧ t.b pg R.Dmc.STAT_OOS = false ∧
      t.g pg R.Hdr.FAULT_CNT = u.g pg R.Hdr.FAULT_CNT) ∧
    (bitOf v.toNat 19 = true → t.b pg R.Dmc.STAT_OBST = false) ∧
    (u.b pg R.Dmc.STAT_OOS = true → ¬held → t.b pg R.Dmc.STAT_OOS = false ∧ t.g pg R.Dmc.STAT_OOS_REASON = 0 ∧ t.dst n = calNext u n 1) ∧
    (u.b pg R.Dmc.STAT_OOS = true → held → t.b pg R.Dmc.STAT_OOS = true ∧ t.dst n = u.dst n ∧ t.g pg R.Hdr.FAULT_CNT = bump u pg R.Hdr.FAULT_CNT)

/-- R246, R247: the 10 µs tick: a door with no profile stays where it is; one on its way stands where its profile is at the last
tick, which its registers show; the state stays unless an obstruction is due. -/
@[reducible] def doorProfileTick (n : Fin 8) (s : State) : Prop :=
  let x := s.door n
  (s.doorHere n = false ∨ s.dst n = 0 → exec (.doorProfileTick n) s = .next s) ∧
  (s.doorHere n = true → s.dst n ≠ 0 →
  Does (.doorProfileTick n) s fun t =>
    s.tickOf s.tbs.el ≤ (t.door n).tickAt ∧ (t.door n).tickAt ≤ t.tbs.el ∧
    (swQuiet n s → x.stallFrom = none → x.fCount < 16 → t.dst n = s.dst n ∧
    (x.segs = [] → (t.door n).pos = x.pos ∧ (t.door n).v = x.v) ∧
    (x.segs ≠ [] → (t.door n).pos = (s.doorAt n (s.tickOf t.tbs.el)).pos ∧ (t.door n).v = (s.doorAt n (s.tickOf t.tbs.el)).v) ∧
    t.gs (dmcP n) R.Dmc.DMC_POS = toS 32 (ofS 32 (t.door n).ustep)))

/-- R239 to R243: a PWM period boundary: the mean currents of the period that ends are shown, no phase stays off for an
over-current of it, the duties stay within ±1, and a motor that is not driven has no gate on. -/
@[reducible] def pwmPeriodBoundary (n : Fin 8) (codeA codeB : BitVec 14) (moreA moreB : List (BitVec 14)) (s : State) : Prop :=
  let pg := dmcP n
  let samples := (codeA, codeB) :: moreA.zip moreB
  let t1 := s.nextPwm n
  let k0 := (t1 - (s.door n).drv.ns - s.hoist.base) / 500 + 1
  let is := ((samples.zip (List.range samples.length)).filter fun y => decide (s.hoist.base + (k0 + y.2) * 500 ≤ t1)).map
    fun y => (toS 14 y.1.1.toNat - s.gs pg R.Dmc.OFS_A) * (s.door n).drv.gain
  (s.doorHere n = false ∨ s.dst n = 0 → exec (.pwmPeriodBoundary n codeA codeB moreA moreB) s = .next s) ∧
  (s.doorHere n = true → s.dst n ≠ 0 → swQuiet n s →
  Does (.pwmPeriodBoundary n codeA codeB moreA moreB) s fun t =>
    t1 ≤ t.tbs.el ∧ (t.door n).pwmAt = t1 ∧ t.dst n ≠ 0 ∧
    t.g pg R.Dmc.IA = ofS R.Dmc.IA.w (rdiv (meanUa (s.door n).uaA is) 1000) ∧
    (t.door n).dutyA.natAbs ≤ 65536 ∧ (t.door n).dutyB.natAbs ≤ 65536 ∧ (t.door n).ocA = none ∧ (t.door n).ocB = none ∧
    ((t.door n).energised = false → (t.door n).dutyA = 0 ∧ (t.door n).dutyB = 0 ∧ (t.door n).gates.all (· == 0) = true))

/-! ### SLP, SAG and the safety parameter block -/

/-- What SLP's cycle makes of a mailbox (R311): a request is answered with its code, or its test is queued; with none nothing
changes. -/
@[reducible] def mbServed (s t : State) (p : Fin 2) : Prop :=
  let w0 := (s.rd (mbP p + 0x100)).toNat
  (s.mb p = none → t.mb p = none ∧ t.rd (mbP p + 0x180) = s.rd (mbP p + 0x180)) ∧
  ∀ x ∈ s.mb p, s.mbTesting p = false →
    let answered (code : Nat) : Prop := t.mb p = none ∧ t.rd (mbP p + 0x180) = wd (x.1 * 0x10000 + 0x100 + code) ∧ raised t slpC p = true
    (x.2 = 1 → answered 0) ∧
    (x.2 = 2 → 8 < w0 → answered 2) ∧
    (x.2 = 2 → w0 ≤ 8 → t.mb p = some x ∧ t.mbTesting p = true) ∧
    (x.2 = 3 → (w0 % 4 ≠ 0 ∨ 0xFCC < w0) → answered 2) ∧
    (x.2 = 3 → w0 % 4 = 0 → w0 ≤ 0xFCC → answered 0) ∧
    (x.2 ≠ 1 → x.2 ≠ 2 → x.2 ≠ 3 → answered 0xFF)

/-- R272, R277, R288, R311: the 1 ms cycle of SLP comes at its time and is counted, shows the count of `CK_SAGE`, evaluates the
releases asked for and serves the mailboxes. Elsewhere nothing changes (log entry 3). -/
@[reducible] def slpCycle (rb fb : BitVec 12) (ck : Nat) (fails : BitVec 10) (slpRec sgRec : Bool) (s : State) : Prop :=
  let due := nextOf s.safe.slpAt 1000000 s.tbs.el
  (s.laneUp 0 = false → exec (.slpCycle rb fb ck fails slpRec sgRec) s = .next s) ∧
  (s.laneUp 0 = true →
  Does (.slpCycle rb fb ck fails slpRec sgRec) s fun t =>
    t.tbs = (s.advanceTo due).tbs ∧ due ≤ t.tbs.el ∧ t.safe.slpAt = due ∧ t.safe.clr = 0 ∧
    t.gTs slpC R.SlpC.SLP_CYCLE_LO R.SlpC.SLP_CYCLE_HI = (s.gTs slpC R.SlpC.SLP_CYCLE_LO R.SlpC.SLP_CYCLE_HI + 1) % 2 ^ 64 ∧
    t.g sagC R.SagC.SAG_CLKMON = min ck 65535 ∧ mbServed s t 0 ∧ mbServed s t 1)

/-- R272, R313: the 100 µs cycle of Sage comes at its time; the snapshot it leaves carries its time and its margin. Elsewhere
nothing changes (log entry 3). -/
@[reducible] def sageCycle (rb fb : BitVec 12) (vanes : BitVec 2) (wordU wordL : Option SgWord) (fail : Bool) (s : State) : Prop :=
  let due := nextOf s.safe.sgAt 100000 s.tbs.el
  (s.laneUp 1 = false → exec (.sageCycle rb fb vanes wordU wordL fail) s = .next s) ∧
  (s.laneUp 1 = true →
  Does (.sageCycle rb fb vanes wordU wordL fail) s fun t =>
    t.tbs = (s.advanceTo due).tbs ∧ due ≤ t.tbs.el ∧
    t.gTs sagC R.SagC.SAG_SNAP_TS_LO R.SagC.SAG_SNAP_TS_HI = t.stamp ∧
    t.g sagC R.SagC.SAG_MARGIN_H = ofS 32 t.safe.lane1.mh)

/-- R275, R279: a Sage word that has not completed in 60 µs is a bad word; the third in a row makes the position invalid and
latches `SENSOR`. Elsewhere nothing changes (log entry 3). -/
@[reducible] def sageWordTimeout (c : Fin 2) (s : State) : Prop :=
  (¬(s.laneUp 1 = true ∧ c.val ∈ s.spbCarList) → exec (.sageWordTimeout c) s = .next s) ∧
  (s.laneUp 1 = true → c.val ∈ s.spbCarList →
  Does (.sageWordTimeout c) s fun t =>
    t.g (sagP c) R.Sag.SG_TMO_CNT = bump s (sagP c) R.Sag.SG_TMO_CNT ∧ s.safe.sgAt + 60000 ≤ t.tbs.el ∧
    (t.lcar 1 c).bad = min ((s.lcar 1 c).bad + 1) 3 ∧ (t.lcar 1 c).goods = 0 ∧
    (2 ≤ (s.lcar 1 c).bad → (t.lcar 1 c).valid = false ∧ (t.lcar 1 c).spdOk = false ∧ bitOf (t.lcar 1 c).cause 3 = true) ∧
    ((s.lcar 1 c).bad < 2 → (t.lcar 1 c).valid = (s.lcar 1 c).valid ∧ (t.lcar 1 c).cause = (s.lcar 1 c).cause))

/-- R279: cores of SLP that differ latch `LOCKSTEP` for both cars; where it was not latched yet, every SLP switch opens.
Elsewhere nothing changes (log entry 3). -/
@[reducible] def lockstepError (s : State) : Prop :=
  (s.laneUp 0 = false → exec .lockstepError s = .next s) ∧
  (s.laneUp 0 = true →
  Does .lockstepError s fun t =>
    bitOf t.safe.lane0.car0.cause 6 = true ∧ bitOf t.safe.lane0.car1.cause 6 = true ∧
    t.g slpC R.SlpC.STAT_KSTATE = 4 ∧
    (bitOf s.safe.lane0.car0.cause 6 = false → bitOf s.safe.lane0.car1.cause 6 = false → ∀ o < 12, t.hs o = false))

/-- R285: a missing SLP record is counted, each 1.1 ms after the last; the second in a row latches `MISMATCH` in Sage for both
cars. Elsewhere nothing changes (log entry 3). -/
@[reducible] def sageRecordMissing (s : State) : Prop :=
  let due := max s.safe.slpAt s.safe.missAt + 1100000
  (s.laneUp 1 = false → exec .sageRecordMissing s = .next s) ∧
  (s.laneUp 1 = true →
  Does .sageRecordMissing s fun t =>
    t.safe.lane1.missN = s.safe.lane1.missN + 1 ∧ t.g sagC R.SagC.MISS_CNT = bump s sagC R.SagC.MISS_CNT ∧
    due ≤ t.tbs.el ∧ t.safe.missAt = due ∧
    (s.safe.lane1.missN = 1 → bitOf t.safe.lane1.car0.cause 4 = true ∧ bitOf t.safe.lane1.car1.cause 4 = true))

/-- A gated write while the gate is not open is discarded and counted, and closes a half-open gate (R304). -/
@[reducible] def gateShut (u t : State) : Prop :=
  u.safe.gate ≠ 2 → t.g sagC R.Hdr.FAULT_CNT = bump u sagC R.Hdr.FAULT_CNT ∧ t.safe.stage = u.safe.stage ∧
    t.safe.commit = u.safe.commit ∧ t.safe.clr = u.safe.clr ∧ t.safe.confirm = u.safe.confirm ∧
    (u.safe.gate = 1 → t.safe.gate = 0) ∧ (u.safe.gate ≠ 1 → t.safe.gate = u.safe.gate)

/-- R288, R304: `SAG_LATCH_CLR` through the open gate asks for the release of the cars written and closes the gate. -/
@[reducible] def sagLatchClr (ini : Ini) (v : Word) (s : State) : Prop :=
  let u := s.granted (sagC + 0x064)
  s.verdictW ini (sagC + 0x064) = .ok →
  Does (.sagLatchClr ini v) s fun t =>
    gateShut u t ∧
    (u.safe.gate = 2 → t.safe.clr = Nat.lor u.safe.clr (v.toNat % 4) ∧ t.safe.gate = 0 ∧
      t.b sagC R.SagC.STAT_GATE = false)

/-- R304: the first key half-opens the gate, the second one right after it opens it; any other word closes it. -/
@[reducible] def sagSafeKey (ini : Ini) (v : Word) (s : State) : Prop :=
  let u := s.granted (sagC + 0x040)
  let key := v.toNat % 2 ^ 16
  s.verdictW ini (sagC + 0x040) = .ok →
  Does (.sagSafeKey ini v) s fun t =>
    t.safe.gate = (if key = 0x5AFE then 1 else if key = 0xC0DE ∧ u.safe.gate = 1 then 2 else 0) ∧
    t.b sagC R.SagC.STAT_GATE = decide (key = 0xC0DE ∧ u.safe.gate = 1) ∧ t.safe.gateAt = u.tbs.el

/-- R304: ten seconds after it last moved the gate closes. Elsewhere nothing changes (log entry 3). -/
@[reducible] def gateTimeout (s : State) : Prop :=
  (¬(s.laneUp 1 = true ∧ s.safe.gate ≠ 0) → exec .gateTimeout s = .next s) ∧
  (s.laneUp 1 = true → s.safe.gate ≠ 0 →
  Does .gateTimeout s fun t =>
    t.safe.gate = 0 ∧ t.b sagC R.SagC.STAT_GATE = false ∧ s.safe.gateAt + 10000000000 ≤ t.tbs.el)

/-- R312: `SAG_LOAD_DATA` through the open gate stores its four bytes at the load address and advances it; past the end of the
staging area it is discarded and counted. -/
@[reducible] def sagLoadData (ini : Ini) (v : Word) (s : State) : Prop :=
  let u := s.granted (sagC + 0x048)
  let a := u.g sagC R.SagC.SAG_LOAD_ADDR
  s.verdictW ini (sagC + 0x048) = .ok →
  Does (.sagLoadData ini v) s fun t =>
    gateShut u t ∧
    (u.safe.gate = 2 → a ≤ 0x105C → t.g sagC R.SagC.SAG_LOAD_ADDR = a + 4 ∧ t.safe.gate = 2 ∧
      ∀ k < 4, tB t.safe.stage (a + k) = v.toNat / 256 ^ k % 256) ∧
    (u.safe.gate = 2 → 0x105C < a → t.safe = u.safe ∧ t.g sagC R.Hdr.FAULT_CNT = bump u sagC R.Hdr.FAULT_CNT)

/-- R304, R312: `ABORT` through the open gate clears the staging area and closes the gate; with `COMMIT` in the same word a commit
follows, of the cleared area. -/
@[reducible] def sagLoadAbort (ini : Ini) (v : Word) (s : State) : Prop :=
  let u := s.granted (sagC + 0x04C)
  let busy := u.b sagC R.SagC.SAG_LOAD_STAT_BUSY
  s.verdictW ini (sagC + 0x04C) = .ok →
  Does (.sagLoadAbort ini v) s fun t =>
    gateShut u t ∧
    (u.safe.gate = 2 → t.safe.stage = [] ∧ t.safe.gate = 0 ∧
      (bitOf v.toNat 0 = false ∨ busy = true → t.safe.commit = u.safe.commit ∧ t.safe.cand = u.safe.cand) ∧
      (bitOf v.toNat 0 = true → busy = false → t.safe.commit = .checking ∧ t.safe.cand = []))

/-- R304, R306: `COMMIT` through the open gate starts the check of the staged block, which `ABORT` in the same word clears first,
unless one is in progress: then it is discarded and counted. -/
@[reducible] def spbCommit (ini : Ini) (v : Word) (s : State) : Prop :=
  let u := s.granted (sagC + 0x04C)
  let staged := if bitOf v.toNat 1 then [] else u.safe.stage
  s.verdictW ini (sagC + 0x04C) = .ok →
  Does (.spbCommit ini v) s fun t =>
    gateShut u t ∧
    (u.safe.gate = 2 → t.safe.stage = staged) ∧
    (u.safe.gate = 2 → u.b sagC R.SagC.SAG_LOAD_STAT_BUSY = false →
      t.safe.commit = .checking ∧ t.b sagC R.SagC.SAG_LOAD_STAT_BUSY = true ∧ t.safe.gate = 0 ∧ t.safe.cand = staged) ∧
    (u.safe.gate = 2 → u.b sagC R.SagC.SAG_LOAD_STAT_BUSY = true →
      t.safe.commit = u.safe.commit ∧ t.g sagC R.Hdr.FAULT_CNT = bump u sagC R.Hdr.FAULT_CNT ∧ t.safe.gate = 0)

/-- R302, R306: lanes that find the same fault end the commit with its code and offset; otherwise the result waits for the next
SLP boundary. A block without its magic number or version fails with code 2. Elsewhere nothing changes (log entry 3). -/
@[reducible] def spbCheckDone (same : Bool) (s : State) : Prop :=
  let r := s.spbCheck s.safe.cand
  (¬(s.safe.commit = .checking) → exec (.spbCheckDone same) s = .next s) ∧
  (s.safe.commit = .checking →
  Does (.spbCheckDone same) s fun t =>
    (same = true → r.1 ≠ 0 → t.safe.commit = .none ∧ t.b sagC R.SagC.SAG_LOAD_STAT_BUSY = false ∧
      t.g sagC R.SagC.SAG_LOAD_STAT_RESULT = r.1 % 256 ∧ t.g sagC R.SagC.SAG_LOAD_STAT_ERR_OFS = r.2 % 4096 ∧
      raised t sagC 3 = true) ∧
    (¬(same = true ∧ r.1 ≠ 0) → t.safe.commit = .checked r.1 r.2 same) ∧
    ((tN s.safe.cand 0 4 ≠ 0x31425053 ∨ tN s.safe.cand 4 2 ≠ 1) → r = (2, 0)))

/-- R300, R306: both copies are written with the block that was checked, `GEN` counts on and the check value in force is shown;
a copy whose read-back fails ends the commit with code 0x0A. Elsewhere nothing changes (log entry 3). -/
@[reducible] def spbCopiesWritten (okA okB : Bool) (s : State) : Prop :=
  (¬(s.safe.commit = .writing) → exec (.spbCopiesWritten okA okB) s = .next s) ∧
  (s.safe.commit = .writing →
  Does (.spbCopiesWritten okA okB) s fun t =>
    t.safe.commit = .none ∧ t.g sagC R.SagC.SAG_LOAD_STAT_RESULT = (if okA && okB then 0 else 0x0A) ∧
    t.b sagC R.SagC.SAG_LOAD_STAT_BUSY = false ∧ t.b sagC R.SagC.SAG_COMM_COPY_A_OK = okA ∧
    t.b sagC R.SagC.SAG_COMM_COPY_B_OK = okB ∧ t.g sagC R.SagC.SAG_GEN = bump s sagC R.SagC.SAG_GEN ∧
    t.rd (sagC + R.SagC.SAG_SAFE_CHECK.off) = wd (s.spbN 0xFFC 4) ∧ raised t sagC 3 = true ∧
    ∀ k < 0x1000, t.byte (copyA + k) = tB s.safe.cand k % 256 ∧ t.byte (copyB + k) = tB s.safe.cand k % 256)

/-- R304, R307: `SAG_SAFE_CONFIRM` through the open gate waits for the next SLP boundary; during a commit it is refused with code
0x0D. -/
@[reducible] def sagSafeConfirm (ini : Ini) (v : Word) (s : State) : Prop :=
  let u := s.granted (sagC + 0x058)
  s.verdictW ini (sagC + 0x058) = .ok →
  Does (.sagSafeConfirm ini v) s fun t =>
    gateShut u t ∧
    (u.safe.gate = 2 → u.b sagC R.SagC.SAG_LOAD_STAT_BUSY = false →
      t.safe.confirm = some v ∧ t.b sagC R.SagC.SAG_LOAD_STAT_BUSY = true ∧ t.safe.gate = 0) ∧
    (u.safe.gate = 2 → u.b sagC R.SagC.SAG_LOAD_STAT_BUSY = true →
      t.safe.confirm = u.safe.confirm ∧ t.g sagC R.SagC.SAG_LOAD_STAT_RESULT = 0x0D ∧ raised t sagC 4 = true)

/-- What a write of `DOOR` leaves (R311): the request is posted, the old answer stands until SLP takes it; while one waits it is
discarded and counted. -/
@[reducible] def mbPosted (u t : State) (p : Fin 2) (seq : BitVec 16) (op : Nat) : Prop :=
  (u.mb p = none → t.mb p = some (seq.toNat, op) ∧ t.rd (mbP p + 0x180) = u.rd (mbP p + 0x180) ∧ t.mb (1 - p) = u.mb (1 - p)) ∧
  (u.mb p ≠ none → t.mb p = u.mb p ∧ t.g slpC R.Hdr.FAULT_CNT = bump u slpC R.Hdr.FAULT_CNT)

/-- R311: a pair posts `GET_STATUS` in its own slot. -/
@[reducible] def slpGetStatus (p : Fin 2) (seq : BitVec 16) (s : State) : Prop :=
  s.verdictW (.pair p) (mbP p + 0x13C) = .ok →
  Does (.slpGetStatus p seq) s fun t => mbPosted (s.granted (mbP p + 0x13C)) t p seq 1

/-- R311: `RUN_TEST`. -/
@[reducible] def slpRunTest (p : Fin 2) (seq : BitVec 16) (s : State) : Prop :=
  s.verdictW (.pair p) (mbP p + 0x13C) = .ok →
  Does (.slpRunTest p seq) s fun t => mbPosted (s.granted (mbP p + 0x13C)) t p seq 2

/-- R311: `READ_SPB`. -/
@[reducible] def slpReadSpb (p : Fin 2) (seq : BitVec 16) (s : State) : Prop :=
  s.verdictW (.pair p) (mbP p + 0x13C) = .ok →
  Does (.slpReadSpb p seq) s fun t => mbPosted (s.granted (mbP p + 0x13C)) t p seq 3

/-! ### SIO -/

/-- What SIO shows is what the lanes hold (R316, R335): the evaluated inputs of both lanes and the lock of each car. -/
@[reducible] def sioShows (t : State) : Prop :=
  t.g sioC R.SioC.SIO_IN_STATE = mapOver 32 (t.inEval 0) ∧ t.g sioC R.SioC.SIO_IN_STATE_SG = mapOver 32 (t.inEval 1) ∧
  t.locked 0 = t.lockedNow 0 ∧ t.locked 1 = t.lockedNow 1

/-- R316, R318, R319: a lane accepts a new level of a channel of an input after five equal samples, the other lane's view of it
stays; fewer samples, or a channel that a test pulse holds, change nothing. -/
@[reducible] def inputChange (i : Fin 32) (sage chB lvl : Bool) (samples : Nat) (s : State) : Prop :=
  let l := b2n sage
  let x := s.lin l i
  let held := s.b (inP i) R.Sib.IN_CFG_TP_EN = true ∧
    s.tpHolds (s.g (inP i) (if chB then R.Sib.IN_CFG_TP_B else R.Sib.IN_CFG_TP_A)) = true
  ((s.laneUp l = false ∨ samples < 5 ∨ held ∨ (if chB then x.b else x.a) = lvl) → exec (.inputChange i sage chB ⟨lvl, samples⟩) s = .next s) ∧
  (s.laneUp l = true → 5 ≤ samples → ¬held → (if chB then x.b else x.a) ≠ lvl →
    Does (.inputChange i sage chB ⟨lvl, samples⟩) s fun t =>
      t.lin l i = (if chB then { x with b := lvl } else { x with a := lvl }) ∧
      t.lin (1 - l) i = s.lin (1 - l) i ∧ sioShows t)

/-- R319, R320, R321: a test pulse runs at its due time, or 20 µs after another one, for its width; the next one is due a period
later; pulses whose read-back follows in both lanes are counted, a read-back that does not follow is a fault of the output.
Elsewhere nothing changes (log entry 3). -/
@[reducible] def testPulse (j : Fin 4) (pre0 end0 any0 pre1 end1 any1 : BitVec 64) (rb0 rb1 : BitVec 2) (s : State) : Prop :=
  (¬(s.laneUp 0 = true ∧ s.tpPeriod j ≠ 0 ∧ s.safe.vddLow = false) → exec (.testPulse j (pre0, pre1) (end0, end1) any0 any1 rb0 rb1) s = .next s) ∧
  (s.laneUp 0 = true → s.tpPeriod j ≠ 0 → s.safe.vddLow = false →
  Does (.testPulse j (pre0, pre1) (end0, end1) any0 any1 rb0 rb1) s fun t =>
    (t.tp j).due = (s.tp j).due + s.tpPeriod j * 1000000 ∧
    (t.tp j).okN = (if rb0 = 2#2 ∧ rb1 = 2#2 then min ((s.tp j).okN + 1) 3 else 0) ∧
    t.safe.tpEnd = t.tbs.el ∧ (s.tp j).due + s.tpWidth j ≤ t.tbs.el ∧
    ((s.tp j).due ≤ s.safe.tpEnd → s.safe.tpEnd + 20000 + s.tpWidth j ≤ t.tbs.el) ∧ (rb0 ≠ 2#2 → t.tpFault j = true))

/-- R320: the read-back of a test pulse output that is not pulsed: low is a fault, high clears it. Elsewhere nothing changes
(log entry 3). -/
@[reducible] def tpHeldReadback (j : Fin 4) (low : Bool) (s : State) : Prop :=
  (¬(s.laneUp 0 = true ∧ s.tpPeriod j = 0) → exec (.tpHeldReadback j low) s = .next s) ∧
  (s.laneUp 0 = true → s.tpPeriod j = 0 →
  Does (.tpHeldReadback j low) s fun t =>
    t.tpFault j = low ∧ (low = true → s.tpFault j = false → raised t sioC 4 = true) ∧ t.safe = s.safe)

/-- R323: channels that disagree for `T_DISC` fault the input in that lane. Elsewhere nothing changes (log entry 3). -/
@[reducible] def discFault (i : Fin 32) (sage : Bool) (s : State) : Prop :=
  let l := b2n sage
  let x := s.lin l i
  let T := s.g (inP i) R.Sib.IN_CFG_T_DISC
  (¬(s.laneUp l = true ∧ s.inUsed i = true ∧ s.inPerm l i = false ∧ s.inSafe l i = false ∧ s.safe.vddLow = false ∧ x.fault = 0 ∧ x.disc < T) → exec (.discFault i sage) s = .next s) ∧
  (s.laneUp l = true → s.inUsed i = true → s.inPerm l i = false → s.inSafe l i = false → s.safe.vddLow = false → x.fault = 0 → x.disc < T →
  Does (.discFault i sage) s fun t =>
    (t.lin l i).fault = 1 ∧ (t.lin l i).disc = T ∧ t.inEval l i = false ∧
    s.tbs.el + (T - x.disc) * 1000000 ≤ t.tbs.el)

/-- R324: a write of `SIO_IN_RESET` asks for the reset of the inputs written. -/
@[reducible] def sioInReset (ini : Ini) (v : Word) (s : State) : Prop :=
  s.verdictW ini (sioC + 0x04C) = .ok →
  Does (.sioInReset ini v) s fun t =>
    t.safe.rstIn = Nat.lor s.safe.rstIn v.toNat ∧ t.safe.rstOut = s.safe.rstOut ∧ t.safe.rstDz = s.safe.rstDz

/-- R333, R337: a write of `SIO_OUT_RESET` asks for the reset of the groups and door zones written. -/
@[reducible] def sioOutReset (ini : Ini) (v : Word) (s : State) : Prop :=
  s.verdictW ini (sioC + 0x050) = .ok →
  Does (.sioOutReset ini v) s fun t =>
    t.safe.rstOut = Nat.lor s.safe.rstOut (v.toNat % 64) ∧ t.safe.rstDz = Nat.lor s.safe.rstDz (v.toNat / 0x10000 % 4) ∧
    t.safe.rstIn = s.safe.rstIn

/-- R337: `DZ_RST` stands in the same register. -/
@[reducible] def dzRst (ini : Ini) (v : Word) (s : State) : Prop :=
  s.verdictW ini (sioC + 0x050) = .ok →
  Does (.dzRst ini v) s fun t =>
    t.safe.rstDz = Nat.lor s.safe.rstDz (v.toNat / 0x10000 % 4) ∧ t.safe.rstOut = Nat.lor s.safe.rstOut (v.toNat % 64)

/-- R329: a dark test of an energised output, at its time: the lanes take turns; a read-back that goes low is a good test and
counted, one that stays high faults the group in the lane that tested; a lane without its permit leaves its switch open.
Elsewhere nothing changes (log entry 3). -/
@[reducible] def darkTest (o : Fin 12) (rbLow : Bool) (s : State) : Prop :=
  let x := s.sw o
  let l := b2n x.darkSg
  (¬(s.laneUp 0 = true ∧ s.laneUp 1 = true ∧ s.outOn o = true) → exec (.darkTest o rbLow) s = .next s) ∧
  (s.laneUp 0 = true → s.laneUp 1 = true → s.outOn o = true →
  Does (.darkTest o rbLow) s fun t =>
    (t.sw o).darkAt = t.tbs.el ∧ (t.sw o).darkSg = !x.darkSg ∧ x.darkAt + 10000400000 ≤ t.tbs.el ∧
    (s.permit l o = false → (if l = 0 then t.hs o else t.ls o) = false) ∧
    (s.permit l o = true → rbLow = true → t.g (outP o) R.Sog.SO_DARK_CNT = bump s (outP o) R.Sog.SO_DARK_CNT) ∧
    (s.permit l o = true → rbLow = false → bitOf (t.lane l).grpF (o / 2) = true))

/-- A group is faulted in a lane: latched there with cause `SIO` of its car (R332, R343), its first fault shown. -/
@[reducible] def groupFaulted (s t : State) (l : Nat) (o : Fin 12) (reason : Nat) : Prop :=
  bitOf (t.lane l).grpF (o / 2) = true ∧
  (bitOf (s.lane l).grpF (o / 2) = false →
    bitOf (t.lcar l (o / 6)).cause 7 = true ∧ bitOf (t.lcar l (o / 6)).reasons 0 = true ∧
    t.b (sogP (o / 2)) R.Sog.STAT_FAULT = true ∧ raised t (sogP (o / 2)) 0 = true ∧
    (s.b (sogP (o / 2)) R.Sog.STAT_FAULT = false → t.g (sogP (o / 2)) R.Sog.STAT_FREASON = reason ∧
      t.g (sogP (o / 2)) R.Sog.STAT_FOUT = o % 2))

/-- R330, R332: a read-back that contradicts the switches for 2 ms, outside an energising, faults the group. Elsewhere nothing
changes (log entry 3). -/
@[reducible] def rbFault (o : Fin 12) (sage rb : Bool) (s : State) : Prop :=
  (¬(s.laneUp (b2n sage) = true ∧ s.outOn o ≠ rb ∧ (s.sw o).wait = false) → exec (.rbFault o sage rb) s = .next s) ∧
  (s.laneUp (b2n sage) = true → s.outOn o ≠ rb → (s.sw o).wait = false →
  Does (.rbFault o sage rb) s fun t =>
    groupFaulted s t (b2n sage) o (if rb then 4 else 3) ∧ s.tbs.el + 2000000 ≤ t.tbs.el)

/-- R331, R332: a contactor that does not follow in `T_FB` faults the group. Elsewhere nothing changes (log entry 3). -/
@[reducible] def fbTimeout (o : Fin 12) (sage : Bool) (s : State) : Prop :=
  let x := s.lout (b2n sage) o
  let T := s.g (outP o) R.Sog.SO_T_FB
  (¬(s.laneUp (b2n sage) = true ∧ x.fb = s.outOn o ∧ s.safe.vddLow = false ∧ x.tmr < T) → exec (.fbTimeout o sage) s = .next s) ∧
  (s.laneUp (b2n sage) = true → x.fb = s.outOn o → s.safe.vddLow = false → x.tmr < T →
  Does (.fbTimeout o sage) s fun t =>
    groupFaulted s t (b2n sage) o (if s.outOn o then 2 else 1) ∧ s.tbs.el + (T - x.tmr) * 1000000 ≤ t.tbs.el)

/-- R327: a write of `CTRL` of a group asks for its outputs. -/
@[reducible] def onReq (ini : Ini) (g : Fin 6) (v : Word) (s : State) : Prop :=
  s.verdictW ini (sogP g + 0x008) = .ok →
  Does (.onReq ini g v) s fun t =>
    t.b (sogP g) R.Hdr.CTRL_EN = bitOf v.toNat 0 ∧ t.b (sogP g) R.Sog.CTRL_ON_REQ0 = bitOf v.toNat 1 ∧
    t.b (sogP g) R.Sog.CTRL_ON_REQ1 = bitOf v.toNat 2 ∧ t.safe = s.safe

/-! ### RDM and Nib -/

/-- The result a commit shows (R433, R457). -/
@[reducible] def subAnswered (t : State) (p : Fin 2) (seq code : Nat) : Prop :=
  t.g (winP p) R.Win.NIB_SUB_RES_CODE = code ∧ t.g (winP p) R.Win.NIB_SUB_RES_SEQ = seq

/-- R433, R435, R437, R438: a commit is judged in order: not live, no such stream, no target, a number skipped, a number repeated;
a first copy that may go moves its stream on and waits in its target's queue; one that may not is held; a second copy with
equal contents is dropped. While the pair's earlier commit is held, it submits nothing (log entry 100). -/
@[reducible] def nibSubmit (ini : Ini) (p : Fin 2) (v : Word) (s : State) : Prop :=
  let a := winP p + 0x048
  let u := s.granted a
  let c := u.winCopy p v
  let x := u.stream c.stream
  let known := (streamWords c.stream).isSome = true ∧ u.noTarget c.stream = false
  let skips := seqAfter c.seq (x.pos p) = true
  s.verdictW ini a = .ok →
  ((u.pair p).held.isSome = true → Does (.nibSubmit ini p v) s fun t =>
    t.bus = .held ∧ t.pair p = u.pair p ∧ t.stream c.stream = u.stream c.stream ∧ t.regs = u.regs) ∧
  ((u.pair p).held = none →
  Does (.nibSubmit ini p v) s fun t =>
    (u.live p = false → subAnswered t p c.seq 7 ∧ t.g (apxP p) R.Apx.BAD_CNT = bump u (apxP p) R.Apx.BAD_CNT) ∧
    (u.live p = true → (streamWords c.stream).isSome = false → subAnswered t p c.seq 3) ∧
    (u.live p = true → (streamWords c.stream).isSome = true → u.noTarget c.stream = true → subAnswered t p c.seq 8) ∧
    (u.live p = true → known → skips → subAnswered t p c.seq 4 ∧
      t.g (apxP p) R.Apx.SKIP_CNT = bump u (apxP p) R.Apx.SKIP_CNT) ∧
    (u.live p = true → known → ¬skips → c.seq ≠ x.pos p → subAnswered t p c.seq 5 ∧
      t.g (apxP p) R.Apx.REPEAT_CNT = bump u (apxP p) R.Apx.REPEAT_CNT) ∧
    (u.live p = true → known → c.seq = x.pos p → c.seq = x.next → u.mustHold c = false →
      subAnswered t p c.seq 0 ∧ (t.stream c.stream).next = (c.seq + 1) % 65536 ∧
      (t.stream c.stream).pos p = (c.seq + 1) % 65536 ∧
      t.nibQ (streamBlk c.stream) = u.nibQ (streamBlk c.stream) ++ [{ c with relOk := (u.landEffect c).1 }]) ∧
    (u.live p = true → known → c.seq = x.pos p → c.seq = x.next → u.mustHold c = true →
      t.bus = .held ∧ (t.pair p).held.isSome = true ∧ t.b (apxP p) R.Apx.STAT_HOLD = true ∧
      t.g (apxP p) R.Apx.HOLD_CNT = bump u (apxP p) R.Apx.HOLD_CNT) ∧
    (u.live p = true → known → c.seq = x.pos p → c.seq ≠ x.next → (u.pair (1 - p)).held = none →
      (x.recs.find? fun r => r.seq == c.seq) = none →
      subAnswered t p c.seq 1 ∧ (t.stream c.stream).pos p = (c.seq + 1) % 65536 ∧
      t.nibQ (streamBlk c.stream) = u.nibQ (streamBlk c.stream)))

/-- R438: the head of a queue goes to its port and is counted, and a commit held for the queue follows; with no commit held
nothing else does. An `INSERT` acts as CLG_INSERT does. While CLG holds a command the next waits (R227). -/
@[reducible] def nibForward (blk : Fin 4) (c : NibCmd) (rest : List NibCmd) (s : State) : Prop :=
  let u := s.setNibQ blk rest
  let w (k : Nat) : Word := c.words.getD k 0#32
  ((s.domOn 5 = false ∨ s.nibQ blk = [] ∨ (blk = 2 ∧ s.clg.held ≠ [])) → exec (.nibForward blk) s = .next s) ∧
  (s.domOn 5 = true → s.nibQ blk = c :: rest → (blk = 2 → s.clg.held = []) →
    Does (.nibForward blk) s fun t =>
      t = (((u.nibPort c).inc apxC R.ApxC.NIB_FWD_CNT).retryAll) ∧
      (s.pair0.held = none → s.pair1.held = none → t = (u.nibPort c).inc apxC R.ApxC.NIB_FWD_CNT ∧
        t.nibQ blk = rest ∧ t.g apxC R.ApxC.NIB_FWD_CNT = bump s apxC R.ApxC.NIB_FWD_CNT) ∧
      (c.stream = 0 → w 6 = 0#32 → (w 7).toNat % 16 = 1 → c.seq < 65536 →
        exec (.clgInsert (w 0) (w 1) (w 2) (w 3) (w 4) (w 5) (BitVec.ofNat 16 ((w 7).toNat / 65536)) (BitVec.ofNat 16 c.seq)) u =
          .next (u.nibPort c)))

/-- R437, R440: `LAG_TMO` after a copy was held for the other pair, that pair fails with `LAG`, and the copy, with room in its
queue and its number still the next, is forwarded; while nothing is held for the other pair the command finds nothing to do. -/
@[reducible] def lagTimeout (p : Fin 2) (c : NibCmd) (s : State) : Prop :=
  ((s.pair p).held = none → exec (.lagTimeout p) s = .next s) ∧
  ((s.pair p).held = some c → s.domOn 5 = false ∨ s.leads c = false → exec (.lagTimeout p) s = .next s) ∧
  (s.domOn 5 = true → (s.pair p).held = some c → c.pair = p.val → s.leads c = true →
    Does (.lagTimeout p) s fun t =>
      t.pst (1 - p) = 5 ∧ t.g (rdmP (1 - p)) R.Rdm.STAT_FAIL_REASON = 5 ∧ (t.pair (1 - p)).held = none ∧
      raised t apxC 2 = true ∧ c.since + s.g apxC R.ApxC.NIB_CFG_LAG_TMO * 1000000 ≤ t.tbs.el ∧
      ((s.nibQ (streamBlk c.stream)).length < 16 → c.seq = (s.stream c.stream).next → c.seq < 65536 →
        (t.pair p).held = none ∧ subAnswered t p c.seq 0 ∧ (t.stream c.stream).next = (c.seq + 1) % 65536))

/-- R430, R442: `NIB_HELLO` in BOOT: beside a duty pair it joins, else it takes the duty; in any other state it changes no
state. -/
@[reducible] def nibHello (ini : Ini) (p : Fin 2) (v : Word) (s : State) : Prop :=
  let a := winP p + 0x054
  let u := s.granted a
  s.verdictW ini a = .ok →
  Does (.nibHello ini p v) s fun t =>
    t.pst p = (if u.pst p = 1 then (if u.pst (1 - p) = 4 then 2 else 4) else u.pst p) ∧
    t.pst (1 - p) = u.pst (1 - p) ∧ t.rd (apxP p + R.Apx.HELLO_VAL.off) = v ∧
    (u.pst p = 1 → (t.pair p).lastKick = u.tbs.el ∧ (t.pair p).booting = false)

/-- R440: a kick restarts the watchdog. -/
@[reducible] def nibWdgKick (ini : Ini) (p : Fin 2) (v : Word) (s : State) : Prop :=
  s.verdictW ini (winP p + 0x050) = .ok →
  Does (.nibWdgKick ini p v) s fun t =>
    (t.pair p).lastKick = s.tbs.el ∧ t.pair (1 - p) = s.pair (1 - p) ∧ t.pst p = s.pst p

/-- A pair has failed with a reason (R441): it is FAILED; had it the duty beside a standby pair, that pair takes over. -/
@[reducible] def pairFailed (s t : State) (p : Fin 2) (reason : Nat) : Prop :=
  t.pst p = 5 ∧ t.g (rdmP p) R.Rdm.STAT_FAIL_REASON = reason ∧ (t.pair p).held = none ∧
  (s.pst p = 4 → s.pst (1 - p) = 3 → t.pst (1 - p) = 4 ∧ t.g rdmC R.RdmC.TAKE_CNT = bump s rdmC R.RdmC.TAKE_CNT ∧
    t.g rdmC R.RdmC.TAKE_REASON = reason ∧ t.g rdmC R.RdmC.TAKE_PAIR = p ∧ raised t rdmC 1 = true)

/-- R440, R441: a watchdog that is not kicked for `WDG_TMO` fails the pair. Elsewhere nothing changes (log entry 3). -/
@[reducible] def wdgTimeout (p : Fin 2) (s : State) : Prop :=
  (s.timed p = false → exec (.wdgTimeout p) s = .next s) ∧
  (s.timed p = true →
  Does (.wdgTimeout p) s fun t =>
    pairFailed s t p 3 ∧ (s.pair p).lastKick + s.g rdmC R.RdmC.RDM_TIMING_WDG_TMO * 1000000 ≤ t.tbs.el)

/-- R430: five seconds in BOOT without `NIB_HELLO` fail the pair. Elsewhere nothing changes (log entry 3). -/
@[reducible] def bootTimeout (p : Fin 2) (s : State) : Prop :=
  (¬(s.domOn 5 = true ∧ s.pst p = 1) → exec (.bootTimeout p) s = .next s) ∧
  (s.domOn 5 = true → s.pst p = 1 →
  Does (.bootTimeout p) s fun t => pairFailed s t p 3 ∧ (s.pair p).bootAt + 5000000000 ≤ t.tbs.el)

/-- R442: 100 ms after no pair was left live each failed pair with power boots again, at most three times.
Elsewhere nothing changes (log entry 3). -/
@[reducible] def autoRestart (d : Nat) (s : State) : Prop :=
  (s.domOn 5 = false ∨ s.rdm.noPairAt = none → exec .autoRestart s = .next s) ∧
  (s.domOn 5 = true → s.rdm.noPairAt = some d →
  Does .autoRestart s fun t =>
    d + 100000000 ≤ t.tbs.el ∧ t.rdm.noPairAt = none ∧
    ∀ p : Fin 2,
      (s.pst p = 5 → s.domOn (3 + p) = true → (s.pair p).restarts < 3 →
        t.pst p = 1 ∧ (t.pair p).restarts = (s.pair p).restarts + 1 ∧ (t.pair p).bootSlot = (s.pair p).slot ∧
        (t.pair p).bootAt = t.tbs.el) ∧
      (3 ≤ (s.pair p).restarts → t.pst p = s.pst p))

/-- The states the pairs have once a `ROLE_SWAP` written 1 in `v` is done (R446): duty and standby exchanged. -/
@[reducible] def swappedPst (u : State) (v : Word) (p : Nat) : Nat :=
  if bitOf v.toNat 0 = true ∧ ((u.pst 0 = 4 ∧ u.pst 1 = 3) ∨ (u.pst 0 = 3 ∧ u.pst 1 = 4)) then u.pst (1 - p) else u.pst p

/-- R446: `ROLE_SWAP` exchanges duty and standby; without both it is discarded and counted, once for the whole word (R71). The
other bits of the word act as their own commands do; a pair that is restarted with it is the one that is not on duty then. -/
@[reducible] def roleSwap (ini : Ini) (v : Word) (s : State) : Prop :=
  let u := s.granted (rdmC + 0x060)
  let none4 := bitOf v.toNat 4 = false ∧ bitOf v.toNat 5 = false
  s.verdictW ini (rdmC + 0x060) = .ok →
  Does (.roleSwap ini v) s fun t =>
    (∀ d : Fin 2, u.pst d = 4 → u.pst (1 - d) = 3 →
      (bitOf v.toNat (4 + d) = false → t.pst d = 3) ∧ t.pst (1 - d) = 4 ∧
      t.g rdmC R.RdmC.SWAP_CNT = bump u rdmC R.RdmC.SWAP_CNT ∧ raised t rdmC 2 = true) ∧
    ((u.pst 0 ≠ 4 ∧ u.pst 1 ≠ 4) → t.g rdmC R.Hdr.FAULT_CNT = bump u rdmC R.Hdr.FAULT_CNT ∧
      (none4 → t.pst 0 = u.pst 0 ∧ t.pst 1 = u.pst 1)) ∧
    (bitOf v.toNat 1 = true → exec (.roleSwap ini v) s = exec (.admitPair ini (v ||| 1#32)) s) ∧
    ∀ p : Fin 2, bitOf v.toNat (4 + p) = true → exec (.roleSwap ini v) s = exec (.pairRestart ini p (v ||| 1#32)) s

/-- R445: `ADMIT` waits for a joining pair; with none it is discarded and counted, once for the whole word (R71). The
other bits of the word act as their own commands do. -/
@[reducible] def admitPair (ini : Ini) (v : Word) (s : State) : Prop :=
  let u := s.granted (rdmC + 0x060)
  let alone := bitOf v.toNat 0 = false ∧ bitOf v.toNat 4 = false ∧ bitOf v.toNat 5 = false
  s.verdictW ini (rdmC + 0x060) = .ok →
  Does (.admitPair ini v) s fun t =>
    (alone → (u.pst 0 = 2 ∨ u.pst 1 = 2) → t.rdm.admitting = true ∧ t.g rdmC R.Hdr.FAULT_CNT = u.g rdmC R.Hdr.FAULT_CNT) ∧
    (alone → (u.pst 0 ≠ 2 ∧ u.pst 1 ≠ 2) → t.rdm = u.rdm ∧ t.g rdmC R.Hdr.FAULT_CNT = bump u rdmC R.Hdr.FAULT_CNT) ∧
    ((u.pst 0 ≠ 2 ∧ u.pst 1 ≠ 2) → t.g rdmC R.Hdr.FAULT_CNT = bump u rdmC R.Hdr.FAULT_CNT) ∧
    (bitOf v.toNat 0 = true → exec (.admitPair ini v) s = exec (.roleSwap ini (v ||| 2#32)) s) ∧
    ∀ p : Fin 2, bitOf v.toNat (4 + p) = true → exec (.admitPair ini v) s = exec (.pairRestart ini p (v ||| 2#32)) s

/-- R430, R440: `RESTART` of a pair boots it from the named slot; the duty pair, after a `ROLE_SWAP` in the same word, is not
restarted, and the write is counted. -/
@[reducible] def pairRestart (ini : Ini) (p : Fin 2) (v : Word) (s : State) : Prop :=
  let u := s.granted (rdmC + 0x060)
  s.verdictW ini (rdmC + 0x060) = .ok →
  Does (.pairRestart ini p v) s fun t =>
    (swappedPst u v p = 4 → t.pst p = 4 ∧ t.g rdmC R.Hdr.FAULT_CNT = bump u rdmC R.Hdr.FAULT_CNT) ∧
    (swappedPst u v p ≠ 4 → u.pst p ≠ 0 → u.domOn (3 + p) = true →
      t.pst p = 1 ∧ (t.pair p).bootSlot = v.toNat / 2 ^ 8 % 2 ∧ (t.pair p).restarts = (u.pair p).restarts ∧ (t.pair p).booting = true) ∧
    (u.pst p = 0 → t.pst p = 0)

/-- R445: a requested admission is given once Quill is synchronised and no CLG command is under way. Elsewhere
nothing changes (log entry 3). -/
@[reducible] def admitted (d : Fin 2) (s : State) : Prop :=
  let may := s.domOn 5 = true ∧ s.rdm.admitting = true ∧ s.pst (1 - d) = 2 ∧ s.b rdmC R.RdmC.STAT_QSYNC = true ∧
    s.nibQ 2 = [] ∧ s.clg.held = []
  (s.duty = none ∨ s.duty = some d.val ∧ ¬may → exec .admitted s = .next s) ∧
  (s.duty = some d.val → may →
  Does .admitted s fun t =>
    t.pst (1 - d) = 3 ∧ t.pst d = 4 ∧ t.rdm.admitting = false ∧ raised t rdmC 4 = true)

/-- R444: the bulk copy of a window ends: the window of the other pair holds the duty's bytes and is synchronised; an
uncorrectable error read on the way fails the duty pair. With nothing left to copy nothing changes (log entry 3). -/
@[reducible] def quillBulkDone (w : Fin 32) (d q : Nat) (s : State) : Prop :=
  (s.domOn 5 = false ∨ s.duty = none ∨ s.quillTo = none ∨ Tab.get (fun _ => 0) s.rdm.left w = 0 →
    exec (.quillBulkDone w) s = .next s) ∧
  (s.domOn 5 = true → s.duty = some d → s.quillTo = some q → Tab.get (fun _ => 0) s.rdm.left w ≠ 0 →
  Does (.quillBulkDone w) s fun t =>
    (s.eccIn (s.qwAt w d) (s.qwLen w) 2 = false →
      t.b (qwP w) R.RdmC.QW_SYNCED = true ∧ Tab.get (fun _ => 0) t.rdm.left w = 0 ∧
      ∀ k < s.qwLen w, t.byte (s.qwAt w q + k) = s.byte (s.qwAt w d + k)) ∧
    (s.eccIn (s.qwAt w d) (s.qwLen w) 2 = true → t.pst d = 5 ∧ t.g (rdmP d) R.Rdm.STAT_FAIL_REASON = 2))

/-- R448, R449: a report that is accepted stands in the pair's page and clears its restarts; any other is counted. -/
@[reducible] def healthReport (ini : Ini) (p : Fin 2) (v : Word) (s : State) : Prop :=
  let a := winP p + 0x0BC
  let u := s.granted a
  let ws := u.hrWords p v
  s.verdictW ini a = .ok →
  Does (.healthReport ini p v) s fun t =>
    (u.hrOk p ws = true → ws.getD 6 0#32 = 0#32 →
      (∀ i < 16, t.rd (rdmP p + 0x040 + 4 * i) = ws.getD i 0#32) ∧ t.g (rdmP p) R.Rdm.HR_CNT = bump u (rdmP p) R.Rdm.HR_CNT ∧
      (t.pair p).reportNo = some (ws.getD 1 0#32).toNat ∧ (t.pair p).lastReport = u.tbs.el ∧ (t.pair p).restarts = 0) ∧
    (u.hrOk p ws = false → t.g (rdmP p) R.Rdm.HR_BAD_CNT = bump u (rdmP p) R.Rdm.HR_BAD_CNT ∧ raised t rdmC 5 = true)

/-- R449: `HR_TMO` without an accepted report is counted and is a health event. Elsewhere nothing changes (log entry 3). -/
@[reducible] def hrTimeout (p : Fin 2) (s : State) : Prop :=
  (s.timed p = false → exec (.hrTimeout p) s = .next s) ∧
  (s.timed p = true →
  Does (.hrTimeout p) s fun t =>
    t.g (rdmP p) R.Rdm.HR_MISS_CNT = bump s (rdmP p) R.Rdm.HR_MISS_CNT ∧ raised t rdmC 5 = true ∧
    (s.pair p).lastReport + s.g rdmC R.RdmC.RDM_TIMING_HR_TMO * 1000000 ≤ t.tbs.el)

/-- R450: the test slots follow each other every 10 ms; tests 1 and 3 run when they are requested and in each hundredth slot, and
a comparator of Nib or a watchdog that fails its test is shown. With a standby pair test 2 compares the next window, which is
copied again if it differs, and test 0 marches over the next 64 KiB of the pair's SRAM: a march that fails, fails the pair. -/
@[reducible] def testSlot (march : Fin 3) (nibOk wdgOk : Bool) (s : State) : Prop :=
  let req := s.g rdmC R.RdmC.TEST_REQ
  let grid := s.rdm.slots % 100 == 0
  let w := (s.nextQw s.rdm.nextWin).getD 0
  (s.domOn 5 = false → exec (.testSlot march nibOk wdgOk) s = .next s) ∧
  (s.domOn 5 = true → Does (.testSlot march nibOk wdgOk) s fun t =>
    t.rdm.slots = s.rdm.slots + 1 ∧ s.rdm.nextSlot ≤ t.tbs.el ∧ s.rdm.nextSlot + 10000000 ≤ t.rdm.nextSlot ∧
    bitOf (t.g rdmC R.RdmC.TEST_REQ) 1 = false ∧ bitOf (t.g rdmC R.RdmC.TEST_REQ) 3 = false ∧
    t.b apxC R.ApxC.STAT_NIB_BAD = (s.b apxC R.ApxC.STAT_NIB_BAD || ((grid || bitOf req 1) && !nibOk)) ∧
    ((grid || bitOf req 3) = true → wdgOk = false → bitOf (t.g rdmC R.RdmC.TEST_FAIL) 3 = true ∧ raised t rdmC 6 = true) ∧
    (s.duty = none → t.rdm.nextMarch = s.rdm.nextMarch ∧ t.pst 0 = s.pst 0 ∧ t.pst 1 = s.pst 1) ∧
    ∀ d : Fin 2, s.duty = some d.val → s.pst (1 - d) = 3 →
      (s.nextQw s.rdm.nextWin = none → t.rdm.nextMarch = (s.rdm.nextMarch + 1) % 64 ∧
        bitOf (t.g rdmC R.RdmC.TEST_REQ) 0 = false ∧ bitOf (t.g rdmC R.RdmC.TEST_REQ) 2 = false ∧
        (march ≠ 2 → s.eccIn (localSram (1 - d) + s.rdm.nextMarch * 0x10000) 0x10000 2 = false → t.pst (1 - d) = 3) ∧
        (march = 2 → t.pst (1 - d) = 5 ∧ t.g (rdmP (1 - d)) R.Rdm.STAT_FAIL_REASON = 2 ∧
          bitOf (t.g rdmC R.RdmC.TEST_FAIL) 0 = true)) ∧
      ((s.nextQw s.rdm.nextWin).isSome = true →
        crc32c (s.mbytes (s.qwAt w d) (s.qwLen w)) ≠ crc32c (s.mbytes (s.qwAt w (1 - d)) (s.qwLen w)) →
        t.b (qwP w) R.RdmC.QW_CMP_FAIL = true ∧ bitOf (t.g rdmC R.RdmC.TEST_FAIL) 2 = true ∧ raised t rdmC 5 = true ∧
        t.rdm.nextWin = (w + 1) % 32))

/-- R450: test requests join those that wait. -/
@[reducible] def testReq (ini : Ini) (v : Word) (s : State) : Prop :=
  let u := s.granted (rdmC + 0x078)
  s.verdictW ini (rdmC + 0x078) = .ok →
  Does (.testReq ini v) s fun t =>
    t.g rdmC R.RdmC.TEST_REQ = Nat.lor (u.g rdmC R.RdmC.TEST_REQ) (v.toNat % 16) ∧ t.rdm = u.rdm

/-- R528: an image that passes is the pair's, with its slot and its version, and stands in the pair's SRAM where its header says;
one that does not is shown with its code, and the other slot is tried once; a read of the directory that fails gives code 7. The
boot takes the time that the command brings (log entry 180). Elsewhere nothing changes (log entry 3). -/
@[reducible] def bootDone (p : Fin 2) (us : Fin 16001) (dirErr hdrErr bodyErr eccErr : Bool) (s : State) : Prop :=
  let x := s.pair p
  let code := (s.bootCheck p x.bootSlot dirErr hdrErr bodyErr eccErr).1
  let a := (s.bootCheck p x.bootSlot dirErr hdrErr bodyErr eccErr).2
  let res := if p.val = 0 then R.MemC.MEM_BOOT_STAT_RES0 else R.MemC.MEM_BOOT_STAT_RES1
  (¬(s.domOn 5 = true ∧ s.pst p = 1 ∧ x.booting = true) → exec (.bootDone p us dirErr hdrErr bodyErr eccErr) s = .next s) ∧
  (s.domOn 5 = true → s.pst p = 1 → x.booting = true →
  Does (.bootDone p us dirErr hdrErr bodyErr eccErr) s fun t =>
    t.tbs.el = s.tbs.el + us.val * 1000 ∧ (dirErr = true → code = 7) ∧
    t.g memC res = code ∧ t.pst p = 1 ∧
    (code = 0 → (t.pair p).booting = false ∧ (t.pair p).slot = x.bootSlot ∧ (t.pair p).version = s.mget (a + 8) 8 ∧
      (t.pair p).hash = bytesWords 16 (s.imageHash a) ∧
      ∀ k < s.mget (a + 0x10) 4, t.byte (localSram p + s.mget (a + 0x14) 4 + k) = s.byte (a + 256 + k)) ∧
    (code ≠ 0 → x.retried = false → (t.pair p).booting = true ∧ (t.pair p).retried = true ∧
      (t.pair p).bootSlot = 1 - x.bootSlot) ∧
    (code ≠ 0 → x.retried = true → (t.pair p).booting = false ∧ (t.pair p).slot = x.slot))

/-! ### IKW -/

/-- R466, R480: a firmware record with a code from 0x240 up takes the next number of its source and, with a token in its bucket,
room and nothing suppressed before it, stands last in the staging FIFO with its eight words; a lower code is discarded and
counted. -/
@[reducible] def ikwSwRecord (ini : Ini) (v : Word) (s : State) : Prop :=
  let u := s.granted (ikwC + 0x0A0)
  let c := v.toNat % 1024
  let src : Nat := iniSrc ini
  let n := Tab.get (fun _ => 0) u.ikw.sseq src
  s.verdictW ini (ikwC + 0x0A0) = .ok →
  Does (.ikwSwRecord ini v) s fun t =>
    (c < 0x240 → t.ikw = u.ikw ∧ t.g ikwC R.Hdr.FAULT_CNT = bump u ikwC R.Hdr.FAULT_CNT) ∧
    (0x240 ≤ c → 0 < u.g (ikwCodeP c) R.IkwCode.TOKENS → u.g (ikwSupP c) R.IkwSup.PEND = 0 →
      u.ikw.fifo.length < 112 → u.b ikwC R.IkwC.STAT_PFW = false →
      Tab.get (fun _ => 0) t.ikw.sseq src = (n + 1) % 65536 ∧
      t.ikw.fifo = u.ikw.fifo ++ [⟨u.stamp, c, u.g (ikwCodeP c) R.IkwCode.SEV, src, n, u.recFlags, u.pcr.pcycle, u.optime,
        (List.range 8).map fun i => u.rd (ikwC + 0x080 + 4 * i)⟩])

/-- R471, R472: the head of the FIFO is written to the slot at the head of the ring, byte by byte, and the head moves on; slots
that fail their read-back are counted and passed over. The records behind it stay. Elsewhere nothing changes (log entry 3). -/
@[reducible] def recordDrain (fails : Nat) (r : IkwRec) (rest : List IkwRec) (s : State) : Prop :=
  let h := s.g ikwC R.IkwC.IKW_HEAD
  let bad := R.IkwC.MRAM_ERR_CNT
  (s.b ikwC R.Hdr.CTRL_EN = false ∨ s.b ikwC R.IkwC.STAT_SCAN = true ∨ s.ikw.fifo = [] → exec (.recordDrain fails) s = .next s) ∧
  (s.b ikwC R.Hdr.CTRL_EN = true → s.b ikwC R.IkwC.STAT_SCAN = false → s.ikw.fifo = r :: rest →
  Does (.recordDrain fails) s fun t =>
    t.g ikwC R.IkwC.IKW_HEAD = (h + fails + 1) % 16384 ∧
    (∀ k < 64, t.byte (ikwSlot (h + fails) + k) = (ikwRecBytes r).getD k 0 % 256) ∧
    t.g ikwC bad = min (s.g ikwC bad + fails) (max (s.g ikwC bad) (2 ^ bad.w - 1)) ∧
    t.g ikwC R.IkwC.IKW_STORED_CNT = bump s ikwC R.IkwC.IKW_STORED_CNT ∧
    rest.all (t.ikw.fifo.contains ·) = true ∧
    (fails = 0 → s.ikwPending = [] → t.ikw.fifo = rest ∧ t.g ikwC R.IkwC.FIFO_USED = rest.length % 256))

/-- R467: the bucket of a code below its burst gains a token for every `REFILL` that has passed since its clock started, up to
the burst; where the code has records suppressed, their summary takes one of them (R469). A full bucket stays (log entry 3). -/
@[reducible] def tokenRefill (c : Fin 1024) (s : State) : Prop :=
  let pg := ikwCodeP c
  let per := s.g pg R.IkwCode.REFILL * 1000000
  let start := Tab.get (fun _ => 0) s.ikw.refill c.val
  (s.g pg R.IkwCode.BURST ≤ s.g pg R.IkwCode.TOKENS → exec (.tokenRefill c) s = .next s) ∧
  (s.g pg R.IkwCode.TOKENS < s.g pg R.IkwCode.BURST →
  Does (.tokenRefill c) s fun t =>
    let full := min (s.g pg R.IkwCode.BURST) (s.g pg R.IkwCode.TOKENS + (t.stamp - start) / per)
    (c.val ∉ s.ikwPending → t.g pg R.IkwCode.TOKENS = full ∧
      Tab.get (fun _ => 0) t.ikw.refill c.val = start + (t.stamp - start) / per * per) ∧
    (c.val ∈ s.ikwPending → t.g pg R.IkwCode.TOKENS = full ∨ t.g pg R.IkwCode.TOKENS + 1 = full))

/-- R470, R473: the first `EN` = 1 starts the scan of the ring; later writes of `CTRL` do not. -/
@[reducible] def ikwEnable (ini : Ini) (v : Word) (s : State) : Prop :=
  let u := s.granted (ikwC + 0x008)
  s.verdictW ini (ikwC + 0x008) = .ok →
  Does (.ikwEnable ini v) s fun t =>
    t.b ikwC R.Hdr.CTRL_EN = bitOf v.toNat 0 ∧ t.b ikwC R.IkwC.CTRL_ARC_EN = bitOf v.toNat 1 ∧
    (bitOf v.toNat 0 = true → u.ikw.scanned = false →
      t.ikw.scanned = true ∧ t.ikw.scanEnd = u.tbs.el + 33000000 ∧ t.b ikwC R.IkwC.STAT_SCAN = true) ∧
    ((bitOf v.toNat 0 = false ∨ u.ikw.scanned = true) → t.ikw = u.ikw ∧
      t.b ikwC R.IkwC.STAT_SCAN = u.b ikwC R.IkwC.STAT_SCAN)

/-- R473: the scan ends at its time; over a memory with no record the head stays. Elsewhere nothing changes (log entry 3). -/
@[reducible] def scanDone (s : State) : Prop :=
  (s.b ikwC R.IkwC.STAT_SCAN = false → exec .scanDone s = .next s) ∧
  (s.b ikwC R.IkwC.STAT_SCAN = true →
  Does .scanDone s fun t =>
    t.b ikwC R.IkwC.STAT_SCAN = false ∧ raised t ikwC 8 = true ∧ s.ikw.scanEnd ≤ t.tbs.el ∧
    (s.mem = [] → t.g ikwC R.IkwC.IKW_HEAD = s.g ikwC R.IkwC.IKW_HEAD ∧ t.ikw.arcq = []))

/-- R474: the oldest waiting page is copied into the next archive block; a copy that fails its check is counted and waits.
Elsewhere nothing changes (log entry 3). -/
@[reducible] def archiveCopy (ok : Bool) (pg : Nat) (rest : List Nat) (s : State) : Prop :=
  let h := s.g ikwC R.IkwC.ARC_HEAD
  (s.domOn 5 = false ∨ s.ikw.arcq = [] ∨ s.b ikwC R.IkwC.CTRL_ARC_EN = false ∨ s.b memC R.MemC.STAT_XSPI_BUSY = true →
    exec (.archiveCopy ok) s = .next s) ∧
  (s.domOn 5 = true → s.ikw.arcq = pg :: rest → s.b ikwC R.IkwC.CTRL_ARC_EN = true → s.b memC R.MemC.STAT_XSPI_BUSY = false →
  Does (.archiveCopy ok) s fun t =>
    t.g ikwC R.IkwC.ARC_HEAD = (h + 1) % max 1 (s.g ikwC R.IkwC.ARC_BLOCKS) % 65536 ∧
    (ok = true → t.ikw.arcq = rest ∧
      ∀ k < 4096, t.byte (xspiWin + s.g ikwC R.IkwC.IKW_ARC_BASE + h * 4096 + k) = s.byte (ikwRing + pg * 4096 + k)) ∧
    (ok = false → t.ikw.arcq = pg :: rest ∧ t.g ikwC R.IkwC.ARC_ERR_CNT = bump s ikwC R.IkwC.ARC_ERR_CNT))

/-- R477: a write of `IKW_RD_IDX` copies the slot into the sixteen read words. -/
@[reducible] def ikwRdIdx (ini : Ini) (v : Word) (s : State) : Prop :=
  s.verdictW ini (ikwC + 0x0B0) = .ok →
  Does (.ikwRdIdx ini v) s fun t =>
    t.g ikwC R.IkwC.IKW_RD_IDX = v.toNat % 16384 ∧
    ∀ i < 16, t.rd (ikwC + 0x0C0 + 4 * i) = wd (s.mget (ikwSlot (v.toNat % 16384) + 4 * i) 4)

/-- R467, R481: a code entry written with the lock open takes its fields and a full bucket; `REFILL` 0, and with the lock closed
any change, is discarded and counted; the severity of a hardware code stays. -/
@[reducible] def ikwCodeWrite (ini : Ini) (c : Fin 1024) (v : Word) (s : State) : Prop :=
  let pg := ikwCodeP c
  let u := s.granted pg
  let refill := v.toNat / 2 ^ 8 % 2 ^ 16
  let burst := v.toNat % 16
  s.verdictW ini pg = .ok →
  Does (.ikwCodeWrite ini c v) s fun t =>
    (refill = 0 → t.rd pg = u.rd pg ∧ t.g ikwC R.Hdr.FAULT_CNT = bump u ikwC R.Hdr.FAULT_CNT) ∧
    (refill ≠ 0 → u.lockOpen ikwC = true →
      t.g pg R.IkwCode.REFILL = refill ∧ t.g pg R.IkwCode.BURST = burst ∧ t.g pg R.IkwCode.TOKENS = burst ∧
      t.g pg R.IkwCode.SEV = (if 0x240 ≤ c.val then v.toNat / 2 ^ 26 % 4 else u.g pg R.IkwCode.SEV)) ∧
    (refill ≠ 0 → u.lockOpen ikwC = false → refill ≠ u.g pg R.IkwCode.REFILL ∨ burst ≠ u.g pg R.IkwCode.BURST →
      t.rd pg = u.rd pg ∧ t.g ikwC R.Hdr.FAULT_CNT = bump u ikwC R.Hdr.FAULT_CNT)

/-- R472: `FAULT` written 1 clears unless its filter is still lasting: then the write is discarded and counted. -/
@[reducible] def ikwFaultClear (ini : Ini) (v : Word) (s : State) : Prop :=
  let u := s.granted (ikwC + 0x00C)
  s.verdictW ini (ikwC + 0x00C) = .ok →
  Does (.ikwFaultClear ini v) s fun t =>
    (u.fwLasting 0xF3 = false → t.b ikwC R.IkwC.STAT_FAULT = false) ∧
    (u.fwLasting 0xF3 = true → t.rd (ikwC + 0x00C) = u.rd (ikwC + 0x00C) ∧
      t.g ikwC R.Hdr.FAULT_CNT = bump u ikwC R.Hdr.FAULT_CNT)

/-- R478: the service port sends no more records than asked for, each of a valid slot; the latest one is that before the head. -/
@[reducible] def ikwRead (n : Nat) (s : State) : Prop :=
  let last := ikwSlot (s.g ikwC R.IkwC.IKW_HEAD + 16383)
  Does (.ikwRead n) s fun t =>
    t.ikw.svc.length ≤ n ∧ t.ikw.fifo = s.ikw.fifo ∧ t.rd (ikwC + 0x048) = s.rd (ikwC + 0x048) ∧
    (n = 1 → s.recValid last = true → t.ikw.svc = [s.svcLine last]) ∧
    (n = 1 → s.recValid last = false → t.ikw.svc = [])

/-! ### PCR -/

/-- R490, R510: a permitted write of `PCR_OPP` while no change runs, in RUN and not under limp clock, starts a change: `BUSY` is
1 and `OPP_CUR` stands; in compatibility mode the request code of R487 is driven, `DVS_ACK` not yet seen. Otherwise the write is
discarded and counted. -/
@[reducible] def oppReq (ini : Ini) (v : Word) (s : State) : Prop :=
  let u := s.granted (pcrC + 0x04C)
  let o := v.toNat % 4
  let free : Prop := u.g pcrC R.PcrC.PCR_OPP_BUSY = 0 ∧ u.pcr.power = .run ∧ u.g pcrC R.PcrC.STAT_LIMP = 0
  s.verdictW ini (pcrC + 0x04C) = .ok →
  Does (.oppReq ini v) s fun t =>
    t.g pcrC R.PcrC.PCR_OPP_OPP_CUR = u.g pcrC R.PcrC.PCR_OPP_OPP_CUR ∧
    (free → t.g pcrC R.PcrC.PCR_OPP_OPP_REQ = o ∧ t.g pcrC R.PcrC.PCR_OPP_BUSY = 1 ∧
      (s.pmode = true → t.g pcrC R.PcrC.PCR_DVS_REQ = dvsCode o ∧ t.g pcrC R.PcrC.PCR_DVS_ACK = 0) ∧
      (s.pmode = false → t.g pcrC R.PcrC.PCR_DVS_REQ = u.g pcrC R.PcrC.PCR_DVS_REQ)) ∧
    (¬ free → t.rd (pcrC + 0x04C) = u.rd (pcrC + 0x04C) ∧ t.g pcrC R.Hdr.FAULT_CNT = bump u pcrC R.Hdr.FAULT_CNT)

/-- R489, R490: a change that completes writes `OPP_CUR`, ends `BUSY`, leaves `VCORE` at the level of the new point and raises
`OPP_DONE`; a failed one, in compatibility mode, raises `OPP_FAIL`: a raise takes `DVS_REQ` back, a lower keeps the lower
frequency. Elsewhere nothing changes (log entry 3). -/
@[reducible] def oppDone (ok : Bool) (s : State) : Prop :=
  let o := s.g pcrC R.PcrC.PCR_OPP_OPP_REQ
  (¬(s.g pcrC R.PcrC.PCR_OPP_BUSY = 1) → exec (.oppDone ok) s = .next s) ∧
  (s.g pcrC R.PcrC.PCR_OPP_BUSY = 1 →
  Does (.oppDone ok) s fun t =>
    t.g pcrC R.PcrC.PCR_OPP_BUSY = 0 ∧ t.g pcrC R.PcrC.PCR_OPP_OPP_REQ = o ∧
    (ok = true ∨ s.pmode = false → t.g pcrC R.PcrC.PCR_OPP_OPP_CUR = o ∧ raised t pcrC 2 = true ∧
      t.g pcrC R.PcrC.PCR_REGSTAT_VCORE = [800, 720, 650, 750].getD o 0) ∧
    (ok = false → s.pmode = true → raised t pcrC 3 = true ∧
      t.g pcrC R.PcrC.PCR_OPP_OPP_CUR = (if s.pcr.oppRaise then s.g pcrC R.PcrC.PCR_OPP_OPP_CUR else o) ∧
      t.g pcrC R.PcrC.PCR_DVS_REQ = (if s.pcr.oppRaise then s.pcr.dvsPrev % 8 else s.g pcrC R.PcrC.PCR_DVS_REQ)))

/-- R488, R490: `DVS_TMO` × 100 µs without an acknowledgement end the change with `OPP_FAIL`. Elsewhere nothing changes (log
entry 3). -/
@[reducible] def dvsAckTimeout (s : State) : Prop :=
  (¬(s.pmode = true ∧ s.g pcrC R.PcrC.PCR_OPP_BUSY = 1) → exec .dvsAckTimeout s = .next s) ∧
  (s.pmode = true → s.g pcrC R.PcrC.PCR_OPP_BUSY = 1 →
  Does .dvsAckTimeout s fun t =>
    t.g pcrC R.PcrC.PCR_OPP_BUSY = 0 ∧ raised t pcrC 3 = true ∧
    t.g pcrC R.PcrC.PCR_OPP_OPP_CUR =
      (if s.pcr.oppRaise then s.g pcrC R.PcrC.PCR_OPP_OPP_CUR else s.g pcrC R.PcrC.PCR_OPP_OPP_REQ))

/-- What a brown-out (`uv` = 0) or an undervoltage (1) leaves (R486, R502): its counter, its bit of `PCR_RST_CAUSE`, the event,
normal mode at the boot level, RUN; PD_AON, PD_SAGE and PD_SLP stand. -/
@[reducible] def supplyFaulted (uv : Nat) (s t : State) : Prop :=
  (uv = 0 → t.g pcrC R.PcrC.BO_CNT = bump s pcrC R.PcrC.BO_CNT ∧ t.g pcrC R.PcrC.UV_CNT = s.g pcrC R.PcrC.UV_CNT ∧
    bitOf (t.g pcrC R.PcrC.PCR_RST_CAUSE) 3 = true) ∧
  (uv = 1 → t.g pcrC R.PcrC.UV_CNT = bump s pcrC R.PcrC.UV_CNT ∧ t.g pcrC R.PcrC.BO_CNT = s.g pcrC R.PcrC.BO_CNT ∧
    bitOf (t.g pcrC R.PcrC.PCR_RST_CAUSE) 4 = true) ∧
  raised t pcrC 5 = true ∧ t.b pcrC R.PcrC.PCR_REGSTAT_LP = false ∧ t.pcr.power = .run ∧
  (∀ d < 3, t.dom d = s.dom d) ∧ t.pst 0 ≤ 1 ∧ t.pst 1 ≤ 1 ∧ (s.b (pcrP 5) R.Hdr.CTRL_EN = true → t.dom 5 = 1)

/-- R488: with `DVS_REQ` unchanged a lost acknowledgement is a brown-out in LP, an undervoltage otherwise. Elsewhere nothing
changes (log entry 3). -/
@[reducible] def dvsAckLost (s : State) : Prop :=
  (¬(s.pmode = true ∧ s.g pcrC R.PcrC.PCR_OPP_BUSY = 0 ∧ s.railUp = true) → exec .dvsAckLost s = .next s) ∧
  (s.pmode = true → s.g pcrC R.PcrC.PCR_OPP_BUSY = 0 → s.railUp = true →
  Does .dvsAckLost s fun t => supplyFaulted (1 - s.g pcrC R.PcrC.PCR_REGSTAT_LP) s t)

/-- R491: a core that executes a wait-for-interrupt is idle; nothing outside the core changes. Elsewhere nothing changes (log
entry 3). -/
@[reducible] def coreWfi (p c : Fin 2) (s : State) : Prop :=
  (¬(s.pairBlocked p = false ∧ s.domOn (3 + p) = true) → exec (.coreWfi p c) s = .next s) ∧
  (s.pairBlocked p = false → s.domOn (3 + p) = true →
  Does (.coreWfi p c) s fun t =>
    (c = 0 → (t.pair p).wfi0 = true ∧ (t.pair p).wfi1 = (s.pair p).wfi1) ∧
    (c = 1 → (t.pair p).wfi1 = true ∧ (t.pair p).wfi0 = (s.pair p).wfi0) ∧
    t.pair (1 - p) = s.pair (1 - p) ∧ SameRegs [] s t ∧ t.mem = s.mem)

/-- The check of R492, in its order, for `TARGET` 1 or 2 with the wake sources `act` active: code 0 is `OK`. -/
@[reducible] def sleepCode (s : State) (target act : Nat) : Nat :=
  if s.pcr.power ≠ .run ∨ s.g pcrC R.PcrC.PCR_OPP_BUSY = 1 ∨ s.g sagC R.SagC.SAG_LOAD_STAT_BUSY = 1 then 1
  else if ∃ g : Fin 6, s.relNow g = false then 2
  else if ∃ c ∈ s.spbCarList, s.atRest c = false ∨ s.gst c ∉ [0, 1, 6] ∨ s.xst c ∉ [0, 7] then 3
  else if ∃ n : Fin 8, s.g (dmcP n) R.Hdr.CTRL_EN = 1 ∧ s.dst n ∉ [0, 1, 3, 9] then 4
  else if target = 2 ∧ s.g pcrC R.PcrC.STAT_XAON_OK = 0 then 5
  else if s.g pcrC R.PcrC.STAT_LIMP = 1 then 6
  else if Nat.land act (s.wakeMask (target == 2)) ≠ 0 then 7
  else 0

/-- What a checked request leaves (R492): its code in `RESULT`; `SLEEP_REJ` for any code but `OK`; with `OK` the wait for the
cores, for 10 ms. -/
@[reducible] def sleepAsked (u : State) (target code : Nat) (t : State) : Prop :=
  t.g pcrC R.PcrC.PCR_SLEEP_STAT_RESULT = code ∧
  (code ≠ 0 → raised t pcrC 1 = true ∧ t.pcr = u.pcr) ∧
  (code = 0 → t.pcr.power = (if target = 1 then .toStandby else .toHibernate) ∧ t.pcr.coresBy = u.tbs.el + 10000000 ∧
    t.g pcrC R.Hdr.IRQ_RAW = u.g pcrC R.Hdr.IRQ_RAW)

/-- R492: STANDBY is asked for. -/
@[reducible] def sleepStandby (ini : Ini) (v : Word) (act : BitVec 9) (s : State) : Prop :=
  let u := s.granted (pcrC + 0x050)
  s.verdictW ini (pcrC + 0x050) = .ok →
  Does (.sleepStandby ini v act) s fun t => sleepAsked u 1 (sleepCode u 1 (u.wakeActive act.toNat)) t

/-- R492: HIBERNATE is asked for. -/
@[reducible] def sleepHibernate (ini : Ini) (v : Word) (act : BitVec 9) (s : State) : Prop :=
  let u := s.granted (pcrC + 0x050)
  s.verdictW ini (pcrC + 0x050) = .ok →
  Does (.sleepHibernate ini v act) s fun t => sleepAsked u 2 (sleepCode u 2 (u.wakeActive act.toNat)) t

/-- R492: some core is still awake 10 ms after the `OK`: code `CORES`, back in RUN. Elsewhere nothing changes (log entry 3). -/
@[reducible] def sleepCoresTimeout (s : State) : Prop :=
  (¬((s.pcr.power = .toStandby ∨ s.pcr.power = .toHibernate) ∧ s.coresWait = false) → exec .sleepCoresTimeout s = .next s) ∧
  ((s.pcr.power = .toStandby ∨ s.pcr.power = .toHibernate) → s.coresWait = false →
  Does .sleepCoresTimeout s fun t =>
    t.g pcrC R.PcrC.PCR_SLEEP_STAT_RESULT = 8 ∧ raised t pcrC 1 = true ∧ t.pcr.power = .run ∧ s.pcr.coresBy ≤ t.tbs.el)

/-- R493, R509: with every core waiting STANDBY is entered: the retained domains are RETAINED, PD_NET runs REDUCED, the supply
is in LP at 650 mV, and `APX_LOCK` and `DDR_LOCK` read 0; a wake event that came meanwhile starts the wake at once. Elsewhere
nothing changes (log entry 3). -/
@[reducible] def standbyEntry (s : State) : Prop :=
  (¬(s.pcr.power = .toStandby ∧ s.coresWait = true) → exec .standbyEntry s = .next s) ∧
  (s.pcr.power = .toStandby → s.coresWait = true →
  Does .standbyEntry s fun t =>
    (∀ d ∈ [3, 4, 5, 6, 8, 9], s.dom d = 1 → t.dom d = 2) ∧ (s.dom 7 = 1 → t.dom 7 = 3) ∧ (∀ d < 3, t.dom d = s.dom d) ∧
    t.g pcrC R.PcrC.PCR_REGSTAT_LP = 1 ∧ t.g pcrC R.PcrC.PCR_REGSTAT_VCORE = 650 ∧
    bitOf (t.g pcrC R.PcrC.PCR_CLKMON) 2 = false ∧ bitOf (t.g pcrC R.PcrC.PCR_CLKMON) 4 = false ∧
    t.mem = s.mem ∧ t.tbs.stopped = s.tbs.stopped ∧
    (s.dom 9 = 1 → s.b memC R.MemC.STAT_DDR_READY = true → t.g memC R.MemC.MEM_DDR_STAT_SREF = 1) ∧
    (s.pcr.wakePend = 0 → t.pcr.power = .standby) ∧
    (s.pcr.wakePend ≠ 0 → t.pcr.power = .wakeStandby ∧ t.g pcrC R.PcrC.PCR_WAKE_SRC =
      Nat.lor (s.g pcrC R.PcrC.PCR_WAKE_SRC) s.pcr.wakePend % 512))

/-- R494, R495, R502: with every core waiting HIBERNATE is entered: the save list is held, every switched domain is OFF with its
memory lost, `CK_TB` stands still, every PLL is stopped and the supply is in LP; a wake event before the save abandons it with
`WOKE`. Elsewhere nothing changes (log entry 3). -/
@[reducible] def hibernateEntry (s : State) : Prop :=
  (¬(s.pcr.power = .toHibernate ∧ s.coresWait = true) → exec .hibernateEntry s = .next s) ∧
  (s.pcr.power = .toHibernate → s.coresWait = true →
  Does .hibernateEntry s fun t =>
    (s.pcr.wakePend ≠ 0 → t.pcr.power = .run ∧ t.g pcrC R.PcrC.PCR_SLEEP_STAT_RESULT = 9 ∧ raised t pcrC 1 = true ∧
      (∀ d < 10, t.dom d = s.dom d)) ∧
    (s.pcr.wakePend = 0 → t.pcr.power = .hibernate ∧ t.pcr.saved = true ∧ t.pcr.save = s.saveList ∧
      (∀ d ∈ switched, t.dom d = 0) ∧ (∀ d < 3, t.dom d = s.dom d) ∧
      t.tbs.stopped = true ∧ t.tbs.hib = true ∧ t.g pcrC R.PcrC.PCR_REGSTAT_LP = 1 ∧
      Nat.land (t.g pcrC R.PcrC.PCR_CLKMON) 0x1F = 0 ∧ t.memc.dbgUnlocked = false))

/-- R496, R499: an enabled source that is active starts the wake from its sleep state, or a start that failed anew, and is
recorded; on the way into a sleep state it is latched. Elsewhere nothing changes (log entry 3). -/
@[reducible] def wakeEvent (src : Fin 9) (ch : Fin 8) (s : State) : Prop :=
  let asleep := s.pcr.power = .standby ∨ s.pcr.power = .hibernate ∨ s.pcr.power = .stuck
  let going := s.pcr.power = .toStandby ∨ s.pcr.power = .toHibernate
  let deep : Bool := s.pcr.power == .hibernate || s.pcr.power == .toHibernate || s.pcr.power == .stuck
  let u := if src = 0 then s.advanceTo s.wakeDue else s
  let on := (src = 7 ∨ src = 8 ∨ bitOf (s.g pcrC R.PcrC.PCR_WAKE_EN) src = true) ∧ (if deep then src ≠ 6 else src ≠ 4 ∧ src ≠ 8) ∧
    u.wakeHolds src ch = true
  (¬((asleep ∨ going) ∧ on) → exec (.wakeEvent src ch) s = .next s) ∧
  (asleep → on →
  Does (.wakeEvent src ch) s fun t =>
    t.g pcrC R.PcrC.PCR_WAKE_SRC = Nat.lor (s.g pcrC R.PcrC.PCR_WAKE_SRC) (2 ^ src.val) % 512 ∧
    t.pcr.power = (if s.pcr.power = .standby then .wakeStandby else if s.pcr.power = .hibernate then .wakeHibernate else .starting) ∧
    t.pcr.attempt = 0 ∧ t.regs.length ≤ u.regs.length + 1) ∧
  (going → on →
  Does (.wakeEvent src ch) s fun t => t.pcr = { u.pcr with wakePend := Nat.lor u.pcr.wakePend (2 ^ src.val) } ∧ t.regs = u.regs)

/-- R499: a failed attempt counts; the fourth of the regulator leaves the device in its sleep state with `FAULT.WAKE_REG`, the
fourth of the oscillator puts it under limp clock, each with `WAKE_FAIL`. The attempts of the oscillator count from the
regulator's end. Elsewhere nothing changes (log entry 3). -/
@[reducible] def wakeAttemptTimeout (osc : Bool) (s : State) : Prop :=
  let n := if osc = true ∧ s.pcr.wakeStep ≠ 1 then 0 else s.pcr.attempt
  let runs := (s.pcr.power = .wakeStandby ∨ s.pcr.power = .wakeHibernate ∨ s.pcr.power = .starting) ∧
    (if osc then s.b pcrC R.PcrC.STAT_LIMP = false else s.pcr.wakeStep ≠ 1)
  (¬runs → exec (.wakeAttemptTimeout osc) s = .next s) ∧
  (runs →
  Does (.wakeAttemptTimeout osc) s fun t =>
    t.g pcrC R.PcrC.WAKE_FAIL_CNT = bump s pcrC R.PcrC.WAKE_FAIL_CNT ∧
    (n < 3 → t.pcr.attempt = n + 1 ∧ t.pcr.power = s.pcr.power) ∧
    (3 ≤ n → raised t pcrC 8 = true ∧
      (osc = false → t.g pcrC R.PcrC.PCR_FAULT_WAKE_REG = 1 ∧ t.pcr.power = s.pcr.power.back) ∧
      (osc = true → t.g pcrC R.PcrC.STAT_LIMP = 1 ∧ t.g pcrC R.PcrC.PCR_FAULT_LIMP = 1 ∧ raised t pcrC 7 = true)))

/-- R497, R498, R495: a wake completes: RUN, the state left in `LAST`, `WAKE_REG` clear, `WAKE` raised; from STANDBY the domains
leave retention; from HIBERNATE those with `CTRL.EN` = 1 are powered, the save list comes back when its CRC holds, and else
`RESTORE_BAD` is set. Elsewhere nothing changes (log entry 3). -/
@[reducible] def wakeComplete (crcOk : Bool) (s : State) : Prop :=
  (s.pcr.power ≠ .wakeStandby → s.pcr.power ≠ .wakeHibernate → s.pcr.power ≠ .starting → exec (.wakeComplete crcOk) s = .next s) ∧
  Does (.wakeComplete crcOk) s fun t =>
    (s.pcr.power = .wakeStandby → t.pcr.power = .run ∧ t.g pcrC R.PcrC.PCR_SLEEP_STAT_LAST = 1 ∧
      t.g pcrC R.PcrC.PCR_FAULT_WAKE_REG = 0 ∧ raised t pcrC 0 = true ∧ t.g pcrC R.PcrC.PCR_REGSTAT_LP = 0 ∧
      (∀ d ∈ [3, 4, 5, 6, 8, 9], s.dom d = 2 → t.dom d = 1) ∧ (s.dom 7 = 3 → t.dom 7 = 1)) ∧
    (s.pcr.power = .wakeHibernate → t.pcr.power = .run ∧ t.g pcrC R.PcrC.PCR_SLEEP_STAT_LAST = 2 ∧
      t.g pcrC R.PcrC.PCR_FAULT_WAKE_REG = 0 ∧ raised t pcrC 0 = true ∧ t.g pcrC R.PcrC.PCR_REGSTAT_LP = 0 ∧
      t.tbs.stopped = (s.tbs.stopped && !s.tbs.hib) ∧
      (s.g pcrC R.PcrC.STAT_LIMP = 0 → ∀ d ∈ switched, s.b (pcrP d) R.Hdr.CTRL_EN = true → t.dom d = 1) ∧
      (crcOk = false ∨ s.pcr.saved = false → t.g pcrC R.PcrC.STAT_RESTORE_BAD = 1)) ∧
    (s.pcr.power = .starting → t.pcr.power = .run ∧ t.g pcrC R.PcrC.PCR_FAULT_WAKE_REG = 0)

/-- R486: a load above the limit in LP is a brown-out. Elsewhere nothing changes (log entry 3). -/
@[reducible] def brownOut (s : State) : Prop :=
  (¬(s.railUp = true ∧ s.g pcrC R.PcrC.PCR_REGSTAT_LP = 1) → exec .brownOut s = .next s) ∧
  (s.railUp = true → s.g pcrC R.PcrC.PCR_REGSTAT_LP = 1 →
  Does .brownOut s fun t => supplyFaulted 0 s t)

/-- R486: `VCORE` too low in RUN is an undervoltage. Elsewhere nothing changes (log entry 3). -/
@[reducible] def undervoltage (s : State) : Prop :=
  (¬(s.railUp = true ∧ s.g pcrC R.PcrC.PCR_REGSTAT_LP = 0) → exec .undervoltage s = .next s) ∧
  (s.railUp = true → s.g pcrC R.PcrC.PCR_REGSTAT_LP = 0 →
  Does .undervoltage s fun t => supplyFaulted 1 s t)

/-- R501, R500: a detection is counted and raises `CLKMON` unless the counter stood at all ones (R82), and its bit of
`PCR_CLKMON` reads 0; `XIN`, `PLL_SYS` and `PLL_APX` bring limp clock; `PLL_DDR` resets PD_DDR and its memory is lost. Elsewhere
nothing changes (log entry 3). -/
@[reducible] def clockFail (mon : Fin 5) (s : State) : Prop :=
  (s.monitored mon = false → exec (.clockFail mon) s = .next s) ∧
  (s.monitored mon = true →
  Does (.clockFail mon) s fun t =>
    (s.g pcrC R.PcrC.CLKMON_CNT < 2 ^ R.PcrC.CLKMON_CNT.w - 1 → raised t pcrC 6 = true) ∧
    t.g pcrC R.PcrC.CLKMON_CNT = bump s pcrC R.PcrC.CLKMON_CNT ∧
    bitOf (t.g pcrC R.PcrC.PCR_CLKMON) mon = false ∧
    (mon < 3 → t.g pcrC R.PcrC.STAT_LIMP = 1 ∧ t.g pcrC R.PcrC.PCR_FAULT_LIMP = 1 ∧ raised t pcrC 7 = true ∧
      (∀ d ∈ [6, 8, 9], s.dom d ≠ 0 → t.dom d = 4)) ∧
    (mon = 3 → t.g pcrC R.PcrC.STAT_LIMP = 0 ∧ ∀ d < 10, t.dom d = s.dom d) ∧
    (mon = 4 → t.dom 9 = 4 ∧ t.g pcrC R.PcrC.STAT_LIMP = 0 ∧ t.byte 0x80000000 = 0 ∧
      (s.domOn 5 = true → t.b memC R.MemC.STAT_DDR_READY = false)))

/-- R501: `XAON` fails: `XAON_OK` reads 0 and `CLKMON` and `AON_FAIL` are raised; in HIBERNATE it wakes the device as source
`CLK`. Elsewhere nothing changes (log entry 3). -/
@[reducible] def xaonFail (s : State) : Prop :=
  (¬(s.g pcrC R.PcrC.STAT_XAON_OK = 1) → exec .xaonFail s = .next s) ∧
  (s.g pcrC R.PcrC.STAT_XAON_OK = 1 →
  Does .xaonFail s fun t =>
    t.g pcrC R.PcrC.STAT_XAON_OK = 0 ∧ raised t pcrC 10 = true ∧
    (s.g pcrC R.PcrC.CLKMON_CNT < 2 ^ R.PcrC.CLKMON_CNT.w - 1 → raised t pcrC 6 = true) ∧
    t.g pcrC R.PcrC.CLKMON_CNT = bump s pcrC R.PcrC.CLKMON_CNT ∧
    (s.pcr.power = .hibernate → t.pcr.power = .wakeHibernate ∧ bitOf (t.g pcrC R.PcrC.PCR_WAKE_SRC) 8 = true) ∧
    (s.pcr.power = .run → t.pcr = s.pcr))

/-- R501: after 1,024 good periods `XAON_OK` reads 1 again. Elsewhere nothing changes (log entry 3). -/
@[reducible] def xaonRecover (s : State) : Prop :=
  (¬(s.pcr.power ≠ .off ∧ s.g pcrC R.PcrC.STAT_XAON_OK = 0) → exec .xaonRecover s = .next s) ∧
  (s.pcr.power ≠ .off → s.g pcrC R.PcrC.STAT_XAON_OK = 0 →
  Does .xaonRecover s fun t =>
    t.g pcrC R.PcrC.STAT_XAON_OK = 1 ∧ bitOf (t.g pcrC R.PcrC.PCR_CLKMON) 5 = true ∧ t.pcr.power = s.pcr.power)

/-- R502, R503: `nRESET` holds every domain but PD_AON in reset; the timebase (outside HIBERNATE, where it is reseeded first),
the memory, the records waiting in IKW and the life counters stand, `NRESET` is set beside the causes before it, and every other
register of the switched domains, the lanes and PCR reads its reset value. While the pin is ignored only the time of its level
is kept (R504). A reset in force or a device without supply stays as it is (log entry 3). -/
@[reducible] def nresetAssert (s : State) : Prop :=
  let ign := s.pcr.resetIgnored = true ∧ (s.pcr.resetHigh = false ∨ s.tbs.el < s.pcr.resetAt + 100000000)
  let runs := s.pcr.power ≠ .off ∧ s.pcr.power ≠ .held
  (¬runs → exec .nresetAssert s = .next s) ∧
  (runs → ign → exec .nresetAssert s = .next { s with pcr := { s.pcr with resetHigh := false, resetAt := s.tbs.el } }) ∧
  (runs → ¬ign →
  Does .nresetAssert s fun t =>
    t.pcr.power = .held ∧ (∀ d ∈ [3, 4, 5], t.dom d = 4) ∧ (∀ d ∈ [6, 7, 8, 9], t.dom d = 0) ∧ t.dom 0 = 1 ∧
    t.g pcrC R.PcrC.PCR_RST_CAUSE = Nat.lor (s.g pcrC R.PcrC.PCR_RST_CAUSE) 2 ∧
    (s.tbs.hib = false → t.tbs.acc = s.tbs.acc ∧ t.ikw.fifo = s.ikw.fifo) ∧ t.mem = s.mem ∧
    s.ikw.fifo.all (t.ikw.fifo.contains ·) = true ∧ t.pcr.pcycle = s.pcr.pcycle ∧
    (∀ b ∈ [2, 4, 5, 6, 7, 8, 9, 10, 11, 12, 13, 14, 15, 16, 17], t.g (blk b) R.Hdr.CTRL_EN = 0 ∧ t.g (blk b) R.Hdr.IRQ_RAW = 0) ∧ t.safe = {})

/-- R503, R502: when `nRESET` returns high the device boots from step 4: `RESET` is offered with the causes, the pairs are in
BOOT. While the pin is ignored only the time of its level is kept (R504); elsewhere nothing changes (log entry 3). -/
@[reducible] def nresetRelease (s : State) : Prop :=
  let back := s.pcr.resetIgnored = true ∧ s.pcr.resetHigh = false
  (s.pcr.power = .off ∨ s.pcr.power ≠ .held ∧ ¬back → exec .nresetRelease s = .next s) ∧
  (s.pcr.power ≠ .off → s.pcr.power ≠ .held → back →
    exec .nresetRelease s = .next { s with pcr := { s.pcr with resetHigh := true, resetAt := s.tbs.el } }) ∧
  (s.pcr.power = .held →
  Does .nresetRelease s fun t =>
    t.pcr.power = .run ∧
    (s.g pcrC R.PcrC.STAT_LIMP = 0 → (∀ d ∈ [3, 4, 5], s.b (pcrP d) R.Hdr.CTRL_EN = true → t.dom d = 1) ∧
      ∀ p : Fin 2, s.b (pcrP (3 + p)) R.Hdr.CTRL_EN = true → s.b (pcrP 5) R.Hdr.CTRL_EN = true → t.pst p = 1) ∧
    t.g pcrC R.PcrC.PCR_RST_CAUSE = s.g pcrC R.PcrC.PCR_RST_CAUSE ∧ t.g pcrC R.PcrC.PCR_OPP_OPP_CUR = 3 ∧
    t.tbs.stopped = false ∧ t.pcr.pcycle = s.pcr.pcycle)

/-- R504: with `RST_STUCK_EN` a pin low longer than `RST_STUCK_S` (0 means 30) is failed: the device boots, ignores the pin, sets
`STUCK` in both registers and writes the time held. Elsewhere nothing changes (log entry 3). -/
@[reducible] def resetStuck (s : State) : Prop :=
  let n := s.otpWord 0x184 / 256 % 256
  let sec := if n = 0 then 30 else n
  (¬(s.pcr.power = .held ∧ bitOf (s.otpWord 0x184) 1 = true) → exec .resetStuck s = .next s) ∧
  (s.pcr.power = .held → bitOf (s.otpWord 0x184) 1 = true →
  Does .resetStuck s fun t =>
    t.pcr.power = .run ∧ t.pcr.resetIgnored = true ∧ t.pcr.resetHigh = false ∧ s.pcr.resetAt + sec * 1000000000 ≤ t.tbs.el ∧
    bitOf (t.g pcrC R.PcrC.PCR_RST_CAUSE) 2 = true ∧ t.g pcrC R.PcrC.PCR_FAULT_STUCK = 1 ∧ raised t pcrC 9 = true ∧
    (s.tbs.el < s.pcr.resetAt + sec * 1000000000 → t.g pcrC R.PcrC.PCR_STUCK_MS = sec * 1000))

/-- R506, R499, R487, R485, R507: the start-up sequence: the strap is shown, PD_AON and PD_SLP are on and PD_SAGE with `VSAGE`,
`VCORE` is at the boot level, the timebase runs, the pairs are in BOOT, and the power-cycle count of a device with no valid
counters is 1; a regulator that is never ready leaves it off with `WAKE_REG`. Elsewhere nothing changes (log entry 3). -/
@[reducible] def powerOn (pmode vsage : Bool) (reg osc : Fin 5) (s : State) : Prop :=
  (¬(s.pcr.power = .off) → exec (.powerOn pmode vsage reg osc) s = .next s) ∧
  (s.pcr.power = .off →
  Does (.powerOn pmode vsage reg osc) s fun t =>
    t.pmode = pmode ∧ t.lh6161 = s.lh6161 ∧ t.dom 0 = 1 ∧ t.dom 2 = 1 ∧ t.dom 1 = b2n vsage ∧
    t.g pcrC R.PcrC.PCR_RST_CAUSE = 1 ∧
    (reg = 4 → t.pcr.power = .stuck ∧ t.g pcrC R.PcrC.PCR_FAULT_WAKE_REG = 1 ∧ raised t pcrC 8 = true ∧
      t.g pcrC R.PcrC.WAKE_FAIL_CNT = 4) ∧
    (reg ≠ 4 → t.pcr.power = .run ∧ t.dom 3 = 1 ∧ t.dom 4 = 1 ∧ t.dom 5 = 1 ∧ t.pst 0 = 1 ∧ t.pst 1 = 1 ∧
      t.tbs.stopped = false ∧ t.g pcrC R.PcrC.WAKE_FAIL_CNT = reg.val + osc.val ∧
      t.g pcrC R.PcrC.STAT_LIMP = (if osc = 4 then 1 else 0) ∧
      (osc ≠ 4 → t.g pcrC R.PcrC.PCR_REGSTAT_VCORE = 750) ∧
      ((∀ k < 128, s.byte (0x04004000 + k) = 0) → s.memc.bad = [] →
        t.pcr.pcycle = 1 ∧ raised t pcrC 11 = true)))

/-- R559, R502: power-on reset is in force: every register word reads its reset value, and the volatile memories are lost. -/
@[reducible] def powerLoss (s : State) : Prop :=
  Does .powerLoss s fun t =>
    t.regs = [] ∧ t.pcr = {} ∧ t.lh6161 = s.lh6161 ∧ t.pending = s.pending ∧
    ∀ a, t.byte a = if nonVolatile a then s.byte a else 0

/-- R507: every 60 s the operating time is written to the slot that is not the newest. Elsewhere nothing changes (log entry 3). -/
@[reducible] def lifeCheckpoint (s : State) : Prop :=
  let n := 1 - s.pcr.lifeSlot
  (¬(s.lifeRuns = true) → exec .lifeCheckpoint s = .next s) ∧
  (s.lifeRuns = true → s.pcr.lifeSlot < 2 →
  Does .lifeCheckpoint s fun t =>
    s.pcr.lastCkpt + 60000000000 ≤ t.tbs.el ∧ t.pcr.lifeSlot = n ∧ t.pcr.lastCkpt = t.tbs.el ∧
    t.mget (lifeAddr n) 4 = (s.mget (lifeAddr s.pcr.lifeSlot) 4 + 1) % 2 ^ 32 ∧
    t.mget (lifeAddr n + 4) 4 = s.pcr.pcycle % 2 ^ 32 ∧ t.mget (lifeAddr n + 8) 6 = t.optime % 2 ^ 48 ∧
    (∀ k < 64, t.byte (lifeAddr s.pcr.lifeSlot + k) = s.byte (lifeAddr s.pcr.lifeSlot + k)))

/-- R508: the power-fail warning takes a checkpoint, puts IKW into `PFW` mode and raises `PFW`. Elsewhere nothing changes (log
entry 3). -/
@[reducible] def pwrFail (s : State) : Prop :=
  (¬(s.lifeRuns = true ∧ s.g pcrC R.PcrC.PCR_PFW_PFW = 0 ∧ s.g pcrC R.PcrC.PCR_PFW_PFW_LEVEL ≠ 0) → exec .pwrFail s = .next s) ∧
  (s.lifeRuns = true → s.g pcrC R.PcrC.PCR_PFW_PFW = 0 → s.g pcrC R.PcrC.PCR_PFW_PFW_LEVEL ≠ 0 →
  Does .pwrFail s fun t =>
    t.g pcrC R.PcrC.PCR_PFW_PFW = 1 ∧ t.b ikwC R.IkwC.STAT_PFW = true ∧ raised t pcrC 4 = true ∧
    t.pcr.lifeSlot = 1 - s.pcr.lifeSlot ∧ t.pcr.lastCkpt = s.tbs.el)

/-- R508: the warning clears, and IKW leaves `PFW` mode. Elsewhere nothing changes (log entry 3). -/
@[reducible] def pwrFailClear (s : State) : Prop :=
  (¬(s.g pcrC R.PcrC.PCR_PFW_PFW = 1) → exec .pwrFailClear s = .next s) ∧
  (s.g pcrC R.PcrC.PCR_PFW_PFW = 1 →
  Does .pwrFailClear s fun t =>
    t.g pcrC R.PcrC.PCR_PFW_PFW = 0 ∧ t.b ikwC R.IkwC.STAT_PFW = false ∧ t.mem = s.mem ∧
    t.g pcrC R.PcrC.PCR_PFW_PFW_LEVEL = s.g pcrC R.PcrC.PCR_PFW_PFW_LEVEL)

/-- R512, R440: `CTRL.EN` of a domain: 1 powers it; 0 removes PD_MOT, PD_NET, PD_BNI or PD_DDR unless a block in it has `CTRL.EN`
= 1, and removes an APX domain only on the other, duty pair's word, as failure `POWER`; PD_AON, PD_SAGE, PD_SLP and PD_FAB
stay. -/
@[reducible] def domainEnable (ini : Ini) (d : Fin 10) (v : Word) (s : State) : Prop :=
  let pg := pcrP d
  let u := s.granted (pg + 0x008)
  let en := bitOf v.toNat 0
  s.verdictW ini (pg + 0x008) = .ok →
  Does (.domainEnable ini d v) s fun t =>
    (d < 3 ∨ d = 5 → t.b pg R.Hdr.CTRL_EN = u.b pg R.Hdr.CTRL_EN ∧ ∀ e < 10, t.dom e = u.dom e) ∧
    (2 < d → d ≠ 5 → en = true → u.b pg R.Hdr.CTRL_EN = false → u.g pcrC R.PcrC.STAT_LIMP = 0 →
      t.b pg R.Hdr.CTRL_EN = true ∧ t.dom d = 1) ∧
    (5 < d → en = false → u.b pg R.Hdr.CTRL_EN = true →
      (u.domBusy d = true → t.b pg R.Hdr.CTRL_EN = true ∧ t.dom d = u.dom d ∧ t.g pg R.Hdr.FAULT_CNT = bump u pg R.Hdr.FAULT_CNT) ∧
      (u.domBusy d = false → t.b pg R.Hdr.CTRL_EN = false ∧ t.dom d = 0)) ∧
    (∀ p : Fin 2, d = 3 + p.val → en = false → u.b pg R.Hdr.CTRL_EN = true →
      (ini = .pair (1 - p) → u.pst (1 - p) = 4 →
        t.b pg R.Hdr.CTRL_EN = false ∧ t.dom d = 0 ∧
        (u.pst p ≠ 0 → u.pst p ≠ 5 → t.pst p = 5 ∧ t.g (rdmP p) R.Rdm.STAT_FAIL_REASON = 1)) ∧
      (ini ≠ .pair (1 - p) → t.b pg R.Hdr.CTRL_EN = true ∧ t.dom d = u.dom d ∧ t.pst p = u.pst p ∧
        t.g pg R.Hdr.FAULT_CNT = bump u pg R.Hdr.FAULT_CNT))

/-- R61: a lane that loses its supply opens its switches of every safety output. Elsewhere nothing changes (log entry 3). -/
@[reducible] def laneSupplyLoss (sage : Bool) (s : State) : Prop :=
  let l := b2n sage
  (s.laneUp l = false → exec (.laneSupplyLoss sage) s = .next s) ∧
  (s.laneUp l = true →
  Does (.laneSupplyLoss sage) s fun t =>
    t.dom (if sage then 1 else 2) = 0 ∧ (∀ o < 12, (if sage then t.ls o else t.hs o) = false) ∧ t.laneUp l = false)

/-- R565: `VDDIO_S` too low opens every switch of both lanes. Elsewhere nothing changes (log entry 3). -/
@[reducible] def vddioSLow (s : State) : Prop :=
  (¬(s.safe.vddLow = false ∧ (s.laneUp 0 = true ∨ s.laneUp 1 = true)) → exec .vddioSLow s = .next s) ∧
  (s.safe.vddLow = false → (s.laneUp 0 = true ∨ s.laneUp 1 = true) →
  Does .vddioSLow s fun t => t.safe.vddLow = true ∧ ∀ o < 12, t.hs o = false ∧ t.ls o = false)

/-- R565: `VDDIO_S` returns: the switches stay as they are until the lanes close them. Elsewhere nothing changes (log entry 3). -/
@[reducible] def vddioSRecover (s : State) : Prop :=
  (s.safe.vddLow = false → exec .vddioSRecover s = .next s) ∧
  (s.safe.vddLow = true →
  Does .vddioSRecover s fun t => t.safe.vddLow = false ∧ SameRegs [] s t ∧ ∀ o < 12, t.hs o = s.hs o ∧ t.ls o = s.ls o)

/-! ### MEM -/

/-- What an uncorrectable error of grade 2 at word `a` leaves (R514, R518, R520). -/
@[reducible] def eccFailed (s t : State) (k : EccKind) (a : Nat) : Prop :=
  t.g memC (eccUeFld k) = bump s memC (eccUeFld k) ∧ t.rd (memC + 0x04C) = wd a ∧ raised t memC (eccBit k) = true

/-- R515, R514: the scrubber reads the next word of every region but SLP memory, wrapping at the end: a correctable error is
written back and counted, an uncorrectable one counted and logged; in pair-local SRAM it is failure `ECC` of the pair. Elsewhere
nothing changes (log entry 3). -/
@[reducible] def scrubRead (ecc : Fin 3) (s : State) : Prop :=
  let a := s.memc.scrub
  let grade := max (s.eccAt a) ecc
  (¬(s.domOn 5 = true ∧ s.g memC R.MemC.MEM_ECC_CFG_SCRUB_DIV ≠ 0) → exec (.scrubRead ecc) s = .next s) ∧
  (s.domOn 5 = true → s.g memC R.MemC.MEM_ECC_CFG_SCRUB_DIV ≠ 0 →
  Does (.scrubRead ecc) s fun t =>
    t.memc.scrub = (if a + 8 = 0x11600000 then 0x11700000 else if 0x11800000 ≤ a + 8 then 0x10000000 else a + 8) ∧
    (s.domOn (sramDomain a) = true → s.eccAt a ≤ 2 → a < 0x11600000 ∨ 0x11700000 ≤ a →
      (grade = 0 → t.g memC R.MemC.SRAM_CE = s.g memC R.MemC.SRAM_CE ∧ t.g memC R.MemC.SRAM_UE = s.g memC R.MemC.SRAM_UE) ∧
      (grade = 1 → t.g memC R.MemC.SRAM_CE = bump s memC R.MemC.SRAM_CE ∧ t.eccAt a = 0) ∧
      (grade = 2 → eccFailed s t .sram a ∧
        ∀ p : Fin 2, localSram p ≤ a → a < localSram p + 0x400000 → s.pst p ≠ 0 → s.pst p ≠ 5 →
          t.pst p = 5 ∧ t.g (rdmP p) R.Rdm.STAT_FAIL_REASON = 2)))

/-- R519, R520: `INIT` starts initialisation, to end within 25 ms, with `READY` and `TRAIN_FAIL` 0; a write that would change
`ECC` while `READY` = 1 is discarded and counted. -/
@[reducible] def ddrInit (ini : Ini) (v : Word) (s : State) : Prop :=
  let u := s.granted (memC + 0x054)
  let bad : Prop := u.b memC R.MemC.STAT_DDR_READY = true ∧ bitOf v.toNat 1 ≠ u.b memC R.MemC.MEM_DDR_CFG_ECC
  s.verdictW ini (memC + 0x054) = .ok →
  Does (.ddrInit ini v) s fun t =>
    (bad → t.rd (memC + 0x054) = u.rd (memC + 0x054) ∧ t.memc = u.memc ∧ t.g memC R.Hdr.FAULT_CNT = bump u memC R.Hdr.FAULT_CNT) ∧
    (¬ bad → t.g memC R.MemC.MEM_DDR_CFG_INIT = 0 ∧
      (u.lockOpen memC = true → t.g memC R.MemC.MEM_DDR_CFG_DENSITY = v.toNat / 16 % 16 ∧
        t.g memC R.MemC.MEM_DDR_CFG_RANKS = v.toNat / 4 % 4 ∧ t.b memC R.MemC.MEM_DDR_CFG_ECC = bitOf v.toNat 1) ∧
      (u.lockOpen memC = true → u.domOn 9 = true → t.memc.ddrInit = true ∧ t.memc.ddrBy = u.tbs.el + 25000000 ∧
        t.b memC R.MemC.STAT_DDR_READY = false ∧ t.g memC R.MemC.MEM_DDR_STAT_TRAIN_FAIL = 0))

/-- R519, R520: training ends: `READY` with the fitted size, an eighth less with `ECC`, or, when the 25 ms since `INIT` have
passed or training fails, `TRAIN_FAIL`; `DDR_READY` is raised. Elsewhere nothing changes (log entry 3). -/
@[reducible] def ddrReady (ok : Bool) (s : State) : Prop :=
  let ranks := s.g memC R.MemC.MEM_DDR_CFG_RANKS
  let den := s.g memC R.MemC.MEM_DDR_CFG_DENSITY
  let n := 512 * 2 ^ den * ranks
  (¬(s.memc.ddrInit = true ∧ s.dom 9 = 1 ∧ s.domOn 5 = true) → exec (.ddrReady ok) s = .next s) ∧
  (s.memc.ddrInit = true → s.dom 9 = 1 → s.domOn 5 = true →
  Does (.ddrReady ok) s fun t =>
    raised t memC 3 = true ∧ t.memc.ddrInit = false ∧
    (ok = true → s.tbs.el ≤ s.memc.ddrBy → t.b memC R.MemC.STAT_DDR_READY = true ∧
      (ranks = 1 ∨ ranks = 2 → den < 4 →
        (t.rd (memC + 0x05C)).toNat = if s.b memC R.MemC.MEM_DDR_CFG_ECC then n * 7 / 8 else n)) ∧
    (ok = false ∨ s.memc.ddrBy < s.tbs.el → t.g memC R.MemC.MEM_DDR_STAT_TRAIN_FAIL = 1 ∧
      t.b memC R.MemC.STAT_DDR_READY = s.b memC R.MemC.STAT_DDR_READY))

/-- R519: every 16 ms the controller polls MR4 and derates refresh. Elsewhere nothing changes (log entry 3). -/
@[reducible] def ddrMr4Poll (rate : Fin 8) (s : State) : Prop :=
  (¬(s.b memC R.MemC.STAT_DDR_READY = true ∧ s.dom 9 = 1) → exec (.ddrMr4Poll rate) s = .next s) ∧
  (s.b memC R.MemC.STAT_DDR_READY = true → s.dom 9 = 1 →
  Does (.ddrMr4Poll rate) s fun t =>
    t.memc.ddrDerate = rate ∧ s.memc.mr4At ≤ t.tbs.el ∧ t.memc.mr4At = max s.memc.mr4At t.tbs.el + 16000000)

/-- What a permitted write of `MEM_XSPI_CMD` with `OP` leaves (R521): a command starts, with the offset, the data and the length
as they stand; only the duty pair may start one, and not while one runs. -/
@[reducible] def xspiStarted (op : Nat) (ini : Ini) (v : Word) (u t : State) : Prop :=
  let may : Prop := (∃ p : Fin 2, ini = .pair p) ∧ u.b memC R.MemC.STAT_XSPI_BUSY = false
  (may → t.b memC R.MemC.STAT_XSPI_BUSY = true ∧
    t.memc.xspi = some ⟨op, (u.rd (memC + 0x068)).toNat % 0x20000000,
      (wordsBytes ((List.range 64).map fun i => u.rd (memC + 0x500 + 4 * i))).take (v.toNat / 2 ^ 16)⟩) ∧
  (¬ may → t.memc = u.memc ∧ t.rd (memC + 0x064) = u.rd (memC + 0x064) ∧ t.g memC R.Hdr.FAULT_CNT = bump u memC R.Hdr.FAULT_CNT)

/-- R521: a 4 KiB sector erase starts. -/
@[reducible] def xspiErase (ini : Ini) (v : Word) (s : State) : Prop :=
  s.verdictW ini (memC + 0x064) = .ok →
  Does (.xspiErase ini v) s fun t => xspiStarted 1 ini v (s.granted (memC + 0x064)) t

/-- R521: a page program starts. -/
@[reducible] def xspiProgram (ini : Ini) (v : Word) (s : State) : Prop :=
  s.verdictW ini (memC + 0x064) = .ok →
  Does (.xspiProgram ini v) s fun t => xspiStarted 2 ini v (s.granted (memC + 0x064)) t

/-- R521: the command ends: no other byte of memory than those of its sector or page changes; a program that succeeds clears the
bits its data hold 0 (log entry 147, presumed: an erased byte reads 0xFF); a failure counts in `XSPI_ERR`. Elsewhere nothing
changes (log entry 3). -/
@[reducible] def xspiDone (ok : Bool) (c : XspiCmd) (s : State) : Prop :=
  let a := flash + (if c.op = 1 then c.addr / 4096 * 4096 else c.addr)
  let n := if c.op = 1 then 4096 else c.data.length
  (s.memc.xspi = none ∨ s.domOn 5 = false → exec (.xspiDone ok) s = .next s) ∧
  (s.memc.xspi = some c → s.domOn 5 = true →
  Does (.xspiDone ok) s fun t =>
    t.memc.xspi = none ∧ t.b memC R.MemC.STAT_XSPI_BUSY = false ∧ raised t memC 4 = true ∧
    t.g memC R.MemC.XSPI_ERR = (if ok then s.g memC R.MemC.XSPI_ERR else bump s memC R.MemC.XSPI_ERR) ∧
    (∀ x, x < a ∨ a + n ≤ x → t.byte x = s.byte x) ∧
    (ok = true → c.op = 1 → ∀ k < 4096, t.byte (a + k) = 0xFF) ∧
    (ok = true → c.op ≠ 1 → ∀ k < n, t.byte (a + k) = Nat.land (s.byte (a + k)) (c.data.getD k 0) % 256))

/-- R523: a write of `MEM_OTP_DATA` while no request runs asks for the word at `MEM_OTP_ADDR`; MEM refuses a word it keeps for
itself and data that would clear a bit. -/
@[reducible] def otpProgram (ini : Ini) (v : Word) (s : State) : Prop :=
  let u := s.granted (memC + 0x090)
  let a := u.g memC R.MemC.MEM_OTP_ADDR / 4 * 4
  let refused : Prop := (0x190 ≤ a ∧ a < 0x1B8) ∨ 0x200 ≤ a ∨ Nat.land (u.otpWord a) v.toNat ≠ u.otpWord a
  s.verdictW ini (memC + 0x090) = .ok →
  Does (.otpProgram ini v) s fun t =>
    t.mem = s.mem ∧
    (u.memc.otp.isSome = true → t.memc = u.memc ∧ t.g memC R.Hdr.FAULT_CNT = bump u memC R.Hdr.FAULT_CNT) ∧
    (u.memc.otp = none →
      (refused → t.memc = u.memc ∧ t.g memC R.MemC.MEM_OTP_STAT_RESULT = 1) ∧
      (¬ refused → t.memc.otp = some (a, v.toNat)))

/-- R523: the word is programmed and read back: `OK`, the word holding the data, or `VERIFY_FAIL`; no other byte changes.
Elsewhere nothing changes (log entry 3). -/
@[reducible] def otpDone (ok : Bool) (a d : Nat) (s : State) : Prop :=
  (s.memc.otp = none ∨ s.domOn 5 = false → exec (.otpDone ok) s = .next s) ∧
  (s.memc.otp = some (a, d) → s.domOn 5 = true →
  Does (.otpDone ok) s fun t =>
    t.memc.otp = none ∧ t.g memC R.MemC.MEM_OTP_STAT_RESULT = (if ok then 0 else 2) ∧ raised t memC 7 = true ∧
    (ok = true → t.otpWord a = d % 2 ^ 32) ∧ (∀ x, x < otpBase + a ∨ otpBase + a + 4 ≤ x → t.byte x = s.byte x))

/-- R525: an advance programs the next empty entry when the value is above the counter, no live pair booted a lower version and
an entry is free; else it is refused as `LOWER`, `IN_USE` or `EXHAUSTED`. -/
@[reducible] def arbAdvance (ini : Ini) (v : Word) (s : State) : Prop :=
  let u := s.granted (memC + 0x084)
  let n := (u.rd (memC + 0x080)).toNat + 2 ^ 32 * v.toNat
  let r := if n ≤ u.arbCounter then 1 else if ∃ p : Fin 2, u.live p = true ∧ (u.pair p).version < n then 2
    else if 32 ≤ u.arbUsed then 3 else 0
  s.verdictW ini (memC + 0x084) = .ok →
  Does (.arbAdvance ini v) s fun t =>
    t.g memC R.MemC.MEM_ARB_STAT_RESULT = r ∧ raised t memC 6 = true ∧
    (r ≠ 0 → t.mem = s.mem) ∧
    (r = 0 → t.arb u.arbUsed = n ∧ t.arbCounter = n ∧ t.arbUsed = u.arbUsed + 1)

/-- R527: a write of `MEM_BOOT_SEL` writes the copy not in force, with the next `SEQ`; the other copy stands. -/
@[reducible] def memBootSel (ini : Ini) (v : Word) (s : State) : Prop :=
  let u := s.granted (memC + 0x070)
  let n := match u.bootRecNo with | some k => 1 - k | none => 0
  let seq := match u.bootRecNo with | some k => u.mget (bootRec k) 4 + 1 | none => 1
  s.verdictW ini (memC + 0x070) = .ok →
  Does (.memBootSel ini v) s fun t =>
    t.g memC R.MemC.MEM_BOOT_SEL = v.toNat % 4 ∧
    t.mget (bootRec n) 4 = seq % 2 ^ 32 ∧ t.byte (bootRec n + 4) = v.toNat % 2 ∧ t.byte (bootRec n + 5) = v.toNat / 2 % 2 ∧
    wd (t.mget (bootRec n + 0x3C) 4) = crc32c (t.mbytes (bootRec n) 60) ∧
    (∀ x, x < bootRec n ∨ bootRec n + 64 ≤ x → t.byte x = s.byte x)

/-- R529: `REQ` latches the nonce and the timebase; while `ATT_BUSY` is 1 it is discarded and counted. -/
@[reducible] def attReq (ini : Ini) (v : Word) (s : State) : Prop :=
  let u := s.granted (memC + 0x0C0)
  s.verdictW ini (memC + 0x0C0) = .ok →
  Does (.attReq ini v) s fun t =>
    (u.b memC R.MemC.STAT_ATT_BUSY = false → t.b memC R.MemC.STAT_ATT_BUSY = true ∧ t.memc.attAt = u.stamp ∧
      t.memc.attNonce = (List.range 8).map fun i => u.rd (memC + 0x0A0 + 4 * i)) ∧
    (u.b memC R.MemC.STAT_ATT_BUSY = true → t.memc = u.memc ∧ t.g memC R.Hdr.FAULT_CNT = bump u memC R.Hdr.FAULT_CNT)

/-- R529: the report is placed with its signature: magic, format, serial number, chip id, the timebase at `REQ`, the nonce;
the signature is `DEV_PRIV`'s over bytes 0x000 to 0x0FF of the report (log entry 159: the key's 32 bytes are the seed of RFC
8032), after the time that the command brings (log entry 180). Elsewhere nothing changes (log entry 3). -/
@[reducible] def attDone (us : Fin 2001) (s : State) : Prop :=
  let w (t : State) (o : Nat) : Word := t.rd (memC + 0x200 + o)
  let body (t : State) : List Nat := wordsBytes ((List.range 64).map fun i => w t (4 * i))
  (¬(s.b memC R.MemC.STAT_ATT_BUSY = true ∧ s.domOn 5 = true) → exec (.attDone us) s = .next s) ∧
  (s.b memC R.MemC.STAT_ATT_BUSY = true → s.domOn 5 = true →
  Does (.attDone us) s fun t =>
    t.tbs.el = s.tbs.el + us.val * 1000 ∧
    t.b memC R.MemC.STAT_ATT_BUSY = false ∧ raised t memC 5 = true ∧
    w t 0x000 = 0x5454414C#32 ∧ (w t 0x004).toNat % 2 ^ 16 = 1 ∧
    bitOf (w t 0x004).toNat 16 = s.memc.dbgUnlocked ∧ bitOf (w t 0x004).toNat 17 = s.b apxC R.ApxC.STAT_SIMPLEX ∧
    bitOf (w t 0x004).toNat 18 = s.b pcrC R.PcrC.STAT_LIMP ∧
    w t 0x008 = wd (s.otpWord 0x1B0) ∧ w t 0x00C = wd (s.otpWord 0x1B4) ∧ w t 0x010 = s.look (pcrC + 0x040) ∧
    w t 0x014 = wd s.pcr.pcycle ∧ w t 0x020 = lo32 s.memc.attAt ∧ w t 0x024 = hi32 s.memc.attAt ∧
    (w t 0x028).toNat % 256 = s.lifecycle ∧ w t 0x02C = s.rd (sagC + R.SagC.SAG_SAFE_CHECK.off) ∧
    w t 0x038 = lo32 s.arbCounter ∧ w t 0x03C = hi32 s.arbCounter ∧
    (∀ i < 8, w t (0x0C0 + 4 * i) = wd (s.lastingMap i)) ∧
    (s.memc.attNonce.length = 8 → ∀ i < 8, w t (0x0E0 + 4 * i) = s.memc.attNonce.getD i 0) ∧
    (∀ i < 16, w t (0x100 + 4 * i) = (bytesWords 16 (edSign (s.mbytes (otpBase + 0x300) 32) (body t))).getD i 0))

/-- R531: a read of `MEM_DBG_CHAL0` draws a challenge that ends with the serial number and the power-cycle count; while challenges
are refused none is open. -/
@[reducible] def dbgChallenge (ini : Ini) (s : State) : Prop :=
  s.verdictR ini (memC + 0x400) = .ok →
  Does (.dbgChallenge ini) s fun t =>
    (s.memc.dbgLockEnd = none → t.memc.chalOpen = true ∧ t.rd (memC + 0x414) = wd (s.otpWord 0x1B0) ∧
      t.rd (memC + 0x418) = wd (s.otpWord 0x1B4) ∧ t.rd (memC + 0x41C) = wd s.pcr.pcycle ∧
      t.bus = .done (t.rd (memC + 0x400)).toNat) ∧
    (s.memc.dbgLockEnd.isSome = true → t.memc.chalOpen = false)

/-- R531: one submission a challenge: the key, the signature over the challenge and the scope, and the scope are taken as they
stand, and the verdict is that the key is the one `DEBUG_HASH` names and its signature verifies; a submission beside an open
challenge is discarded and counted. -/
@[reducible] def dbgSubmit (ini : Ini) (v : Word) (s : State) : Prop :=
  let u := s.granted (memC + 0x4A0)
  let ws (o n : Nat) : List Nat := wordsBytes ((List.range n).map fun i => u.rd (memC + o + 4 * i))
  let ok := sha512 (ws 0x480 8) == u.mbytes (otpBase + 0x140) 64 && edVerify (ws 0x480 8) (ws 0x440 16) (ws 0x400 8 ++ ws 0x420 1)
  s.verdictW ini (memC + 0x4A0) = .ok →
  Does (.dbgSubmit ini v) s fun t =>
    (u.memc.chalOpen = true → u.memc.dbgSub = false → 
      t.memc = { u.memc with
        chalOpen := false, dbgSub := true, subOk := ok, subScope := (u.rd (memC + 0x420)).toNat }) ∧
    (u.memc.chalOpen = false ∨ u.memc.dbgSub = true →
      t.memc = u.memc ∧ t.g memC R.Hdr.FAULT_CNT = bump u memC R.Hdr.FAULT_CNT)

/-- R530, R531: MEM opens debug access with the scope asked for when the submission verified, never in SEALED, or counts a
failure; after three failures (log entry 126: counted since the last refusal or success) challenges are refused for 60 s.
It takes the time that the command brings (log entry 180). Elsewhere nothing changes (log entry 3). -/
@[reducible] def dbgResult (us : Fin 2000) (ticks : Fin 101) (s : State) : Prop :=
  let good : Prop := s.memc.subOk = true ∧ s.lifecycle ≠ 2
  (¬(s.memc.dbgSub = true ∧ s.domOn 5 = true) → exec (.dbgResult us ticks) s = .next s) ∧
  (s.memc.dbgSub = true → s.domOn 5 = true →
  Does (.dbgResult us ticks) s fun t =>
    t.tbs.el = s.tbs.el + us.val * 1000 + ticks.val * 10 ∧
    t.memc.dbgSub = false ∧
    (good → t.memc.dbgUnlocked = true ∧ t.dbgOpen = true ∧ raised t memC 8 = true ∧ t.g memC R.MemC.MEM_DBG_STAT_FAILS = 0 ∧
      t.g memC R.MemC.MEM_DBG_STAT_SCOPE = s.memc.subScope % 4 ∧ t.memc.failRun = 0) ∧
    (¬ good → t.memc.dbgUnlocked = s.memc.dbgUnlocked ∧ t.dbgOpen = s.dbgOpen ∧ raised t memC 9 = true ∧
      t.g memC R.MemC.MEM_DBG_STAT_FAILS = min 15 (s.g memC R.MemC.MEM_DBG_STAT_FAILS + 1) ∧
      (s.memc.failRun < 2 → t.memc.failRun = s.memc.failRun + 1 ∧ t.memc.dbgLockEnd = s.memc.dbgLockEnd) ∧
      (s.memc.failRun = 2 → t.memc.failRun = 0 ∧ t.memc.dbgLockEnd = some (t.tbs.el + 60000000000))))

/-- R531: 60 s later challenges are accepted again. With no refusal running nothing changes (log entry 3). -/
@[reducible] def dbgLockoutEnd (at_ : Nat) (s : State) : Prop :=
  (s.memc.dbgLockEnd = none → exec .dbgLockoutEnd s = .next s) ∧
  (s.memc.dbgLockEnd = some at_ → Does .dbgLockoutEnd s fun t => t.memc.dbgLockEnd = none ∧ at_ ≤ t.tbs.el ∧ t.regs = s.regs)

/-- R530: `IDCODE` shifts out `PCR_CHIPID` in every state; `EXTEST` and `CLAMP` force the outputs to 0 only while debug access is
open (log entry 148: else as `BYPASS`). -/
@[reducible] def jtagInstruction (ir : JtagIr) (s : State) : Prop :=
  Does (.jtagInstruction ir) s fun t =>
    (ir = .idcode → t.memc.jtagOut = (s.look (pcrC + 0x040)).toNat) ∧
    (t.memc.jtagForce = true ↔ (ir = .extest ∨ ir = .clamp) ∧ s.dbgOpen = true) ∧
    t.regs = s.regs ∧ t.mem = s.mem

/-! ### BNI -/

/-- R535, R536: the link follows the PHY at 1000 Mbit/s full duplex only; each change raises `LINK`, and a fall that turns its
filter lasting sets `FAULT`. Elsewhere nothing changes (log entry 3). -/
@[reducible] def linkChange (n : Fin 2) (up speedOk : Bool) (s : State) : Prop :=
  let pg := bniP n
  let now := up && speedOk
  (s.bniOn n = false → exec (.linkChange n up speedOk) s = .next s) ∧
  (s.bniOn n = true →
  Does (.linkChange n up speedOk) s fun t =>
    t.b pg R.Bni.STAT_LINK = now ∧ t.b pg R.Bni.STAT_SPEED_ERR = (up && !speedOk) ∧
    (s.b pg R.Bni.STAT_LINK ≠ now → raised t pg 8 = true) ∧
    (s.b pg R.Bni.STAT_LINK = true → now = false → s.fwLasting (0xE6 + n) = false →
      s.g (fwP (0xE6 + n)) R.Fw.K = 1 → s.domOn 5 = true → t.fwLasting (0xE6 + n) = true ∧ t.b pg R.Bni.STAT_FAULT = true))

/-- R535, R541: a frame too long or with a bad FCS is counted; one of a class at its limit, or with no descriptor free, is dropped
and counted; any other of the port's classes goes to its ring: the frame lies in the buffer of the descriptor at `HEAD`, which is
handed back. Elsewhere nothing changes (log entry 3). -/
@[reducible] def ethFrameReceived (n : Fin 2) (f : EthFrame) (s : State) : Prop :=
  let pg := bniP n
  let bs := f.data.map fun b => b.toNat
  (¬(s.bniOn n = true ∧ s.b pg R.Bni.STAT_LINK = true) → exec (.ethFrameReceived n f) s = .next s) ∧
  (s.bniOn n = true → s.b pg R.Bni.STAT_LINK = true →
  Does (.ethFrameReceived n f) s fun t =>
    (1518 < bs.length → t.g pg R.Bni.LONG = bump s pg R.Bni.LONG ∧ t.mem = s.mem) ∧
    (bs.length ≤ 1518 → f.fcsOk = false → t.g pg R.Bni.CRC_ERR = bump s pg R.Bni.CRC_ERR ∧ t.mem = s.mem) ∧
    (60 ≤ bs.length → bs.length ≤ 1518 → f.fcsOk = true → pauseOf bs = none →
      (s.bniClass n bs = none → t.regs = s.regs ∧ t.mem = s.mem) ∧
      ∀ c : Fin 3, s.bniClass n bs = some c.val →
        (s.rxLimited n c = true → t.g pg R.Bni.RX_LIMITED = bump s pg R.Bni.RX_LIMITED ∧ raised t pg 9 = true ∧ t.mem = s.mem) ∧
        (s.rxLimited n c = false → s.ringHas n (4 + c) = false →
          t.g pg R.Bni.RX_NODESC = bump s pg R.Bni.RX_NODESC ∧ raised t pg 9 = true ∧ t.mem = s.mem) ∧
        (s.rxLimited n c = false → s.ringHas n (4 + c) = true → s.dmaOk (s.descAt n (4 + c)) 16 = true →
          let d := s.descAt n (4 + c)
          let buf := s.bniAddr n (s.mget d 4 / 8 * 8)
          (s.dmaOk buf bs.length = true → d + 16 ≤ buf ∨ buf + bs.length ≤ d →
            (∀ k < bs.length, t.byte (buf + k) = bs.getD k 0) ∧ t.mget (d + 4) 2 = bs.length ∧ t.byte (d + 7) / 64 = 0 ∧
            t.g pg R.Bni.BNI_RX_OK_CNT = bump s pg R.Bni.BNI_RX_OK_CNT ∧ raised t pg (4 + c) = true ∧
            (∀ x, (x < buf ∨ buf + bs.length ≤ x) → (x < d + 4 ∨ d + 16 ≤ x) → t.byte x = s.byte x)) ∧
          (s.dmaOk buf bs.length = false → t.g pg R.Bni.DMA_ERR = bump s pg R.Bni.DMA_ERR ∧ raised t pg 11 = true ∧
            t.byte (d + 7) / 64 % 2 = 1))))

/-- R542, R539, R537, R544: the port sends the frame of the highest class that waits and holds credit, stamps it when it is a PTP
event, and hands its descriptor back. Elsewhere nothing changes (log entry 3). -/
@[reducible] def ethFrameSent (n : Fin 2) (linkLost : Bool) (s : State) : Prop :=
  let pg := bniP n
  (¬(s.bniOn n = true ∧ s.b pg R.Bni.STAT_LINK = true ∧ (s.bni n).pauseUntil ≤ s.tbs.el) → exec (.ethFrameSent n linkLost) s = .next s) ∧
  (s.bniOn n = true → s.b pg R.Bni.STAT_LINK = true → (s.bni n).pauseUntil ≤ s.tbs.el →
  Does (.ethFrameSent n linkLost) s fun t =>
    ((∀ c < 4, s.txMay n c = false) → t = s) ∧
    ∀ c : Fin 4, s.txMay n c = true → (∀ e < c.val, s.txMay n e = false) →
      let d := s.descAt n c
      let len := s.txLen n c
      let buf := s.bniAddr n (s.mget d 4 / 8 * 8)
      raised t pg c = true ∧
      t.g (ringP n c) R.Bni.RING_HEAD = (s.g (ringP n c) R.Bni.RING_HEAD + 1) % max 1 (s.g (ringP n c) R.Bni.RING_SIZE) % 1024 ∧
      (∀ x, x < d + 4 ∨ d + 16 ≤ x → t.byte x = s.byte x) ∧
      (s.dmaOk d 16 = true → s.dmaOk buf len = true → linkLost = false → len ≤ 1518 →
        t.g pg R.Bni.BNI_TX_OK_CNT = bump s pg R.Bni.BNI_TX_OK_CNT ∧ t.byte (d + 7) / 64 = 0 ∧
        (t.byte (d + 7) / 32 = 1 ↔ ptpEvent (s.mbytes buf len) = true) ∧
        (ptpEvent (s.mbytes buf len) = true → t.mget (d + 8) 8 = (s.stamp + s.g pg R.Bni.BNI_LAT_TX_LAT) % 2 ^ 64)) ∧
      (s.dmaOk d 16 = true → s.dmaOk buf len = false ∨ linkLost = true → t.byte (d + 7) / 64 % 2 = 1) ∧
      (linkLost = true → t.b pg R.Bni.STAT_LINK = false))

/-- R539: a write of `TAIL` hands descriptors to the port. -/
@[reducible] def ringTail (ini : Ini) (n : Fin 2) (r : Fin 8) (v : Word) (s : State) : Prop :=
  let a := bniP n + 0x10C + 0x10 * r.val
  s.verdictW ini a = .ok →
  Does (.ringTail ini n r v) s fun t =>
    (t.rd a).toNat = v.toNat % 1024 ∧ t.g (ringP n r) R.Bni.RING_HEAD = s.g (ringP n r) R.Bni.RING_HEAD ∧ t.mem = s.mem

/-- R544: `EN` 1 starts a port with no credit; `EN` 0 returns every descriptor still owned, each with `ERR` = 1. -/
@[reducible] def bniEnable (ini : Ini) (n : Fin 2) (v : Word) (s : State) : Prop :=
  let pg := bniP n
  let u := s.granted (pg + 0x008)
  let en := bitOf v.toNat 0
  s.verdictW ini (pg + 0x008) = .ok →
  Does (.bniEnable ini n v) s fun t =>
    t.b pg R.Hdr.CTRL_EN = en ∧
    (en = true → u.b pg R.Hdr.CTRL_EN = false → t.bni n = { creditAt := u.tbs.el } ∧ t.mem = s.mem) ∧
    (en = u.b pg R.Hdr.CTRL_EN → t.bni n = u.bni n ∧ t.mem = s.mem) ∧
    (en = false → u.b pg R.Hdr.CTRL_EN = true →
      ∀ r < 8, u.g (ringP n r) R.Bni.RING_HEAD < u.g (ringP n r) R.Bni.RING_SIZE → u.g (ringP n r) R.Bni.RING_TAIL < u.g (ringP n r) R.Bni.RING_SIZE →
        u.g (ringP n r) R.Bni.RING_SIZE ≤ 1024 → t.ringHas n r = false)

/-- R536: `FAULT` clears only while its filter is not lasting; else the write is ignored and counted. -/
@[reducible] def bniFaultClear (ini : Ini) (n : Fin 2) (v : Word) (s : State) : Prop :=
  let pg := bniP n
  let u := s.granted (pg + 0x00C)
  s.verdictW ini (pg + 0x00C) = .ok →
  Does (.bniFaultClear ini n v) s fun t =>
    (u.fwLasting (0xE6 + n) = false → t.b pg R.Bni.STAT_FAULT = false) ∧
    (u.fwLasting (0xE6 + n) = true → t.rd (pg + 0x00C) = u.rd (pg + 0x00C) ∧ t.g pg R.Hdr.FAULT_CNT = bump u pg R.Hdr.FAULT_CNT)

/-! ### Registers and memories -/

/-- R70, R71, R78, R80: a permitted write of a header word of an own page. `IRQ_EN` takes the word, and a bit it brings into
`IRQ_STAT` pends the page's interrupt at both pairs; `IRQ_STAT` clears the events written 1, and once it is empty withdraws
the request at the duty pair (R56); `FAULT_CNT` clears on all ones only; `ID`, `CAP`,
`IRQ_RAW` and the stamp are read-only; `GRPMASK` takes the word while the lock is open, and else is counted if it would change. -/
@[reducible] def registerWrite (ini : Ini) (b : Fin 18) (p : Fin 256) (v : Word) (s : State) : Prop :=
  let pg := pageAt b p
  let Wr (o : Nat) (P : State → State → Prop) : Prop :=
    s.verdictW ini (pg + o) = .ok → Does (.registerWrite ini (wd (pg + o)) v) s fun t => P (s.granted (pg + o)) t
  p.val ≤ nchan b →
  (Wr 0x014 fun u t => t.rd (pg + 0x014) = v ∧ t.rd (pg + 0x010) = u.rd (pg + 0x010) ∧
    (u.rd (pg + 0x010) &&& v &&& ~~~ u.rd (pg + 0x014) ≠ 0#32 → ∀ q ∈ [0, 1], (q, irqNo pg) ∈ t.pends)) ∧
  (Wr 0x018 fun u t => t.rd (pg + 0x010) = u.rd (pg + 0x010) &&& ~~~ v ∧ t.rd (pg + 0x014) = u.rd (pg + 0x014) ∧
    (∀ q ∈ [0, 1], s.duty = some q → t.rd (pg + 0x010) &&& t.rd (pg + 0x014) = 0#32 → (q, irqNo pg) ∉ t.pends)) ∧
  (Wr 0x024 fun u t => t.rd (pg + 0x024) = if v = 0xFFFFFFFF#32 then 0#32 else u.rd (pg + 0x024)) ∧
  (∀ o ∈ [0x000, 0x004, 0x010, 0x028, 0x02C], Wr o fun u t => t.rd (pg + o) = u.rd (pg + o)) ∧
  (0 < p.val → Wr 0x030 fun u t =>
    (u.lockOpen pg = true → t.g pg R.Hdr.GRPMASK = v.toNat % 16) ∧
    (u.lockOpen pg = false → t.rd (pg + 0x030) = u.rd (pg + 0x030) ∧
      t.g pg R.Hdr.FAULT_CNT = if v.toNat % 16 = u.g pg R.Hdr.GRPMASK then u.g pg R.Hdr.FAULT_CNT else bump u pg R.Hdr.FAULT_CNT))

/-- R73, R74: the lock moves on a permitted write of `LOCK` as its table states. -/
@[reducible] def lockKey (ini : Ini) (b : Fin 18) (p : Fin 256) (v : Word) (s : State) : Prop :=
  let pg := pageAt b p
  let key := v.toNat % 65536
  p.val ≤ nchan b → s.verdictW ini (pg + 0x020) = .ok →
  Does (.lockKey ini b p v) s fun t =>
    t.b pg R.Hdr.LOCK_HALF = (key == 0x1ACC) ∧ t.b pg R.Hdr.LOCK_OPEN = (s.b pg R.Hdr.LOCK_HALF && key == 0xB10C) ∧
    t.mem = s.mem

/-- R78, R80: a permitted write of `IRQ_FORCE` sets the bits in `IRQ_RAW`, and pends the interrupt of a page whose `IRQ_STAT`
gains a bit at both pairs. -/
@[reducible] def irqForce (ini : Ini) (b : Fin 18) (p : Fin 256) (v : Word) (s : State) : Prop :=
  let pg := pageAt b p
  p.val ≤ nchan b → s.verdictW ini (pg + 0x01C) = .ok →
  Does (.irqForce ini b p v) s fun t =>
    t.rd (pg + 0x010) = s.rd (pg + 0x010) ||| v ∧ t.rd (pg + 0x014) = s.rd (pg + 0x014) ∧
    (v &&& s.rd (pg + 0x014) &&& ~~~ s.rd (pg + 0x010) ≠ 0#32 → ∀ q ∈ [0, 1], (q, irqNo pg) ∈ t.pends)

/-- R85: `LASTING` written 1 clears, and empties the window if it was 1; `OCC_CNT` clears only on all ones; `K` and `W` stay. -/
@[reducible] def fwLastingClear (ini : Ini) (f : Fin 256) (v : Word) (s : State) : Prop :=
  s.verdictW ini (fwP f + 4) = .ok →
  Does (.fwLastingClear ini f v) s fun t =>
    t.fwLasting f = false ∧ t.rd (fwP f) = s.rd (fwP f) ∧
    Tab.get (fun _ => []) t.rdm.occ f.val = (if s.fwLasting f then [] else Tab.get (fun _ => []) s.rdm.occ f.val) ∧
    t.g (fwP f) R.Fw.OCC_CNT = (if v.toNat % 65536 = 65535 then 0 else s.g (fwP f) R.Fw.OCC_CNT)

/-- R75, R76, R73: a permitted write of a group or broadcast page lands in every member and in no other page: shown on `IRQ_EN`,
on `LOCK`, which each member's lock takes separately, and on `ID`, `CAP` and `GRPMASK`, which ignore it. -/
@[reducible] def groupPageWrite (ini : Ini) (b : Fin 18) (g : Option (Fin 4)) (v : Word) (s : State) : Prop :=
  let pg := match g with | some g => grpPage b g | none => bcastPage b
  let ms := s.members b (g.map (·.val))
  let key := v.toNat % 65536
  nchan b ≠ 0 → s.verdictW ini pg = .ok →
  Does (.groupPageWrite ini b g 0x005 v) s (fun t => ∀ n < nchan b,
    t.rd (chPage b n + 0x014) = if n ∈ ms then v else s.rd (chPage b n + 0x014)) ∧
  Does (.groupPageWrite ini b g 0x008 v) s (fun t => ∀ n < nchan b,
    (n ∈ ms → t.b (chPage b n) R.Hdr.LOCK_HALF = (key == 0x1ACC) ∧
      t.b (chPage b n) R.Hdr.LOCK_OPEN = (s.b (chPage b n) R.Hdr.LOCK_HALF && key == 0xB10C)) ∧
    (n ∉ ms → t.rd (chPage b n + 0x020) = s.rd (chPage b n + 0x020))) ∧
  (∀ r ∈ [(0x000 : Fin 1024), 0x001, 0x00C], Does (.groupPageWrite ini b g r v) s fun t => ∀ n < nchan b, ∀ o < 1024,
    t.rd (chPage b n + 4 * o) = s.rd (chPage b n + 4 * o))

/-- R14, R96: a read of a `_LO` word returns it and latches its `_HI` word, `TBS_NOW` for each initiator apart; nothing else
changes. -/
@[reducible] def timeLoRead (ini : Ini) (a : Word) (s : State) : Prop :=
  isTimeLo a.toNat = true → s.fusedAt a.toNat = false → s.verdictR ini a.toNat = .ok →
  Does (.timeLoRead ini a) s fun t =>
    t.bus = .done (s.look a.toNat).toNat ∧
    Tab.get (fun _ => 0#32) t.latches (latchKey ini (a.toNat + 4)) = s.look (a.toNat + 4) ∧
    t = { s with bus := t.bus, latches := t.latches }

/-- R50, R60, R64, R514: an access to a memory. What lies in no memory, beyond its end or in a domain that does not answer gives a
bus error and no effect; a read the initiator may not make likewise; a refused write likewise, counted for the targets of R50; a
permitted read of sound words returns the bytes, a permitted write stores them and no others. -/
@[reducible] def memoryAccess (ini : Ini) (a : BitVec 34) (n : Fin 65) (d : List Byte) (s : State) : Prop :=
  let x := a.toNat
  let reached (r : Region) (e k : Nat) : Prop := regionOf x = some (r, e) ∧ x + k ≤ e ∧ s.regionOn r x k = true
  let blocked : Prop := ∃ p : Fin 2, ini = .pair p ∧ s.pairBlocked p = true
  ¬ blocked → (x < 0x40000000 ∨ 0x60000000 ≤ x) →
  (regionOf x = none → ∀ op, Does (.memoryAccess ini a op 0) s fun t => t = { s with bus := .error }) ∧
  (∀ r e, regionOf x = some (r, e) →
    (¬ reached r e n → Does (.memoryAccess ini a (.read n) 0) s fun t => t = { s with bus := .error }) ∧
    (¬ reached r e d.length → Does (.memoryAccess ini a (.write d) 0) s fun t => t = { s with bus := .error }) ∧
    (reached r e n → s.mayRead ini r = false → Does (.memoryAccess ini a (.read n) 0) s fun t => t = { s with bus := .error }) ∧
    (reached r e d.length → s.mayWrite ini x r = false → Does (.memoryAccess ini a (.write d) 0) s fun t =>
      t.bus = .error ∧ t.mem = s.mem ∧ t.clg = s.clg ∧
      t.g apxC R.Hdr.FAULT_CNT = if refusedCounts x r then bump s apxC R.Hdr.FAULT_CNT else s.g apxC R.Hdr.FAULT_CNT) ∧
    (r ∈ [.mram, .shared, .xspi, .ddr, .crypto, .localSram 0, .localSram 1] → s.memc.bad = [] → s.pcr.saved = false →
      (reached r e n → s.mayRead ini r = true → Does (.memoryAccess ini a (.read n) 0) s fun t =>
        t = { s with bus := .done (s.mget x n) }) ∧
      (reached r e d.length → s.mayWrite ini x r = true → s.duty = none ∨ (r ≠ .localSram 0 ∧ r ≠ .localSram 1) →
        Does (.memoryAccess ini a (.write d) 0) s fun t =>
        t.bus = .done 0 ∧ t.regs = s.regs ∧ (∀ k < d.length, t.byte (x + k) = (d.getD k 0).toNat) ∧
        (∀ y, y < x ∨ x + d.length ≤ y → t.byte y = s.byte y))))

/-- R230, R50: a pair reads a line of the ledger region as its view shows it; while its view holds the read back
it waits, and is kept until V is applied. -/
@[reducible] def ledgerRead (p : Fin 2) (line : Fin 12800) (s : State) : Prop :=
  s.pairBlocked p = false → s.domOn 5 = true → s.domOn 7 = true → s.memc.bad = [] → s.pcr.saved = false →
  Does (.ledgerRead p line) s fun t =>
    (s.viewHeld p = true → t = { s with bus := .held, clg := { s.clg with reads := s.clg.reads ++ [(p.val, clgBase + line.val * 32, 32)] } }) ∧
    (s.viewHeld p = false → t = { s with bus := .done (ofBytesLE ((List.range 8).flatMap fun i => bytesLE 4 ((s.viewLine p (line.val * 32)).getD i 0))) })

/-- R60, R64, R68: an access that reaches nothing gives a bus error and no effect. -/
@[reducible] def unmappedAccess (ini : Ini) (a : BitVec 64) (n : Fin 65) (s : State) : Prop :=
  (∀ p : Fin 2, ini = .pair p → s.pairBlocked p = false) → s.unreached a.toNat n = true →
  Does (.unmappedAccess ini a n) s fun t => t = { s with bus := .error }

/-! ### The machine as a whole -/

/-- A part of the state: the registers of a block, or a field beside them. -/
inductive Part where
  | regs (b : Fin 18)
  | pmode | mem | latches | pends | bus | tbs | nets | rdm | pair0 | pair1 | ikw | pcr | memc | fresh | fbs | pos | pulses
  | hoist | dlks | clg | doors | safe | ports | cve | bnis
deriving DecidableEq, Repr

/-- A part reads the same in two states. -/
def Part.same (s t : State) : Part → Prop
  | .regs b => ∀ a, 0x40000000 + b.val * 0x100000 ≤ a → a < 0x40000000 + (b.val + 1) * 0x100000 → t.rd a = s.rd a
  | .pmode => t.pmode = s.pmode
  | .mem => t.mem = s.mem
  | .latches => t.latches = s.latches
  | .pends => t.pends = s.pends
  | .bus => t.bus = s.bus
  | .tbs => t.tbs = s.tbs
  | .nets => t.nets = s.nets
  | .rdm => t.rdm = s.rdm
  | .pair0 => t.pair0 = s.pair0
  | .pair1 => t.pair1 = s.pair1
  | .ikw => t.ikw = s.ikw
  | .pcr => t.pcr = s.pcr
  | .memc => t.memc = s.memc
  | .fresh => t.fresh = s.fresh
  | .fbs => t.fbs = s.fbs
  | .pos => t.pos = s.pos
  | .pulses => t.pulses = s.pulses
  | .hoist => t.hoist = s.hoist
  | .dlks => t.dlks = s.dlks
  | .clg => t.clg = s.clg
  | .doors => t.doors = s.doors
  | .safe => t.safe = s.safe
  | .ports => t.ports = s.ports
  | .cve => t.cve = s.cve
  | .bnis => t.bnis = s.bnis

/-- An interrupt is pended and wakes the cores (R80, R491). -/
def wake : List Part := [.pends, .pair0, .pair1]

/-- A register write: its outcome, and the counts of a refused one in APX (R50, R51). -/
def write : List Part := [.regs 17, .bus]

/-- A record is offered to IKW (R465 to R469). -/
def record : List Part := wake ++ [.regs 3, .ikw]

/-- An occurrence is fed to a fault-window filter, which records it (R83). -/
def filter : List Part := record ++ [.regs 2, .rdm]

/-- Time passes: the timebase, its committed offsets and their records (R90, R91). -/
def time : List Part := record ++ [.regs 1, .tbs, .nets]

/-- Generators, executors and doors react to a compare event, a lost source or a finished motion (R137, R160, R206, R258). -/
def settle : List Part := wake ++ [.regs 8, .regs 9, .regs 10, .pulses, .hoist, .doors]

/-- The safety lanes' results and their registers in SIO and SAG (R279, R324). -/
def lanes : List Part := [.regs 5, .regs 7, .safe]

/-- A conversation's frames and their buffers (R389, R391). -/
def queue : List Part := [.regs 13, .fresh, .ports, .cve]

/-- A pair's state changes: duty, views, queues and the cars' stop (R441, R442). -/
def pairs : List Part := record ++ [.regs 0, .regs 2, .regs 8, .regs 9, .regs 10, .regs 14, .regs 15, .regs 17, .mem, .rdm,
  .pulses, .hoist, .clg, .doors, .cve]

/-- Every part: register and memory accesses, resets, power. -/
def all : List Part := (List.finRange 18).map Part.regs ++ [.pmode, .mem, .latches, .pends, .bus, .tbs, .nets, .rdm, .pair0,
  .pair1, .ikw, .pcr, .memc, .fresh, .fbs, .pos, .pulses, .hoist, .dlks, .clg, .doors, .safe, .ports, .cve, .bnis]

/-- The parts a command may change. -/
def reach : Instr → List Part
  | .registerWrite .. | .memoryAccess .. | .ledgerRead .. | .lockKey .. | .irqForce .. | .groupPageWrite ..
  | .fwLastingClear .. | .dvsAckLost .. | .hibernateEntry .. | .wakeAttemptTimeout .. | .brownOut ..
  | .undervoltage .. | .clockFail .. | .nresetAssert .. | .powerOn .. | .powerLoss .. | .domainEnable ..
  | .wakeComplete .. => all
  | .unmappedAccess .. => [.bus]
  | .armU .. | .armL .. | .disarmU .. | .disarmL .. => write ++ [.regs 8, .regs 9, .hoist]
  | .armCheckDone .. => settle
  | .ofsCommit .. => write ++ wake ++ [.regs 1, .tbs]
  | .tbStep .. | .txLaunchDue .. | .aloneRetry .. => time ++ [.regs 13, .ports]
  | .slewDone .. | .tokenRefill .. | .scanDone .. => time
  | .reseededClear .. => write ++ [.regs 1]
  | .syncSend .. | .bcastHeartbeat .. => queue ++ time
  | .syncDeadline .. => time ++ filter ++ [.regs 13, .fresh, .ports]
  | .followUpSend .. => queue ++ [.nets]
  | .pfiEnable .. | .posSet .. => settle ++ write ++ [.regs 11, .fbs]
  | .quadCount .. | .serWord .. => settle ++ filter ++ [.regs 11, .fbs, .pos]
  | .spdWindow .. => settle ++ time ++ [.regs 11, .fbs]
  | .serRequest .. => time ++ [.regs 11, .fbs]
  | .serStale .. => settle ++ time ++ [.regs 11]
  | .indexEdge .. | .probeEdge .. => settle ++ filter ++ [.regs 11, .fbs]
  | .cmpArm .. | .cmpDisarm .. | .pfiFaultClear .. => settle ++ write ++ [.regs 11]
  | .pfiSnap .. => write ++ [.regs 11]
  | .poStep .. => time ++ [.regs 11, .pos]
  | .hoistPeriodBoundary .. => settle ++ time ++ filter ++ [.fresh, .fbs]
  | .levelled .. | .levelMiss .. | .dwellDone .. | .evtTimeout .. => settle ++ time
  | .mpgStop .. | .mpgStopRamp .. | .mpgRelevel .. | .haltClr .. | .mpgEnable .. | .exeLoad .. | .exeGo ..
  | .exeHold .. | .exeResume .. | .exeCancel .. | .exeRelease .. => settle ++ write
  | .downFrame .. | .upFrame .. | .periodMiss .. => settle ++ time ++ filter ++ [.regs 12, .dlks]
  | .symbolLock .. => [.regs 12, .dlks]
  | .symbolLockLoss .. => settle ++ record ++ [.regs 12, .dlks]
  | .helloTimeout .. => time ++ [.regs 12]
  | .lossClr .. | .dlkEnable .. => write ++ [.regs 12, .dlks]
  | .sepDisagreeClear .. => write ++ [.regs 9]
  | .clgInsert .. | .clgAssign .. | .clgUnassign .. | .clgServe .. | .clgCancel .. | .clgSetApp .. =>
    filter ++ write ++ [.regs 15, .clg]
  | .viewStallApply .. => filter ++ [.regs 15, .bus, .clg]
  | .clgEnable .. | .peakClr .. => write ++ [.regs 15, .memc, .clg]
  | .clgInitDone .. => wake ++ [.regs 15]
  | .clgFaultClear .. => write ++ [.regs 15]
  | .dmcOpen .. | .dmcClose .. | .dmcStop .. | .dmcHome .. | .dmcCal .. | .dmcEnable .. =>
    time ++ filter ++ write ++ [.regs 10, .doors]
  | .doorMoveDone .. | .doorAtRest .. | .obstruction .. | .lostStep .. | .reverseStart .. | .overCurrent ..
  | .driverFault .. | .endSwitch .. | .homeTimeout .. | .doorProfileTick .. => time ++ filter ++ [.regs 10, .doors]
  | .calDone .. | .pwmPeriodBoundary .. => time ++ filter ++ [.regs 10, .fresh, .doors]
  | .oosClear .. => write ++ wake ++ [.regs 10, .doors]
  | .slpCycle .. =>
    lanes ++ settle ++ time ++ filter ++ [.regs 0, .regs 4, .regs 6, .regs 11, .mem, .memc, .fresh, .fbs]
  | .sageCycle .. => lanes ++ settle ++ time ++ filter ++ [.regs 6, .regs 11, .fbs, .pos]
  | .sageWordTimeout .. | .sageRecordMissing .. => lanes ++ settle ++ time ++ [.regs 6]
  | .lockstepError .. => lanes ++ settle ++ record ++ [.regs 6]
  | .sagLatchClr .. | .sagSafeKey .. | .sagLoadData .. | .sagLoadAbort .. | .spbCommit .. => write ++ [.regs 7, .safe]
  | .gateTimeout .. => time ++ [.regs 7, .safe]
  | .spbCheckDone .. => wake ++ [.regs 7, .safe]
  | .spbCopiesWritten .. => wake ++ [.regs 7, .mem, .memc, .safe]
  | .sagSafeConfirm .. => write ++ wake ++ [.regs 7, .safe]
  | .slpGetStatus .. | .slpRunTest .. | .slpReadSpb .. => write ++ [.regs 6, .safe]
  | .inputChange .. | .vddioSLow .. => lanes ++ settle ++ record
  | .testPulse .. | .discFault .. => lanes ++ settle ++ time
  | .tpHeldReadback .. => wake ++ [.regs 5]
  | .sioInReset .. | .sioOutReset .. | .dzRst .. => write ++ [.regs 5, .safe]
  | .darkTest .. | .rbFault .. | .fbTimeout .. => lanes ++ settle ++ time ++ filter ++ [.regs 6]
  | .onReq .. => write ++ wake ++ [.regs 5]
  | .vddioSRecover .. => [.safe]
  | .sbcEnable .. | .sbcOos .. | .borReq .. | .sbcFaultClear .. =>
    queue ++ record ++ write ++ [.regs 1, .regs 14, .nets]
  | .busIntegrated .. | .busOffRecovered .. => queue ++ record ++ [.regs 1, .regs 14, .nets]
  | .restrictedEnd .. | .inviteSlot .. => queue ++ time ++ [.regs 14]
  | .txReq .. | .txAbort .. => write ++ wake ++ [.regs 1, .regs 13, .nets, .ports]
  | .txAttemptEnd .. | .frameReceived .. | .join .. | .welcome .. | .leave .. | .data .. | .ack .. | .nak ..
  | .heartbeat .. => queue ++ filter ++ [.regs 1, .regs 14, .mem, .nets, .memc]
  | .ctxEnable .. | .ctxDisable .. | .cveRelease .. => queue ++ write ++ wake ++ [.regs 14, .mem, .memc]
  | .inviteTimeout .. => time ++ [.regs 14]
  | .gapTimeout .. | .retransmitDue .. | .heartbeatMiss .. => queue ++ time ++ [.regs 14, .mem, .memc]
  | .ackDue .. => queue
  | .cveSend .. | .cveNotice .. => queue ++ write ++ wake ++ [.regs 14]
  | .ctxBarClear .. => write ++ wake ++ [.regs 14]
  | .nibSubmit .. | .roleSwap .. | .admitPair .. | .pairRestart .. | .healthReport .. => pairs ++ write ++ [.memc]
  | .nibForward .. => pairs ++ queue ++ time ++ write ++ [.memc]
  | .lagTimeout .. | .wdgTimeout .. | .bootTimeout .. | .quillBulkDone .. | .hrTimeout .. | .testSlot .. =>
    pairs ++ time ++ [.memc]
  | .nibHello .. => write ++ wake ++ [.regs 0, .regs 2, .regs 15, .rdm, .clg, .cve]
  | .nibWdgKick .. => write ++ [.pair0, .pair1]
  | .autoRestart .. => time ++ [.regs 17, .rdm]
  | .admitted .. => filter ++ [.regs 15, .regs 17, .clg, .cve]
  | .testReq .. => write ++ wake ++ [.regs 2]
  | .bootDone .. => time ++ wake ++ [.regs 4, .mem, .memc]
  | .ikwSwRecord .. | .ikwEnable .. => record ++ write
  | .recordDrain .. => filter ++ [.mem, .memc]
  | .archiveCopy .. => filter ++ [.mem]
  | .ikwRdIdx .. | .ikwCodeWrite .. | .ikwFaultClear .. => write ++ wake ++ [.regs 3]
  | .ikwRead .. => [.ikw]
  | .oppReq .. => write ++ [.regs 0, .pcr]
  | .oppDone .. => wake ++ [.regs 0]
  | .dvsAckTimeout .. | .xaonRecover .. => time ++ [.regs 0]
  | .coreWfi .. => [.pair0, .pair1]
  | .sleepStandby .. | .sleepHibernate .. => write ++ wake ++ [.regs 0, .pcr]
  | .sleepCoresTimeout .. | .wakeEvent .. => time ++ [.regs 0, .pcr]
  | .standbyEntry .. => wake ++ [.regs 0, .regs 3, .regs 4, .regs 7, .regs 11, .pcr, .fbs, .doors, .safe]
  | .xaonFail .. => time ++ filter ++ [.regs 0, .pcr]
  | .nresetRelease .. =>
    lanes ++ record ++ [.regs 0, .regs 4, .regs 8, .regs 9, .regs 11, .regs 17, .mem, .tbs, .rdm, .pcr, .memc, .fbs, .hoist]
  | .resetStuck .. =>
    lanes ++ time ++ [.regs 0, .regs 4, .regs 8, .regs 9, .regs 11, .regs 17, .mem, .rdm, .pcr, .memc, .fbs, .hoist]
  | .lifeCheckpoint .. => time ++ [.mem, .pcr, .memc]
  | .pwrFail .. => record ++ [.regs 0, .mem, .pcr, .memc]
  | .pwrFailClear .. => [.regs 0, .regs 3]
  | .scrubRead .. => pairs ++ lanes ++ time ++ [.regs 4, .regs 6, .memc]
  | .ddrInit .. => write ++ wake ++ [.regs 4, .memc]
  | .ddrReady .. => wake ++ [.regs 4, .memc, .fresh]
  | .ddrMr4Poll .. | .dbgLockoutEnd .. => time ++ [.memc]
  | .xspiErase .. | .xspiProgram .. => write ++ wake ++ [.regs 3, .regs 4, .memc]
  | .xspiDone .. => filter ++ [.regs 4, .mem, .memc, .fresh]
  | .otpProgram .. | .attReq .. | .dbgSubmit .. => write ++ [.regs 4, .memc]
  | .otpDone .. => wake ++ [.regs 4, .mem, .memc, .fresh]
  | .arbAdvance .. => write ++ wake ++ [.regs 4, .mem]
  | .memBootSel .. => write ++ wake ++ [.regs 4, .mem, .memc]
  | .attDone .. => time ++ wake ++ [.regs 4]
  | .dbgChallenge .. | .timeLoRead .. => [.regs 4, .latches, .bus, .memc, .fresh]
  | .dbgResult .. => time ++ wake ++ [.regs 4, .memc]
  | .jtagInstruction .. => [.memc, .fresh]
  | .linkChange .. => filter ++ [.regs 16]
  | .ethFrameReceived .. | .ethFrameSent .. => pairs ++ lanes ++ [.regs 4, .regs 6, .regs 16, .memc, .bnis]
  | .ringTail .. => write ++ wake ++ [.regs 16]
  | .bniEnable .. => write ++ wake ++ [.regs 16, .mem, .memc, .bnis]
  | .bniFaultClear .. => write ++ [.regs 16]
  | .busError .. | .protocolException .. => queue ++ filter ++ [.regs 1, .regs 14, .nets]
  | .laneSupplyLoss .. => lanes ++ settle ++ record ++ [.regs 0]

/-- What holds in every state a step leads to: the memory and the registers in their canonical form, the timebase within its 64 bits
and 32 of fraction (R88, R90), at most 128 records in the staging FIFO (R465) and 32 held occurrences (R87). -/
def Inv (s : State) : Prop :=
  Memory.wf s.mem = true ∧ Regs.wf s.regs = true ∧ s.tbs.acc < 2 ^ 96 ∧ s.ikw.fifo.length ≤ 128 ∧ s.rdm.held.length ≤ 32

/-- The initiator and the address of the register write that a command is, by its row. -/
def writeOf : Instr → Option (Ini × Nat)
  | .registerWrite ini a _ => some (ini, a.toNat)
  | .groupPageWrite ini b g r _ =>
    some (ini, (match g with | some g => grpPage b.val g.val | none => bcastPage b.val) + 4 * r.val)
  | .lockKey ini b p _ => some (ini, pageAt b p + 0x020)
  | .irqForce ini b p _ => some (ini, pageAt b p + 0x01C)
  | .fwLastingClear ini f _ => some (ini, fwP f + 4)
  | .armU ini _ | .armL ini _ | .disarmU ini _ | .disarmL ini _ => some (ini, mpgC + 0x044)
  | .ofsCommit ini _ => some (ini, tbsC + 0x04C)
  | .reseededClear ini _ => some (ini, tbsC + 0x00C)
  | .pfiEnable ini n _ => some (ini, fbP n + 0x008)
  | .posSet ini n _ => some (ini, fbP n + 0x058)
  | .cmpArm ini n c _ | .cmpDisarm ini n c _ => some (ini, cmpP n c + 0x104)
  | .pfiFaultClear ini n _ => some (ini, fbP n + 0x00C)
  | .pfiSnap ini _ => some (ini, pfiC + 0x040)
  | .haltClr ini c _ | .mpgEnable ini c _ => some (ini, mpgP c + 0x008)
  | .lossClr ini n _ | .dlkEnable ini n _ => some (ini, dlkP n + 0x008)
  | .sepDisagreeClear ini _ => some (ini, sepC + 0x00C)
  | .clgEnable ini _ | .peakClr ini _ => some (ini, clgC + 0x008)
  | .clgFaultClear ini _ => some (ini, clgC + 0x00C)
  | .dmcEnable ini n _ => some (ini, dmcP n + 0x008)
  | .oosClear ini n _ => some (ini, dmcP n + 0x00C)
  | .sagLatchClr ini _ => some (ini, sagC + 0x064)
  | .sagSafeKey ini _ => some (ini, sagC + 0x040)
  | .sagLoadData ini _ => some (ini, sagC + 0x048)
  | .sagLoadAbort ini _ | .spbCommit ini _ => some (ini, sagC + 0x04C)
  | .sagSafeConfirm ini _ => some (ini, sagC + 0x058)
  | .sioInReset ini _ => some (ini, sioC + 0x04C)
  | .sioOutReset ini _ | .dzRst ini _ => some (ini, sioC + 0x050)
  | .onReq ini g _ => some (ini, sogP g + 0x008)
  | .sbcEnable ini n _ | .sbcOos ini n _ | .borReq ini n _ => some (ini, sbcP n + 0x008)
  | .txReq ini n b _ _ => some (ini, txbP n b + 0x100)
  | .txAbort ini n b _ => some (ini, txbP n b + 0x100)
  | .sbcFaultClear ini n _ => some (ini, sbcP n + 0x00C)
  | .ctxEnable ini n _ | .ctxDisable ini n _ => some (ini, ctxP n + 0x008)
  | .ctxBarClear ini n _ => some (ini, ctxP n + 0x00C)
  | .nibSubmit ini p _ => some (ini, winP p + 0x048)
  | .nibHello ini p _ => some (ini, winP p + 0x054)
  | .nibWdgKick ini p _ => some (ini, winP p + 0x050)
  | .roleSwap ini _ | .admitPair ini _ => some (ini, rdmC + 0x060)
  | .pairRestart ini _ _ => some (ini, rdmC + 0x060)
  | .healthReport ini p _ => some (ini, winP p + 0x0BC)
  | .testReq ini _ => some (ini, rdmC + 0x078)
  | .ikwSwRecord ini _ => some (ini, ikwC + 0x0A0)
  | .ikwEnable ini _ => some (ini, ikwC + 0x008)
  | .ikwRdIdx ini _ => some (ini, ikwC + 0x0B0)
  | .ikwCodeWrite ini c _ => some (ini, ikwCodeP c)
  | .ikwFaultClear ini _ => some (ini, ikwC + 0x00C)
  | .oppReq ini _ => some (ini, pcrC + 0x04C)
  | .sleepStandby ini _ _ | .sleepHibernate ini _ _ => some (ini, pcrC + 0x050)
  | .domainEnable ini d _ => some (ini, pcrP d + 0x008)
  | .ddrInit ini _ => some (ini, memC + 0x054)
  | .xspiErase ini _ | .xspiProgram ini _ => some (ini, memC + 0x064)
  | .otpProgram ini _ => some (ini, memC + 0x090)
  | .arbAdvance ini _ => some (ini, memC + 0x084)
  | .memBootSel ini _ => some (ini, memC + 0x070)
  | .attReq ini _ => some (ini, memC + 0x0C0)
  | .dbgSubmit ini _ => some (ini, memC + 0x4A0)
  | .ringTail ini n r _ => some (ini, ringP n r + 0x10C)
  | .bniEnable ini n _ => some (ini, bniP n + 0x008)
  | .bniFaultClear ini n _ => some (ini, bniP n + 0x00C)
  | _ => none

/-- The page a register write goes to and the words of it, beside its header's state words, that its row may change: the register
written, and those its rule names. Rows whose effect reaches further have no entry. -/
def ownWords : Instr → Option (Nat × List Nat)
  | .irqForce _ b p _ => some (pageAt b p, [])
  | .lockKey _ b p _ => some (pageAt b p, [])
  | .fwLastingClear _ f _ => some (rdmC, [fwP f + 4])
  | .armU .. | .armL .. => some (mpgC, [mpgC + 0x048, sepC + 0x00C, sepC + 0x028, sepC + 0x02C])
  | .reseededClear .. => some (tbsC, [tbsC + 0x060, tbsC + 0x064])
  | .ofsCommit .. => some (tbsC, [tbsC + 0x04C])
  | .pfiSnap .. => some (pfiC, (pfiC + 0x040) :: (List.range 8).flatMap fun n => [0x170, 0x174, 0x178, 0x17C].map (fbP n + ·))
  | .sepDisagreeClear .. => some (sepC, [])
  | .lossClr _ n _ | .dlkEnable _ n _ => some (dlkP n, [dlkP n + 0x008])
  | .clgEnable .. | .peakClr .. => some (clgC, [0x008, 0x048, 0x04C, 0x050, 0x064, 0x06C].map (clgC + ·))
  | .clgFaultClear .. => some (clgC, [])
  | .sagLatchClr .. | .sagSafeKey .. => some (sagC, [])
  | .sagLoadData .. => some (sagC, [sagC + 0x044])
  | .sagLoadAbort .. | .spbCommit .. | .sagSafeConfirm .. => some (sagC, [sagC + 0x050])
  | .sioInReset .. | .sioOutReset .. | .dzRst .. => some (sioC, [])
  | .onReq _ g _ => some (sogP g, [sogP g + 0x008])
  | .ctxBarClear _ n _ => some (ctxP n, [])
  | .nibWdgKick _ p _ => some (apxP p, [])
  | .testReq .. => some (rdmC, [rdmC + 0x078])
  | .ikwRdIdx .. => some (ikwC, (ikwC + 0x0B0) :: (List.range 16).map fun i => ikwC + 0x0C0 + 4 * i)
  | .ikwCodeWrite _ c _ => some (ikwC, [ikwCodeP c])
  | .ikwFaultClear .. => some (ikwC, [])
  | .oppReq .. => some (pcrC, [pcrC + 0x04C, pcrC + 0x084, pcrC + 0x08C])
  | .sleepStandby .. | .sleepHibernate .. => some (pcrC, [pcrC + 0x054])
  | .ddrInit .. => some (memC, [memC + 0x054, memC + 0x058])
  | .xspiErase .. | .xspiProgram .. => some (memC, [memC + 0x064, ikwC + 0x00C, ikwC + 0x028, ikwC + 0x02C])
  | .otpProgram .. => some (memC, [memC + 0x090, memC + 0x094])
  | .arbAdvance .. => some (memC, [memC + 0x084, memC + 0x088])
  | .memBootSel .. => some (memC, [memC + 0x070])
  | .attReq .. => some (memC, [])
  | .dbgSubmit .. => some (memC, [memC + 0x4A0])
  | .ringTail _ n r _ => some (bniP n, [ringP n r + 0x10C])
  | .bniFaultClear _ n _ => some (bniP n, [])
  | _ => none

/-- The words of a page that the page's own events and counters use: `STAT`, `IRQ_RAW`, `LOCK`, `FAULT_CNT` and the stamp; and the
words of APX that count a refused write (R50, R51). -/
def stateWords (pg : Nat) : List Nat :=
  [0x00C, 0x010, 0x020, 0x024, 0x028, 0x02C].map (pg + ·) ++
  [apxC + 0x024, apxP 0 + R.Apx.SB_WR_CNT.off, apxP 0 + R.Apx.SB_WR_ADDR.off, apxP 1 + R.Apx.SB_WR_CNT.off, apxP 1 + R.Apx.SB_WR_ADDR.off]

/-- The block and the channel a command is of, for those whose effect stays with their channel. -/
def channelOf : Instr → Option (Fin 18 × Nat)
  | .pfiEnable _ n _ | .posSet _ n _ | .pfiFaultClear _ n _ => some (0x0B, n)
  | .quadCount n .. | .spdWindow n | .serRequest n | .serWord n .. | .serStale n | .indexEdge n .. | .probeEdge n .. =>
    some (0x0B, n)
  | .cmpArm _ n .. | .cmpDisarm _ n .. => some (0x0B, n)
  | .dmcEnable _ n _ | .oosClear _ n _ => some (0x0A, n)
  | .doorMoveDone n | .doorAtRest n | .obstruction n | .lostStep n | .reverseStart n | .overCurrent n .. | .driverFault n ..
  | .endSwitch n .. | .homeTimeout n | .calDone n .. | .doorProfileTick n | .pwmPeriodBoundary n .. => some (0x0A, n)
  | .upFrame n .. | .downFrame n | .periodMiss n | .symbolLock n | .symbolLockLoss n | .helloTimeout n => some (0x0C, n)
  | .lossClr _ n _ | .dlkEnable _ n _ => some (0x0C, n)
  | .txReq _ n .. | .txAbort _ n .. | .txLaunchDue n .. | .aloneRetry n .. => some (0x0D, n)
  | .ctxEnable _ n _ | .ctxDisable _ n _ | .ctxBarClear _ n _ => some (0x0E, n)
  | .inviteTimeout n | .gapTimeout n | .ackDue n | .retransmitDue n | .heartbeatMiss n | .cveSend n .. | .cveRelease n .. =>
    some (0x0E, n)
  | .linkChange n .. | .ethFrameReceived n .. | .ethFrameSent n .. | .ringTail _ n .. | .bniEnable _ n _ | .bniFaultClear _ n _ =>
    some (0x10, n)
  | _ => none

end Sys2Proof.Rule

open Sys2Proof Sys2Proof.Machine

/-- The command at the front of the queue is executed on the state with the queue's rest. -/
def Obligations.StepRunsFrontCommand : Prop :=
  ∀ (c : Instr) (rest : List Instr) (s : State), step { s with pending := c :: rest } = exec c { s with pending := rest }

/-- The model's choice (log entry 4): on an empty queue one tick of the 100 MHz clock passes; without committed offsets it adds
`INC` of R90 and the slew of one tick to the timebase. -/
def Obligations.IdleStepTicksTimebase : Prop :=
  ∀ s : State, s.pending = [] → s.tbs.ofs = [] →
    (s.tbs.stopped = true → step s = .next { s with tbs := { s.tbs with el := s.tbs.el + 10 } }) ∧
    (s.tbs.stopped = false → s.tbs.slew = 0 → step s = .next { s with tbs := { s.tbs with el := s.tbs.el + 10, acc :=
      (((s.tbs.acc : Int) + 10 * 2 ^ 32 + (if s.b tbsC R.Hdr.CTRL_EN then s.gs tbsC R.TbsC.TBS_RATE else 0)) % 2 ^ 96).toNat } })

/-- Every command answers a next state from every state: none faults and none is refused. -/
def Obligations.EveryCommandAnswers : Prop := ∀ (c : Instr) (s : State), ∃ t, exec c s = .next t

/-- The reset values that the register tables of R85, R481, R510, R533 and R546 give, and R88, R501, R526: in `State.reset` the
registers read them, and the machine is in power-on reset with nothing running. -/
def Obligations.ResetRegisterValues : Prop :=
  let s := State.reset
  s.g pcrC R.PcrC.PCR_RST_CAUSE = 1 ∧ s.g pcrC R.PcrC.PCR_OPP_OPP_CUR = 3 ∧ s.g pcrC R.PcrC.PCR_OPP_OPP_REQ = 3 ∧
  s.g pcrC R.PcrC.PCR_WAKE_EN = 0x180 ∧ s.g pcrC R.PcrC.PCR_DVS_DVS_TMO = 0x0A ∧ s.g pcrC R.PcrC.PCR_DVS_REQ = 4 ∧
  s.g pcrC R.PcrC.PCR_WAKE_PFI_WCNT = 0x10 ∧ s.g pcrC R.PcrC.STAT_XAON_OK = 0 ∧
  (∀ d < 10, s.b (pcrP d) R.Hdr.CTRL_EN = decide (d < 6) ∧ s.dom d = 0) ∧
  (∀ f ∈ [0x00, 0x9F, 0xF6, 0xFF], s.g (fwP f) R.Fw.K = 1 ∧ s.g (fwP f) R.Fw.W = 1000 ∧ s.fwLasting f = false) ∧
  (s.g (ikwCodeP 0x240) R.IkwCode.SEV = 1 ∧ s.g (ikwCodeP 0x3FF) R.IkwCode.SEV = 1) ∧
  s.g memC R.MemC.MEM_ECC_CFG_SCRUB_DIV = 0x400 ∧ s.g memC R.MemC.MEM_DDR_CFG_RANKS = 1 ∧
  (∀ n < 2, s.g (bniP n) R.Bni.SHAPE_BURST = 0x10 ∧ s.g (ringP n 7) R.Bni.RING_SIZE = 16) ∧
  s.stamp = 0 ∧ s.aon = 0 ∧ s.pcr.power = .off ∧ s.pending = [] ∧ s.ikw.fifo = [] ∧ s.mem = []

/-- The reset state is sound. -/
def Obligations.ResetStateIsSound : Prop := Rule.Inv State.reset

/-- Every step keeps the canonical forms and the bounds, from any state in which they hold. -/
def Obligations.StepKeepsInvariant : Prop := ∀ s t : State, Rule.Inv s → step s = .next t → Rule.Inv t

/-- A command changes only the parts within its reach; the queue and the order code it never changes. -/
def Obligations.CommandStaysWithinReach : Prop :=
  ∀ (c : Instr) (s t : State), exec c s = .next t →
    t.pending = s.pending ∧ t.lh6161 = s.lh6161 ∧ ∀ p, p ∉ Rule.reach c → Rule.Part.same s t p

/-- R50, R51, R60, R3, R441: what a command that is a register write leaves when the write is not permitted: a bus error counted in
`FAULT_CNT` of the APX common page, a bus error alone, a silent discard counted for the writing pair, or nothing. -/
def Obligations.RefusedWriteHasNoEffect : Prop :=
  ∀ (c : Instr) (i : Ini) (a : Nat) (s : State), Rule.writeOf c = some (i, a) →
    (s.verdictW i a = .errCount → Does c s fun t => t = { s with bus := .error }.inc apxC R.Hdr.FAULT_CNT) ∧
    (s.verdictW i a = .err → Does c s fun t => t = { s with bus := .error }) ∧
    (s.verdictW i a = .fused → Does c s fun t => t = { s with bus := .done 0 }) ∧
    (s.verdictW i a = .blocked → Does c s fun t => t = s) ∧
    (∀ p, s.verdictW i a = .silent p → Does c s fun t =>
      t = ({ s with bus := .done 0 }.inc (apxP p) R.Apx.SB_WR_CNT).wr (apxP p + R.Apx.SB_WR_ADDR.off) (wd a))

/-- R50, R52, R60: who may write a register word. An address that no page holds, an unaligned one and one in a domain that does not
answer give a bus error. At a command port only Nib writes; in a submission window only its pair; in OTP nobody; elsewhere the
engines and Nib never, and the debug port not while debug access is closed, but for the mailbox of R530. -/
def Obligations.WriteRights : Prop :=
  ∀ (s : State) (i : Ini) (a : Nat),
    (locate a = none → s.verdictW i a = .err) ∧
    ∀ l, locate a = some l →
      (a % 4 ≠ 0 ∨ s.domOn 5 = false ∨ s.domOn (blkDomain l.block) = false → s.verdictW i a = .err) ∧
      (a % 4 = 0 → s.domOn 5 = true → s.domOn (blkDomain l.block) = true → s.fusedPage l.kind = false →
        (l.kind = .otp → s.verdictW i a = .errCount) ∧
        (∀ q : Fin 2, l.kind = .win q → i ≠ .pair q → s.verdictW i a = .errCount) ∧
        (nibOnly l.kind l.rel = true → s.verdictW i a = if i = .nib then .ok else .errCount) ∧
        (l.kind.isPage = true → nibOnly l.kind l.rel = false →
          (i ∈ [.quill, .cve, .ikw, .bni, .crypto, .nib] → s.verdictW i a = .errCount) ∧
          (i = .debug → s.dbgOpen = false → ¬ (l.kind = .common 0x04 ∧ 0x400 ≤ l.rel ∧ l.rel ≤ 0x4A0) →
            s.verdictW i a = .errCount)) ∧
        (l.kind.isPage = true → nibOnly l.kind l.rel = false → l.kind ≠ .common 0x06 →
          ∀ p : Fin 2, i = .pair p → s.verdictW i a =
            if s.pst p = 4 then .ok else if s.pst p = 0 ∨ s.pst p = 5 then .blocked else .silent p))

/-- R51, R431: a write of the standby pair, or of a pair in BOOT or JOINING, to a register page written by the duty pair is discarded
without a bus error and without `FAULT_CNT`; `SB_WR_CNT` of the writing pair counts it and `SB_WR_ADDR` records its address. -/
def Obligations.StandbyWriteIsSilent : Prop :=
  ∀ (s : State) (p : Fin 2) (b : Fin 18) (pg : Fin 256) (o : Fin 1024) (v : Word),
    let a := pageAt b pg + 4 * o.val
    pg.val ≤ nchan b → b ≠ 6 ∨ pg ≠ 0 → (∀ l, locate a = some l → nibOnly l.kind l.rel = false ∧ s.fusedPage l.kind = false) →
    s.domOn 5 = true → s.domOn (blkDomain b) = true → s.pst p = 1 ∨ s.pst p = 2 ∨ s.pst p = 3 →
    Does (.registerWrite (.pair p) (wd a) v) s fun t =>
      t.bus = .done 0 ∧ t.g (apxP p) R.Apx.SB_WR_CNT = min (s.g (apxP p) R.Apx.SB_WR_CNT + 1) (2 ^ R.Apx.SB_WR_CNT.w - 1) ∧
      t.rd (apxP p + R.Apx.SB_WR_ADDR.off) = wd a ∧ t.rd (apxC + 0x024) = s.rd (apxC + 0x024) ∧ t.mem = s.mem ∧
      ∀ x, x ≠ apxP p + R.Apx.SB_WR_CNT.off → x ≠ apxP p + R.Apx.SB_WR_ADDR.off → t.rd x = s.rd x

/-- R3: on the LH6161 a read of a page of a fused-off unit returns its `ID` and zero everywhere else, a write is discarded without a
bus error, and a group or broadcast write does not reach it. -/
def Obligations.FusedPagesReadZero : Prop :=
  ∀ (s : State) (ini : Ini) (b n : Nat) (o : Fin 1024), s.lh6161 = true →
    (b = 0x08 ∧ n = 1) ∨ (b = 0x0A ∧ 4 ≤ n ∧ n < 8) ∨ (b = 0x0E ∧ 80 ≤ n ∧ n < 160) →
    let a := chPage b n + 4 * o.val
    (s.verdictR ini a = .ok → Does (.memoryAccess ini (BitVec.ofNat 34 a) (.read 4) 0) s fun t =>
      t = { s with bus := .done (if o.val = 0 then b * 2 ^ 24 + n * 2 ^ 16 + 0x4001 else 0) }) ∧
    (s.domOn 5 = true → s.domOn (blkDomain b) = true → ∀ v,
      Does (.registerWrite ini (wd a) v) s fun t => t = { s with bus := .done 0 }) ∧
    (∀ g, n ∉ s.members b g)

/-- R64: an access outside the ranges of the address map completes with a bus error and has no effect, whoever makes it; a pair that
is OFF or FAILED makes none (R441). -/
def Obligations.UnmappedAddressIsBusError : Prop :=
  ∀ (s : State) (ini : Ini) (a : BitVec 34) (op : MemOp) (e : Fin 3),
    (∀ p : Fin 2, ini = .pair p → s.pairBlocked p = false) →
    let x := a.toNat
    ¬ (x < 0x20000 ∨ (0x04000000 ≤ x ∧ x < 0x04200000) ∨ (0x10000000 ≤ x ∧ x < 0x11800000) ∨ (0x40000000 ≤ x ∧ x < 0x280000000)) →
    Does (.memoryAccess ini a op e) s fun t => t = { s with bus := .error }

/-- R65, R66, R67: block n holds the 1 MiB slot from 0x4000_0000 + (n << 20), its common page first and its channel pages after; slots
0x12 and above are unmapped and give a bus error. -/
def Obligations.BlockSlots : Prop :=
  (∀ (b : Fin 18) (p : Fin 256) (o : Nat), p.val ≤ nchan b → o < 0x1000 →
    ∃ l, locate (0x40000000 + b.val * 2 ^ 20 + p.val * 0x1000 + o) = some l ∧ l.block = b ∧ l.rel = o ∧
      l.kind = if p.val = 0 then .common b else .channel b (p.val - 1)) ∧
  (∀ (s : State) (ini : Ini) (a v : Word), 0x41200000 ≤ a.toNat → a.toNat < 0x60000000 →
    locate a.toNat = none ∧ Does (.registerWrite ini a v) s (fun t => t = { s with bus := .error }) ∧
    ∀ (op : MemOp) (e : Fin 3), (∀ p : Fin 2, ini = .pair p → s.pairBlocked p = false) →
      Does (.memoryAccess ini (a.setWidth 34) op e) s fun t => t = { s with bus := .error })

/-- R68, R60: in the peripheral space an access to an offset that no page or table occupies, one that is not an aligned 32-bit access,
and one to a page of a domain that does not answer complete with a bus error and have no effect. -/
def Obligations.PageAccessShape : Prop :=
  ∀ (s : State) (ini : Ini) (a : BitVec 34) (op : MemOp) (e : Fin 3),
    let x := a.toNat
    let n := match op with | .read n => n.val | .write d => d.length
    (∀ p : Fin 2, ini = .pair p → s.pairBlocked p = false) → 0x40000000 ≤ x → x < 0x60000000 →
    (locate x = none ∨ x % 4 ≠ 0 ∨ n ≠ 4 ∨ s.domOn 5 = false ∨ ∃ l, locate x = some l ∧ s.domOn (blkDomain l.block) = false) →
    Does (.memoryAccess ini a op e) s fun t => t = { s with bus := .error }

/-- R77: a read from a group page or the broadcast page returns `ID` with `KIND` and `INST` of that page; all other offsets read 0. -/
def Obligations.GroupPageReads : Prop :=
  ∀ (s : State) (ini : Ini) (b : Fin 18) (g : Option (Fin 4)) (o : Fin 1024),
    let pg := match g with | some g => grpPage b g | none => bcastPage b
    let kind := match g with | some g => g.val * 2 ^ 16 + 2 * 2 ^ 14 | none => 3 * 2 ^ 14
    nchan b ≠ 0 → s.verdictR ini (pg + 4 * o.val) = .ok →
    Does (.memoryAccess ini (BitVec.ofNat 34 (pg + 4 * o.val)) (.read 4) 0) s fun t =>
      t = { s with bus := .done (if o.val = 0 then b.val * 2 ^ 24 + kind + 1 else 0) }

/-- R14, R96: a read of a `_LO` word latches the `_HI` word, and the read of `_HI` that follows returns the latched word, so the two are
of one value; a read of `_HI` alone returns the word latched last; and `TBS_NOW` has its own latch for each initiator. -/
def Obligations.TimePairsReadWhole : Prop :=
  (∀ (s : State) (ini : Ini) (a : Word), Rule.timeLoRead ini a s) ∧
  (∀ (s : State) (ini : Ini) (a : Nat), isTimeLo a = true → s.fusedAt (a + 4) = false → s.verdictR ini (a + 4) = .ok →
    Does (.memoryAccess ini (BitVec.ofNat 34 (a + 4)) (.read 4) 0) s fun t =>
      t = { s with bus := .done (Tab.get (fun _ => 0#32) s.latches (latchKey ini (a + 4))).toNat }) ∧
  (∀ (s : State) (i j : Ini), iniCode i ≠ iniCode j → s.verdictR i (tbsC + 0x040) = .ok →
    Does (.timeLoRead i (wd (tbsC + 0x040))) s fun t => t.bus = .done (s.stamp % 2 ^ 32) ∧
      Tab.get (fun _ => 0#32) t.latches (latchKey i (tbsC + 0x044)) = hi32 s.stamp ∧
      Tab.get (fun _ => 0#32) t.latches (latchKey j (tbsC + 0x044)) = Tab.get (fun _ => 0#32) s.latches (latchKey j (tbsC + 0x044)))

/-- R73, R74: the lock of a page moves by its table: on keys (`Rule.lockKey`), from half-open to closed on a write to another register
of the page, and it stays on a write to another page. -/
def Obligations.LockMoves : Prop :=
  (∀ ini b p v s, Rule.lockKey ini b p v s) ∧
  (∀ (ini : Ini) (b : Fin 18) (p : Fin 256) (o : Nat) (v : Word) (s : State),
    let pg := pageAt b p
    p.val ≤ nchan b → o ∈ [0x000, 0x014, 0x018, 0x01C, 0x024, 0x030] → s.verdictW ini (pg + o) = .ok →
    Does (.registerWrite ini (wd (pg + o)) v) s fun t =>
      t.b pg R.Hdr.LOCK_HALF = false ∧ t.b pg R.Hdr.LOCK_OPEN = s.b pg R.Hdr.LOCK_OPEN ∧
      ∀ (c : Fin 18) (q : Fin 256), q.val ≤ nchan c → pageAt c q ≠ pg → t.rd (pageAt c q + 0x020) = s.rd (pageAt c q + 0x020))

/-- R78: an event sets its bit in `IRQ_RAW`; `IRQ_STAT` reads as `IRQ_RAW` AND `IRQ_EN`; a write of `IRQ_STAT` clears the bit in both; a
cleared `IRQ_EN` bit leaves `IRQ_RAW`, and setting it again brings the bit back; `IRQ_FORCE` sets bits as events do. R80, R56, R58: a
bit that newly sets in `IRQ_STAT` pends the page's source at both pairs' controllers, and the write that clears the page's last event
withdraws the request of the duty pair (log entry 171: the other pair's controller keeps its own). -/
def Obligations.InterruptRegisters : Prop :=
  ∀ (b : Fin 18) (p : Fin 256), p.val ≤ nchan b →
    let pg := pageAt b p
    (∀ (s : State) (i : Fin 32), (s.irq pg i).rd (pg + 0x010) = s.rd (pg + 0x010) ||| (1#32 <<< i.val) ∧
      (s.irq pg i).rd (pg + 0x014) = s.rd (pg + 0x014) ∧
      (bitOf (s.rd (pg + 0x014)).toNat i = true → bitOf (s.rd (pg + 0x010)).toNat i = false →
        ∀ q < 2, (q, irqNo pg) ∈ (s.irq pg i).pends)) ∧
    (∀ s : State, s.fusedAt pg = false → s.look (pg + 0x018) = s.rd (pg + 0x010) &&& s.rd (pg + 0x014)) ∧
    (∀ (ini : Ini) (v : Word) (s : State), s.verdictW ini (pg + 0x018) = .ok →
      Does (.registerWrite ini (wd (pg + 0x018)) v) s fun t => t.rd (pg + 0x010) = s.rd (pg + 0x010) &&& ~~~ v ∧
        t.look (pg + 0x018) = s.look (pg + 0x018) &&& ~~~ v ∧
        (t.rd (pg + 0x010) &&& t.rd (pg + 0x014) = 0#32 →
          ∀ q : Nat, (s.duty = some q → (q, irqNo pg) ∉ t.pends) ∧
            (s.duty ≠ some q → ((q, irqNo pg) ∈ t.pends ↔ (q, irqNo pg) ∈ s.pends)))) ∧
    (∀ (ini : Ini) (v : Word) (s : State), s.verdictW ini (pg + 0x014) = .ok →
      Does (.registerWrite ini (wd (pg + 0x014)) v) s fun t => t.rd (pg + 0x010) = s.rd (pg + 0x010) ∧
        t.look (pg + 0x018) = s.rd (pg + 0x010) &&& v) ∧
    (∀ (ini : Ini) (v : Word) (s : State), Rule.irqForce ini b p v s)

/-- R70, R71: a write that lands takes effect field by field by the access type; with the lock closed RWL fields keep their values, and
a change they would have made is counted once. The header words `IRQ_EN`, `IRQ_STAT`, `IRQ_FORCE` and `LOCK` have rules of their own. -/
def Obligations.AccessTypes : Prop :=
  ∀ (s : State) (a : Nat) (v : Word) (l : Loc), locate a = some l → a % 4 = 0 →
    (l.kind.isPage = true → l.rel ∉ [0x014, 0x018, 0x01C, 0x020, 0x024, 0x028, 0x02C]) →
    let t := s.land a v
    (∀ r ∈ rowsOf l, r.covers l.rel = true →
      fget r.f (t.rd a) =
        match r.acc with
        | .rw | .wo => fget r.f v
        | .ro => fget r.f (s.rd a)
        | .rwl => if s.lockOpen l.lock then fget r.f v else fget r.f (s.rd a)
        | .w1cFlag => Nat.land (fget r.f (s.rd a)) (2 ^ r.f.w - 1 - fget r.f v)
        | .w1cCnt => if fget r.f v = 2 ^ r.f.w - 1 then 0 else fget r.f (s.rd a)
        | .w1s => Nat.lor (fget r.f (s.rd a)) (fget r.f v)) ∧
    (a ≠ l.lock + 0x024 → t.g l.lock R.Hdr.FAULT_CNT =
      if s.lockOpen l.lock = false ∧ (∃ r ∈ rowsOf l, r.covers l.rel = true ∧ r.acc = .rwl ∧ fget r.f (s.rd a) ≠ fget r.f v)
      then min (s.g l.lock R.Hdr.FAULT_CNT + 1) (2 ^ 32 - 1) else s.g l.lock R.Hdr.FAULT_CNT)

/-- R83, R86, R87: an occurrence is counted and stamped; with K − 1 or more earlier ones within the window it is lasting and sets
`LASTING` and `IRQ_RAW` bit 0 of RDM, unless it is set already; no other filter changes, and `LASTING` clears as R85 says
(`Rule.fwLastingClear`). While PD_FAB sleeps it is held, up to 32. -/
def Obligations.FaultWindowFilter : Prop :=
  (∀ ini f v s, Rule.fwLastingClear ini f v s) ∧
  ∀ (s : State) (f : Fin 256),
    let t := s.fwOccur f
    let n := (s.fwWithin f (s.g (fwP f) R.Fw.W) (s.stamp / 1000000)).length
    (s.fabAsleep = false →
      t.g (fwP f) R.Fw.OCC_CNT = min (s.g (fwP f) R.Fw.OCC_CNT + 1) 65535 ∧
      t.gTs (fwP f) R.Fw.TS_LO R.Fw.TS_HI = s.stamp ∧
      t.fwLasting f = (s.fwLasting f || decide (s.g (fwP f) R.Fw.K ≤ n + 1)) ∧
      (s.fwLasting f = false → s.g (fwP f) R.Fw.K ≤ n + 1 → t.g rdmC R.Hdr.IRQ_RAW % 2 = 1) ∧
      (∀ g : Fin 256, g ≠ f → t.fwLasting g = s.fwLasting g ∧ t.rd (fwP g) = s.rd (fwP g) ∧ t.rd (fwP g + 4) = s.rd (fwP g + 4))) ∧
    (s.fabAsleep = true →
      (s.rdm.held.length < 32 → t = { s with rdm := { s.rdm with held := s.rdm.held ++ [⟨f, s.stamp⟩] } }) ∧
      (32 ≤ s.rdm.held.length → t.rdm = s.rdm ∧ t.b rdmC R.RdmC.STAT_QOVF = true))

/-- R465 to R468: a record offered takes the next number of its source. With a token for its code, room for its severity and nothing of
its code suppressed it enters the staging FIFO with its stamp, behind every record but those of its own stamp and a higher `SRC`
(R94, R476), and takes the token; with no token it is suppressed and counted. -/
def Obligations.RecordOffer : Prop :=
  ∀ (s : State) (c : Fin 1024) (src : Nat) (d : List Word),
    let t := s.ikwOffer c src d
    let n := Tab.get (fun _ => 0) s.ikw.sseq src
    let cp := ikwCodeP c
    s.g (ikwSupP c) R.IkwSup.PEND = 0 →
    Tab.get (fun _ => 0) t.ikw.sseq src = (n + 1) % 65536 ∧
    (s.g cp R.IkwCode.BURST ≤ s.g cp R.IkwCode.TOKENS → 0 < s.g cp R.IkwCode.TOKENS →
      s.ikwAccepts (s.g cp R.IkwCode.SEV) = true →
      let r : IkwRec := ⟨s.stamp, c, s.g cp R.IkwCode.SEV, src, n, s.recFlags, s.pcr.pcycle, s.optime, recData d⟩
      (∃ l k, s.ikw.fifo = l ++ k ∧ t.ikw.fifo = l ++ r :: k ∧ (∀ x ∈ l, ¬ (x.stamp = r.stamp ∧ r.src < x.src)) ∧
        ∀ x ∈ k.head?, x.stamp = r.stamp ∧ r.src < x.src) ∧
      t.g cp R.IkwCode.TOKENS = s.g cp R.IkwCode.TOKENS - 1) ∧
    (s.g cp R.IkwCode.BURST = 0 → s.g cp R.IkwCode.TOKENS = 0 →
      t.ikw.fifo = s.ikw.fifo ∧ t.g (ikwSupP c) R.IkwSup.PEND = 1 ∧ t.g (ikwSupP c) R.IkwSup.RATE = 1 ∧
      t.g ikwC R.IkwC.IKW_SUP_CNT = min (s.g ikwC R.IkwC.IKW_SUP_CNT + 1) (2 ^ R.IkwC.IKW_SUP_CNT.w - 1) ∧
      t.gTs (ikwSupP c) R.IkwSup.FIRST_TS_LO R.IkwSup.FIRST_TS_HI = s.stamp)

/-- R525: the anti-rollback counter is the value of the highest-numbered entry that is not zero, or 0; and `Rule.arbAdvance` states what
a request does. At all ones every request is at most the counter, and so is refused. -/
def Obligations.AntiRollbackCounter : Prop :=
  (∀ s : State, (∀ n < 32, s.arb n = 0) → s.arbCounter = 0) ∧
  (∀ (s : State) (n : Nat), n < 32 → s.arb n ≠ 0 → (∀ k, n < k → k < 32 → s.arb k = 0) → s.arbCounter = s.arb n) ∧
  (∀ ini v s, Rule.arbAdvance ini v s)

/-- What a register write of its own row leaves: every register word but those its rule names and the state words of its page. -/
def Obligations.WritesKeepOtherWords : Prop :=
  ∀ (c : Instr) (pg : Nat) (ws : List Nat) (s t : State), Rule.ownWords c = some (pg, ws) → exec c s = .next t →
    ∀ a, a ∉ ws → a ∉ Rule.stateWords pg → t.rd a = s.rd a

/-- A command of one channel leaves the registers of the block's other channels; a door only while it is not linked, and of PFI
the feedback channels, as a pulse output follows its source (R141). -/
def Obligations.ChannelsStayApart : Prop :=
  ∀ (c : Instr) (b : Fin 18) (n : Nat) (s t : State), Rule.channelOf c = some (b, n) →
    (b = 0x0A → s.b (dmcP n) R.Dmc.LINK_EN = false) → exec c s = .next t →
    ∀ m, m < (if b = 0x0B then 8 else nchan b) → m ≠ n → ∀ o < 1024, t.rd (chPage b m + 4 * o) = s.rd (chPage b m + 4 * o)

/-- PFI: enable, quadrature count, origin, speed window, serial words: each command does what its rule states (`Rule.pfiEnable` to `Rule.serStale`). Where a rule leaves a reading or a value
open, the model's choice is in log entries 3, 131, 152, 153, 154. -/
def Obligations.FeedbackCounting : Prop :=
  (∀ (ini : Ini) (n : Fin 8) (v : Word) (s : State),
    Rule.pfiEnable ini n v s) ∧
  (∀ (n : Fin 8) (a b : Bool) (clks : Nat) (s : State),
    Rule.quadCount n a b clks s) ∧
  (∀ (ini : Ini) (n : Fin 8) (v : Word) (s : State),
    Rule.posSet ini n v s) ∧
  (∀ (n : Fin 8) (s : State),
    Rule.spdWindow n s) ∧
  (∀ (n : Fin 8) (s : State),
    Rule.serRequest n s) ∧
  (∀ (n : Fin 8) (started : Bool) (data : Nat) (nE nW : Bool) (crc delay : Nat) (s : State),
    Rule.serWord n started data nE nW crc delay s) ∧
  (∀ (n : Fin 8) (s : State),
    Rule.serStale n s)

/-- PFI: index and probe latches, compare units, fault clear, snapshot, pulse outputs: each command does what its rule states (`Rule.indexEdge` to `Rule.poStep`). Where a rule leaves a reading or a value
open, the model's choice is in log entries 3, 132, 154. -/
def Obligations.FeedbackLatchesAndCompares : Prop :=
  (∀ (n : Fin 8) (src : Fin 3) (lvl : Bool) (clks : Nat) (s : State),
    Rule.indexEdge n src lvl clks s) ∧
  (∀ (n : Fin 8) (q : Fin 2) (lvl : Bool) (clks : Nat) (s : State),
    Rule.probeEdge n q lvl clks s) ∧
  (∀ (ini : Ini) (n : Fin 8) (c : Fin 4) (v : Word) (s : State),
    Rule.cmpArm ini n c v s) ∧
  (∀ (ini : Ini) (n : Fin 8) (c : Fin 4) (v : Word) (s : State),
    Rule.cmpDisarm ini n c v s) ∧
  (∀ (ini : Ini) (n : Fin 8) (v : Word) (s : State),
    Rule.pfiFaultClear ini n v s) ∧
  (∀ (ini : Ini) (v : Word) (s : State),
    Rule.pfiSnap ini v s) ∧
  (∀ (k : Fin 2) (s : State),
    Rule.poStep k s)

/-- TBS: committed offsets, steps and slews, reseed clear, SYNC and FOLLOW_UP: each command does what its rule states (`Rule.ofsCommit` to `Rule.followUpSend`). Where a rule leaves a reading or a value
open, the model's choice is in log entries 3, 83, 84, 85, 151. -/
def Obligations.TimebaseOffsetsAndSync : Prop :=
  (∀ (ini : Ini) (v : Word) (s : State),
    Rule.ofsCommit ini v s) ∧
  (∀ (o : Int) (rest : List Int) (s : State),
    Rule.tbStep o rest s) ∧
  (∀ (s : State),
    Rule.slewDone s) ∧
  (∀ (ini : Ini) (v : Word) (s : State),
    Rule.reseededClear ini v s) ∧
  (∀ (n : Fin 4) (s : State),
    Rule.syncSend n s) ∧
  (∀ (n : Fin 4) (s : State),
    Rule.syncDeadline n s) ∧
  (∀ (n : Fin 4) (s : State),
    Rule.followUpSend n s)

/-- SBC: enable, out of service, bus-off recovery, integration, restricted operation: each command does what its rule states (`Rule.sbcEnable` to `Rule.busOffRecovered`). Where a rule leaves a reading or a value
open, the model's choice is in log entries 3, 75, 76, 175. -/
def Obligations.BusPortStates : Prop :=
  (∀ (ini : Ini) (n : Fin 8) (v : Word) (s : State),
    Rule.sbcEnable ini n v s) ∧
  (∀ (ini : Ini) (n : Fin 8) (v : Word) (s : State),
    Rule.sbcOos ini n v s) ∧
  (∀ (ini : Ini) (n : Fin 8) (v : Word) (s : State),
    Rule.borReq ini n v s) ∧
  (∀ (n : Fin 8) (s : State),
    Rule.busIntegrated n s) ∧
  (∀ (n : Fin 8) (s : State),
    Rule.restrictedEnd n s) ∧
  (∀ (n : Fin 8) (s : State),
    Rule.busOffRecovered n s)

/-- SBC: transmit requests, aborts, timed launch, attempts and their outcomes, retries alone: each command does what its rule states (`Rule.txReq` to `Rule.txAttemptErr`). Where a rule leaves a reading or a value
open, the model's choice is in log entries 71, 72, 73, 74, 79, 82, 175, 176. -/
def Obligations.BusTransmission : Prop :=
  (∀ (ini : Ini) (n : Fin 8) (b : Fin 3) (v : Word) (idle : Bool) (s : State),
    Rule.txReq ini n b v idle s) ∧
  (∀ (ini : Ini) (n : Fin 8) (b : Fin 3) (v : Word) (s : State),
    Rule.txAbort ini n b v s) ∧
  (∀ (n : Fin 8) (b : Fin 3) (idle : Bool) (s : State),
    Rule.txLaunchDue n b idle s) ∧
  (∀ (n : Fin 8) (b : Fin 3) (s : State),
    Rule.aloneRetry n b s) ∧
  (∀ (n : Fin 8) (b : Fin 3) (tdcv : Nat) (dom : Bool) (s : State),
    Rule.txAttemptOk n b tdcv dom s) ∧
  (∀ (n : Fin 8) (b : Fin 3) (tdcv : Nat) (dom : Bool) (s : State),
    Rule.txAttemptLost n b tdcv dom s) ∧
  (∀ (n : Fin 8) (b : Fin 3) (code : BitVec 3) (data : Bool) (tdcv : Nat) (dom : Bool) (s : State),
    Rule.txAttemptErr n b code data tdcv dom s)

/-- SBC: received frames, errors while receiving, protocol exception, fault clear: each command does what its rule states (`Rule.frameReceived` to `Rule.sbcFaultClear`). Where a rule leaves a reading or a value
open, the model's choice is in log entries 71, 72, 77, 78, 80, 81. -/
def Obligations.BusReceptionAndErrors : Prop :=
  (∀ (n : Fin 8) (f : RxFrame) (s : State),
    Rule.frameReceived n f s) ∧
  (∀ (n : Fin 8) (code : BitVec 3) (data dom : Bool) (s : State),
    Rule.busError n code data dom s) ∧
  (∀ (n : Fin 8) (s : State),
    Rule.protocolException n s) ∧
  (∀ (ini : Ini) (n : Fin 8) (v : Word) (s : State),
    Rule.sbcFaultClear ini n v s)

/-- CVE: contexts enabled, invited, barred; SEND, RELEASE and notice commands: each command does what its rule states (`Rule.ctxEnable` to `Rule.cveNotice`). Where a rule leaves a reading or a value
open, the model's choice is in log entries 3, 96, 97, 98, 99. -/
def Obligations.ContextRosterAndCommands : Prop :=
  (∀ (ini : Ini) (n : Fin 160) (v : Word) (s : State),
    Rule.ctxEnable ini n v s) ∧
  (∀ (ini : Ini) (n : Fin 160) (v : Word) (s : State),
    Rule.ctxDisable ini n v s) ∧
  (∀ (c d : Nat) (s : State),
    Rule.inviteSlot c d s) ∧
  (∀ (n : Fin 160) (d : Nat) (s : State),
    Rule.inviteTimeout n d s) ∧
  (∀ (ini : Ini) (n : Fin 160) (v : Word) (s : State),
    Rule.ctxBarClear ini n v s) ∧
  (∀ (n : Fin 160) (hdr : Word) (d : List Word) (tag : BitVec 16) (s : State),
    Rule.cveSend n hdr d tag s) ∧
  (∀ (n : Fin 160) (p : Fin 2) (count : BitVec 7) (tag : BitVec 16) (s : State),
    Rule.cveRelease n p count tag s) ∧
  (∀ (hdr : Word) (d : List Word) (tag : BitVec 16) (s : State),
    Rule.cveNotice hdr d tag s)

/-- CVE: JOIN, WELCOME, LEAVE, NAK and HEARTBEAT frames, missed and broadcast heartbeats: each command does what its rule states (`Rule.join` to `Rule.bcastHeartbeat`). Where a rule leaves a reading or a value
open, the model's choice is in log entries 86, 87, 88, 89, 90, 91. -/
def Obligations.ConversationControl : Prop :=
  (∀ (port : Fin 8) (src : Byte) (c : Nat) (seq : BitVec 16) (serial : Word) (ver cls : Byte) (first : BitVec 16) (age : Nat) (s : State),
    Rule.join port src c seq serial ver cls first age s) ∧
  (∀ (n : Fin 160) (k : Fin 8) (f : EFrm) (s : State),
    Rule.welcome n k f s) ∧
  (∀ (port : Fin 8) (src : Byte) (c : Nat) (seq : BitVec 16) (reason : Byte) (age : Nat) (s : State),
    Rule.leave port src c seq reason age s) ∧
  (∀ (port : Fin 8) (src : Byte) (c : Nat) (seq ref : BitVec 16) (refType reason : Byte) (detail : BitVec 16) (age : Nat) (s : State),
    Rule.nak port src c seq ref refType reason detail age s) ∧
  (∀ (port : Fin 8) (src : Byte) (c : Nat) (seq next : BitVec 16) (full : Bool) (per heard : Byte) (age : Nat) (s : State),
    Rule.heartbeat port src c seq next full per heard age s) ∧
  (∀ (n : Fin 160) (s : State),
    Rule.heartbeatMiss n s) ∧
  (∀ (net : Fin 4) (d : Nat) (s : State),
    Rule.bcastHeartbeat net d s)

/-- CVE: DATA and ACK frames, the gap timer, acknowledgements owed, retransmission: each command does what its rule states (`Rule.data` to `Rule.retransmitDue`). Where a rule leaves a reading or a value
open, the model's choice is in log entries 92, 93, 94, 95. -/
def Obligations.ConversationData : Prop :=
  (∀ (port : Fin 8) (src : Byte) (c : Nat) (prio : BitVec 3) (stream : BitVec 6) (seq : BitVec 16) (msg : List Byte) (age : Nat) (s : State),
    Rule.data port src c prio stream seq msg age s) ∧
  (∀ (port : Fin 8) (src : Byte) (c : Nat) (seq cum : BitVec 16) (held : Byte) (full : Bool) (age : Nat) (s : State),
    Rule.ack port src c seq cum held full age s) ∧
  (∀ (n : Fin 160) (d : Nat) (s : State),
    Rule.gapTimeout n d s) ∧
  (∀ (n : Fin 160) (s : State),
    Rule.ackDue n s) ∧
  (∀ (n : Fin 160) (f : OutFrm) (s : State),
    Rule.retransmitDue n f s)

/-- MPG: arming, its checks, and disarming of the shaft map: each command does what its rule states (`Rule.armU` to `Rule.disarmL`). Where a rule leaves a reading or a value
open, the model's choice is in log entries 3, 25, 145, 162, 163. -/
def Obligations.ShaftMapArming : Prop :=
  (∀ (ini : Ini) (v : Word) (s : State),
    Rule.armU ini v s) ∧
  (∀ (ini : Ini) (v : Word) (s : State),
    Rule.armL ini v s) ∧
  (∀ (c : Fin 2) (s : State),
    Rule.armCheckDone c s) ∧
  (∀ (ini : Ini) (v : Word) (s : State),
    Rule.disarmU ini v s) ∧
  (∀ (ini : Ini) (v : Word) (s : State),
    Rule.disarmL ini v s)

/-- MPG: stop, stop ramp and relevel commands, halt clear, enable; SEP disagreement clear: each command does what its rule states (`Rule.mpgStop` to `Rule.sepDisagreeClear`). Where a rule leaves a reading or a value
open, the model's choice is in log entries 22, 23, 24, 25. -/
def Obligations.GeneratorCommands : Prop :=
  (∀ (c : Fin 2) (tag : BitVec 16) (s : State),
    Rule.mpgStop c tag s) ∧
  (∀ (c : Fin 2) (d j : Word) (tag : BitVec 16) (s : State),
    Rule.mpgStopRamp c d j tag s) ∧
  (∀ (c : Fin 2) (tag : BitVec 16) (s : State),
    Rule.mpgRelevel c tag s) ∧
  (∀ (ini : Ini) (c : Fin 2) (v : Word) (s : State),
    Rule.haltClr ini c v s) ∧
  (∀ (ini : Ini) (c : Fin 2) (v : Word) (s : State),
    Rule.mpgEnable ini c v s) ∧
  (∀ (ini : Ini) (v : Word) (s : State),
    Rule.sepDisagreeClear ini v s)

/-- MPG: the hoist period boundary, levelling and its timeout: each command does what its rule states (`Rule.hoistPeriodBoundary` to `Rule.levelMiss`). Where a rule leaves a reading or a value
open, the model's choice is in log entries 20, 21, 22, 36, 146, 156, 163. -/
def Obligations.GeneratorMotion : Prop :=
  (∀ (c : Fin 2) (s : State),
    Rule.hoistPeriodBoundary c s) ∧
  (∀ (c : Fin 2) (s : State),
    Rule.levelled c s) ∧
  (∀ (c : Fin 2) (s : State),
    Rule.levelMiss c s)

/-- EXE: load, go, hold, resume, cancel, release, dwell and event timeout: each command does what its rule states (`Rule.exeLoad` to `Rule.evtTimeout`). Where a rule leaves a reading or a value
open, the model's choice is in log entries 3, 28. -/
def Obligations.StopPlanExecutor : Prop :=
  (∀ (c : Fin 2) (idx : Fin 64) (w0 w1 w2 w3 : Word) (tag : BitVec 16) (s : State),
    Rule.exeLoad c idx w0 w1 w2 w3 tag s) ∧
  (∀ (c : Fin 2) (idx : Fin 64) (tag : BitVec 16) (s : State),
    Rule.exeGo c idx tag s) ∧
  (∀ (c : Fin 2) (tag : BitVec 16) (s : State),
    Rule.exeHold c tag s) ∧
  (∀ (c : Fin 2) (tag : BitVec 16) (s : State),
    Rule.exeResume c tag s) ∧
  (∀ (c : Fin 2) (w0 w1 : Word) (tag : BitVec 16) (s : State),
    Rule.exeCancel c w0 w1 tag s) ∧
  (∀ (c : Fin 2) (tag : BitVec 16) (s : State),
    Rule.exeRelease c tag s) ∧
  (∀ (c : Fin 2) (s : State),
    Rule.dwellDone c s) ∧
  (∀ (c : Fin 2) (s : State),
    Rule.evtTimeout c s)

/-- DLK: down and up frames, missed periods, symbol lock, HELLO, loss clear, enable: each command does what its rule states (`Rule.downFrame` to `Rule.dlkEnable`). Where a rule leaves a reading or a value
open, the model's choice is in log entries 3, 29, 35, 155. -/
def Obligations.DriveLinkFramesAndStates : Prop :=
  (∀ (n : Fin 2) (s : State),
    Rule.downFrame n s) ∧
  (∀ (n : Fin 2) (bytes : List Byte) (dt : Nat) (s : State),
    Rule.upFrame n bytes dt s) ∧
  (∀ (n : Fin 2) (s : State),
    Rule.periodMiss n s) ∧
  (∀ (n : Fin 2) (s : State),
    Rule.symbolLock n s) ∧
  (∀ (n : Fin 2) (s : State),
    Rule.symbolLockLoss n s) ∧
  (∀ (n : Fin 2) (s : State),
    Rule.helloTimeout n s) ∧
  (∀ (ini : Ini) (n : Fin 2) (v : Word) (s : State),
    Rule.lossClr ini n v s) ∧
  (∀ (ini : Ini) (n : Fin 2) (v : Word) (s : State),
    Rule.dlkEnable ini n v s)

/-- CLG: insert, assign, unassign, serve, cancel and set-app commands: each command does what its rule states (`Rule.clgInsert` to `Rule.clgSetApp`). Where a rule leaves a reading or a value
open, the model's choice is in log entries 26, 27, 161. -/
def Obligations.LedgerCommands : Prop :=
  (∀ (w0 w1 w2 w3 w4 w5 : Word) (tag seq : BitVec 16) (s : State),
    Rule.clgInsert w0 w1 w2 w3 w4 w5 tag seq s) ∧
  (∀ (idx : BitVec 14) (car : Fin 4) (tag seq : BitVec 16) (s : State),
    Rule.clgAssign idx car tag seq s) ∧
  (∀ (idx : BitVec 14) (tag seq : BitVec 16) (s : State),
    Rule.clgUnassign idx tag seq s) ∧
  (∀ (idx : BitVec 14) (tag seq : BitVec 16) (s : State),
    Rule.clgServe idx tag seq s) ∧
  (∀ (idx : BitVec 14) (tag seq : BitVec 16) (s : State),
    Rule.clgCancel idx tag seq s) ∧
  (∀ (idx : BitVec 14) (flags : BitVec 6) (app : Word) (tag seq : BitVec 16) (s : State),
    Rule.clgSetApp idx flags app tag seq s)

/-- CLG: a command held for views, enable and initialisation, peak and fault clear: each command does what its rule states (`Rule.viewStallApply` to `Rule.clgFaultClear`). Where a rule leaves a reading or a value
open, the model's choice is in log entries 32, 179. -/
def Obligations.LedgerViewsAndState : Prop :=
  (∀ (c : ClgCmd) (rest : List ClgCmd) (s : State),
    Rule.viewStallApply c rest s) ∧
  (∀ (ini : Ini) (v : Word) (s : State),
    Rule.clgEnable ini v s) ∧
  (∀ (s : State),
    Rule.clgInitDone s) ∧
  (∀ (ini : Ini) (v : Word) (s : State),
    Rule.peakClr ini v s) ∧
  (∀ (ini : Ini) (v : Word) (s : State),
    Rule.clgFaultClear ini v s)

/-- DMC: open, close, stop, home and calibrate commands, enable, out-of-service clear: each command does what its rule states (`Rule.dmcOpen` to `Rule.oosClear`). Where a rule leaves a reading or a value
open, the model's choice is in log entries 37, 40, 41, 158. -/
def Obligations.DoorCommands : Prop :=
  (∀ (d : DoorDst) (arg : Word) (tag : BitVec 16) (s : State),
    Rule.dmcOpen d arg tag s) ∧
  (∀ (d : DoorDst) (tag : BitVec 16) (s : State),
    Rule.dmcClose d tag s) ∧
  (∀ (d : DoorDst) (tag : BitVec 16) (s : State),
    Rule.dmcStop d tag s) ∧
  (∀ (d : DoorDst) (tag : BitVec 16) (s : State),
    Rule.dmcHome d tag s) ∧
  (∀ (d : DoorDst) (tag : BitVec 16) (s : State),
    Rule.dmcCal d tag s) ∧
  (∀ (ini : Ini) (n : Fin 8) (v : Word) (s : State),
    Rule.dmcEnable ini n v s) ∧
  (∀ (ini : Ini) (n : Fin 8) (v : Word) (s : State),
    Rule.oosClear ini n v s)

/-- DMC: target reached, at rest, obstruction, reversal, end switches, homing and calibration ends: each command does what its rule states (`Rule.doorMoveDone` to `Rule.calDone`). Where a rule leaves a reading or a value
open, the model's choice is in log entries 3, 30, 37, 38, 39, 42, 43, 158. -/
def Obligations.DoorMotionEvents : Prop :=
  (∀ (n : Fin 8) (s : State),
    Rule.doorMoveDone n s) ∧
  (∀ (n : Fin 8) (s : State),
    Rule.doorAtRest n s) ∧
  (∀ (n : Fin 8) (s : State),
    Rule.obstruction n s) ∧
  (∀ (n : Fin 8) (s : State),
    Rule.reverseStart n s) ∧
  (∀ (n : Fin 8) (isOpen pin : Bool) (us : Nat) (s : State),
    Rule.endSwitch n isOpen pin us s) ∧
  (∀ (n : Fin 8) (s : State),
    Rule.homeTimeout n s) ∧
  (∀ (n : Fin 8) (sumA sumB : BitVec 24) (reach rise : Nat) (mv ma : Nat) (s : State),
    Rule.calDone n sumA sumB reach rise mv ma s)

/-- DMC: lost steps, over-current, driver faults, profile ticks and PWM period boundaries: each command does what its rule states (`Rule.lostStep` to `Rule.pwmPeriodBoundary`). Where a rule leaves a reading or a value
open, the model's choice is in log entries 30, 31, 38, 158. -/
def Obligations.DoorDriverEvents : Prop :=
  (∀ (n : Fin 8) (s : State),
    Rule.lostStep n s) ∧
  (∀ (n : Fin 8) (phaseB : Bool) (s : State),
    Rule.overCurrent n phaseB s) ∧
  (∀ (n : Fin 8) (low : Bool) (s : State),
    Rule.driverFault n low s) ∧
  (∀ (n : Fin 8) (s : State),
    Rule.doorProfileTick n s) ∧
  (∀ (n : Fin 8) (codeA codeB : BitVec 14) (moreA moreB : List (BitVec 14)) (s : State),
    Rule.pwmPeriodBoundary n codeA codeB moreA moreB s)

/-- SLP and Sage: cycles, word timeout, lockstep error, missing record, mailbox requests: each command does what its rule states (`Rule.slpCycle` to `Rule.slpReadSpb`). Where a rule leaves a reading or a value
open, the model's choice is in log entries 3, 45, 46, 47, 51, 53, 60, 61, 62, 63, 67, 157, 160, 173, 174. -/
def Obligations.SafetyLaneCycles : Prop :=
  (∀ (rb fb : BitVec 12) (ck : Nat) (fails : BitVec 10) (slpRec sgRec : Bool) (s : State),
    Rule.slpCycle rb fb ck fails slpRec sgRec s) ∧
  (∀ (rb fb : BitVec 12) (vanes : BitVec 2) (wordU wordL : Option SgWord) (fail : Bool) (s : State),
    Rule.sageCycle rb fb vanes wordU wordL fail s) ∧
  (∀ (c : Fin 2) (s : State),
    Rule.sageWordTimeout c s) ∧
  (∀ (s : State),
    Rule.lockstepError s) ∧
  (∀ (s : State),
    Rule.sageRecordMissing s) ∧
  (∀ (p : Fin 2) (seq : BitVec 16) (s : State),
    Rule.slpGetStatus p seq s) ∧
  (∀ (p : Fin 2) (seq : BitVec 16) (s : State),
    Rule.slpRunTest p seq s) ∧
  (∀ (p : Fin 2) (seq : BitVec 16) (s : State),
    Rule.slpReadSpb p seq s)

/-- SAG: latch clear, key, gate timeout, load and abort, commit, checks, copies, confirm: each command does what its rule states (`Rule.sagLatchClr` to `Rule.sagSafeConfirm`). Where a rule leaves a reading or a value
open, the model's choice is in log entries 3, 25, 56, 58, 59, 65, 69, 159. -/
def Obligations.SafetyGateAndParameterBlock : Prop :=
  (∀ (ini : Ini) (v : Word) (s : State),
    Rule.sagLatchClr ini v s) ∧
  (∀ (ini : Ini) (v : Word) (s : State),
    Rule.sagSafeKey ini v s) ∧
  (∀ (s : State),
    Rule.gateTimeout s) ∧
  (∀ (ini : Ini) (v : Word) (s : State),
    Rule.sagLoadData ini v s) ∧
  (∀ (ini : Ini) (v : Word) (s : State),
    Rule.sagLoadAbort ini v s) ∧
  (∀ (ini : Ini) (v : Word) (s : State),
    Rule.spbCommit ini v s) ∧
  (∀ (same : Bool) (s : State),
    Rule.spbCheckDone same s) ∧
  (∀ (okA okB : Bool) (s : State),
    Rule.spbCopiesWritten okA okB s) ∧
  (∀ (ini : Ini) (v : Word) (s : State),
    Rule.sagSafeConfirm ini v s)

/-- SIO: input changes, test pulses and their read-backs, discrepancy, input reset: each command does what its rule states (`Rule.inputChange` to `Rule.sioInReset`). Where a rule leaves a reading or a value
open, the model's choice is in log entries 3, 168. -/
def Obligations.SafetyInputs : Prop :=
  (∀ (i : Fin 32) (sage chB lvl : Bool) (samples : Nat) (s : State),
    Rule.inputChange i sage chB lvl samples s) ∧
  (∀ (j : Fin 4) (pre0 end0 any0 pre1 end1 any1 : BitVec 64) (rb0 rb1 : BitVec 2) (s : State),
    Rule.testPulse j pre0 end0 any0 pre1 end1 any1 rb0 rb1 s) ∧
  (∀ (j : Fin 4) (low : Bool) (s : State),
    Rule.tpHeldReadback j low s) ∧
  (∀ (i : Fin 32) (sage : Bool) (s : State),
    Rule.discFault i sage s) ∧
  (∀ (ini : Ini) (v : Word) (s : State),
    Rule.sioInReset ini v s)

/-- SIO: output and door-zone reset, dark tests, read-back and feedback faults, ON requests: each command does what its rule states (`Rule.sioOutReset` to `Rule.onReq`). Where a rule leaves a reading or a value
open, the model's choice is in log entries 3, 54, 168. -/
def Obligations.SafetyOutputs : Prop :=
  (∀ (ini : Ini) (v : Word) (s : State),
    Rule.sioOutReset ini v s) ∧
  (∀ (ini : Ini) (v : Word) (s : State),
    Rule.dzRst ini v s) ∧
  (∀ (o : Fin 12) (rbLow : Bool) (s : State),
    Rule.darkTest o rbLow s) ∧
  (∀ (o : Fin 12) (sage rb : Bool) (s : State),
    Rule.rbFault o sage rb s) ∧
  (∀ (o : Fin 12) (sage : Bool) (s : State),
    Rule.fbTimeout o sage s) ∧
  (∀ (ini : Ini) (g : Fin 6) (v : Word) (s : State),
    Rule.onReq ini g v s)

/-- Nib: submission, forwarding, lag timeout, HELLO, watchdog kick: each command does what its rule states (`Rule.nibSubmit` to `Rule.nibWdgKick`). Where a rule leaves a reading or a value
open, the model's choice is in log entries 100, 104. -/
def Obligations.PairCommandStreams : Prop :=
  (∀ (ini : Ini) (p : Fin 2) (v : Word) (s : State),
    Rule.nibSubmit ini p v s) ∧
  (∀ (blk : Fin 4) (c : NibCmd) (rest : List NibCmd) (s : State),
    Rule.nibForward blk c rest s) ∧
  (∀ (p : Fin 2) (c : NibCmd) (s : State),
    Rule.lagTimeout p c s) ∧
  (∀ (ini : Ini) (p : Fin 2) (v : Word) (s : State),
    Rule.nibHello ini p v s) ∧
  (∀ (ini : Ini) (p : Fin 2) (v : Word) (s : State),
    Rule.nibWdgKick ini p v s)

/-- RDM: watchdog, boot and report timeouts, automatic restart, role swap, admission, restart: each command does what its rule states (`Rule.wdgTimeout` to `Rule.admitted`). Where a rule leaves a reading or a value
open, the model's choice is in log entries 3, 101, 105. -/
def Obligations.PairFailuresAndRoles : Prop :=
  (∀ (p : Fin 2) (s : State),
    Rule.wdgTimeout p s) ∧
  (∀ (p : Fin 2) (s : State),
    Rule.bootTimeout p s) ∧
  (∀ (p : Fin 2) (s : State),
    Rule.hrTimeout p s) ∧
  (∀ (d : Nat) (s : State),
    Rule.autoRestart d s) ∧
  (∀ (ini : Ini) (v : Word) (s : State),
    Rule.roleSwap ini v s) ∧
  (∀ (ini : Ini) (v : Word) (s : State),
    Rule.admitPair ini v s) ∧
  (∀ (ini : Ini) (p : Fin 2) (v : Word) (s : State),
    Rule.pairRestart ini p v s) ∧
  (∀ (d : Fin 2) (s : State),
    Rule.admitted d s)

/-- RDM: bulk copy, health reports, test slots and requests, the end of a boot: each command does what its rule states (`Rule.quillBulkDone` to `Rule.bootDone`). Where a rule leaves a reading or a value
open, the model's choice is in log entries 3, 102, 103, 107, 159, 170, 180. -/
def Obligations.PairHealthAndBoot : Prop :=
  (∀ (w : Fin 32) (d q : Nat) (s : State),
    Rule.quillBulkDone w d q s) ∧
  (∀ (ini : Ini) (p : Fin 2) (v : Word) (s : State),
    Rule.healthReport ini p v s) ∧
  (∀ (march : Fin 3) (nibOk wdgOk : Bool) (s : State),
    Rule.testSlot march nibOk wdgOk s) ∧
  (∀ (ini : Ini) (v : Word) (s : State),
    Rule.testReq ini v s) ∧
  (∀ (p : Fin 2) (us : Fin 16001) (dirErr hdrErr bodyErr eccErr : Bool) (s : State),
    Rule.bootDone p us dirErr hdrErr bodyErr eccErr s)

/-- IKW: software records, draining, tokens, enable, scan, archive, read-outs: each command does what its rule states (`Rule.ikwSwRecord` to `Rule.ikwRead`). Where a rule leaves a reading or a value
open, the model's choice is in log entries 3, 33, 34, 142, 143, 144, 169. -/
def Obligations.RecorderCommands : Prop :=
  (∀ (ini : Ini) (v : Word) (s : State),
    Rule.ikwSwRecord ini v s) ∧
  (∀ (fails : Nat) (r : IkwRec) (rest : List IkwRec) (s : State),
    Rule.recordDrain fails r rest s) ∧
  (∀ (c : Fin 1024) (s : State),
    Rule.tokenRefill c s) ∧
  (∀ (ini : Ini) (v : Word) (s : State),
    Rule.ikwEnable ini v s) ∧
  (∀ (s : State),
    Rule.scanDone s) ∧
  (∀ (ok : Bool) (pg : Nat) (rest : List Nat) (s : State),
    Rule.archiveCopy ok pg rest s) ∧
  (∀ (ini : Ini) (v : Word) (s : State),
    Rule.ikwRdIdx ini v s) ∧
  (∀ (ini : Ini) (c : Fin 1024) (v : Word) (s : State),
    Rule.ikwCodeWrite ini c v s) ∧
  (∀ (ini : Ini) (v : Word) (s : State),
    Rule.ikwFaultClear ini v s) ∧
  (∀ (n : Nat) (s : State),
    Rule.ikwRead n s)

/-- PCR: operating points, core idle, life checkpoint, supply warning, domain enable: each command does what its rule states (`Rule.oppReq` to `Rule.domainEnable`). Where a rule leaves a reading or a value
open, the model's choice is in log entries 3, 106, 120, 121. -/
def Obligations.OperatingPointAndLife : Prop :=
  (∀ (ini : Ini) (v : Word) (s : State),
    Rule.oppReq ini v s) ∧
  (∀ (ok : Bool) (s : State),
    Rule.oppDone ok s) ∧
  (∀ (s : State),
    Rule.dvsAckTimeout s) ∧
  (∀ (s : State),
    Rule.dvsAckLost s) ∧
  (∀ (p c : Fin 2) (s : State),
    Rule.coreWfi p c s) ∧
  (∀ (s : State),
    Rule.lifeCheckpoint s) ∧
  (∀ (s : State),
    Rule.pwrFail s) ∧
  (∀ (s : State),
    Rule.pwrFailClear s) ∧
  (∀ (ini : Ini) (d : Fin 10) (v : Word) (s : State),
    Rule.domainEnable ini d v s)

/-- PCR: sleep requests and the entries into STANDBY and HIBERNATE: each command does what its rule states (`Rule.sleepStandby` to `Rule.hibernateEntry`). Where a rule leaves a reading or a value
open, the model's choice is in log entries 3, 115, 116, 118, 167. -/
def Obligations.SleepEntry : Prop :=
  (∀ (ini : Ini) (v : Word) (act : BitVec 9) (s : State),
    Rule.sleepStandby ini v act s) ∧
  (∀ (ini : Ini) (v : Word) (act : BitVec 9) (s : State),
    Rule.sleepHibernate ini v act s) ∧
  (∀ (s : State),
    Rule.sleepCoresTimeout s) ∧
  (∀ (s : State),
    Rule.standbyEntry s) ∧
  (∀ (s : State),
    Rule.hibernateEntry s)

/-- PCR: wake events, readiness attempts, completion, loss and return of the 32 kHz clock: each command does what its rule states (`Rule.wakeEvent` to `Rule.xaonRecover`). Where a rule leaves a reading or a value
open, the model's choice is in log entries 3, 44, 113, 117, 119, 166. -/
def Obligations.WakeSequence : Prop :=
  (∀ (src : Fin 9) (ch : Fin 8) (s : State),
    Rule.wakeEvent src ch s) ∧
  (∀ (osc : Bool) (s : State),
    Rule.wakeAttemptTimeout osc s) ∧
  (∀ (crcOk : Bool) (s : State),
    Rule.wakeComplete crcOk s) ∧
  (∀ (s : State),
    Rule.xaonFail s) ∧
  (∀ (s : State),
    Rule.xaonRecover s)

/-- PCR: nRESET asserted and released, a stuck reset, power-on: each command does what its rule states (`Rule.nresetAssert` to `Rule.powerOn`). Where a rule leaves a reading or a value
open, the model's choice is in log entries 3, 10, 109, 110. -/
def Obligations.ResetAndPowerOn : Prop :=
  (∀ (s : State),
    Rule.nresetAssert s) ∧
  (∀ (s : State),
    Rule.nresetRelease s) ∧
  (∀ (s : State),
    Rule.resetStuck s) ∧
  (∀ (pmode vsage : Bool) (reg osc : Fin 5) (s : State),
    Rule.powerOn pmode vsage reg osc s)

/-- PCR: brown-out, under-voltage, clock failure, power loss, lane supplies: each command does what its rule states (`Rule.brownOut` to `Rule.vddioSRecover`). Where a rule leaves a reading or a value
open, the model's choice is in log entries 3, 109, 111, 112. -/
def Obligations.SupplyFailures : Prop :=
  (∀ (s : State),
    Rule.brownOut s) ∧
  (∀ (s : State),
    Rule.undervoltage s) ∧
  (∀ (mon : Fin 5) (s : State),
    Rule.clockFail mon s) ∧
  (∀ (s : State),
    Rule.powerLoss s) ∧
  (∀ (sage : Bool) (s : State),
    Rule.laneSupplyLoss sage s) ∧
  (∀ (s : State),
    Rule.vddioSLow s) ∧
  (∀ (s : State),
    Rule.vddioSRecover s)

/-- MEM: scrubbing, LPDDR4X initialisation, xSPI commands, OTP, boot selection: each command does what its rule states (`Rule.scrubRead` to `Rule.memBootSel`). Where a rule leaves a reading or a value
open, the model's choice is in log entries 3, 123, 124, 125, 147, 178. -/
def Obligations.MemoryControllers : Prop :=
  (∀ (ecc : Fin 3) (s : State),
    Rule.scrubRead ecc s) ∧
  (∀ (ini : Ini) (v : Word) (s : State),
    Rule.ddrInit ini v s) ∧
  (∀ (ok : Bool) (s : State),
    Rule.ddrReady ok s) ∧
  (∀ (rate : Fin 8) (s : State),
    Rule.ddrMr4Poll rate s) ∧
  (∀ (ini : Ini) (v : Word) (s : State),
    Rule.xspiErase ini v s) ∧
  (∀ (ini : Ini) (v : Word) (s : State),
    Rule.xspiProgram ini v s) ∧
  (∀ (ok : Bool) (c : XspiCmd) (s : State),
    Rule.xspiDone ok c s) ∧
  (∀ (ini : Ini) (v : Word) (s : State),
    Rule.otpProgram ini v s) ∧
  (∀ (ok : Bool) (a d : Nat) (s : State),
    Rule.otpDone ok a d s) ∧
  (∀ (ini : Ini) (v : Word) (s : State),
    Rule.memBootSel ini v s)

/-- MEM: attestation reports, debug challenge, submission, verdict, lockout, JTAG: each command does what its rule states (`Rule.attReq` to `Rule.jtagInstruction`). Where a rule leaves a reading or a value
open, the model's choice is in log entries 3, 6, 126, 148, 159, 180. -/
def Obligations.AttestationAndDebug : Prop :=
  (∀ (ini : Ini) (v : Word) (s : State),
    Rule.attReq ini v s) ∧
  (∀ (us : Fin 2001) (s : State),
    Rule.attDone us s) ∧
  (∀ (ini : Ini) (s : State),
    Rule.dbgChallenge ini s) ∧
  (∀ (ini : Ini) (v : Word) (s : State),
    Rule.dbgSubmit ini v s) ∧
  (∀ (us : Fin 2000) (ticks : Fin 101) (s : State),
    Rule.dbgResult us ticks s) ∧
  (∀ (at_ : Nat) (s : State),
    Rule.dbgLockoutEnd at_ s) ∧
  (∀ (ir : JtagIr) (s : State),
    Rule.jtagInstruction ir s)

/-- BNI: link, received and sent frames, rings, enable, fault clear: each command does what its rule states (`Rule.linkChange` to `Rule.bniFaultClear`). Where a rule leaves a reading or a value
open, the model's choice is in log entries 3, 127, 128, 129, 177. -/
def Obligations.EthernetPorts : Prop :=
  (∀ (n : Fin 2) (up speedOk : Bool) (s : State),
    Rule.linkChange n up speedOk s) ∧
  (∀ (n : Fin 2) (f : EthFrame) (s : State),
    Rule.ethFrameReceived n f s) ∧
  (∀ (n : Fin 2) (linkLost : Bool) (s : State),
    Rule.ethFrameSent n linkLost s) ∧
  (∀ (ini : Ini) (n : Fin 2) (r : Fin 8) (v : Word) (s : State),
    Rule.ringTail ini n r v s) ∧
  (∀ (ini : Ini) (n : Fin 2) (v : Word) (s : State),
    Rule.bniEnable ini n v s) ∧
  (∀ (ini : Ini) (n : Fin 2) (v : Word) (s : State),
    Rule.bniFaultClear ini n v s)

/-- Header register writes, group writes, memory accesses, ledger reads, accesses that reach nothing: each command does what its rule states (`Rule.registerWrite` to `Rule.unmappedAccess`). Where a rule leaves a reading or a value
open, the model's choice is in log entries 15, 17, 18, 136, 138, 139, 164, 165. -/
def Obligations.RegisterAndMemoryAccess : Prop :=
  (∀ (ini : Ini) (b : Fin 18) (p : Fin 256) (v : Word) (s : State),
    Rule.registerWrite ini b p v s) ∧
  (∀ (ini : Ini) (b : Fin 18) (g : Option (Fin 4)) (v : Word) (s : State),
    Rule.groupPageWrite ini b g v s) ∧
  (∀ (ini : Ini) (a : BitVec 34) (n : Fin 65) (d : List Byte) (s : State),
    Rule.memoryAccess ini a n d s) ∧
  (∀ (p : Fin 2) (line : Fin 12800) (s : State),
    Rule.ledgerRead p line s) ∧
  (∀ (ini : Ini) (a : BitVec 64) (n : Fin 65) (s : State),
    Rule.unmappedAccess ini a n s)
end

