-- ==== Sys2Proof/Laws/State.lean ====
section
/-! SUPPORT. The fields of `State` after each named update: one lemma per field per update. -/

namespace Sys2Proof.Machine

/-! ### `State.wr` -/

@[simp] theorem State.wr_lh6161 (s : State) (a : Nat) (v : Word) : (s.wr a v).lh6161 = s.lh6161 := rfl
@[simp] theorem State.wr_pmode (s : State) (a : Nat) (v : Word) : (s.wr a v).pmode = s.pmode := rfl
@[simp] theorem State.wr_mem (s : State) (a : Nat) (v : Word) : (s.wr a v).mem = s.mem := rfl
@[simp] theorem State.wr_latches (s : State) (a : Nat) (v : Word) : (s.wr a v).latches = s.latches := rfl
@[simp] theorem State.wr_pends (s : State) (a : Nat) (v : Word) : (s.wr a v).pends = s.pends := rfl
@[simp] theorem State.wr_bus (s : State) (a : Nat) (v : Word) : (s.wr a v).bus = s.bus := rfl
@[simp] theorem State.wr_tbs (s : State) (a : Nat) (v : Word) : (s.wr a v).tbs = s.tbs := rfl
@[simp] theorem State.wr_nets (s : State) (a : Nat) (v : Word) : (s.wr a v).nets = s.nets := rfl
@[simp] theorem State.wr_rdm (s : State) (a : Nat) (v : Word) : (s.wr a v).rdm = s.rdm := rfl
@[simp] theorem State.wr_pair0 (s : State) (a : Nat) (v : Word) : (s.wr a v).pair0 = s.pair0 := rfl
@[simp] theorem State.wr_pair1 (s : State) (a : Nat) (v : Word) : (s.wr a v).pair1 = s.pair1 := rfl
@[simp] theorem State.wr_ikw (s : State) (a : Nat) (v : Word) : (s.wr a v).ikw = s.ikw := rfl
@[simp] theorem State.wr_pcr (s : State) (a : Nat) (v : Word) : (s.wr a v).pcr = s.pcr := rfl
@[simp] theorem State.wr_memc (s : State) (a : Nat) (v : Word) : (s.wr a v).memc = s.memc := rfl
@[simp] theorem State.wr_fresh (s : State) (a : Nat) (v : Word) : (s.wr a v).fresh = s.fresh := rfl
@[simp] theorem State.wr_pending (s : State) (a : Nat) (v : Word) : (s.wr a v).pending = s.pending := rfl
@[simp] theorem State.wr_fbs (s : State) (a : Nat) (v : Word) : (s.wr a v).fbs = s.fbs := rfl
@[simp] theorem State.wr_pos (s : State) (a : Nat) (v : Word) : (s.wr a v).pos = s.pos := rfl
@[simp] theorem State.wr_pulses (s : State) (a : Nat) (v : Word) : (s.wr a v).pulses = s.pulses := rfl
@[simp] theorem State.wr_hoist (s : State) (a : Nat) (v : Word) : (s.wr a v).hoist = s.hoist := rfl
@[simp] theorem State.wr_dlks (s : State) (a : Nat) (v : Word) : (s.wr a v).dlks = s.dlks := rfl
@[simp] theorem State.wr_clg (s : State) (a : Nat) (v : Word) : (s.wr a v).clg = s.clg := rfl
@[simp] theorem State.wr_doors (s : State) (a : Nat) (v : Word) : (s.wr a v).doors = s.doors := rfl
@[simp] theorem State.wr_safe (s : State) (a : Nat) (v : Word) : (s.wr a v).safe = s.safe := rfl
@[simp] theorem State.wr_ports (s : State) (a : Nat) (v : Word) : (s.wr a v).ports = s.ports := rfl
@[simp] theorem State.wr_cve (s : State) (a : Nat) (v : Word) : (s.wr a v).cve = s.cve := rfl
@[simp] theorem State.wr_bnis (s : State) (a : Nat) (v : Word) : (s.wr a v).bnis = s.bnis := rfl

/-! ### `State.p` -/

@[simp] theorem State.p_lh6161 (s : State) (pg : Nat) (f : Fld) (v : Nat) : (s.p pg f v).lh6161 = s.lh6161 := rfl
@[simp] theorem State.p_pmode (s : State) (pg : Nat) (f : Fld) (v : Nat) : (s.p pg f v).pmode = s.pmode := rfl
@[simp] theorem State.p_mem (s : State) (pg : Nat) (f : Fld) (v : Nat) : (s.p pg f v).mem = s.mem := rfl
@[simp] theorem State.p_latches (s : State) (pg : Nat) (f : Fld) (v : Nat) : (s.p pg f v).latches = s.latches := rfl
@[simp] theorem State.p_pends (s : State) (pg : Nat) (f : Fld) (v : Nat) : (s.p pg f v).pends = s.pends := rfl
@[simp] theorem State.p_bus (s : State) (pg : Nat) (f : Fld) (v : Nat) : (s.p pg f v).bus = s.bus := rfl
@[simp] theorem State.p_tbs (s : State) (pg : Nat) (f : Fld) (v : Nat) : (s.p pg f v).tbs = s.tbs := rfl
@[simp] theorem State.p_nets (s : State) (pg : Nat) (f : Fld) (v : Nat) : (s.p pg f v).nets = s.nets := rfl
@[simp] theorem State.p_rdm (s : State) (pg : Nat) (f : Fld) (v : Nat) : (s.p pg f v).rdm = s.rdm := rfl
@[simp] theorem State.p_pair0 (s : State) (pg : Nat) (f : Fld) (v : Nat) : (s.p pg f v).pair0 = s.pair0 := rfl
@[simp] theorem State.p_pair1 (s : State) (pg : Nat) (f : Fld) (v : Nat) : (s.p pg f v).pair1 = s.pair1 := rfl
@[simp] theorem State.p_ikw (s : State) (pg : Nat) (f : Fld) (v : Nat) : (s.p pg f v).ikw = s.ikw := rfl
@[simp] theorem State.p_pcr (s : State) (pg : Nat) (f : Fld) (v : Nat) : (s.p pg f v).pcr = s.pcr := rfl
@[simp] theorem State.p_memc (s : State) (pg : Nat) (f : Fld) (v : Nat) : (s.p pg f v).memc = s.memc := rfl
@[simp] theorem State.p_fresh (s : State) (pg : Nat) (f : Fld) (v : Nat) : (s.p pg f v).fresh = s.fresh := rfl
@[simp] theorem State.p_pending (s : State) (pg : Nat) (f : Fld) (v : Nat) : (s.p pg f v).pending = s.pending := rfl
@[simp] theorem State.p_fbs (s : State) (pg : Nat) (f : Fld) (v : Nat) : (s.p pg f v).fbs = s.fbs := rfl
@[simp] theorem State.p_pos (s : State) (pg : Nat) (f : Fld) (v : Nat) : (s.p pg f v).pos = s.pos := rfl
@[simp] theorem State.p_pulses (s : State) (pg : Nat) (f : Fld) (v : Nat) : (s.p pg f v).pulses = s.pulses := rfl
@[simp] theorem State.p_hoist (s : State) (pg : Nat) (f : Fld) (v : Nat) : (s.p pg f v).hoist = s.hoist := rfl
@[simp] theorem State.p_dlks (s : State) (pg : Nat) (f : Fld) (v : Nat) : (s.p pg f v).dlks = s.dlks := rfl
@[simp] theorem State.p_clg (s : State) (pg : Nat) (f : Fld) (v : Nat) : (s.p pg f v).clg = s.clg := rfl
@[simp] theorem State.p_doors (s : State) (pg : Nat) (f : Fld) (v : Nat) : (s.p pg f v).doors = s.doors := rfl
@[simp] theorem State.p_safe (s : State) (pg : Nat) (f : Fld) (v : Nat) : (s.p pg f v).safe = s.safe := rfl
@[simp] theorem State.p_ports (s : State) (pg : Nat) (f : Fld) (v : Nat) : (s.p pg f v).ports = s.ports := rfl
@[simp] theorem State.p_cve (s : State) (pg : Nat) (f : Fld) (v : Nat) : (s.p pg f v).cve = s.cve := rfl
@[simp] theorem State.p_bnis (s : State) (pg : Nat) (f : Fld) (v : Nat) : (s.p pg f v).bnis = s.bnis := rfl

/-! ### `State.pI` -/

@[simp] theorem State.pI_lh6161 (s : State) (pg : Nat) (f : Fld) (v : Int) : (s.pI pg f v).lh6161 = s.lh6161 := rfl
@[simp] theorem State.pI_pmode (s : State) (pg : Nat) (f : Fld) (v : Int) : (s.pI pg f v).pmode = s.pmode := rfl
@[simp] theorem State.pI_mem (s : State) (pg : Nat) (f : Fld) (v : Int) : (s.pI pg f v).mem = s.mem := rfl
@[simp] theorem State.pI_latches (s : State) (pg : Nat) (f : Fld) (v : Int) : (s.pI pg f v).latches = s.latches := rfl
@[simp] theorem State.pI_pends (s : State) (pg : Nat) (f : Fld) (v : Int) : (s.pI pg f v).pends = s.pends := rfl
@[simp] theorem State.pI_bus (s : State) (pg : Nat) (f : Fld) (v : Int) : (s.pI pg f v).bus = s.bus := rfl
@[simp] theorem State.pI_tbs (s : State) (pg : Nat) (f : Fld) (v : Int) : (s.pI pg f v).tbs = s.tbs := rfl
@[simp] theorem State.pI_nets (s : State) (pg : Nat) (f : Fld) (v : Int) : (s.pI pg f v).nets = s.nets := rfl
@[simp] theorem State.pI_rdm (s : State) (pg : Nat) (f : Fld) (v : Int) : (s.pI pg f v).rdm = s.rdm := rfl
@[simp] theorem State.pI_pair0 (s : State) (pg : Nat) (f : Fld) (v : Int) : (s.pI pg f v).pair0 = s.pair0 := rfl
@[simp] theorem State.pI_pair1 (s : State) (pg : Nat) (f : Fld) (v : Int) : (s.pI pg f v).pair1 = s.pair1 := rfl
@[simp] theorem State.pI_ikw (s : State) (pg : Nat) (f : Fld) (v : Int) : (s.pI pg f v).ikw = s.ikw := rfl
@[simp] theorem State.pI_pcr (s : State) (pg : Nat) (f : Fld) (v : Int) : (s.pI pg f v).pcr = s.pcr := rfl
@[simp] theorem State.pI_memc (s : State) (pg : Nat) (f : Fld) (v : Int) : (s.pI pg f v).memc = s.memc := rfl
@[simp] theorem State.pI_fresh (s : State) (pg : Nat) (f : Fld) (v : Int) : (s.pI pg f v).fresh = s.fresh := rfl
@[simp] theorem State.pI_pending (s : State) (pg : Nat) (f : Fld) (v : Int) : (s.pI pg f v).pending = s.pending := rfl
@[simp] theorem State.pI_fbs (s : State) (pg : Nat) (f : Fld) (v : Int) : (s.pI pg f v).fbs = s.fbs := rfl
@[simp] theorem State.pI_pos (s : State) (pg : Nat) (f : Fld) (v : Int) : (s.pI pg f v).pos = s.pos := rfl
@[simp] theorem State.pI_pulses (s : State) (pg : Nat) (f : Fld) (v : Int) : (s.pI pg f v).pulses = s.pulses := rfl
@[simp] theorem State.pI_hoist (s : State) (pg : Nat) (f : Fld) (v : Int) : (s.pI pg f v).hoist = s.hoist := rfl
@[simp] theorem State.pI_dlks (s : State) (pg : Nat) (f : Fld) (v : Int) : (s.pI pg f v).dlks = s.dlks := rfl
@[simp] theorem State.pI_clg (s : State) (pg : Nat) (f : Fld) (v : Int) : (s.pI pg f v).clg = s.clg := rfl
@[simp] theorem State.pI_doors (s : State) (pg : Nat) (f : Fld) (v : Int) : (s.pI pg f v).doors = s.doors := rfl
@[simp] theorem State.pI_safe (s : State) (pg : Nat) (f : Fld) (v : Int) : (s.pI pg f v).safe = s.safe := rfl
@[simp] theorem State.pI_ports (s : State) (pg : Nat) (f : Fld) (v : Int) : (s.pI pg f v).ports = s.ports := rfl
@[simp] theorem State.pI_cve (s : State) (pg : Nat) (f : Fld) (v : Int) : (s.pI pg f v).cve = s.cve := rfl
@[simp] theorem State.pI_bnis (s : State) (pg : Nat) (f : Fld) (v : Int) : (s.pI pg f v).bnis = s.bnis := rfl

/-! ### `State.pB` -/

@[simp] theorem State.pB_lh6161 (s : State) (pg : Nat) (f : Fld) (v : Bool) : (s.pB pg f v).lh6161 = s.lh6161 :=
  by unfold State.pB; exact State.p_lh6161 _ _ _ _
@[simp] theorem State.pB_pmode (s : State) (pg : Nat) (f : Fld) (v : Bool) : (s.pB pg f v).pmode = s.pmode :=
  by unfold State.pB; exact State.p_pmode _ _ _ _
@[simp] theorem State.pB_mem (s : State) (pg : Nat) (f : Fld) (v : Bool) : (s.pB pg f v).mem = s.mem :=
  by unfold State.pB; exact State.p_mem _ _ _ _
@[simp] theorem State.pB_latches (s : State) (pg : Nat) (f : Fld) (v : Bool) : (s.pB pg f v).latches = s.latches :=
  by unfold State.pB; exact State.p_latches _ _ _ _
@[simp] theorem State.pB_pends (s : State) (pg : Nat) (f : Fld) (v : Bool) : (s.pB pg f v).pends = s.pends :=
  by unfold State.pB; exact State.p_pends _ _ _ _
@[simp] theorem State.pB_bus (s : State) (pg : Nat) (f : Fld) (v : Bool) : (s.pB pg f v).bus = s.bus :=
  by unfold State.pB; exact State.p_bus _ _ _ _
@[simp] theorem State.pB_tbs (s : State) (pg : Nat) (f : Fld) (v : Bool) : (s.pB pg f v).tbs = s.tbs :=
  by unfold State.pB; exact State.p_tbs _ _ _ _
@[simp] theorem State.pB_nets (s : State) (pg : Nat) (f : Fld) (v : Bool) : (s.pB pg f v).nets = s.nets :=
  by unfold State.pB; exact State.p_nets _ _ _ _
@[simp] theorem State.pB_rdm (s : State) (pg : Nat) (f : Fld) (v : Bool) : (s.pB pg f v).rdm = s.rdm :=
  by unfold State.pB; exact State.p_rdm _ _ _ _
@[simp] theorem State.pB_pair0 (s : State) (pg : Nat) (f : Fld) (v : Bool) : (s.pB pg f v).pair0 = s.pair0 :=
  by unfold State.pB; exact State.p_pair0 _ _ _ _
@[simp] theorem State.pB_pair1 (s : State) (pg : Nat) (f : Fld) (v : Bool) : (s.pB pg f v).pair1 = s.pair1 :=
  by unfold State.pB; exact State.p_pair1 _ _ _ _
@[simp] theorem State.pB_ikw (s : State) (pg : Nat) (f : Fld) (v : Bool) : (s.pB pg f v).ikw = s.ikw :=
  by unfold State.pB; exact State.p_ikw _ _ _ _
@[simp] theorem State.pB_pcr (s : State) (pg : Nat) (f : Fld) (v : Bool) : (s.pB pg f v).pcr = s.pcr :=
  by unfold State.pB; exact State.p_pcr _ _ _ _
@[simp] theorem State.pB_memc (s : State) (pg : Nat) (f : Fld) (v : Bool) : (s.pB pg f v).memc = s.memc :=
  by unfold State.pB; exact State.p_memc _ _ _ _
@[simp] theorem State.pB_fresh (s : State) (pg : Nat) (f : Fld) (v : Bool) : (s.pB pg f v).fresh = s.fresh :=
  by unfold State.pB; exact State.p_fresh _ _ _ _
@[simp] theorem State.pB_pending (s : State) (pg : Nat) (f : Fld) (v : Bool) : (s.pB pg f v).pending = s.pending :=
  by unfold State.pB; exact State.p_pending _ _ _ _
@[simp] theorem State.pB_fbs (s : State) (pg : Nat) (f : Fld) (v : Bool) : (s.pB pg f v).fbs = s.fbs :=
  by unfold State.pB; exact State.p_fbs _ _ _ _
@[simp] theorem State.pB_pos (s : State) (pg : Nat) (f : Fld) (v : Bool) : (s.pB pg f v).pos = s.pos :=
  by unfold State.pB; exact State.p_pos _ _ _ _
@[simp] theorem State.pB_pulses (s : State) (pg : Nat) (f : Fld) (v : Bool) : (s.pB pg f v).pulses = s.pulses :=
  by unfold State.pB; exact State.p_pulses _ _ _ _
@[simp] theorem State.pB_hoist (s : State) (pg : Nat) (f : Fld) (v : Bool) : (s.pB pg f v).hoist = s.hoist :=
  by unfold State.pB; exact State.p_hoist _ _ _ _
@[simp] theorem State.pB_dlks (s : State) (pg : Nat) (f : Fld) (v : Bool) : (s.pB pg f v).dlks = s.dlks :=
  by unfold State.pB; exact State.p_dlks _ _ _ _
@[simp] theorem State.pB_clg (s : State) (pg : Nat) (f : Fld) (v : Bool) : (s.pB pg f v).clg = s.clg :=
  by unfold State.pB; exact State.p_clg _ _ _ _
@[simp] theorem State.pB_doors (s : State) (pg : Nat) (f : Fld) (v : Bool) : (s.pB pg f v).doors = s.doors :=
  by unfold State.pB; exact State.p_doors _ _ _ _
@[simp] theorem State.pB_safe (s : State) (pg : Nat) (f : Fld) (v : Bool) : (s.pB pg f v).safe = s.safe :=
  by unfold State.pB; exact State.p_safe _ _ _ _
@[simp] theorem State.pB_ports (s : State) (pg : Nat) (f : Fld) (v : Bool) : (s.pB pg f v).ports = s.ports :=
  by unfold State.pB; exact State.p_ports _ _ _ _
@[simp] theorem State.pB_cve (s : State) (pg : Nat) (f : Fld) (v : Bool) : (s.pB pg f v).cve = s.cve :=
  by unfold State.pB; exact State.p_cve _ _ _ _
@[simp] theorem State.pB_bnis (s : State) (pg : Nat) (f : Fld) (v : Bool) : (s.pB pg f v).bnis = s.bnis :=
  by unfold State.pB; exact State.p_bnis _ _ _ _

/-! ### `State.inc` -/

@[simp] theorem State.inc_lh6161 (s : State) (pg : Nat) (f : Fld) (n : Nat) : (s.inc pg f n).lh6161 = s.lh6161 :=
  by unfold State.inc; exact State.p_lh6161 _ _ _ _
@[simp] theorem State.inc_pmode (s : State) (pg : Nat) (f : Fld) (n : Nat) : (s.inc pg f n).pmode = s.pmode :=
  by unfold State.inc; exact State.p_pmode _ _ _ _
@[simp] theorem State.inc_mem (s : State) (pg : Nat) (f : Fld) (n : Nat) : (s.inc pg f n).mem = s.mem :=
  by unfold State.inc; exact State.p_mem _ _ _ _
@[simp] theorem State.inc_latches (s : State) (pg : Nat) (f : Fld) (n : Nat) : (s.inc pg f n).latches = s.latches :=
  by unfold State.inc; exact State.p_latches _ _ _ _
@[simp] theorem State.inc_pends (s : State) (pg : Nat) (f : Fld) (n : Nat) : (s.inc pg f n).pends = s.pends :=
  by unfold State.inc; exact State.p_pends _ _ _ _
@[simp] theorem State.inc_bus (s : State) (pg : Nat) (f : Fld) (n : Nat) : (s.inc pg f n).bus = s.bus :=
  by unfold State.inc; exact State.p_bus _ _ _ _
@[simp] theorem State.inc_tbs (s : State) (pg : Nat) (f : Fld) (n : Nat) : (s.inc pg f n).tbs = s.tbs :=
  by unfold State.inc; exact State.p_tbs _ _ _ _
@[simp] theorem State.inc_nets (s : State) (pg : Nat) (f : Fld) (n : Nat) : (s.inc pg f n).nets = s.nets :=
  by unfold State.inc; exact State.p_nets _ _ _ _
@[simp] theorem State.inc_rdm (s : State) (pg : Nat) (f : Fld) (n : Nat) : (s.inc pg f n).rdm = s.rdm :=
  by unfold State.inc; exact State.p_rdm _ _ _ _
@[simp] theorem State.inc_pair0 (s : State) (pg : Nat) (f : Fld) (n : Nat) : (s.inc pg f n).pair0 = s.pair0 :=
  by unfold State.inc; exact State.p_pair0 _ _ _ _
@[simp] theorem State.inc_pair1 (s : State) (pg : Nat) (f : Fld) (n : Nat) : (s.inc pg f n).pair1 = s.pair1 :=
  by unfold State.inc; exact State.p_pair1 _ _ _ _
@[simp] theorem State.inc_ikw (s : State) (pg : Nat) (f : Fld) (n : Nat) : (s.inc pg f n).ikw = s.ikw :=
  by unfold State.inc; exact State.p_ikw _ _ _ _
@[simp] theorem State.inc_pcr (s : State) (pg : Nat) (f : Fld) (n : Nat) : (s.inc pg f n).pcr = s.pcr :=
  by unfold State.inc; exact State.p_pcr _ _ _ _
@[simp] theorem State.inc_memc (s : State) (pg : Nat) (f : Fld) (n : Nat) : (s.inc pg f n).memc = s.memc :=
  by unfold State.inc; exact State.p_memc _ _ _ _
@[simp] theorem State.inc_fresh (s : State) (pg : Nat) (f : Fld) (n : Nat) : (s.inc pg f n).fresh = s.fresh :=
  by unfold State.inc; exact State.p_fresh _ _ _ _
@[simp] theorem State.inc_pending (s : State) (pg : Nat) (f : Fld) (n : Nat) : (s.inc pg f n).pending = s.pending :=
  by unfold State.inc; exact State.p_pending _ _ _ _
@[simp] theorem State.inc_fbs (s : State) (pg : Nat) (f : Fld) (n : Nat) : (s.inc pg f n).fbs = s.fbs :=
  by unfold State.inc; exact State.p_fbs _ _ _ _
@[simp] theorem State.inc_pos (s : State) (pg : Nat) (f : Fld) (n : Nat) : (s.inc pg f n).pos = s.pos :=
  by unfold State.inc; exact State.p_pos _ _ _ _
@[simp] theorem State.inc_pulses (s : State) (pg : Nat) (f : Fld) (n : Nat) : (s.inc pg f n).pulses = s.pulses :=
  by unfold State.inc; exact State.p_pulses _ _ _ _
@[simp] theorem State.inc_hoist (s : State) (pg : Nat) (f : Fld) (n : Nat) : (s.inc pg f n).hoist = s.hoist :=
  by unfold State.inc; exact State.p_hoist _ _ _ _
@[simp] theorem State.inc_dlks (s : State) (pg : Nat) (f : Fld) (n : Nat) : (s.inc pg f n).dlks = s.dlks :=
  by unfold State.inc; exact State.p_dlks _ _ _ _
@[simp] theorem State.inc_clg (s : State) (pg : Nat) (f : Fld) (n : Nat) : (s.inc pg f n).clg = s.clg :=
  by unfold State.inc; exact State.p_clg _ _ _ _
@[simp] theorem State.inc_doors (s : State) (pg : Nat) (f : Fld) (n : Nat) : (s.inc pg f n).doors = s.doors :=
  by unfold State.inc; exact State.p_doors _ _ _ _
@[simp] theorem State.inc_safe (s : State) (pg : Nat) (f : Fld) (n : Nat) : (s.inc pg f n).safe = s.safe :=
  by unfold State.inc; exact State.p_safe _ _ _ _
@[simp] theorem State.inc_ports (s : State) (pg : Nat) (f : Fld) (n : Nat) : (s.inc pg f n).ports = s.ports :=
  by unfold State.inc; exact State.p_ports _ _ _ _
@[simp] theorem State.inc_cve (s : State) (pg : Nat) (f : Fld) (n : Nat) : (s.inc pg f n).cve = s.cve :=
  by unfold State.inc; exact State.p_cve _ _ _ _
@[simp] theorem State.inc_bnis (s : State) (pg : Nat) (f : Fld) (n : Nat) : (s.inc pg f n).bnis = s.bnis :=
  by unfold State.inc; exact State.p_bnis _ _ _ _

/-! ### `State.peak` -/

@[simp] theorem State.peak_lh6161 (s : State) (pg : Nat) (f : Fld) (n : Nat) : (s.peak pg f n).lh6161 = s.lh6161 :=
  by unfold State.peak; exact State.p_lh6161 _ _ _ _
@[simp] theorem State.peak_pmode (s : State) (pg : Nat) (f : Fld) (n : Nat) : (s.peak pg f n).pmode = s.pmode :=
  by unfold State.peak; exact State.p_pmode _ _ _ _
@[simp] theorem State.peak_mem (s : State) (pg : Nat) (f : Fld) (n : Nat) : (s.peak pg f n).mem = s.mem :=
  by unfold State.peak; exact State.p_mem _ _ _ _
@[simp] theorem State.peak_latches (s : State) (pg : Nat) (f : Fld) (n : Nat) : (s.peak pg f n).latches = s.latches :=
  by unfold State.peak; exact State.p_latches _ _ _ _
@[simp] theorem State.peak_pends (s : State) (pg : Nat) (f : Fld) (n : Nat) : (s.peak pg f n).pends = s.pends :=
  by unfold State.peak; exact State.p_pends _ _ _ _
@[simp] theorem State.peak_bus (s : State) (pg : Nat) (f : Fld) (n : Nat) : (s.peak pg f n).bus = s.bus :=
  by unfold State.peak; exact State.p_bus _ _ _ _
@[simp] theorem State.peak_tbs (s : State) (pg : Nat) (f : Fld) (n : Nat) : (s.peak pg f n).tbs = s.tbs :=
  by unfold State.peak; exact State.p_tbs _ _ _ _
@[simp] theorem State.peak_nets (s : State) (pg : Nat) (f : Fld) (n : Nat) : (s.peak pg f n).nets = s.nets :=
  by unfold State.peak; exact State.p_nets _ _ _ _
@[simp] theorem State.peak_rdm (s : State) (pg : Nat) (f : Fld) (n : Nat) : (s.peak pg f n).rdm = s.rdm :=
  by unfold State.peak; exact State.p_rdm _ _ _ _
@[simp] theorem State.peak_pair0 (s : State) (pg : Nat) (f : Fld) (n : Nat) : (s.peak pg f n).pair0 = s.pair0 :=
  by unfold State.peak; exact State.p_pair0 _ _ _ _
@[simp] theorem State.peak_pair1 (s : State) (pg : Nat) (f : Fld) (n : Nat) : (s.peak pg f n).pair1 = s.pair1 :=
  by unfold State.peak; exact State.p_pair1 _ _ _ _
@[simp] theorem State.peak_ikw (s : State) (pg : Nat) (f : Fld) (n : Nat) : (s.peak pg f n).ikw = s.ikw :=
  by unfold State.peak; exact State.p_ikw _ _ _ _
@[simp] theorem State.peak_pcr (s : State) (pg : Nat) (f : Fld) (n : Nat) : (s.peak pg f n).pcr = s.pcr :=
  by unfold State.peak; exact State.p_pcr _ _ _ _
@[simp] theorem State.peak_memc (s : State) (pg : Nat) (f : Fld) (n : Nat) : (s.peak pg f n).memc = s.memc :=
  by unfold State.peak; exact State.p_memc _ _ _ _
@[simp] theorem State.peak_fresh (s : State) (pg : Nat) (f : Fld) (n : Nat) : (s.peak pg f n).fresh = s.fresh :=
  by unfold State.peak; exact State.p_fresh _ _ _ _
@[simp] theorem State.peak_pending (s : State) (pg : Nat) (f : Fld) (n : Nat) : (s.peak pg f n).pending = s.pending :=
  by unfold State.peak; exact State.p_pending _ _ _ _
@[simp] theorem State.peak_fbs (s : State) (pg : Nat) (f : Fld) (n : Nat) : (s.peak pg f n).fbs = s.fbs :=
  by unfold State.peak; exact State.p_fbs _ _ _ _
@[simp] theorem State.peak_pos (s : State) (pg : Nat) (f : Fld) (n : Nat) : (s.peak pg f n).pos = s.pos :=
  by unfold State.peak; exact State.p_pos _ _ _ _
@[simp] theorem State.peak_pulses (s : State) (pg : Nat) (f : Fld) (n : Nat) : (s.peak pg f n).pulses = s.pulses :=
  by unfold State.peak; exact State.p_pulses _ _ _ _
@[simp] theorem State.peak_hoist (s : State) (pg : Nat) (f : Fld) (n : Nat) : (s.peak pg f n).hoist = s.hoist :=
  by unfold State.peak; exact State.p_hoist _ _ _ _
@[simp] theorem State.peak_dlks (s : State) (pg : Nat) (f : Fld) (n : Nat) : (s.peak pg f n).dlks = s.dlks :=
  by unfold State.peak; exact State.p_dlks _ _ _ _
@[simp] theorem State.peak_clg (s : State) (pg : Nat) (f : Fld) (n : Nat) : (s.peak pg f n).clg = s.clg :=
  by unfold State.peak; exact State.p_clg _ _ _ _
@[simp] theorem State.peak_doors (s : State) (pg : Nat) (f : Fld) (n : Nat) : (s.peak pg f n).doors = s.doors :=
  by unfold State.peak; exact State.p_doors _ _ _ _
@[simp] theorem State.peak_safe (s : State) (pg : Nat) (f : Fld) (n : Nat) : (s.peak pg f n).safe = s.safe :=
  by unfold State.peak; exact State.p_safe _ _ _ _
@[simp] theorem State.peak_ports (s : State) (pg : Nat) (f : Fld) (n : Nat) : (s.peak pg f n).ports = s.ports :=
  by unfold State.peak; exact State.p_ports _ _ _ _
@[simp] theorem State.peak_cve (s : State) (pg : Nat) (f : Fld) (n : Nat) : (s.peak pg f n).cve = s.cve :=
  by unfold State.peak; exact State.p_cve _ _ _ _
@[simp] theorem State.peak_bnis (s : State) (pg : Nat) (f : Fld) (n : Nat) : (s.peak pg f n).bnis = s.bnis :=
  by unfold State.peak; exact State.p_bnis _ _ _ _

/-! ### `State.flt` -/

@[simp] theorem State.flt_lh6161 (s : State) (pg : Nat) : (s.flt pg).lh6161 = s.lh6161 :=
  by unfold State.flt; exact State.inc_lh6161 _ _ _ _
@[simp] theorem State.flt_pmode (s : State) (pg : Nat) : (s.flt pg).pmode = s.pmode :=
  by unfold State.flt; exact State.inc_pmode _ _ _ _
@[simp] theorem State.flt_mem (s : State) (pg : Nat) : (s.flt pg).mem = s.mem :=
  by unfold State.flt; exact State.inc_mem _ _ _ _
@[simp] theorem State.flt_latches (s : State) (pg : Nat) : (s.flt pg).latches = s.latches :=
  by unfold State.flt; exact State.inc_latches _ _ _ _
@[simp] theorem State.flt_pends (s : State) (pg : Nat) : (s.flt pg).pends = s.pends :=
  by unfold State.flt; exact State.inc_pends _ _ _ _
@[simp] theorem State.flt_bus (s : State) (pg : Nat) : (s.flt pg).bus = s.bus :=
  by unfold State.flt; exact State.inc_bus _ _ _ _
@[simp] theorem State.flt_tbs (s : State) (pg : Nat) : (s.flt pg).tbs = s.tbs :=
  by unfold State.flt; exact State.inc_tbs _ _ _ _
@[simp] theorem State.flt_nets (s : State) (pg : Nat) : (s.flt pg).nets = s.nets :=
  by unfold State.flt; exact State.inc_nets _ _ _ _
@[simp] theorem State.flt_rdm (s : State) (pg : Nat) : (s.flt pg).rdm = s.rdm :=
  by unfold State.flt; exact State.inc_rdm _ _ _ _
@[simp] theorem State.flt_pair0 (s : State) (pg : Nat) : (s.flt pg).pair0 = s.pair0 :=
  by unfold State.flt; exact State.inc_pair0 _ _ _ _
@[simp] theorem State.flt_pair1 (s : State) (pg : Nat) : (s.flt pg).pair1 = s.pair1 :=
  by unfold State.flt; exact State.inc_pair1 _ _ _ _
@[simp] theorem State.flt_ikw (s : State) (pg : Nat) : (s.flt pg).ikw = s.ikw :=
  by unfold State.flt; exact State.inc_ikw _ _ _ _
@[simp] theorem State.flt_pcr (s : State) (pg : Nat) : (s.flt pg).pcr = s.pcr :=
  by unfold State.flt; exact State.inc_pcr _ _ _ _
@[simp] theorem State.flt_memc (s : State) (pg : Nat) : (s.flt pg).memc = s.memc :=
  by unfold State.flt; exact State.inc_memc _ _ _ _
@[simp] theorem State.flt_fresh (s : State) (pg : Nat) : (s.flt pg).fresh = s.fresh :=
  by unfold State.flt; exact State.inc_fresh _ _ _ _
@[simp] theorem State.flt_pending (s : State) (pg : Nat) : (s.flt pg).pending = s.pending :=
  by unfold State.flt; exact State.inc_pending _ _ _ _
@[simp] theorem State.flt_fbs (s : State) (pg : Nat) : (s.flt pg).fbs = s.fbs :=
  by unfold State.flt; exact State.inc_fbs _ _ _ _
@[simp] theorem State.flt_pos (s : State) (pg : Nat) : (s.flt pg).pos = s.pos :=
  by unfold State.flt; exact State.inc_pos _ _ _ _
@[simp] theorem State.flt_pulses (s : State) (pg : Nat) : (s.flt pg).pulses = s.pulses :=
  by unfold State.flt; exact State.inc_pulses _ _ _ _
@[simp] theorem State.flt_hoist (s : State) (pg : Nat) : (s.flt pg).hoist = s.hoist :=
  by unfold State.flt; exact State.inc_hoist _ _ _ _
@[simp] theorem State.flt_dlks (s : State) (pg : Nat) : (s.flt pg).dlks = s.dlks :=
  by unfold State.flt; exact State.inc_dlks _ _ _ _
@[simp] theorem State.flt_clg (s : State) (pg : Nat) : (s.flt pg).clg = s.clg :=
  by unfold State.flt; exact State.inc_clg _ _ _ _
@[simp] theorem State.flt_doors (s : State) (pg : Nat) : (s.flt pg).doors = s.doors :=
  by unfold State.flt; exact State.inc_doors _ _ _ _
@[simp] theorem State.flt_safe (s : State) (pg : Nat) : (s.flt pg).safe = s.safe :=
  by unfold State.flt; exact State.inc_safe _ _ _ _
@[simp] theorem State.flt_ports (s : State) (pg : Nat) : (s.flt pg).ports = s.ports :=
  by unfold State.flt; exact State.inc_ports _ _ _ _
@[simp] theorem State.flt_cve (s : State) (pg : Nat) : (s.flt pg).cve = s.cve :=
  by unfold State.flt; exact State.inc_cve _ _ _ _
@[simp] theorem State.flt_bnis (s : State) (pg : Nat) : (s.flt pg).bnis = s.bnis :=
  by unfold State.flt; exact State.inc_bnis _ _ _ _

/-! ### `State.pTs` -/

@[simp] theorem State.pTs_lh6161 (s : State) (pg : Nat) (lo hi : Fld) (t : Nat) : (s.pTs pg lo hi t).lh6161 = s.lh6161 := rfl
@[simp] theorem State.pTs_pmode (s : State) (pg : Nat) (lo hi : Fld) (t : Nat) : (s.pTs pg lo hi t).pmode = s.pmode := rfl
@[simp] theorem State.pTs_mem (s : State) (pg : Nat) (lo hi : Fld) (t : Nat) : (s.pTs pg lo hi t).mem = s.mem := rfl
@[simp] theorem State.pTs_latches (s : State) (pg : Nat) (lo hi : Fld) (t : Nat) : (s.pTs pg lo hi t).latches = s.latches := rfl
@[simp] theorem State.pTs_pends (s : State) (pg : Nat) (lo hi : Fld) (t : Nat) : (s.pTs pg lo hi t).pends = s.pends := rfl
@[simp] theorem State.pTs_bus (s : State) (pg : Nat) (lo hi : Fld) (t : Nat) : (s.pTs pg lo hi t).bus = s.bus := rfl
@[simp] theorem State.pTs_tbs (s : State) (pg : Nat) (lo hi : Fld) (t : Nat) : (s.pTs pg lo hi t).tbs = s.tbs := rfl
@[simp] theorem State.pTs_nets (s : State) (pg : Nat) (lo hi : Fld) (t : Nat) : (s.pTs pg lo hi t).nets = s.nets := rfl
@[simp] theorem State.pTs_rdm (s : State) (pg : Nat) (lo hi : Fld) (t : Nat) : (s.pTs pg lo hi t).rdm = s.rdm := rfl
@[simp] theorem State.pTs_pair0 (s : State) (pg : Nat) (lo hi : Fld) (t : Nat) : (s.pTs pg lo hi t).pair0 = s.pair0 := rfl
@[simp] theorem State.pTs_pair1 (s : State) (pg : Nat) (lo hi : Fld) (t : Nat) : (s.pTs pg lo hi t).pair1 = s.pair1 := rfl
@[simp] theorem State.pTs_ikw (s : State) (pg : Nat) (lo hi : Fld) (t : Nat) : (s.pTs pg lo hi t).ikw = s.ikw := rfl
@[simp] theorem State.pTs_pcr (s : State) (pg : Nat) (lo hi : Fld) (t : Nat) : (s.pTs pg lo hi t).pcr = s.pcr := rfl
@[simp] theorem State.pTs_memc (s : State) (pg : Nat) (lo hi : Fld) (t : Nat) : (s.pTs pg lo hi t).memc = s.memc := rfl
@[simp] theorem State.pTs_fresh (s : State) (pg : Nat) (lo hi : Fld) (t : Nat) : (s.pTs pg lo hi t).fresh = s.fresh := rfl
@[simp] theorem State.pTs_pending (s : State) (pg : Nat) (lo hi : Fld) (t : Nat) : (s.pTs pg lo hi t).pending = s.pending := rfl
@[simp] theorem State.pTs_fbs (s : State) (pg : Nat) (lo hi : Fld) (t : Nat) : (s.pTs pg lo hi t).fbs = s.fbs := rfl
@[simp] theorem State.pTs_pos (s : State) (pg : Nat) (lo hi : Fld) (t : Nat) : (s.pTs pg lo hi t).pos = s.pos := rfl
@[simp] theorem State.pTs_pulses (s : State) (pg : Nat) (lo hi : Fld) (t : Nat) : (s.pTs pg lo hi t).pulses = s.pulses := rfl
@[simp] theorem State.pTs_hoist (s : State) (pg : Nat) (lo hi : Fld) (t : Nat) : (s.pTs pg lo hi t).hoist = s.hoist := rfl
@[simp] theorem State.pTs_dlks (s : State) (pg : Nat) (lo hi : Fld) (t : Nat) : (s.pTs pg lo hi t).dlks = s.dlks := rfl
@[simp] theorem State.pTs_clg (s : State) (pg : Nat) (lo hi : Fld) (t : Nat) : (s.pTs pg lo hi t).clg = s.clg := rfl
@[simp] theorem State.pTs_doors (s : State) (pg : Nat) (lo hi : Fld) (t : Nat) : (s.pTs pg lo hi t).doors = s.doors := rfl
@[simp] theorem State.pTs_safe (s : State) (pg : Nat) (lo hi : Fld) (t : Nat) : (s.pTs pg lo hi t).safe = s.safe := rfl
@[simp] theorem State.pTs_ports (s : State) (pg : Nat) (lo hi : Fld) (t : Nat) : (s.pTs pg lo hi t).ports = s.ports := rfl
@[simp] theorem State.pTs_cve (s : State) (pg : Nat) (lo hi : Fld) (t : Nat) : (s.pTs pg lo hi t).cve = s.cve := rfl
@[simp] theorem State.pTs_bnis (s : State) (pg : Nat) (lo hi : Fld) (t : Nat) : (s.pTs pg lo hi t).bnis = s.bnis := rfl

/-! ### `State.wrStat` -/

@[simp] theorem State.wrStat_lh6161 (s : State) (pg : Nat) (v : Word) : (s.wrStat pg v).lh6161 = s.lh6161 :=
  by
  unfold State.wrStat; split
  · rfl
  · simp only [State.wr_lh6161]
@[simp] theorem State.wrStat_pmode (s : State) (pg : Nat) (v : Word) : (s.wrStat pg v).pmode = s.pmode :=
  by
  unfold State.wrStat; split
  · rfl
  · simp only [State.wr_pmode]
@[simp] theorem State.wrStat_mem (s : State) (pg : Nat) (v : Word) : (s.wrStat pg v).mem = s.mem :=
  by
  unfold State.wrStat; split
  · rfl
  · simp only [State.wr_mem]
@[simp] theorem State.wrStat_latches (s : State) (pg : Nat) (v : Word) : (s.wrStat pg v).latches = s.latches :=
  by
  unfold State.wrStat; split
  · rfl
  · simp only [State.wr_latches]
@[simp] theorem State.wrStat_pends (s : State) (pg : Nat) (v : Word) : (s.wrStat pg v).pends = s.pends :=
  by
  unfold State.wrStat; split
  · rfl
  · simp only [State.wr_pends]
@[simp] theorem State.wrStat_bus (s : State) (pg : Nat) (v : Word) : (s.wrStat pg v).bus = s.bus :=
  by
  unfold State.wrStat; split
  · rfl
  · simp only [State.wr_bus]
@[simp] theorem State.wrStat_tbs (s : State) (pg : Nat) (v : Word) : (s.wrStat pg v).tbs = s.tbs :=
  by
  unfold State.wrStat; split
  · rfl
  · simp only [State.wr_tbs]
@[simp] theorem State.wrStat_nets (s : State) (pg : Nat) (v : Word) : (s.wrStat pg v).nets = s.nets :=
  by
  unfold State.wrStat; split
  · rfl
  · simp only [State.wr_nets]
@[simp] theorem State.wrStat_rdm (s : State) (pg : Nat) (v : Word) : (s.wrStat pg v).rdm = s.rdm :=
  by
  unfold State.wrStat; split
  · rfl
  · simp only [State.wr_rdm]
@[simp] theorem State.wrStat_pair0 (s : State) (pg : Nat) (v : Word) : (s.wrStat pg v).pair0 = s.pair0 :=
  by
  unfold State.wrStat; split
  · rfl
  · simp only [State.wr_pair0]
@[simp] theorem State.wrStat_pair1 (s : State) (pg : Nat) (v : Word) : (s.wrStat pg v).pair1 = s.pair1 :=
  by
  unfold State.wrStat; split
  · rfl
  · simp only [State.wr_pair1]
@[simp] theorem State.wrStat_ikw (s : State) (pg : Nat) (v : Word) : (s.wrStat pg v).ikw = s.ikw :=
  by
  unfold State.wrStat; split
  · rfl
  · simp only [State.wr_ikw]
@[simp] theorem State.wrStat_pcr (s : State) (pg : Nat) (v : Word) : (s.wrStat pg v).pcr = s.pcr :=
  by
  unfold State.wrStat; split
  · rfl
  · simp only [State.wr_pcr]
@[simp] theorem State.wrStat_memc (s : State) (pg : Nat) (v : Word) : (s.wrStat pg v).memc = s.memc :=
  by
  unfold State.wrStat; split
  · rfl
  · simp only [State.wr_memc]
@[simp] theorem State.wrStat_fresh (s : State) (pg : Nat) (v : Word) : (s.wrStat pg v).fresh = s.fresh :=
  by
  unfold State.wrStat; split
  · rfl
  · simp only [State.wr_fresh]
@[simp] theorem State.wrStat_pending (s : State) (pg : Nat) (v : Word) : (s.wrStat pg v).pending = s.pending :=
  by
  unfold State.wrStat; split
  · rfl
  · simp only [State.wr_pending]
@[simp] theorem State.wrStat_fbs (s : State) (pg : Nat) (v : Word) : (s.wrStat pg v).fbs = s.fbs :=
  by
  unfold State.wrStat; split
  · rfl
  · simp only [State.wr_fbs]
@[simp] theorem State.wrStat_pos (s : State) (pg : Nat) (v : Word) : (s.wrStat pg v).pos = s.pos :=
  by
  unfold State.wrStat; split
  · rfl
  · simp only [State.wr_pos]
@[simp] theorem State.wrStat_pulses (s : State) (pg : Nat) (v : Word) : (s.wrStat pg v).pulses = s.pulses :=
  by
  unfold State.wrStat; split
  · rfl
  · simp only [State.wr_pulses]
@[simp] theorem State.wrStat_hoist (s : State) (pg : Nat) (v : Word) : (s.wrStat pg v).hoist = s.hoist :=
  by
  unfold State.wrStat; split
  · rfl
  · simp only [State.wr_hoist]
@[simp] theorem State.wrStat_dlks (s : State) (pg : Nat) (v : Word) : (s.wrStat pg v).dlks = s.dlks :=
  by
  unfold State.wrStat; split
  · rfl
  · simp only [State.wr_dlks]
@[simp] theorem State.wrStat_clg (s : State) (pg : Nat) (v : Word) : (s.wrStat pg v).clg = s.clg :=
  by
  unfold State.wrStat; split
  · rfl
  · simp only [State.wr_clg]
@[simp] theorem State.wrStat_doors (s : State) (pg : Nat) (v : Word) : (s.wrStat pg v).doors = s.doors :=
  by
  unfold State.wrStat; split
  · rfl
  · simp only [State.wr_doors]
@[simp] theorem State.wrStat_safe (s : State) (pg : Nat) (v : Word) : (s.wrStat pg v).safe = s.safe :=
  by
  unfold State.wrStat; split
  · rfl
  · simp only [State.wr_safe]
@[simp] theorem State.wrStat_ports (s : State) (pg : Nat) (v : Word) : (s.wrStat pg v).ports = s.ports :=
  by
  unfold State.wrStat; split
  · rfl
  · simp only [State.wr_ports]
@[simp] theorem State.wrStat_cve (s : State) (pg : Nat) (v : Word) : (s.wrStat pg v).cve = s.cve :=
  by
  unfold State.wrStat; split
  · rfl
  · simp only [State.wr_cve]
@[simp] theorem State.wrStat_bnis (s : State) (pg : Nat) (v : Word) : (s.wrStat pg v).bnis = s.bnis :=
  by
  unfold State.wrStat; split
  · rfl
  · simp only [State.wr_bnis]

/-! ### `State.ps` -/

@[simp] theorem State.ps_lh6161 (s : State) (pg : Nat) (f : Fld) (v : Nat) : (s.ps pg f v).lh6161 = s.lh6161 :=
  by unfold State.ps; exact State.wrStat_lh6161 _ _ _
@[simp] theorem State.ps_pmode (s : State) (pg : Nat) (f : Fld) (v : Nat) : (s.ps pg f v).pmode = s.pmode :=
  by unfold State.ps; exact State.wrStat_pmode _ _ _
@[simp] theorem State.ps_mem (s : State) (pg : Nat) (f : Fld) (v : Nat) : (s.ps pg f v).mem = s.mem :=
  by unfold State.ps; exact State.wrStat_mem _ _ _
@[simp] theorem State.ps_latches (s : State) (pg : Nat) (f : Fld) (v : Nat) : (s.ps pg f v).latches = s.latches :=
  by unfold State.ps; exact State.wrStat_latches _ _ _
@[simp] theorem State.ps_pends (s : State) (pg : Nat) (f : Fld) (v : Nat) : (s.ps pg f v).pends = s.pends :=
  by unfold State.ps; exact State.wrStat_pends _ _ _
@[simp] theorem State.ps_bus (s : State) (pg : Nat) (f : Fld) (v : Nat) : (s.ps pg f v).bus = s.bus :=
  by unfold State.ps; exact State.wrStat_bus _ _ _
@[simp] theorem State.ps_tbs (s : State) (pg : Nat) (f : Fld) (v : Nat) : (s.ps pg f v).tbs = s.tbs :=
  by unfold State.ps; exact State.wrStat_tbs _ _ _
@[simp] theorem State.ps_nets (s : State) (pg : Nat) (f : Fld) (v : Nat) : (s.ps pg f v).nets = s.nets :=
  by unfold State.ps; exact State.wrStat_nets _ _ _
@[simp] theorem State.ps_rdm (s : State) (pg : Nat) (f : Fld) (v : Nat) : (s.ps pg f v).rdm = s.rdm :=
  by unfold State.ps; exact State.wrStat_rdm _ _ _
@[simp] theorem State.ps_pair0 (s : State) (pg : Nat) (f : Fld) (v : Nat) : (s.ps pg f v).pair0 = s.pair0 :=
  by unfold State.ps; exact State.wrStat_pair0 _ _ _
@[simp] theorem State.ps_pair1 (s : State) (pg : Nat) (f : Fld) (v : Nat) : (s.ps pg f v).pair1 = s.pair1 :=
  by unfold State.ps; exact State.wrStat_pair1 _ _ _
@[simp] theorem State.ps_ikw (s : State) (pg : Nat) (f : Fld) (v : Nat) : (s.ps pg f v).ikw = s.ikw :=
  by unfold State.ps; exact State.wrStat_ikw _ _ _
@[simp] theorem State.ps_pcr (s : State) (pg : Nat) (f : Fld) (v : Nat) : (s.ps pg f v).pcr = s.pcr :=
  by unfold State.ps; exact State.wrStat_pcr _ _ _
@[simp] theorem State.ps_memc (s : State) (pg : Nat) (f : Fld) (v : Nat) : (s.ps pg f v).memc = s.memc :=
  by unfold State.ps; exact State.wrStat_memc _ _ _
@[simp] theorem State.ps_fresh (s : State) (pg : Nat) (f : Fld) (v : Nat) : (s.ps pg f v).fresh = s.fresh :=
  by unfold State.ps; exact State.wrStat_fresh _ _ _
@[simp] theorem State.ps_pending (s : State) (pg : Nat) (f : Fld) (v : Nat) : (s.ps pg f v).pending = s.pending :=
  by unfold State.ps; exact State.wrStat_pending _ _ _
@[simp] theorem State.ps_fbs (s : State) (pg : Nat) (f : Fld) (v : Nat) : (s.ps pg f v).fbs = s.fbs :=
  by unfold State.ps; exact State.wrStat_fbs _ _ _
@[simp] theorem State.ps_pos (s : State) (pg : Nat) (f : Fld) (v : Nat) : (s.ps pg f v).pos = s.pos :=
  by unfold State.ps; exact State.wrStat_pos _ _ _
@[simp] theorem State.ps_pulses (s : State) (pg : Nat) (f : Fld) (v : Nat) : (s.ps pg f v).pulses = s.pulses :=
  by unfold State.ps; exact State.wrStat_pulses _ _ _
@[simp] theorem State.ps_hoist (s : State) (pg : Nat) (f : Fld) (v : Nat) : (s.ps pg f v).hoist = s.hoist :=
  by unfold State.ps; exact State.wrStat_hoist _ _ _
@[simp] theorem State.ps_dlks (s : State) (pg : Nat) (f : Fld) (v : Nat) : (s.ps pg f v).dlks = s.dlks :=
  by unfold State.ps; exact State.wrStat_dlks _ _ _
@[simp] theorem State.ps_clg (s : State) (pg : Nat) (f : Fld) (v : Nat) : (s.ps pg f v).clg = s.clg :=
  by unfold State.ps; exact State.wrStat_clg _ _ _
@[simp] theorem State.ps_doors (s : State) (pg : Nat) (f : Fld) (v : Nat) : (s.ps pg f v).doors = s.doors :=
  by unfold State.ps; exact State.wrStat_doors _ _ _
@[simp] theorem State.ps_safe (s : State) (pg : Nat) (f : Fld) (v : Nat) : (s.ps pg f v).safe = s.safe :=
  by unfold State.ps; exact State.wrStat_safe _ _ _
@[simp] theorem State.ps_ports (s : State) (pg : Nat) (f : Fld) (v : Nat) : (s.ps pg f v).ports = s.ports :=
  by unfold State.ps; exact State.wrStat_ports _ _ _
@[simp] theorem State.ps_cve (s : State) (pg : Nat) (f : Fld) (v : Nat) : (s.ps pg f v).cve = s.cve :=
  by unfold State.ps; exact State.wrStat_cve _ _ _
@[simp] theorem State.ps_bnis (s : State) (pg : Nat) (f : Fld) (v : Nat) : (s.ps pg f v).bnis = s.bnis :=
  by unfold State.ps; exact State.wrStat_bnis _ _ _

/-! ### `State.psB` -/

@[simp] theorem State.psB_lh6161 (s : State) (pg : Nat) (f : Fld) (v : Bool) : (s.psB pg f v).lh6161 = s.lh6161 :=
  by unfold State.psB; exact State.ps_lh6161 _ _ _ _
@[simp] theorem State.psB_pmode (s : State) (pg : Nat) (f : Fld) (v : Bool) : (s.psB pg f v).pmode = s.pmode :=
  by unfold State.psB; exact State.ps_pmode _ _ _ _
@[simp] theorem State.psB_mem (s : State) (pg : Nat) (f : Fld) (v : Bool) : (s.psB pg f v).mem = s.mem :=
  by unfold State.psB; exact State.ps_mem _ _ _ _
@[simp] theorem State.psB_latches (s : State) (pg : Nat) (f : Fld) (v : Bool) : (s.psB pg f v).latches = s.latches :=
  by unfold State.psB; exact State.ps_latches _ _ _ _
@[simp] theorem State.psB_pends (s : State) (pg : Nat) (f : Fld) (v : Bool) : (s.psB pg f v).pends = s.pends :=
  by unfold State.psB; exact State.ps_pends _ _ _ _
@[simp] theorem State.psB_bus (s : State) (pg : Nat) (f : Fld) (v : Bool) : (s.psB pg f v).bus = s.bus :=
  by unfold State.psB; exact State.ps_bus _ _ _ _
@[simp] theorem State.psB_tbs (s : State) (pg : Nat) (f : Fld) (v : Bool) : (s.psB pg f v).tbs = s.tbs :=
  by unfold State.psB; exact State.ps_tbs _ _ _ _
@[simp] theorem State.psB_nets (s : State) (pg : Nat) (f : Fld) (v : Bool) : (s.psB pg f v).nets = s.nets :=
  by unfold State.psB; exact State.ps_nets _ _ _ _
@[simp] theorem State.psB_rdm (s : State) (pg : Nat) (f : Fld) (v : Bool) : (s.psB pg f v).rdm = s.rdm :=
  by unfold State.psB; exact State.ps_rdm _ _ _ _
@[simp] theorem State.psB_pair0 (s : State) (pg : Nat) (f : Fld) (v : Bool) : (s.psB pg f v).pair0 = s.pair0 :=
  by unfold State.psB; exact State.ps_pair0 _ _ _ _
@[simp] theorem State.psB_pair1 (s : State) (pg : Nat) (f : Fld) (v : Bool) : (s.psB pg f v).pair1 = s.pair1 :=
  by unfold State.psB; exact State.ps_pair1 _ _ _ _
@[simp] theorem State.psB_ikw (s : State) (pg : Nat) (f : Fld) (v : Bool) : (s.psB pg f v).ikw = s.ikw :=
  by unfold State.psB; exact State.ps_ikw _ _ _ _
@[simp] theorem State.psB_pcr (s : State) (pg : Nat) (f : Fld) (v : Bool) : (s.psB pg f v).pcr = s.pcr :=
  by unfold State.psB; exact State.ps_pcr _ _ _ _
@[simp] theorem State.psB_memc (s : State) (pg : Nat) (f : Fld) (v : Bool) : (s.psB pg f v).memc = s.memc :=
  by unfold State.psB; exact State.ps_memc _ _ _ _
@[simp] theorem State.psB_fresh (s : State) (pg : Nat) (f : Fld) (v : Bool) : (s.psB pg f v).fresh = s.fresh :=
  by unfold State.psB; exact State.ps_fresh _ _ _ _
@[simp] theorem State.psB_pending (s : State) (pg : Nat) (f : Fld) (v : Bool) : (s.psB pg f v).pending = s.pending :=
  by unfold State.psB; exact State.ps_pending _ _ _ _
@[simp] theorem State.psB_fbs (s : State) (pg : Nat) (f : Fld) (v : Bool) : (s.psB pg f v).fbs = s.fbs :=
  by unfold State.psB; exact State.ps_fbs _ _ _ _
@[simp] theorem State.psB_pos (s : State) (pg : Nat) (f : Fld) (v : Bool) : (s.psB pg f v).pos = s.pos :=
  by unfold State.psB; exact State.ps_pos _ _ _ _
@[simp] theorem State.psB_pulses (s : State) (pg : Nat) (f : Fld) (v : Bool) : (s.psB pg f v).pulses = s.pulses :=
  by unfold State.psB; exact State.ps_pulses _ _ _ _
@[simp] theorem State.psB_hoist (s : State) (pg : Nat) (f : Fld) (v : Bool) : (s.psB pg f v).hoist = s.hoist :=
  by unfold State.psB; exact State.ps_hoist _ _ _ _
@[simp] theorem State.psB_dlks (s : State) (pg : Nat) (f : Fld) (v : Bool) : (s.psB pg f v).dlks = s.dlks :=
  by unfold State.psB; exact State.ps_dlks _ _ _ _
@[simp] theorem State.psB_clg (s : State) (pg : Nat) (f : Fld) (v : Bool) : (s.psB pg f v).clg = s.clg :=
  by unfold State.psB; exact State.ps_clg _ _ _ _
@[simp] theorem State.psB_doors (s : State) (pg : Nat) (f : Fld) (v : Bool) : (s.psB pg f v).doors = s.doors :=
  by unfold State.psB; exact State.ps_doors _ _ _ _
@[simp] theorem State.psB_safe (s : State) (pg : Nat) (f : Fld) (v : Bool) : (s.psB pg f v).safe = s.safe :=
  by unfold State.psB; exact State.ps_safe _ _ _ _
@[simp] theorem State.psB_ports (s : State) (pg : Nat) (f : Fld) (v : Bool) : (s.psB pg f v).ports = s.ports :=
  by unfold State.psB; exact State.ps_ports _ _ _ _
@[simp] theorem State.psB_cve (s : State) (pg : Nat) (f : Fld) (v : Bool) : (s.psB pg f v).cve = s.cve :=
  by unfold State.psB; exact State.ps_cve _ _ _ _
@[simp] theorem State.psB_bnis (s : State) (pg : Nat) (f : Fld) (v : Bool) : (s.psB pg f v).bnis = s.bnis :=
  by unfold State.psB; exact State.ps_bnis _ _ _ _

/-! ### `State.pm` -/

@[simp] theorem State.pm_lh6161 (s : State) (f : Fld) (v : Nat) : (s.pm f v).lh6161 = s.lh6161 :=
  by
  unfold State.pm; dsimp only; split
  · rfl
  · simp only [State.wr_lh6161]
@[simp] theorem State.pm_pmode (s : State) (f : Fld) (v : Nat) : (s.pm f v).pmode = s.pmode :=
  by
  unfold State.pm; dsimp only; split
  · rfl
  · simp only [State.wr_pmode]
@[simp] theorem State.pm_mem (s : State) (f : Fld) (v : Nat) : (s.pm f v).mem = s.mem :=
  by
  unfold State.pm; dsimp only; split
  · rfl
  · simp only [State.wr_mem]
@[simp] theorem State.pm_latches (s : State) (f : Fld) (v : Nat) : (s.pm f v).latches = s.latches :=
  by
  unfold State.pm; dsimp only; split
  · rfl
  · simp only [State.wr_latches]
@[simp] theorem State.pm_pends (s : State) (f : Fld) (v : Nat) : (s.pm f v).pends = s.pends :=
  by
  unfold State.pm; dsimp only; split
  · rfl
  · simp only [State.wr_pends]
@[simp] theorem State.pm_bus (s : State) (f : Fld) (v : Nat) : (s.pm f v).bus = s.bus :=
  by
  unfold State.pm; dsimp only; split
  · rfl
  · simp only [State.wr_bus]
@[simp] theorem State.pm_tbs (s : State) (f : Fld) (v : Nat) : (s.pm f v).tbs = s.tbs :=
  by
  unfold State.pm; dsimp only; split
  · rfl
  · simp only [State.wr_tbs]
@[simp] theorem State.pm_nets (s : State) (f : Fld) (v : Nat) : (s.pm f v).nets = s.nets :=
  by
  unfold State.pm; dsimp only; split
  · rfl
  · simp only [State.wr_nets]
@[simp] theorem State.pm_rdm (s : State) (f : Fld) (v : Nat) : (s.pm f v).rdm = s.rdm :=
  by
  unfold State.pm; dsimp only; split
  · rfl
  · simp only [State.wr_rdm]
@[simp] theorem State.pm_pair0 (s : State) (f : Fld) (v : Nat) : (s.pm f v).pair0 = s.pair0 :=
  by
  unfold State.pm; dsimp only; split
  · rfl
  · simp only [State.wr_pair0]
@[simp] theorem State.pm_pair1 (s : State) (f : Fld) (v : Nat) : (s.pm f v).pair1 = s.pair1 :=
  by
  unfold State.pm; dsimp only; split
  · rfl
  · simp only [State.wr_pair1]
@[simp] theorem State.pm_ikw (s : State) (f : Fld) (v : Nat) : (s.pm f v).ikw = s.ikw :=
  by
  unfold State.pm; dsimp only; split
  · rfl
  · simp only [State.wr_ikw]
@[simp] theorem State.pm_pcr (s : State) (f : Fld) (v : Nat) : (s.pm f v).pcr = s.pcr :=
  by
  unfold State.pm; dsimp only; split
  · rfl
  · simp only [State.wr_pcr]
@[simp] theorem State.pm_memc (s : State) (f : Fld) (v : Nat) : (s.pm f v).memc = s.memc :=
  by
  unfold State.pm; dsimp only; split
  · rfl
  · simp only [State.wr_memc]
@[simp] theorem State.pm_fresh (s : State) (f : Fld) (v : Nat) : (s.pm f v).fresh = s.fresh :=
  by
  unfold State.pm; dsimp only; split
  · rfl
  · simp only [State.wr_fresh]
@[simp] theorem State.pm_pending (s : State) (f : Fld) (v : Nat) : (s.pm f v).pending = s.pending :=
  by
  unfold State.pm; dsimp only; split
  · rfl
  · simp only [State.wr_pending]
@[simp] theorem State.pm_fbs (s : State) (f : Fld) (v : Nat) : (s.pm f v).fbs = s.fbs :=
  by
  unfold State.pm; dsimp only; split
  · rfl
  · simp only [State.wr_fbs]
@[simp] theorem State.pm_pos (s : State) (f : Fld) (v : Nat) : (s.pm f v).pos = s.pos :=
  by
  unfold State.pm; dsimp only; split
  · rfl
  · simp only [State.wr_pos]
@[simp] theorem State.pm_pulses (s : State) (f : Fld) (v : Nat) : (s.pm f v).pulses = s.pulses :=
  by
  unfold State.pm; dsimp only; split
  · rfl
  · simp only [State.wr_pulses]
@[simp] theorem State.pm_hoist (s : State) (f : Fld) (v : Nat) : (s.pm f v).hoist = s.hoist :=
  by
  unfold State.pm; dsimp only; split
  · rfl
  · simp only [State.wr_hoist]
@[simp] theorem State.pm_dlks (s : State) (f : Fld) (v : Nat) : (s.pm f v).dlks = s.dlks :=
  by
  unfold State.pm; dsimp only; split
  · rfl
  · simp only [State.wr_dlks]
@[simp] theorem State.pm_clg (s : State) (f : Fld) (v : Nat) : (s.pm f v).clg = s.clg :=
  by
  unfold State.pm; dsimp only; split
  · rfl
  · simp only [State.wr_clg]
@[simp] theorem State.pm_doors (s : State) (f : Fld) (v : Nat) : (s.pm f v).doors = s.doors :=
  by
  unfold State.pm; dsimp only; split
  · rfl
  · simp only [State.wr_doors]
@[simp] theorem State.pm_safe (s : State) (f : Fld) (v : Nat) : (s.pm f v).safe = s.safe :=
  by
  unfold State.pm; dsimp only; split
  · rfl
  · simp only [State.wr_safe]
@[simp] theorem State.pm_ports (s : State) (f : Fld) (v : Nat) : (s.pm f v).ports = s.ports :=
  by
  unfold State.pm; dsimp only; split
  · rfl
  · simp only [State.wr_ports]
@[simp] theorem State.pm_cve (s : State) (f : Fld) (v : Nat) : (s.pm f v).cve = s.cve :=
  by
  unfold State.pm; dsimp only; split
  · rfl
  · simp only [State.wr_cve]
@[simp] theorem State.pm_bnis (s : State) (f : Fld) (v : Nat) : (s.pm f v).bnis = s.bnis :=
  by
  unfold State.pm; dsimp only; split
  · rfl
  · simp only [State.wr_bnis]

/-! ### `State.resumeCores` -/

@[simp] theorem State.resumeCores_lh6161 (s : State) : (s.resumeCores).lh6161 = s.lh6161 := rfl
@[simp] theorem State.resumeCores_pmode (s : State) : (s.resumeCores).pmode = s.pmode := rfl
@[simp] theorem State.resumeCores_regs (s : State) : (s.resumeCores).regs = s.regs := rfl
@[simp] theorem State.resumeCores_mem (s : State) : (s.resumeCores).mem = s.mem := rfl
@[simp] theorem State.resumeCores_latches (s : State) : (s.resumeCores).latches = s.latches := rfl
@[simp] theorem State.resumeCores_pends (s : State) : (s.resumeCores).pends = s.pends := rfl
@[simp] theorem State.resumeCores_bus (s : State) : (s.resumeCores).bus = s.bus := rfl
@[simp] theorem State.resumeCores_tbs (s : State) : (s.resumeCores).tbs = s.tbs := rfl
@[simp] theorem State.resumeCores_nets (s : State) : (s.resumeCores).nets = s.nets := rfl
@[simp] theorem State.resumeCores_rdm (s : State) : (s.resumeCores).rdm = s.rdm := rfl
@[simp] theorem State.resumeCores_ikw (s : State) : (s.resumeCores).ikw = s.ikw := rfl
@[simp] theorem State.resumeCores_pcr (s : State) : (s.resumeCores).pcr = s.pcr := rfl
@[simp] theorem State.resumeCores_memc (s : State) : (s.resumeCores).memc = s.memc := rfl
@[simp] theorem State.resumeCores_fresh (s : State) : (s.resumeCores).fresh = s.fresh := rfl
@[simp] theorem State.resumeCores_pending (s : State) : (s.resumeCores).pending = s.pending := rfl
@[simp] theorem State.resumeCores_fbs (s : State) : (s.resumeCores).fbs = s.fbs := rfl
@[simp] theorem State.resumeCores_pos (s : State) : (s.resumeCores).pos = s.pos := rfl
@[simp] theorem State.resumeCores_pulses (s : State) : (s.resumeCores).pulses = s.pulses := rfl
@[simp] theorem State.resumeCores_hoist (s : State) : (s.resumeCores).hoist = s.hoist := rfl
@[simp] theorem State.resumeCores_dlks (s : State) : (s.resumeCores).dlks = s.dlks := rfl
@[simp] theorem State.resumeCores_clg (s : State) : (s.resumeCores).clg = s.clg := rfl
@[simp] theorem State.resumeCores_doors (s : State) : (s.resumeCores).doors = s.doors := rfl
@[simp] theorem State.resumeCores_safe (s : State) : (s.resumeCores).safe = s.safe := rfl
@[simp] theorem State.resumeCores_ports (s : State) : (s.resumeCores).ports = s.ports := rfl
@[simp] theorem State.resumeCores_cve (s : State) : (s.resumeCores).cve = s.cve := rfl
@[simp] theorem State.resumeCores_bnis (s : State) : (s.resumeCores).bnis = s.bnis := rfl

/-! ### `State.pend` -/

@[simp] theorem State.pend_lh6161 (s : State) (n : Nat) : (s.pend n).lh6161 = s.lh6161 := rfl
@[simp] theorem State.pend_pmode (s : State) (n : Nat) : (s.pend n).pmode = s.pmode := rfl
@[simp] theorem State.pend_regs (s : State) (n : Nat) : (s.pend n).regs = s.regs := rfl
@[simp] theorem State.pend_mem (s : State) (n : Nat) : (s.pend n).mem = s.mem := rfl
@[simp] theorem State.pend_latches (s : State) (n : Nat) : (s.pend n).latches = s.latches := rfl
@[simp] theorem State.pend_bus (s : State) (n : Nat) : (s.pend n).bus = s.bus := rfl
@[simp] theorem State.pend_tbs (s : State) (n : Nat) : (s.pend n).tbs = s.tbs := rfl
@[simp] theorem State.pend_nets (s : State) (n : Nat) : (s.pend n).nets = s.nets := rfl
@[simp] theorem State.pend_rdm (s : State) (n : Nat) : (s.pend n).rdm = s.rdm := rfl
@[simp] theorem State.pend_ikw (s : State) (n : Nat) : (s.pend n).ikw = s.ikw := rfl
@[simp] theorem State.pend_pcr (s : State) (n : Nat) : (s.pend n).pcr = s.pcr := rfl
@[simp] theorem State.pend_memc (s : State) (n : Nat) : (s.pend n).memc = s.memc := rfl
@[simp] theorem State.pend_fresh (s : State) (n : Nat) : (s.pend n).fresh = s.fresh := rfl
@[simp] theorem State.pend_pending (s : State) (n : Nat) : (s.pend n).pending = s.pending := rfl
@[simp] theorem State.pend_fbs (s : State) (n : Nat) : (s.pend n).fbs = s.fbs := rfl
@[simp] theorem State.pend_pos (s : State) (n : Nat) : (s.pend n).pos = s.pos := rfl
@[simp] theorem State.pend_pulses (s : State) (n : Nat) : (s.pend n).pulses = s.pulses := rfl
@[simp] theorem State.pend_hoist (s : State) (n : Nat) : (s.pend n).hoist = s.hoist := rfl
@[simp] theorem State.pend_dlks (s : State) (n : Nat) : (s.pend n).dlks = s.dlks := rfl
@[simp] theorem State.pend_clg (s : State) (n : Nat) : (s.pend n).clg = s.clg := rfl
@[simp] theorem State.pend_doors (s : State) (n : Nat) : (s.pend n).doors = s.doors := rfl
@[simp] theorem State.pend_safe (s : State) (n : Nat) : (s.pend n).safe = s.safe := rfl
@[simp] theorem State.pend_ports (s : State) (n : Nat) : (s.pend n).ports = s.ports := rfl
@[simp] theorem State.pend_cve (s : State) (n : Nat) : (s.pend n).cve = s.cve := rfl
@[simp] theorem State.pend_bnis (s : State) (n : Nat) : (s.pend n).bnis = s.bnis := rfl

/-! ### `State.withdraw` -/

@[simp] theorem State.withdraw_lh6161 (s : State) (n : Nat) : (s.withdraw n).lh6161 = s.lh6161 := rfl
@[simp] theorem State.withdraw_pmode (s : State) (n : Nat) : (s.withdraw n).pmode = s.pmode := rfl
@[simp] theorem State.withdraw_regs (s : State) (n : Nat) : (s.withdraw n).regs = s.regs := rfl
@[simp] theorem State.withdraw_mem (s : State) (n : Nat) : (s.withdraw n).mem = s.mem := rfl
@[simp] theorem State.withdraw_latches (s : State) (n : Nat) : (s.withdraw n).latches = s.latches := rfl
@[simp] theorem State.withdraw_bus (s : State) (n : Nat) : (s.withdraw n).bus = s.bus := rfl
@[simp] theorem State.withdraw_tbs (s : State) (n : Nat) : (s.withdraw n).tbs = s.tbs := rfl
@[simp] theorem State.withdraw_nets (s : State) (n : Nat) : (s.withdraw n).nets = s.nets := rfl
@[simp] theorem State.withdraw_rdm (s : State) (n : Nat) : (s.withdraw n).rdm = s.rdm := rfl
@[simp] theorem State.withdraw_pair0 (s : State) (n : Nat) : (s.withdraw n).pair0 = s.pair0 := rfl
@[simp] theorem State.withdraw_pair1 (s : State) (n : Nat) : (s.withdraw n).pair1 = s.pair1 := rfl
@[simp] theorem State.withdraw_ikw (s : State) (n : Nat) : (s.withdraw n).ikw = s.ikw := rfl
@[simp] theorem State.withdraw_pcr (s : State) (n : Nat) : (s.withdraw n).pcr = s.pcr := rfl
@[simp] theorem State.withdraw_memc (s : State) (n : Nat) : (s.withdraw n).memc = s.memc := rfl
@[simp] theorem State.withdraw_fresh (s : State) (n : Nat) : (s.withdraw n).fresh = s.fresh := rfl
@[simp] theorem State.withdraw_pending (s : State) (n : Nat) : (s.withdraw n).pending = s.pending := rfl
@[simp] theorem State.withdraw_fbs (s : State) (n : Nat) : (s.withdraw n).fbs = s.fbs := rfl
@[simp] theorem State.withdraw_pos (s : State) (n : Nat) : (s.withdraw n).pos = s.pos := rfl
@[simp] theorem State.withdraw_pulses (s : State) (n : Nat) : (s.withdraw n).pulses = s.pulses := rfl
@[simp] theorem State.withdraw_hoist (s : State) (n : Nat) : (s.withdraw n).hoist = s.hoist := rfl
@[simp] theorem State.withdraw_dlks (s : State) (n : Nat) : (s.withdraw n).dlks = s.dlks := rfl
@[simp] theorem State.withdraw_clg (s : State) (n : Nat) : (s.withdraw n).clg = s.clg := rfl
@[simp] theorem State.withdraw_doors (s : State) (n : Nat) : (s.withdraw n).doors = s.doors := rfl
@[simp] theorem State.withdraw_safe (s : State) (n : Nat) : (s.withdraw n).safe = s.safe := rfl
@[simp] theorem State.withdraw_ports (s : State) (n : Nat) : (s.withdraw n).ports = s.ports := rfl
@[simp] theorem State.withdraw_cve (s : State) (n : Nat) : (s.withdraw n).cve = s.cve := rfl
@[simp] theorem State.withdraw_bnis (s : State) (n : Nat) : (s.withdraw n).bnis = s.bnis := rfl

/-! ### `State.eccClean` -/

@[simp] theorem State.eccClean_lh6161 (s : State) (a len : Nat) : (s.eccClean a len).lh6161 = s.lh6161 := rfl
@[simp] theorem State.eccClean_pmode (s : State) (a len : Nat) : (s.eccClean a len).pmode = s.pmode := rfl
@[simp] theorem State.eccClean_regs (s : State) (a len : Nat) : (s.eccClean a len).regs = s.regs := rfl
@[simp] theorem State.eccClean_mem (s : State) (a len : Nat) : (s.eccClean a len).mem = s.mem := rfl
@[simp] theorem State.eccClean_latches (s : State) (a len : Nat) : (s.eccClean a len).latches = s.latches := rfl
@[simp] theorem State.eccClean_pends (s : State) (a len : Nat) : (s.eccClean a len).pends = s.pends := rfl
@[simp] theorem State.eccClean_bus (s : State) (a len : Nat) : (s.eccClean a len).bus = s.bus := rfl
@[simp] theorem State.eccClean_tbs (s : State) (a len : Nat) : (s.eccClean a len).tbs = s.tbs := rfl
@[simp] theorem State.eccClean_nets (s : State) (a len : Nat) : (s.eccClean a len).nets = s.nets := rfl
@[simp] theorem State.eccClean_rdm (s : State) (a len : Nat) : (s.eccClean a len).rdm = s.rdm := rfl
@[simp] theorem State.eccClean_pair0 (s : State) (a len : Nat) : (s.eccClean a len).pair0 = s.pair0 := rfl
@[simp] theorem State.eccClean_pair1 (s : State) (a len : Nat) : (s.eccClean a len).pair1 = s.pair1 := rfl
@[simp] theorem State.eccClean_ikw (s : State) (a len : Nat) : (s.eccClean a len).ikw = s.ikw := rfl
@[simp] theorem State.eccClean_pcr (s : State) (a len : Nat) : (s.eccClean a len).pcr = s.pcr := rfl
@[simp] theorem State.eccClean_fresh (s : State) (a len : Nat) : (s.eccClean a len).fresh = s.fresh := rfl
@[simp] theorem State.eccClean_pending (s : State) (a len : Nat) : (s.eccClean a len).pending = s.pending := rfl
@[simp] theorem State.eccClean_fbs (s : State) (a len : Nat) : (s.eccClean a len).fbs = s.fbs := rfl
@[simp] theorem State.eccClean_pos (s : State) (a len : Nat) : (s.eccClean a len).pos = s.pos := rfl
@[simp] theorem State.eccClean_pulses (s : State) (a len : Nat) : (s.eccClean a len).pulses = s.pulses := rfl
@[simp] theorem State.eccClean_hoist (s : State) (a len : Nat) : (s.eccClean a len).hoist = s.hoist := rfl
@[simp] theorem State.eccClean_dlks (s : State) (a len : Nat) : (s.eccClean a len).dlks = s.dlks := rfl
@[simp] theorem State.eccClean_clg (s : State) (a len : Nat) : (s.eccClean a len).clg = s.clg := rfl
@[simp] theorem State.eccClean_doors (s : State) (a len : Nat) : (s.eccClean a len).doors = s.doors := rfl
@[simp] theorem State.eccClean_safe (s : State) (a len : Nat) : (s.eccClean a len).safe = s.safe := rfl
@[simp] theorem State.eccClean_ports (s : State) (a len : Nat) : (s.eccClean a len).ports = s.ports := rfl
@[simp] theorem State.eccClean_cve (s : State) (a len : Nat) : (s.eccClean a len).cve = s.cve := rfl
@[simp] theorem State.eccClean_bnis (s : State) (a len : Nat) : (s.eccClean a len).bnis = s.bnis := rfl

/-! ### `State.irqM` -/

@[simp] theorem State.irqM_lh6161 (s : State) (pg m : Nat) : (s.irqM pg m).lh6161 = s.lh6161 :=
  by
  unfold State.irqM; dsimp only; split <;> simp only [State.pend_lh6161, State.wr_lh6161]
@[simp] theorem State.irqM_pmode (s : State) (pg m : Nat) : (s.irqM pg m).pmode = s.pmode :=
  by
  unfold State.irqM; dsimp only; split <;> simp only [State.pend_pmode, State.wr_pmode]
@[simp] theorem State.irqM_mem (s : State) (pg m : Nat) : (s.irqM pg m).mem = s.mem :=
  by
  unfold State.irqM; dsimp only; split <;> simp only [State.pend_mem, State.wr_mem]
@[simp] theorem State.irqM_latches (s : State) (pg m : Nat) : (s.irqM pg m).latches = s.latches :=
  by
  unfold State.irqM; dsimp only; split <;> simp only [State.pend_latches, State.wr_latches]
@[simp] theorem State.irqM_bus (s : State) (pg m : Nat) : (s.irqM pg m).bus = s.bus :=
  by
  unfold State.irqM; dsimp only; split <;> simp only [State.pend_bus, State.wr_bus]
@[simp] theorem State.irqM_tbs (s : State) (pg m : Nat) : (s.irqM pg m).tbs = s.tbs :=
  by
  unfold State.irqM; dsimp only; split <;> simp only [State.pend_tbs, State.wr_tbs]
@[simp] theorem State.irqM_nets (s : State) (pg m : Nat) : (s.irqM pg m).nets = s.nets :=
  by
  unfold State.irqM; dsimp only; split <;> simp only [State.pend_nets, State.wr_nets]
@[simp] theorem State.irqM_rdm (s : State) (pg m : Nat) : (s.irqM pg m).rdm = s.rdm :=
  by
  unfold State.irqM; dsimp only; split <;> simp only [State.pend_rdm, State.wr_rdm]
@[simp] theorem State.irqM_ikw (s : State) (pg m : Nat) : (s.irqM pg m).ikw = s.ikw :=
  by
  unfold State.irqM; dsimp only; split <;> simp only [State.pend_ikw, State.wr_ikw]
@[simp] theorem State.irqM_pcr (s : State) (pg m : Nat) : (s.irqM pg m).pcr = s.pcr :=
  by
  unfold State.irqM; dsimp only; split <;> simp only [State.pend_pcr, State.wr_pcr]
@[simp] theorem State.irqM_memc (s : State) (pg m : Nat) : (s.irqM pg m).memc = s.memc :=
  by
  unfold State.irqM; dsimp only; split <;> simp only [State.pend_memc, State.wr_memc]
@[simp] theorem State.irqM_fresh (s : State) (pg m : Nat) : (s.irqM pg m).fresh = s.fresh :=
  by
  unfold State.irqM; dsimp only; split <;> simp only [State.pend_fresh, State.wr_fresh]
@[simp] theorem State.irqM_pending (s : State) (pg m : Nat) : (s.irqM pg m).pending = s.pending :=
  by
  unfold State.irqM; dsimp only; split <;> simp only [State.pend_pending, State.wr_pending]
@[simp] theorem State.irqM_fbs (s : State) (pg m : Nat) : (s.irqM pg m).fbs = s.fbs :=
  by
  unfold State.irqM; dsimp only; split <;> simp only [State.pend_fbs, State.wr_fbs]
@[simp] theorem State.irqM_pos (s : State) (pg m : Nat) : (s.irqM pg m).pos = s.pos :=
  by
  unfold State.irqM; dsimp only; split <;> simp only [State.pend_pos, State.wr_pos]
@[simp] theorem State.irqM_pulses (s : State) (pg m : Nat) : (s.irqM pg m).pulses = s.pulses :=
  by
  unfold State.irqM; dsimp only; split <;> simp only [State.pend_pulses, State.wr_pulses]
@[simp] theorem State.irqM_hoist (s : State) (pg m : Nat) : (s.irqM pg m).hoist = s.hoist :=
  by
  unfold State.irqM; dsimp only; split <;> simp only [State.pend_hoist, State.wr_hoist]
@[simp] theorem State.irqM_dlks (s : State) (pg m : Nat) : (s.irqM pg m).dlks = s.dlks :=
  by
  unfold State.irqM; dsimp only; split <;> simp only [State.pend_dlks, State.wr_dlks]
@[simp] theorem State.irqM_clg (s : State) (pg m : Nat) : (s.irqM pg m).clg = s.clg :=
  by
  unfold State.irqM; dsimp only; split <;> simp only [State.pend_clg, State.wr_clg]
@[simp] theorem State.irqM_doors (s : State) (pg m : Nat) : (s.irqM pg m).doors = s.doors :=
  by
  unfold State.irqM; dsimp only; split <;> simp only [State.pend_doors, State.wr_doors]
@[simp] theorem State.irqM_safe (s : State) (pg m : Nat) : (s.irqM pg m).safe = s.safe :=
  by
  unfold State.irqM; dsimp only; split <;> simp only [State.pend_safe, State.wr_safe]
@[simp] theorem State.irqM_ports (s : State) (pg m : Nat) : (s.irqM pg m).ports = s.ports :=
  by
  unfold State.irqM; dsimp only; split <;> simp only [State.pend_ports, State.wr_ports]
@[simp] theorem State.irqM_cve (s : State) (pg m : Nat) : (s.irqM pg m).cve = s.cve :=
  by
  unfold State.irqM; dsimp only; split <;> simp only [State.pend_cve, State.wr_cve]
@[simp] theorem State.irqM_bnis (s : State) (pg m : Nat) : (s.irqM pg m).bnis = s.bnis :=
  by
  unfold State.irqM; dsimp only; split <;> simp only [State.pend_bnis, State.wr_bnis]

/-! ### `State.irq` -/

@[simp] theorem State.irq_lh6161 (s : State) (pg i : Nat) : (s.irq pg i).lh6161 = s.lh6161 :=
  by unfold State.irq; exact State.irqM_lh6161 _ _ _
@[simp] theorem State.irq_pmode (s : State) (pg i : Nat) : (s.irq pg i).pmode = s.pmode :=
  by unfold State.irq; exact State.irqM_pmode _ _ _
@[simp] theorem State.irq_mem (s : State) (pg i : Nat) : (s.irq pg i).mem = s.mem :=
  by unfold State.irq; exact State.irqM_mem _ _ _
@[simp] theorem State.irq_latches (s : State) (pg i : Nat) : (s.irq pg i).latches = s.latches :=
  by unfold State.irq; exact State.irqM_latches _ _ _
@[simp] theorem State.irq_bus (s : State) (pg i : Nat) : (s.irq pg i).bus = s.bus :=
  by unfold State.irq; exact State.irqM_bus _ _ _
@[simp] theorem State.irq_tbs (s : State) (pg i : Nat) : (s.irq pg i).tbs = s.tbs :=
  by unfold State.irq; exact State.irqM_tbs _ _ _
@[simp] theorem State.irq_nets (s : State) (pg i : Nat) : (s.irq pg i).nets = s.nets :=
  by unfold State.irq; exact State.irqM_nets _ _ _
@[simp] theorem State.irq_rdm (s : State) (pg i : Nat) : (s.irq pg i).rdm = s.rdm :=
  by unfold State.irq; exact State.irqM_rdm _ _ _
@[simp] theorem State.irq_ikw (s : State) (pg i : Nat) : (s.irq pg i).ikw = s.ikw :=
  by unfold State.irq; exact State.irqM_ikw _ _ _
@[simp] theorem State.irq_pcr (s : State) (pg i : Nat) : (s.irq pg i).pcr = s.pcr :=
  by unfold State.irq; exact State.irqM_pcr _ _ _
@[simp] theorem State.irq_memc (s : State) (pg i : Nat) : (s.irq pg i).memc = s.memc :=
  by unfold State.irq; exact State.irqM_memc _ _ _
@[simp] theorem State.irq_fresh (s : State) (pg i : Nat) : (s.irq pg i).fresh = s.fresh :=
  by unfold State.irq; exact State.irqM_fresh _ _ _
@[simp] theorem State.irq_pending (s : State) (pg i : Nat) : (s.irq pg i).pending = s.pending :=
  by unfold State.irq; exact State.irqM_pending _ _ _
@[simp] theorem State.irq_fbs (s : State) (pg i : Nat) : (s.irq pg i).fbs = s.fbs :=
  by unfold State.irq; exact State.irqM_fbs _ _ _
@[simp] theorem State.irq_pos (s : State) (pg i : Nat) : (s.irq pg i).pos = s.pos :=
  by unfold State.irq; exact State.irqM_pos _ _ _
@[simp] theorem State.irq_pulses (s : State) (pg i : Nat) : (s.irq pg i).pulses = s.pulses :=
  by unfold State.irq; exact State.irqM_pulses _ _ _
@[simp] theorem State.irq_hoist (s : State) (pg i : Nat) : (s.irq pg i).hoist = s.hoist :=
  by unfold State.irq; exact State.irqM_hoist _ _ _
@[simp] theorem State.irq_dlks (s : State) (pg i : Nat) : (s.irq pg i).dlks = s.dlks :=
  by unfold State.irq; exact State.irqM_dlks _ _ _
@[simp] theorem State.irq_clg (s : State) (pg i : Nat) : (s.irq pg i).clg = s.clg :=
  by unfold State.irq; exact State.irqM_clg _ _ _
@[simp] theorem State.irq_doors (s : State) (pg i : Nat) : (s.irq pg i).doors = s.doors :=
  by unfold State.irq; exact State.irqM_doors _ _ _
@[simp] theorem State.irq_safe (s : State) (pg i : Nat) : (s.irq pg i).safe = s.safe :=
  by unfold State.irq; exact State.irqM_safe _ _ _
@[simp] theorem State.irq_ports (s : State) (pg i : Nat) : (s.irq pg i).ports = s.ports :=
  by unfold State.irq; exact State.irqM_ports _ _ _
@[simp] theorem State.irq_cve (s : State) (pg i : Nat) : (s.irq pg i).cve = s.cve :=
  by unfold State.irq; exact State.irqM_cve _ _ _
@[simp] theorem State.irq_bnis (s : State) (pg i : Nat) : (s.irq pg i).bnis = s.bnis :=
  by unfold State.irq; exact State.irqM_bnis _ _ _

/-! ### `State.drew` -/

@[simp] theorem State.drew_lh6161 (s : State) (n : Nat) : (s.drew n).lh6161 = s.lh6161 := rfl
@[simp] theorem State.drew_pmode (s : State) (n : Nat) : (s.drew n).pmode = s.pmode := rfl
@[simp] theorem State.drew_regs (s : State) (n : Nat) : (s.drew n).regs = s.regs := rfl
@[simp] theorem State.drew_mem (s : State) (n : Nat) : (s.drew n).mem = s.mem := rfl
@[simp] theorem State.drew_latches (s : State) (n : Nat) : (s.drew n).latches = s.latches := rfl
@[simp] theorem State.drew_pends (s : State) (n : Nat) : (s.drew n).pends = s.pends := rfl
@[simp] theorem State.drew_bus (s : State) (n : Nat) : (s.drew n).bus = s.bus := rfl
@[simp] theorem State.drew_tbs (s : State) (n : Nat) : (s.drew n).tbs = s.tbs := rfl
@[simp] theorem State.drew_nets (s : State) (n : Nat) : (s.drew n).nets = s.nets := rfl
@[simp] theorem State.drew_rdm (s : State) (n : Nat) : (s.drew n).rdm = s.rdm := rfl
@[simp] theorem State.drew_pair0 (s : State) (n : Nat) : (s.drew n).pair0 = s.pair0 := rfl
@[simp] theorem State.drew_pair1 (s : State) (n : Nat) : (s.drew n).pair1 = s.pair1 := rfl
@[simp] theorem State.drew_ikw (s : State) (n : Nat) : (s.drew n).ikw = s.ikw := rfl
@[simp] theorem State.drew_pcr (s : State) (n : Nat) : (s.drew n).pcr = s.pcr := rfl
@[simp] theorem State.drew_memc (s : State) (n : Nat) : (s.drew n).memc = s.memc := rfl
@[simp] theorem State.drew_pending (s : State) (n : Nat) : (s.drew n).pending = s.pending := rfl
@[simp] theorem State.drew_fbs (s : State) (n : Nat) : (s.drew n).fbs = s.fbs := rfl
@[simp] theorem State.drew_pos (s : State) (n : Nat) : (s.drew n).pos = s.pos := rfl
@[simp] theorem State.drew_pulses (s : State) (n : Nat) : (s.drew n).pulses = s.pulses := rfl
@[simp] theorem State.drew_hoist (s : State) (n : Nat) : (s.drew n).hoist = s.hoist := rfl
@[simp] theorem State.drew_dlks (s : State) (n : Nat) : (s.drew n).dlks = s.dlks := rfl
@[simp] theorem State.drew_clg (s : State) (n : Nat) : (s.drew n).clg = s.clg := rfl
@[simp] theorem State.drew_doors (s : State) (n : Nat) : (s.drew n).doors = s.doors := rfl
@[simp] theorem State.drew_safe (s : State) (n : Nat) : (s.drew n).safe = s.safe := rfl
@[simp] theorem State.drew_ports (s : State) (n : Nat) : (s.drew n).ports = s.ports := rfl
@[simp] theorem State.drew_cve (s : State) (n : Nat) : (s.drew n).cve = s.cve := rfl
@[simp] theorem State.drew_bnis (s : State) (n : Nat) : (s.drew n).bnis = s.bnis := rfl

/-! ### `State.setPair` -/

@[simp] theorem State.setPair_lh6161 (s : State) (p : Nat) (x : Pair) : (s.setPair p x).lh6161 = s.lh6161 :=
  by unfold State.setPair; split <;> rfl
@[simp] theorem State.setPair_pmode (s : State) (p : Nat) (x : Pair) : (s.setPair p x).pmode = s.pmode :=
  by unfold State.setPair; split <;> rfl
@[simp] theorem State.setPair_regs (s : State) (p : Nat) (x : Pair) : (s.setPair p x).regs = s.regs :=
  by unfold State.setPair; split <;> rfl
@[simp] theorem State.setPair_mem (s : State) (p : Nat) (x : Pair) : (s.setPair p x).mem = s.mem :=
  by unfold State.setPair; split <;> rfl
@[simp] theorem State.setPair_latches (s : State) (p : Nat) (x : Pair) : (s.setPair p x).latches = s.latches :=
  by unfold State.setPair; split <;> rfl
@[simp] theorem State.setPair_pends (s : State) (p : Nat) (x : Pair) : (s.setPair p x).pends = s.pends :=
  by unfold State.setPair; split <;> rfl
@[simp] theorem State.setPair_bus (s : State) (p : Nat) (x : Pair) : (s.setPair p x).bus = s.bus :=
  by unfold State.setPair; split <;> rfl
@[simp] theorem State.setPair_tbs (s : State) (p : Nat) (x : Pair) : (s.setPair p x).tbs = s.tbs :=
  by unfold State.setPair; split <;> rfl
@[simp] theorem State.setPair_nets (s : State) (p : Nat) (x : Pair) : (s.setPair p x).nets = s.nets :=
  by unfold State.setPair; split <;> rfl
@[simp] theorem State.setPair_rdm (s : State) (p : Nat) (x : Pair) : (s.setPair p x).rdm = s.rdm :=
  by unfold State.setPair; split <;> rfl
@[simp] theorem State.setPair_ikw (s : State) (p : Nat) (x : Pair) : (s.setPair p x).ikw = s.ikw :=
  by unfold State.setPair; split <;> rfl
@[simp] theorem State.setPair_pcr (s : State) (p : Nat) (x : Pair) : (s.setPair p x).pcr = s.pcr :=
  by unfold State.setPair; split <;> rfl
@[simp] theorem State.setPair_memc (s : State) (p : Nat) (x : Pair) : (s.setPair p x).memc = s.memc :=
  by unfold State.setPair; split <;> rfl
@[simp] theorem State.setPair_fresh (s : State) (p : Nat) (x : Pair) : (s.setPair p x).fresh = s.fresh :=
  by unfold State.setPair; split <;> rfl
@[simp] theorem State.setPair_pending (s : State) (p : Nat) (x : Pair) : (s.setPair p x).pending = s.pending :=
  by unfold State.setPair; split <;> rfl
@[simp] theorem State.setPair_fbs (s : State) (p : Nat) (x : Pair) : (s.setPair p x).fbs = s.fbs :=
  by unfold State.setPair; split <;> rfl
@[simp] theorem State.setPair_pos (s : State) (p : Nat) (x : Pair) : (s.setPair p x).pos = s.pos :=
  by unfold State.setPair; split <;> rfl
@[simp] theorem State.setPair_pulses (s : State) (p : Nat) (x : Pair) : (s.setPair p x).pulses = s.pulses :=
  by unfold State.setPair; split <;> rfl
@[simp] theorem State.setPair_hoist (s : State) (p : Nat) (x : Pair) : (s.setPair p x).hoist = s.hoist :=
  by unfold State.setPair; split <;> rfl
@[simp] theorem State.setPair_dlks (s : State) (p : Nat) (x : Pair) : (s.setPair p x).dlks = s.dlks :=
  by unfold State.setPair; split <;> rfl
@[simp] theorem State.setPair_clg (s : State) (p : Nat) (x : Pair) : (s.setPair p x).clg = s.clg :=
  by unfold State.setPair; split <;> rfl
@[simp] theorem State.setPair_doors (s : State) (p : Nat) (x : Pair) : (s.setPair p x).doors = s.doors :=
  by unfold State.setPair; split <;> rfl
@[simp] theorem State.setPair_safe (s : State) (p : Nat) (x : Pair) : (s.setPair p x).safe = s.safe :=
  by unfold State.setPair; split <;> rfl
@[simp] theorem State.setPair_ports (s : State) (p : Nat) (x : Pair) : (s.setPair p x).ports = s.ports :=
  by unfold State.setPair; split <;> rfl
@[simp] theorem State.setPair_cve (s : State) (p : Nat) (x : Pair) : (s.setPair p x).cve = s.cve :=
  by unfold State.setPair; split <;> rfl
@[simp] theorem State.setPair_bnis (s : State) (p : Nat) (x : Pair) : (s.setPair p x).bnis = s.bnis :=
  by unfold State.setPair; split <;> rfl

/-! ### `State.setNet` -/

@[simp] theorem State.setNet_lh6161 (s : State) (n : Nat) (x : TbsNet) : (s.setNet n x).lh6161 = s.lh6161 := rfl
@[simp] theorem State.setNet_pmode (s : State) (n : Nat) (x : TbsNet) : (s.setNet n x).pmode = s.pmode := rfl
@[simp] theorem State.setNet_regs (s : State) (n : Nat) (x : TbsNet) : (s.setNet n x).regs = s.regs := rfl
@[simp] theorem State.setNet_mem (s : State) (n : Nat) (x : TbsNet) : (s.setNet n x).mem = s.mem := rfl
@[simp] theorem State.setNet_latches (s : State) (n : Nat) (x : TbsNet) : (s.setNet n x).latches = s.latches := rfl
@[simp] theorem State.setNet_pends (s : State) (n : Nat) (x : TbsNet) : (s.setNet n x).pends = s.pends := rfl
@[simp] theorem State.setNet_bus (s : State) (n : Nat) (x : TbsNet) : (s.setNet n x).bus = s.bus := rfl
@[simp] theorem State.setNet_tbs (s : State) (n : Nat) (x : TbsNet) : (s.setNet n x).tbs = s.tbs := rfl
@[simp] theorem State.setNet_rdm (s : State) (n : Nat) (x : TbsNet) : (s.setNet n x).rdm = s.rdm := rfl
@[simp] theorem State.setNet_pair0 (s : State) (n : Nat) (x : TbsNet) : (s.setNet n x).pair0 = s.pair0 := rfl
@[simp] theorem State.setNet_pair1 (s : State) (n : Nat) (x : TbsNet) : (s.setNet n x).pair1 = s.pair1 := rfl
@[simp] theorem State.setNet_ikw (s : State) (n : Nat) (x : TbsNet) : (s.setNet n x).ikw = s.ikw := rfl
@[simp] theorem State.setNet_pcr (s : State) (n : Nat) (x : TbsNet) : (s.setNet n x).pcr = s.pcr := rfl
@[simp] theorem State.setNet_memc (s : State) (n : Nat) (x : TbsNet) : (s.setNet n x).memc = s.memc := rfl
@[simp] theorem State.setNet_fresh (s : State) (n : Nat) (x : TbsNet) : (s.setNet n x).fresh = s.fresh := rfl
@[simp] theorem State.setNet_pending (s : State) (n : Nat) (x : TbsNet) : (s.setNet n x).pending = s.pending := rfl
@[simp] theorem State.setNet_fbs (s : State) (n : Nat) (x : TbsNet) : (s.setNet n x).fbs = s.fbs := rfl
@[simp] theorem State.setNet_pos (s : State) (n : Nat) (x : TbsNet) : (s.setNet n x).pos = s.pos := rfl
@[simp] theorem State.setNet_pulses (s : State) (n : Nat) (x : TbsNet) : (s.setNet n x).pulses = s.pulses := rfl
@[simp] theorem State.setNet_hoist (s : State) (n : Nat) (x : TbsNet) : (s.setNet n x).hoist = s.hoist := rfl
@[simp] theorem State.setNet_dlks (s : State) (n : Nat) (x : TbsNet) : (s.setNet n x).dlks = s.dlks := rfl
@[simp] theorem State.setNet_clg (s : State) (n : Nat) (x : TbsNet) : (s.setNet n x).clg = s.clg := rfl
@[simp] theorem State.setNet_doors (s : State) (n : Nat) (x : TbsNet) : (s.setNet n x).doors = s.doors := rfl
@[simp] theorem State.setNet_safe (s : State) (n : Nat) (x : TbsNet) : (s.setNet n x).safe = s.safe := rfl
@[simp] theorem State.setNet_ports (s : State) (n : Nat) (x : TbsNet) : (s.setNet n x).ports = s.ports := rfl
@[simp] theorem State.setNet_cve (s : State) (n : Nat) (x : TbsNet) : (s.setNet n x).cve = s.cve := rfl
@[simp] theorem State.setNet_bnis (s : State) (n : Nat) (x : TbsNet) : (s.setNet n x).bnis = s.bnis := rfl

/-! ### `State.setByte` -/

@[simp] theorem State.setByte_lh6161 (s : State) (a v : Nat) : (s.setByte a v).lh6161 = s.lh6161 := rfl
@[simp] theorem State.setByte_pmode (s : State) (a v : Nat) : (s.setByte a v).pmode = s.pmode := rfl
@[simp] theorem State.setByte_regs (s : State) (a v : Nat) : (s.setByte a v).regs = s.regs := rfl
@[simp] theorem State.setByte_latches (s : State) (a v : Nat) : (s.setByte a v).latches = s.latches := rfl
@[simp] theorem State.setByte_pends (s : State) (a v : Nat) : (s.setByte a v).pends = s.pends := rfl
@[simp] theorem State.setByte_bus (s : State) (a v : Nat) : (s.setByte a v).bus = s.bus := rfl
@[simp] theorem State.setByte_tbs (s : State) (a v : Nat) : (s.setByte a v).tbs = s.tbs := rfl
@[simp] theorem State.setByte_nets (s : State) (a v : Nat) : (s.setByte a v).nets = s.nets := rfl
@[simp] theorem State.setByte_rdm (s : State) (a v : Nat) : (s.setByte a v).rdm = s.rdm := rfl
@[simp] theorem State.setByte_pair0 (s : State) (a v : Nat) : (s.setByte a v).pair0 = s.pair0 := rfl
@[simp] theorem State.setByte_pair1 (s : State) (a v : Nat) : (s.setByte a v).pair1 = s.pair1 := rfl
@[simp] theorem State.setByte_ikw (s : State) (a v : Nat) : (s.setByte a v).ikw = s.ikw := rfl
@[simp] theorem State.setByte_pcr (s : State) (a v : Nat) : (s.setByte a v).pcr = s.pcr := rfl
@[simp] theorem State.setByte_memc (s : State) (a v : Nat) : (s.setByte a v).memc = s.memc := rfl
@[simp] theorem State.setByte_fresh (s : State) (a v : Nat) : (s.setByte a v).fresh = s.fresh := rfl
@[simp] theorem State.setByte_pending (s : State) (a v : Nat) : (s.setByte a v).pending = s.pending := rfl
@[simp] theorem State.setByte_fbs (s : State) (a v : Nat) : (s.setByte a v).fbs = s.fbs := rfl
@[simp] theorem State.setByte_pos (s : State) (a v : Nat) : (s.setByte a v).pos = s.pos := rfl
@[simp] theorem State.setByte_pulses (s : State) (a v : Nat) : (s.setByte a v).pulses = s.pulses := rfl
@[simp] theorem State.setByte_hoist (s : State) (a v : Nat) : (s.setByte a v).hoist = s.hoist := rfl
@[simp] theorem State.setByte_dlks (s : State) (a v : Nat) : (s.setByte a v).dlks = s.dlks := rfl
@[simp] theorem State.setByte_clg (s : State) (a v : Nat) : (s.setByte a v).clg = s.clg := rfl
@[simp] theorem State.setByte_doors (s : State) (a v : Nat) : (s.setByte a v).doors = s.doors := rfl
@[simp] theorem State.setByte_safe (s : State) (a v : Nat) : (s.setByte a v).safe = s.safe := rfl
@[simp] theorem State.setByte_ports (s : State) (a v : Nat) : (s.setByte a v).ports = s.ports := rfl
@[simp] theorem State.setByte_cve (s : State) (a v : Nat) : (s.setByte a v).cve = s.cve := rfl
@[simp] theorem State.setByte_bnis (s : State) (a v : Nat) : (s.setByte a v).bnis = s.bnis := rfl

/-! ### `State.setStream` -/

@[simp] theorem State.setStream_lh6161 (s : State) (t : Nat) (x : NibStream) : (s.setStream t x).lh6161 = s.lh6161 := rfl
@[simp] theorem State.setStream_pmode (s : State) (t : Nat) (x : NibStream) : (s.setStream t x).pmode = s.pmode := rfl
@[simp] theorem State.setStream_regs (s : State) (t : Nat) (x : NibStream) : (s.setStream t x).regs = s.regs := rfl
@[simp] theorem State.setStream_mem (s : State) (t : Nat) (x : NibStream) : (s.setStream t x).mem = s.mem := rfl
@[simp] theorem State.setStream_latches (s : State) (t : Nat) (x : NibStream) : (s.setStream t x).latches = s.latches := rfl
@[simp] theorem State.setStream_pends (s : State) (t : Nat) (x : NibStream) : (s.setStream t x).pends = s.pends := rfl
@[simp] theorem State.setStream_bus (s : State) (t : Nat) (x : NibStream) : (s.setStream t x).bus = s.bus := rfl
@[simp] theorem State.setStream_tbs (s : State) (t : Nat) (x : NibStream) : (s.setStream t x).tbs = s.tbs := rfl
@[simp] theorem State.setStream_nets (s : State) (t : Nat) (x : NibStream) : (s.setStream t x).nets = s.nets := rfl
@[simp] theorem State.setStream_pair0 (s : State) (t : Nat) (x : NibStream) : (s.setStream t x).pair0 = s.pair0 := rfl
@[simp] theorem State.setStream_pair1 (s : State) (t : Nat) (x : NibStream) : (s.setStream t x).pair1 = s.pair1 := rfl
@[simp] theorem State.setStream_ikw (s : State) (t : Nat) (x : NibStream) : (s.setStream t x).ikw = s.ikw := rfl
@[simp] theorem State.setStream_pcr (s : State) (t : Nat) (x : NibStream) : (s.setStream t x).pcr = s.pcr := rfl
@[simp] theorem State.setStream_memc (s : State) (t : Nat) (x : NibStream) : (s.setStream t x).memc = s.memc := rfl
@[simp] theorem State.setStream_fresh (s : State) (t : Nat) (x : NibStream) : (s.setStream t x).fresh = s.fresh := rfl
@[simp] theorem State.setStream_pending (s : State) (t : Nat) (x : NibStream) : (s.setStream t x).pending = s.pending := rfl
@[simp] theorem State.setStream_fbs (s : State) (t : Nat) (x : NibStream) : (s.setStream t x).fbs = s.fbs := rfl
@[simp] theorem State.setStream_pos (s : State) (t : Nat) (x : NibStream) : (s.setStream t x).pos = s.pos := rfl
@[simp] theorem State.setStream_pulses (s : State) (t : Nat) (x : NibStream) : (s.setStream t x).pulses = s.pulses := rfl
@[simp] theorem State.setStream_hoist (s : State) (t : Nat) (x : NibStream) : (s.setStream t x).hoist = s.hoist := rfl
@[simp] theorem State.setStream_dlks (s : State) (t : Nat) (x : NibStream) : (s.setStream t x).dlks = s.dlks := rfl
@[simp] theorem State.setStream_clg (s : State) (t : Nat) (x : NibStream) : (s.setStream t x).clg = s.clg := rfl
@[simp] theorem State.setStream_doors (s : State) (t : Nat) (x : NibStream) : (s.setStream t x).doors = s.doors := rfl
@[simp] theorem State.setStream_safe (s : State) (t : Nat) (x : NibStream) : (s.setStream t x).safe = s.safe := rfl
@[simp] theorem State.setStream_ports (s : State) (t : Nat) (x : NibStream) : (s.setStream t x).ports = s.ports := rfl
@[simp] theorem State.setStream_cve (s : State) (t : Nat) (x : NibStream) : (s.setStream t x).cve = s.cve := rfl
@[simp] theorem State.setStream_bnis (s : State) (t : Nat) (x : NibStream) : (s.setStream t x).bnis = s.bnis := rfl

/-! ### `State.breakHalf` -/

/-- Closing a half-open lock writes one word or none (R73). -/
theorem State.breakHalf_cases (s : State) (a : Nat) :
    ∃ b w, s.breakHalf a = s ∨ s.breakHalf a = s.wr b w := by
  unfold State.breakHalf
  cases locate a with
  | none => exact ⟨0, 0#32, .inl rfl⟩
  | some l =>
    dsimp only
    generalize (l.kind.isPage && decide (l.rel ≠ 0x020) && s.b l.base R.Hdr.LOCK_HALF) = c
    cases c
    · exact ⟨0, 0#32, .inl rfl⟩
    · exact ⟨_, _, .inr rfl⟩

@[simp] theorem State.breakHalf_lh6161 (s : State) (a : Nat) : (s.breakHalf a).lh6161 = s.lh6161 :=
  by
  obtain ⟨b, w, h | h⟩ := s.breakHalf_cases a <;> rw [h]; exact State.wr_lh6161 _ _ _
@[simp] theorem State.breakHalf_pmode (s : State) (a : Nat) : (s.breakHalf a).pmode = s.pmode :=
  by
  obtain ⟨b, w, h | h⟩ := s.breakHalf_cases a <;> rw [h]; exact State.wr_pmode _ _ _
@[simp] theorem State.breakHalf_mem (s : State) (a : Nat) : (s.breakHalf a).mem = s.mem :=
  by
  obtain ⟨b, w, h | h⟩ := s.breakHalf_cases a <;> rw [h]; exact State.wr_mem _ _ _
@[simp] theorem State.breakHalf_latches (s : State) (a : Nat) : (s.breakHalf a).latches = s.latches :=
  by
  obtain ⟨b, w, h | h⟩ := s.breakHalf_cases a <;> rw [h]; exact State.wr_latches _ _ _
@[simp] theorem State.breakHalf_pends (s : State) (a : Nat) : (s.breakHalf a).pends = s.pends :=
  by
  obtain ⟨b, w, h | h⟩ := s.breakHalf_cases a <;> rw [h]; exact State.wr_pends _ _ _
@[simp] theorem State.breakHalf_bus (s : State) (a : Nat) : (s.breakHalf a).bus = s.bus :=
  by
  obtain ⟨b, w, h | h⟩ := s.breakHalf_cases a <;> rw [h]; exact State.wr_bus _ _ _
@[simp] theorem State.breakHalf_tbs (s : State) (a : Nat) : (s.breakHalf a).tbs = s.tbs :=
  by
  obtain ⟨b, w, h | h⟩ := s.breakHalf_cases a <;> rw [h]; exact State.wr_tbs _ _ _
@[simp] theorem State.breakHalf_nets (s : State) (a : Nat) : (s.breakHalf a).nets = s.nets :=
  by
  obtain ⟨b, w, h | h⟩ := s.breakHalf_cases a <;> rw [h]; exact State.wr_nets _ _ _
@[simp] theorem State.breakHalf_rdm (s : State) (a : Nat) : (s.breakHalf a).rdm = s.rdm :=
  by
  obtain ⟨b, w, h | h⟩ := s.breakHalf_cases a <;> rw [h]; exact State.wr_rdm _ _ _
@[simp] theorem State.breakHalf_pair0 (s : State) (a : Nat) : (s.breakHalf a).pair0 = s.pair0 :=
  by
  obtain ⟨b, w, h | h⟩ := s.breakHalf_cases a <;> rw [h]; exact State.wr_pair0 _ _ _
@[simp] theorem State.breakHalf_pair1 (s : State) (a : Nat) : (s.breakHalf a).pair1 = s.pair1 :=
  by
  obtain ⟨b, w, h | h⟩ := s.breakHalf_cases a <;> rw [h]; exact State.wr_pair1 _ _ _
@[simp] theorem State.breakHalf_ikw (s : State) (a : Nat) : (s.breakHalf a).ikw = s.ikw :=
  by
  obtain ⟨b, w, h | h⟩ := s.breakHalf_cases a <;> rw [h]; exact State.wr_ikw _ _ _
@[simp] theorem State.breakHalf_pcr (s : State) (a : Nat) : (s.breakHalf a).pcr = s.pcr :=
  by
  obtain ⟨b, w, h | h⟩ := s.breakHalf_cases a <;> rw [h]; exact State.wr_pcr _ _ _
@[simp] theorem State.breakHalf_memc (s : State) (a : Nat) : (s.breakHalf a).memc = s.memc :=
  by
  obtain ⟨b, w, h | h⟩ := s.breakHalf_cases a <;> rw [h]; exact State.wr_memc _ _ _
@[simp] theorem State.breakHalf_fresh (s : State) (a : Nat) : (s.breakHalf a).fresh = s.fresh :=
  by
  obtain ⟨b, w, h | h⟩ := s.breakHalf_cases a <;> rw [h]; exact State.wr_fresh _ _ _
@[simp] theorem State.breakHalf_pending (s : State) (a : Nat) : (s.breakHalf a).pending = s.pending :=
  by
  obtain ⟨b, w, h | h⟩ := s.breakHalf_cases a <;> rw [h]; exact State.wr_pending _ _ _
@[simp] theorem State.breakHalf_fbs (s : State) (a : Nat) : (s.breakHalf a).fbs = s.fbs :=
  by
  obtain ⟨b, w, h | h⟩ := s.breakHalf_cases a <;> rw [h]; exact State.wr_fbs _ _ _
@[simp] theorem State.breakHalf_pos (s : State) (a : Nat) : (s.breakHalf a).pos = s.pos :=
  by
  obtain ⟨b, w, h | h⟩ := s.breakHalf_cases a <;> rw [h]; exact State.wr_pos _ _ _
@[simp] theorem State.breakHalf_pulses (s : State) (a : Nat) : (s.breakHalf a).pulses = s.pulses :=
  by
  obtain ⟨b, w, h | h⟩ := s.breakHalf_cases a <;> rw [h]; exact State.wr_pulses _ _ _
@[simp] theorem State.breakHalf_hoist (s : State) (a : Nat) : (s.breakHalf a).hoist = s.hoist :=
  by
  obtain ⟨b, w, h | h⟩ := s.breakHalf_cases a <;> rw [h]; exact State.wr_hoist _ _ _
@[simp] theorem State.breakHalf_dlks (s : State) (a : Nat) : (s.breakHalf a).dlks = s.dlks :=
  by
  obtain ⟨b, w, h | h⟩ := s.breakHalf_cases a <;> rw [h]; exact State.wr_dlks _ _ _
@[simp] theorem State.breakHalf_clg (s : State) (a : Nat) : (s.breakHalf a).clg = s.clg :=
  by
  obtain ⟨b, w, h | h⟩ := s.breakHalf_cases a <;> rw [h]; exact State.wr_clg _ _ _
@[simp] theorem State.breakHalf_doors (s : State) (a : Nat) : (s.breakHalf a).doors = s.doors :=
  by
  obtain ⟨b, w, h | h⟩ := s.breakHalf_cases a <;> rw [h]; exact State.wr_doors _ _ _
@[simp] theorem State.breakHalf_safe (s : State) (a : Nat) : (s.breakHalf a).safe = s.safe :=
  by
  obtain ⟨b, w, h | h⟩ := s.breakHalf_cases a <;> rw [h]; exact State.wr_safe _ _ _
@[simp] theorem State.breakHalf_ports (s : State) (a : Nat) : (s.breakHalf a).ports = s.ports :=
  by
  obtain ⟨b, w, h | h⟩ := s.breakHalf_cases a <;> rw [h]; exact State.wr_ports _ _ _
@[simp] theorem State.breakHalf_cve (s : State) (a : Nat) : (s.breakHalf a).cve = s.cve :=
  by
  obtain ⟨b, w, h | h⟩ := s.breakHalf_cases a <;> rw [h]; exact State.wr_cve _ _ _
@[simp] theorem State.breakHalf_bnis (s : State) (a : Nat) : (s.breakHalf a).bnis = s.bnis :=
  by
  obtain ⟨b, w, h | h⟩ := s.breakHalf_cases a <;> rw [h]; exact State.wr_bnis _ _ _

/-! ### `State.lockWrite` -/

/-- A write of `LOCK.KEY` writes the lock word (R73). -/
theorem State.lockWrite_cases (s : State) (pg : Nat) (v : Word) :
    ∃ w, s.lockWrite pg v = s.wr (pg + 0x020) w := by
  unfold State.lockWrite
  dsimp only
  generalize fget R.Hdr.LOCK_KEY v = k
  generalize s.b pg R.Hdr.LOCK_HALF = h
  by_cases h1 : k = 0x1ACC
  · rw [if_pos h1]; exact ⟨_, rfl⟩
  · rw [if_neg h1]
    by_cases h2 : (h && decide (k = 0xB10C)) = true
    · rw [if_pos h2]; exact ⟨_, rfl⟩
    · rw [if_neg h2]; exact ⟨_, rfl⟩

@[simp] theorem State.lockWrite_lh6161 (s : State) (pg : Nat) (v : Word) : (s.lockWrite pg v).lh6161 = s.lh6161 :=
  by
  obtain ⟨w, h⟩ := s.lockWrite_cases pg v; rw [h]; exact State.wr_lh6161 _ _ _
@[simp] theorem State.lockWrite_pmode (s : State) (pg : Nat) (v : Word) : (s.lockWrite pg v).pmode = s.pmode :=
  by
  obtain ⟨w, h⟩ := s.lockWrite_cases pg v; rw [h]; exact State.wr_pmode _ _ _
@[simp] theorem State.lockWrite_mem (s : State) (pg : Nat) (v : Word) : (s.lockWrite pg v).mem = s.mem :=
  by
  obtain ⟨w, h⟩ := s.lockWrite_cases pg v; rw [h]; exact State.wr_mem _ _ _
@[simp] theorem State.lockWrite_latches (s : State) (pg : Nat) (v : Word) : (s.lockWrite pg v).latches = s.latches :=
  by
  obtain ⟨w, h⟩ := s.lockWrite_cases pg v; rw [h]; exact State.wr_latches _ _ _
@[simp] theorem State.lockWrite_pends (s : State) (pg : Nat) (v : Word) : (s.lockWrite pg v).pends = s.pends :=
  by
  obtain ⟨w, h⟩ := s.lockWrite_cases pg v; rw [h]; exact State.wr_pends _ _ _
@[simp] theorem State.lockWrite_bus (s : State) (pg : Nat) (v : Word) : (s.lockWrite pg v).bus = s.bus :=
  by
  obtain ⟨w, h⟩ := s.lockWrite_cases pg v; rw [h]; exact State.wr_bus _ _ _
@[simp] theorem State.lockWrite_tbs (s : State) (pg : Nat) (v : Word) : (s.lockWrite pg v).tbs = s.tbs :=
  by
  obtain ⟨w, h⟩ := s.lockWrite_cases pg v; rw [h]; exact State.wr_tbs _ _ _
@[simp] theorem State.lockWrite_nets (s : State) (pg : Nat) (v : Word) : (s.lockWrite pg v).nets = s.nets :=
  by
  obtain ⟨w, h⟩ := s.lockWrite_cases pg v; rw [h]; exact State.wr_nets _ _ _
@[simp] theorem State.lockWrite_rdm (s : State) (pg : Nat) (v : Word) : (s.lockWrite pg v).rdm = s.rdm :=
  by
  obtain ⟨w, h⟩ := s.lockWrite_cases pg v; rw [h]; exact State.wr_rdm _ _ _
@[simp] theorem State.lockWrite_pair0 (s : State) (pg : Nat) (v : Word) : (s.lockWrite pg v).pair0 = s.pair0 :=
  by
  obtain ⟨w, h⟩ := s.lockWrite_cases pg v; rw [h]; exact State.wr_pair0 _ _ _
@[simp] theorem State.lockWrite_pair1 (s : State) (pg : Nat) (v : Word) : (s.lockWrite pg v).pair1 = s.pair1 :=
  by
  obtain ⟨w, h⟩ := s.lockWrite_cases pg v; rw [h]; exact State.wr_pair1 _ _ _
@[simp] theorem State.lockWrite_ikw (s : State) (pg : Nat) (v : Word) : (s.lockWrite pg v).ikw = s.ikw :=
  by
  obtain ⟨w, h⟩ := s.lockWrite_cases pg v; rw [h]; exact State.wr_ikw _ _ _
@[simp] theorem State.lockWrite_pcr (s : State) (pg : Nat) (v : Word) : (s.lockWrite pg v).pcr = s.pcr :=
  by
  obtain ⟨w, h⟩ := s.lockWrite_cases pg v; rw [h]; exact State.wr_pcr _ _ _
@[simp] theorem State.lockWrite_memc (s : State) (pg : Nat) (v : Word) : (s.lockWrite pg v).memc = s.memc :=
  by
  obtain ⟨w, h⟩ := s.lockWrite_cases pg v; rw [h]; exact State.wr_memc _ _ _
@[simp] theorem State.lockWrite_fresh (s : State) (pg : Nat) (v : Word) : (s.lockWrite pg v).fresh = s.fresh :=
  by
  obtain ⟨w, h⟩ := s.lockWrite_cases pg v; rw [h]; exact State.wr_fresh _ _ _
@[simp] theorem State.lockWrite_pending (s : State) (pg : Nat) (v : Word) : (s.lockWrite pg v).pending = s.pending :=
  by
  obtain ⟨w, h⟩ := s.lockWrite_cases pg v; rw [h]; exact State.wr_pending _ _ _
@[simp] theorem State.lockWrite_fbs (s : State) (pg : Nat) (v : Word) : (s.lockWrite pg v).fbs = s.fbs :=
  by
  obtain ⟨w, h⟩ := s.lockWrite_cases pg v; rw [h]; exact State.wr_fbs _ _ _
@[simp] theorem State.lockWrite_pos (s : State) (pg : Nat) (v : Word) : (s.lockWrite pg v).pos = s.pos :=
  by
  obtain ⟨w, h⟩ := s.lockWrite_cases pg v; rw [h]; exact State.wr_pos _ _ _
@[simp] theorem State.lockWrite_pulses (s : State) (pg : Nat) (v : Word) : (s.lockWrite pg v).pulses = s.pulses :=
  by
  obtain ⟨w, h⟩ := s.lockWrite_cases pg v; rw [h]; exact State.wr_pulses _ _ _
@[simp] theorem State.lockWrite_hoist (s : State) (pg : Nat) (v : Word) : (s.lockWrite pg v).hoist = s.hoist :=
  by
  obtain ⟨w, h⟩ := s.lockWrite_cases pg v; rw [h]; exact State.wr_hoist _ _ _
@[simp] theorem State.lockWrite_dlks (s : State) (pg : Nat) (v : Word) : (s.lockWrite pg v).dlks = s.dlks :=
  by
  obtain ⟨w, h⟩ := s.lockWrite_cases pg v; rw [h]; exact State.wr_dlks _ _ _
@[simp] theorem State.lockWrite_clg (s : State) (pg : Nat) (v : Word) : (s.lockWrite pg v).clg = s.clg :=
  by
  obtain ⟨w, h⟩ := s.lockWrite_cases pg v; rw [h]; exact State.wr_clg _ _ _
@[simp] theorem State.lockWrite_doors (s : State) (pg : Nat) (v : Word) : (s.lockWrite pg v).doors = s.doors :=
  by
  obtain ⟨w, h⟩ := s.lockWrite_cases pg v; rw [h]; exact State.wr_doors _ _ _
@[simp] theorem State.lockWrite_safe (s : State) (pg : Nat) (v : Word) : (s.lockWrite pg v).safe = s.safe :=
  by
  obtain ⟨w, h⟩ := s.lockWrite_cases pg v; rw [h]; exact State.wr_safe _ _ _
@[simp] theorem State.lockWrite_ports (s : State) (pg : Nat) (v : Word) : (s.lockWrite pg v).ports = s.ports :=
  by
  obtain ⟨w, h⟩ := s.lockWrite_cases pg v; rw [h]; exact State.wr_ports _ _ _
@[simp] theorem State.lockWrite_cve (s : State) (pg : Nat) (v : Word) : (s.lockWrite pg v).cve = s.cve :=
  by
  obtain ⟨w, h⟩ := s.lockWrite_cases pg v; rw [h]; exact State.wr_cve _ _ _
@[simp] theorem State.lockWrite_bnis (s : State) (pg : Nat) (v : Word) : (s.lockWrite pg v).bnis = s.bnis :=
  by
  obtain ⟨w, h⟩ := s.lockWrite_cases pg v; rw [h]; exact State.wr_bnis _ _ _

end Sys2Proof.Machine
end

