-- ==== Sys2Proof/Laws/Table.lean ====
section
/-! SUPPORT. The laws of sparse tables: read after write, and the canonical form is kept by every write. -/

namespace Sys2Proof.Tab

theorem get_erase {α : Type} (d : Nat → α) (m : List (Nat × α)) (k k' : Nat) :
    get d (erase m k) k' = if k' = k then d k' else get d m k' := by
  induction m with
  | nil => simp [erase, get]
  | cons e m ih =>
    obtain ⟨j, v⟩ := e
    by_cases h : k = j
    · subst h
      simp only [erase, if_true, get]
      rw [ih]
      by_cases h2 : k' = k <;> simp [h2]
    · simp only [erase, if_neg h, get, ih]
      by_cases h2 : k' = k
      · subst h2; simp [h]
      · simp [h2]

theorem get_ins_ne {α : Type} (d : Nat → α) (m : List (Nat × α)) (k k' : Nat) (v : α) (h : k' ≠ k) :
    get d (ins k v m) k' = get d m k' := by
  induction m with
  | nil => simp [ins, get, h]
  | cons e m ih =>
    obtain ⟨j, w⟩ := e
    by_cases hk : k < j
    · simp [ins, hk, get, h]
    · simp [ins, hk, get, ih]

theorem get_ins_erase_self {α : Type} (d : Nat → α) (m : List (Nat × α)) (k : Nat) (v : α) :
    get d (ins k v (erase m k)) k = v := by
  induction m with
  | nil => simp [erase, ins, get]
  | cons e m ih =>
    obtain ⟨j, w⟩ := e
    by_cases h : k = j
    · simp [erase, h]; rw [← h]; exact ih
    · by_cases hk : k < j
      · simp [erase, h, ins, hk, get]
      · simp [erase, h, ins, hk, get, ih]

/-- Read after write: the written key reads the new value, every other key as before. -/
@[simp] theorem get_set {α : Type} [DecidableEq α] (d : Nat → α) (m : List (Nat × α)) (k k' : Nat) (v : α) :
    get d (set d m k v) k' = if k' = k then v else get d m k' := by
  unfold set
  by_cases hv : v = d k
  · simp only [hv, if_true, get_erase]
    by_cases h : k' = k <;> simp [h]
  · simp only [hv, if_false]
    by_cases h : k' = k
    · subst h; simp [get_ins_erase_self]
    · simp [h, get_ins_ne, get_erase]

/-- Keys strictly rising, all at least `b`, no default listed. -/
def WfFrom {α : Type} (d : Nat → α) : Nat → List (Nat × α) → Prop
  | _, [] => True
  | b, (k, v) :: m => b ≤ k ∧ v ≠ d k ∧ WfFrom d (k + 1) m

theorem WfFrom.mono {α : Type} (d : Nat → α) {m : List (Nat × α)} {a b : Nat} (h : a ≤ b) (w : WfFrom d b m) :
    WfFrom d a m := by
  cases m with
  | nil => trivial
  | cons e m => exact ⟨Nat.le_trans h w.1, w.2⟩

theorem wf_iff {α : Type} [DecidableEq α] (d : Nat → α) (m : List (Nat × α)) :
    wf d m = true ↔ WfFrom d 0 m := by
  suffices H : ∀ (m : List (Nat × α)) (k : Nat) (v : α),
      wf d ((k, v) :: m) = true ↔ (v ≠ d k ∧ WfFrom d (k + 1) m) by
    cases m with
    | nil => simp [wf, WfFrom]
    | cons e m =>
      obtain ⟨k, v⟩ := e
      simp only [WfFrom, Nat.zero_le, true_and]
      exact H m k v
  intro m
  induction m with
  | nil => intro k v; simp [wf, WfFrom]
  | cons e m ih =>
    intro k v
    obtain ⟨j, w⟩ := e
    have hrec := ih j w
    simp only [wf, Bool.and_eq_true, decide_eq_true_eq, WfFrom] at *
    constructor
    · rintro ⟨⟨h1, h2⟩, h3⟩; exact ⟨h1, h2, hrec.1 h3⟩
    · rintro ⟨h1, h2, h3⟩; exact ⟨⟨h1, h2⟩, hrec.2 h3⟩

theorem WfFrom.erase {α : Type} (d : Nat → α) (k : Nat) {m : List (Nat × α)} :
    ∀ {b : Nat}, WfFrom d b m → WfFrom d b (erase m k) := by
  induction m with
  | nil => intro b h; exact h
  | cons e m ih =>
    intro b h
    obtain ⟨j, w⟩ := e
    obtain ⟨h1, h2, h3⟩ := h
    by_cases hk : k = j
    · simp only [Tab.erase, if_pos hk]
      exact WfFrom.mono d (by omega) (ih h3)
    · simp only [Tab.erase, if_neg hk]
      exact ⟨h1, h2, ih h3⟩

theorem WfFrom.ins_erase {α : Type} (d : Nat → α) (k : Nat) (v : α) (hv : v ≠ d k) {m : List (Nat × α)} :
    ∀ {b : Nat}, b ≤ k → WfFrom d b m → WfFrom d b (ins k v (Tab.erase m k)) := by
  induction m with
  | nil => intro b hb _; exact ⟨hb, hv, trivial⟩
  | cons e m ih =>
    intro b hb h
    obtain ⟨j, w⟩ := e
    obtain ⟨h1, h2, h3⟩ := h
    by_cases hk : k = j
    · simp only [Tab.erase, if_pos hk]
      exact ih hb (WfFrom.mono d (by omega) h3)
    · simp only [Tab.erase, if_neg hk]
      by_cases hlt : k < j
      · simp only [ins, if_pos hlt]
        exact ⟨hb, hv, by omega, h2, WfFrom.erase d k h3⟩
      · simp only [ins, if_neg hlt]
        exact ⟨h1, h2, ih (by omega) h3⟩

theorem WfFrom.filter {α : Type} (d : Nat → α) (p : Nat × α → Bool) {m : List (Nat × α)} :
    ∀ {b : Nat}, WfFrom d b m → WfFrom d b (m.filter p) := by
  induction m with
  | nil => intro b h; exact h
  | cons e m ih =>
    intro b h
    obtain ⟨j, w⟩ := e
    obtain ⟨h1, h2, h3⟩ := h
    by_cases hp : p (j, w) = true
    · rw [List.filter_cons_of_pos hp]
      exact ⟨h1, h2, ih h3⟩
    · rw [List.filter_cons_of_neg hp]
      exact WfFrom.mono d (by omega) (ih h3)

/-- Dropping entries keeps the canonical form. -/
theorem wf_filter {α : Type} [DecidableEq α] (d : Nat → α) (p : Nat × α → Bool) (m : List (Nat × α))
    (h : wf d m = true) : wf d (m.filter p) = true := by
  rw [wf_iff] at *
  exact WfFrom.filter d p h

/-- Every write keeps the canonical form. -/
theorem wf_set {α : Type} [DecidableEq α] (d : Nat → α) (m : List (Nat × α)) (k : Nat) (v : α)
    (h : wf d m = true) : wf d (set d m k v) = true := by
  rw [wf_iff] at *
  unfold set
  by_cases hv : v = d k
  · simp only [if_pos hv]; exact WfFrom.erase d k h
  · simp only [if_neg hv]; exact WfFrom.ins_erase d k v hv (Nat.zero_le k) h

end Sys2Proof.Tab
end

