-- ==== Sys2Proof/Laws/Ops.lean ====
section
/-! SUPPORT. What each shared operation does to the register file: read after write, fields, stamps, interrupts,
counters, the half-open lock and the permitted write. -/

namespace Sys2Proof.Machine

/-! ### Words -/

/-- Read after write of a register word. -/
@[simp] theorem State.rd_wr (s : State) (a b : Nat) (v : Word) : (s.wr a v).rd b = if b = a then v else s.rd b := by
  unfold State.rd State.wr
  exact Tab.get_set _ _ _ _ _

/-- Registers are a function of the register file alone. -/
theorem State.rd_congr {s t : State} (h : t.regs = s.regs) (a : Nat) : t.rd a = s.rd a := by
  unfold State.rd; rw [h]

/-- Read after write of a byte of memory. -/
@[simp] theorem State.byte_setByte (s : State) (a b v : Nat) :
    (s.setByte a v).byte b = if b = a then v % 256 else s.byte b := by
  unfold State.byte State.setByte
  dsimp only
  rw [Tab.get_set]
  split <;> simp

theorem State.byte_congr {s t : State} (h : t.mem = s.mem) (a : Nat) : t.byte a = s.byte a := by
  unfold State.byte; rw [h]

/-! ### Fields -/

/-- A field reads what was put into it. -/
theorem fget_fput (f : Fld) (w : Word) (v : Nat) (h : f.lo + f.w ≤ 32) : fget f (fput f w v) = v % 2 ^ f.w := by
  unfold fget fput
  rw [BitVec.toNat_ofNat]
  have hw : w.toNat < 2 ^ 32 := w.isLt
  generalize w.toNat = x at hw
  obtain ⟨o, l, n⟩ := f
  dsimp only at h ⊢
  have hp : (2:Nat) ^ (l + n) = 2 ^ l * 2 ^ n := Nat.pow_add ..
  have h32 : (2:Nat) ^ 32 = 2 ^ (l + n) * 2 ^ (32 - (l + n)) := by rw [← Nat.pow_add]; congr 1; omega
  have hl : 0 < 2 ^ l := Nat.two_pow_pos l
  have hn : 0 < 2 ^ n := Nat.two_pow_pos n
  have hm1 : x % 2 ^ l < 2 ^ l := Nat.mod_lt _ hl
  have hm2 : v % 2 ^ n < 2 ^ n := Nat.mod_lt _ hn
  have hm3 : x / 2 ^ (l + n) < 2 ^ (32 - (l + n)) := by
    rw [Nat.div_lt_iff_lt_mul (by positivity), Nat.mul_comm, ← h32]; exact hw
  have hlt : x / 2 ^ (l + n) * 2 ^ (l + n) + v % 2 ^ n * 2 ^ l + x % 2 ^ l < 2 ^ 32 := by
    rw [h32, hp]
    generalize 2 ^ (32 - (l + n)) = c at *
    rw [hp] at *
    generalize x / (2 ^ l * 2 ^ n) = q at *
    generalize v % 2 ^ n = r at *
    generalize x % 2 ^ l = t at *
    generalize 2 ^ l = A at *
    generalize 2 ^ n = B at *
    have e1 : (q + 1) * (A * B) ≤ c * (A * B) := Nat.mul_le_mul_right _ hm3
    have e2 : (r + 1) * A ≤ B * A := Nat.mul_le_mul_right _ hm2
    nlinarith
  rw [Nat.mod_eq_of_lt hlt, hp]
  have e : x / (2 ^ l * 2 ^ n) * (2 ^ l * 2 ^ n) + v % 2 ^ n * 2 ^ l + x % 2 ^ l =
      x % 2 ^ l + 2 ^ l * (v % 2 ^ n + 2 ^ n * (x / (2 ^ l * 2 ^ n))) := by ring
  rw [e, Nat.add_mul_div_left _ _ hl, Nat.div_eq_of_lt hm1, Nat.zero_add, Nat.add_mul_mod_self_left, Nat.mod_mod]

/-- A field of the same word that lies below or above reads as before. -/
theorem fget_fput_ne (f g : Fld) (w : Word) (v : Nat) (hf : f.lo + f.w ≤ 32)
    (h : g.lo + g.w ≤ f.lo ∨ f.lo + f.w ≤ g.lo) : fget g (fput f w v) = fget g w := by
  unfold fget fput
  rw [BitVec.toNat_ofNat]
  have hw : w.toNat < 2 ^ 32 := w.isLt
  generalize w.toNat = x at hw
  obtain ⟨o, l, n⟩ := f
  obtain ⟨o', l', n'⟩ := g
  dsimp only at h hf ⊢
  have hp : (2:Nat) ^ (l + n) = 2 ^ l * 2 ^ n := Nat.pow_add ..
  have h32 : (2:Nat) ^ 32 = 2 ^ (l + n) * 2 ^ (32 - (l + n)) := by rw [← Nat.pow_add]; congr 1; omega
  have hl : 0 < 2 ^ l := Nat.two_pow_pos l
  have hn : 0 < 2 ^ n := Nat.two_pow_pos n
  have hm1 : x % 2 ^ l < 2 ^ l := Nat.mod_lt _ hl
  have hm2 : v % 2 ^ n < 2 ^ n := Nat.mod_lt _ hn
  have hm3 : x / 2 ^ (l + n) < 2 ^ (32 - (l + n)) := by
    rw [Nat.div_lt_iff_lt_mul (by positivity), Nat.mul_comm, ← h32]; exact hw
  have hlt : x / 2 ^ (l + n) * 2 ^ (l + n) + v % 2 ^ n * 2 ^ l + x % 2 ^ l < 2 ^ 32 := by
    rw [h32, hp]
    generalize 2 ^ (32 - (l + n)) = c at *
    rw [hp] at *
    generalize x / (2 ^ l * 2 ^ n) = q at *
    generalize v % 2 ^ n = r at *
    generalize x % 2 ^ l = t at *
    generalize 2 ^ l = A at *
    generalize 2 ^ n = B at *
    have e1 : (q + 1) * (A * B) ≤ c * (A * B) := Nat.mul_le_mul_right _ hm3
    have e2 : (r + 1) * A ≤ B * A := Nat.mul_le_mul_right _ hm2
    nlinarith
  rw [Nat.mod_eq_of_lt hlt]
  rcases h with h | h
  · obtain ⟨k, rfl⟩ : ∃ k, l = l' + n' + k := ⟨l - (l' + n'), by omega⟩
    have ea : x / 2 ^ (l' + n' + k + n) * 2 ^ (l' + n' + k + n) + v % 2 ^ n * 2 ^ (l' + n' + k) + x % 2 ^ (l' + n' + k) =
        x % 2 ^ (l' + n' + k) + 2 ^ (l' + n') * (2 ^ k * (x / 2 ^ (l' + n' + k + n) * 2 ^ n + v % 2 ^ n)) := by
      simp only [Nat.pow_add]; ring
    have eb : x = x % 2 ^ (l' + n' + k) + 2 ^ (l' + n') * (2 ^ k * (x / 2 ^ (l' + n' + k))) := by
      conv_lhs => rw [← Nat.mod_add_div x (2 ^ (l' + n' + k))]
      simp only [Nat.pow_add]; ring
    have key : ∀ y z, (y + 2 ^ (l' + n') * z) / 2 ^ l' % 2 ^ n' = y / 2 ^ l' % 2 ^ n' := by
      intro y z
      rw [Nat.pow_add, Nat.mul_assoc, Nat.add_mul_div_left _ _ (Nat.two_pow_pos l'), Nat.add_mul_mod_self_left]
    rw [ea, key]
    conv_rhs => rw [eb, key]
  · obtain ⟨k, rfl⟩ : ∃ k, l' = l + n + k := ⟨l' - (l + n), by omega⟩
    have hr : v % 2 ^ n * 2 ^ l + x % 2 ^ l < 2 ^ (l + n) := by
      rw [hp]
      generalize v % 2 ^ n = r at *
      generalize x % 2 ^ l = t at *
      generalize 2 ^ l = A at *
      generalize 2 ^ n = B at *
      have e2 : (r + 1) * A ≤ B * A := Nat.mul_le_mul_right _ hm2
      nlinarith
    rw [Nat.pow_add 2 (l + n) k, ← Nat.div_div_eq_div_mul, ← Nat.div_div_eq_div_mul, Nat.add_assoc,
      Nat.add_comm (_ * _), Nat.add_mul_div_right _ _ (Nat.two_pow_pos _), Nat.div_eq_of_lt hr, Nat.zero_add]

/-- The word of a field after the field is set. -/
@[simp] theorem State.rd_p (s : State) (pg : Nat) (f : Fld) (v a : Nat) :
    (s.p pg f v).rd a = if a = pg + f.off then fput f (s.rd (pg + f.off)) v else s.rd a := by
  unfold State.p; rw [State.rd_wr]

/-- A field just set reads the value, cut to its width. -/
theorem State.g_p (s : State) (pg : Nat) (f : Fld) (v : Nat) (h : f.lo + f.w ≤ 32) : (s.p pg f v).g pg f = v % 2 ^ f.w := by
  unfold State.g; rw [State.rd_p, if_pos rfl, fget_fput _ _ _ h]

/-- Another field of the same page reads as before. -/
theorem State.g_p_ne (s : State) (pg : Nat) (f g : Fld) (v : Nat) (hf : f.lo + f.w ≤ 32)
    (h : g.off ≠ f.off ∨ g.lo + g.w ≤ f.lo ∨ f.lo + f.w ≤ g.lo) : (s.p pg f v).g pg g = s.g pg g := by
  unfold State.g; rw [State.rd_p]
  by_cases ho : g.off = f.off
  · rw [if_pos (by rw [ho]), fget_fput_ne _ _ _ _ hf (by tauto), ho]
  · rw [if_neg (by omega)]

@[simp] theorem State.rd_pI (s : State) (pg : Nat) (f : Fld) (v : Int) (a : Nat) :
    (s.pI pg f v).rd a = if a = pg + f.off then fput f (s.rd (pg + f.off)) (ofS f.w v) else s.rd a := by
  unfold State.pI; rw [State.rd_p]

@[simp] theorem State.rd_pB (s : State) (pg : Nat) (f : Fld) (v : Bool) (a : Nat) :
    (s.pB pg f v).rd a = if a = pg + f.off then fput f (s.rd (pg + f.off)) (b2n v) else s.rd a := by
  unfold State.pB; rw [State.rd_p]

@[simp] theorem State.rd_inc (s : State) (pg : Nat) (f : Fld) (n a : Nat) :
    (s.inc pg f n).rd a =
      if a = pg + f.off then fput f (s.rd (pg + f.off)) (min (s.g pg f + n) (2 ^ f.w - 1)) else s.rd a := by
  unfold State.inc; rw [State.rd_p]

@[simp] theorem State.rd_peak (s : State) (pg : Nat) (f : Fld) (n a : Nat) :
    (s.peak pg f n).rd a =
      if a = pg + f.off then fput f (s.rd (pg + f.off)) (max (s.g pg f) (min n (2 ^ f.w - 1))) else s.rd a := by
  unfold State.peak; rw [State.rd_p]

/-- A counter gains one and saturates (R81). -/
theorem State.g_inc (s : State) (pg : Nat) (f : Fld) (n : Nat) (h : f.lo + f.w ≤ 32) :
    (s.inc pg f n).g pg f = min (s.g pg f + n) (2 ^ f.w - 1) := by
  unfold State.inc
  rw [State.g_p _ _ _ _ h, Nat.mod_eq_of_lt]
  have := Nat.two_pow_pos f.w
  omega

/-- `FAULT_CNT` is the only word a counted discard changes (R69, R71). -/
@[simp] theorem State.rd_flt (s : State) (pg a : Nat) :
    (s.flt pg).rd a = if a = pg + R.Hdr.FAULT_CNT.off then
      fput R.Hdr.FAULT_CNT (s.rd (pg + R.Hdr.FAULT_CNT.off))
        (min (s.g pg R.Hdr.FAULT_CNT + 1) (2 ^ R.Hdr.FAULT_CNT.w - 1)) else s.rd a := by
  unfold State.flt; rw [State.rd_inc]

@[simp] theorem State.rd_pTs (s : State) (pg : Nat) (lo hi : Fld) (t a : Nat) :
    (s.pTs pg lo hi t).rd a =
      if a = pg + hi.off then hi32 t else if a = pg + lo.off then lo32 t else s.rd a := by
  unfold State.pTs; rw [State.rd_wr, State.rd_wr]

/-! ### `STAT` and its stamp (R69) -/

/-- `STAT` reads what was set. -/
@[simp] theorem State.rd_wrStat_self (s : State) (pg : Nat) (v : Word) : (s.wrStat pg v).rd (pg + 0x00C) = v := by
  unfold State.wrStat
  split
  · assumption
  · simp

/-- No word but `STAT` and the stamp changes. -/
theorem State.rd_wrStat_ne (s : State) (pg : Nat) (v : Word) (a : Nat)
    (h : a ≠ pg + 0x00C) (h1 : a ≠ pg + 0x028) (h2 : a ≠ pg + 0x02C) : (s.wrStat pg v).rd a = s.rd a := by
  unfold State.wrStat
  split
  · rfl
  · simp [h, h1, h2]

@[simp] theorem State.rd_ps_self (s : State) (pg : Nat) (f : Fld) (v : Nat) :
    (s.ps pg f v).rd (pg + 0x00C) = fput f (s.rd (pg + 0x00C)) v := by
  unfold State.ps; rw [State.rd_wrStat_self]

theorem State.rd_ps_ne (s : State) (pg : Nat) (f : Fld) (v a : Nat)
    (h : a ≠ pg + 0x00C) (h1 : a ≠ pg + 0x028) (h2 : a ≠ pg + 0x02C) : (s.ps pg f v).rd a = s.rd a := by
  unfold State.ps; exact State.rd_wrStat_ne _ _ _ _ h h1 h2

@[simp] theorem State.rd_psB_self (s : State) (pg : Nat) (f : Fld) (v : Bool) :
    (s.psB pg f v).rd (pg + 0x00C) = fput f (s.rd (pg + 0x00C)) (b2n v) := by
  unfold State.psB; rw [State.rd_ps_self]

theorem State.rd_psB_ne (s : State) (pg : Nat) (f : Fld) (v : Bool) (a : Nat)
    (h : a ≠ pg + 0x00C) (h1 : a ≠ pg + 0x028) (h2 : a ≠ pg + 0x02C) : (s.psB pg f v).rd a = s.rd a := by
  unfold State.psB; exact State.rd_ps_ne _ _ _ _ _ h h1 h2

/-! ### Interrupts (R78 to R80) -/

@[simp] theorem State.rd_resumeCores (s : State) (a : Nat) : s.resumeCores.rd a = s.rd a := rfl

@[simp] theorem State.rd_pend (s : State) (n a : Nat) : (s.pend n).rd a = s.rd a := rfl

theorem mem_pendAt (p n : Nat) (l : List (Nat × Nat)) (e : Nat × Nat) : e ∈ pendAt p n l ↔ e = (p, n) ∨ e ∈ l := by
  unfold pendAt
  split
  · rename_i h
    simp only [List.contains_iff_mem] at h
    constructor
    · exact .inr
    · rintro (rfl | h2) <;> assumption
  · simp

/-- Pending a source pends it at both pairs and leaves the others as they are (R80). -/
theorem State.pend_pends (s : State) (n : Nat) (e : Nat × Nat) :
    e ∈ (s.pend n).pends ↔ e = (0, n) ∨ e = (1, n) ∨ e ∈ s.pends := by
  simp [State.pend, State.resumeCores, mem_pendAt]

/-- Clearing a page's `IRQ_STAT` withdraws its source at the duty pair and nothing else (R56, R80). -/
theorem State.withdraw_pends (s : State) (n : Nat) (e : Nat × Nat) :
    e ∈ (s.withdraw n).pends ↔ e ∈ s.pends ∧ ¬(s.duty = some e.1 ∧ e.2 = n) := by
  simp [State.withdraw, imp_iff_not_or]

@[simp] theorem State.rd_withdraw (s : State) (n a : Nat) : (s.withdraw n).rd a = s.rd a := rfl
@[simp] theorem State.rd_eccClean (s : State) (b n a : Nat) : (s.eccClean b n).rd a = s.rd a := rfl

/-- Raising events changes `IRQ_RAW` and no other word (R78). -/
@[simp] theorem State.rd_irqM (s : State) (pg m a : Nat) :
    (s.irqM pg m).rd a =
      if a = pg + 0x010 then wd (Nat.lor (s.rd (pg + 0x010)).toNat m) else s.rd a := by
  unfold State.irqM
  dsimp only
  split <;> simp

@[simp] theorem State.rd_irq (s : State) (pg i a : Nat) :
    (s.irq pg i).rd a =
      if a = pg + 0x010 then wd (Nat.lor (s.rd (pg + 0x010)).toNat (2 ^ i)) else s.rd a := by
  unfold State.irq; rw [State.rd_irqM]

@[simp] theorem State.rd_drew (s : State) (n a : Nat) : (s.drew n).rd a = s.rd a := rfl
@[simp] theorem State.rd_setNet (s : State) (n : Nat) (x : TbsNet) (a : Nat) : (s.setNet n x).rd a = s.rd a := rfl
@[simp] theorem State.rd_setStream (s : State) (n : Nat) (x : NibStream) (a : Nat) : (s.setStream n x).rd a = s.rd a := rfl
@[simp] theorem State.rd_setByte (s : State) (b v a : Nat) : (s.setByte b v).rd a = s.rd a := rfl
@[simp] theorem State.rd_setPair (s : State) (p : Nat) (x : Pair) (a : Nat) : (s.setPair p x).rd a = s.rd a :=
  State.rd_congr (State.setPair_regs s p x) a

/-! ### Writes -/

/-- A write is permitted: its effect lands. -/
theorem State.onWrite_ok {s : State} {i : Ini} {a : Nat} (h : s.verdictW i a = .ok) (k : State → State) :
    s.onWrite i a k = k ({ s with bus := .done 0 }.breakHalf a) := by
  unfold State.onWrite; rw [h]

/-- A write that is not permitted has an effect that does not depend on what it would have done (R3, R50, R51). -/
theorem State.onWrite_refused {s : State} {i : Ini} {a : Nat} (h : s.verdictW i a ≠ .ok) (k k' : State → State) :
    s.onWrite i a k = s.onWrite i a k' := by
  unfold State.onWrite; cases hv : s.verdictW i a <;> simp_all

/-- A half-open lock that closes changes `LOCK` of the page written, nothing else (R73). -/
theorem State.rd_breakHalf_ne (s : State) (a b : Nat) (h : ∀ l, locate a = some l → b ≠ l.base + 0x020) :
    (s.breakHalf a).rd b = s.rd b := by
  unfold State.breakHalf
  cases hl : locate a with
  | none => rfl
  | some l =>
    dsimp only
    split
    · rw [State.rd_p, if_neg (h l hl)]
    · rfl

end Sys2Proof.Machine
end

