-- ==== Sys2Proof/Laws/Kept.lean ====
section
/-! SUPPORT. What every operation keeps. `Kept m s t` says of a change from `s` to `t` that the queue, the order code,
the canonical forms and the bounds stand, and that only the parts named by the mask `m` may change: bit `b` below 18
for the registers of block `b`, bit 32 + i for field i of `State`. One lemma per operation. -/

set_option linter.unusedTactic false
set_option linter.unreachableTactic false
set_option linter.unusedVariables false

namespace Sys2Proof.Machine
open Sys2Proof

/-- A record that enters the staging FIFO makes it one longer. -/
theorem recIn_length (r : IkwRec) (l : List IkwRec) : (recIn r l).length = l.length + 1 := by
  induction l with
  | nil => rfl
  | cons x l ih =>
    unfold recIn
    split
    · rfl
    · rw [List.length_cons, List.length_cons, ih]

/-- The block of a register address; 31 outside the register slots. -/
def slotOf (a : Nat) : Nat := if 0x40000000 ≤ a ∧ a < 0x41200000 then a / 0x100000 - 0x400 else 31

/-- The change from `s` to `t` keeps what every operation keeps and stays within the mask. -/
structure Kept (m : Nat) (s t : State) : Prop where
  pending : t.pending = s.pending
  lh6161 : t.lh6161 = s.lh6161
  memWf : Memory.wf s.mem = true → Memory.wf t.mem = true
  regsWf : Regs.wf s.regs = true → Regs.wf t.regs = true
  acc : s.tbs.acc < 2 ^ 96 → t.tbs.acc < 2 ^ 96
  fifo : s.ikw.fifo.length ≤ 128 → t.ikw.fifo.length ≤ 128
  held : s.rdm.held.length ≤ 32 → t.rdm.held.length ≤ 32
  rd : ∀ a, m.testBit (slotOf a) = false → t.rd a = s.rd a
  pmode : m.testBit 33 = false → t.pmode = s.pmode
  mem : m.testBit 35 = false → t.mem = s.mem
  latches : m.testBit 36 = false → t.latches = s.latches
  pends : m.testBit 37 = false → t.pends = s.pends
  bus : m.testBit 38 = false → t.bus = s.bus
  tbs : m.testBit 39 = false → t.tbs = s.tbs
  nets : m.testBit 40 = false → t.nets = s.nets
  rdm : m.testBit 41 = false → t.rdm = s.rdm
  pair0 : m.testBit 42 = false → t.pair0 = s.pair0
  pair1 : m.testBit 43 = false → t.pair1 = s.pair1
  ikw : m.testBit 44 = false → t.ikw = s.ikw
  pcr : m.testBit 45 = false → t.pcr = s.pcr
  memc : m.testBit 46 = false → t.memc = s.memc
  fresh : m.testBit 47 = false → t.fresh = s.fresh
  fbs : m.testBit 49 = false → t.fbs = s.fbs
  pos : m.testBit 50 = false → t.pos = s.pos
  pulses : m.testBit 51 = false → t.pulses = s.pulses
  hoist : m.testBit 52 = false → t.hoist = s.hoist
  dlks : m.testBit 53 = false → t.dlks = s.dlks
  clg : m.testBit 54 = false → t.clg = s.clg
  doors : m.testBit 55 = false → t.doors = s.doors
  safe : m.testBit 56 = false → t.safe = s.safe
  ports : m.testBit 57 = false → t.ports = s.ports
  cve : m.testBit 58 = false → t.cve = s.cve
  bnis : m.testBit 59 = false → t.bnis = s.bnis

theorem Kept.refl (m : Nat) (s : State) : Kept m s s := by
  constructor <;> intros <;> first | rfl | assumption

theorem Kept.trans {m : Nat} {s t u : State} (h : Kept m s t) (k : Kept m t u) : Kept m s u where
  pending := k.pending.trans h.pending
  lh6161 := k.lh6161.trans h.lh6161
  memWf w := k.memWf (h.memWf w)
  regsWf w := k.regsWf (h.regsWf w)
  acc w := k.acc (h.acc w)
  fifo w := k.fifo (h.fifo w)
  held w := k.held (h.held w)
  rd a w := (k.rd a w).trans (h.rd a w)
  pmode w := (k.pmode w).trans (h.pmode w)
  mem w := (k.mem w).trans (h.mem w)
  latches w := (k.latches w).trans (h.latches w)
  pends w := (k.pends w).trans (h.pends w)
  bus w := (k.bus w).trans (h.bus w)
  tbs w := (k.tbs w).trans (h.tbs w)
  nets w := (k.nets w).trans (h.nets w)
  rdm w := (k.rdm w).trans (h.rdm w)
  pair0 w := (k.pair0 w).trans (h.pair0 w)
  pair1 w := (k.pair1 w).trans (h.pair1 w)
  ikw w := (k.ikw w).trans (h.ikw w)
  pcr w := (k.pcr w).trans (h.pcr w)
  memc w := (k.memc w).trans (h.memc w)
  fresh w := (k.fresh w).trans (h.fresh w)
  fbs w := (k.fbs w).trans (h.fbs w)
  pos w := (k.pos w).trans (h.pos w)
  pulses w := (k.pulses w).trans (h.pulses w)
  hoist w := (k.hoist w).trans (h.hoist w)
  dlks w := (k.dlks w).trans (h.dlks w)
  clg w := (k.clg w).trans (h.clg w)
  doors w := (k.doors w).trans (h.doors w)
  safe w := (k.safe w).trans (h.safe w)
  ports w := (k.ports w).trans (h.ports w)
  cve w := (k.cve w).trans (h.cve w)
  bnis w := (k.bnis w).trans (h.bnis w)

/-- One mask within another. -/
def Sub (a b : Nat) : Prop := a &&& b = a

theorem Sub.refl (a : Nat) : Sub a a := Nat.and_self a

theorem Sub.of {a b c : Nat} (h : Sub b c) (k : a &&& b = a) : Sub a c := by
  unfold Sub at *; rw [← k, Nat.and_assoc, h]

theorem Sub.bit {a b i : Nat} (h : Sub a b) (k : a.testBit i = true) : b.testBit i = true := by
  unfold Sub at h; rw [← h, Nat.testBit_and] at k
  exact (Bool.and_eq_true _ _ ▸ k).2

/-- A register address within the mask. -/
def At (m a : Nat) : Prop := m.testBit (slotOf a) = true

/-- A page, and what follows it, within a slot of the mask. -/
def InPg (m pg : Nat) : Prop :=
  ∃ b, m.testBit b = true ∧ b < 18 ∧ 0x40000000 + b * 0x100000 ≤ pg ∧ pg + 0x1000 ≤ 0x40000000 + (b + 1) * 0x100000

theorem InPg.at {m pg k : Nat} (h : InPg m pg) (hk : k < 0x1000) : At m (pg + k) := by
  obtain ⟨b, hb, h0, h1, h2⟩ := h
  unfold At slotOf
  rw [if_pos (by omega)]
  have : (pg + k) / 0x100000 - 0x400 = b := by omega
  rw [this]; exact hb

theorem InPg.at0 {m pg : Nat} (h : InPg m pg) : At m pg := InPg.at (k := 0) h (by decide)

theorem ite_some {α : Type} {c : Prop} [Decidable c] {x y : Option α} {l : α} (h : (if c then x else y) = some l) :
    (c ∧ x = some l) ∨ (¬c ∧ y = some l) := by
  split at h
  · exact .inl ⟨by assumption, h⟩
  · exact .inr ⟨by assumption, h⟩

theorem nchan_le (b : Nat) : nchan b ≤ 160 := by unfold nchan; split <;> omega

/-- The page or table of an address, and the page that governs it, lie in the slot of the address (R65, R67). -/
theorem locate_slot {a : Nat} {l : Loc} (h : locate a = some l) :
    0x40000000 ≤ a ∧ a < 0x41200000 ∧ l.base / 0x100000 = a / 0x100000 ∧ l.lock / 0x100000 = a / 0x100000 ∧
      (l.base + 0xFFF) / 0x100000 = a / 0x100000 ∧ (l.lock + 0xFFF) / 0x100000 = a / 0x100000 := by
  have h2 := nchan_le ((a - 0x40000000) / 0x100000)
  unfold locate at h
  dsimp only at h
  generalize nchan ((a - 0x40000000) / 0x100000) = n at h h2
  unfold blk at h
  obtain ⟨_, h⟩ | ⟨c0, h⟩ := ite_some h
  · cases h
  simp only [Bool.or_eq_true, decide_eq_true_eq, not_or, Nat.not_lt, Nat.not_le] at c0
  obtain ⟨c, h⟩ | ⟨c1, h⟩ := ite_some h
  · obtain rfl := Option.some.inj h
    dsimp only
    refine ⟨?_, ?_, ?_, ?_, ?_, ?_⟩ <;> omega
  obtain ⟨c, h⟩ | ⟨_, h⟩ := ite_some h
  · obtain rfl := Option.some.inj h
    dsimp only
    refine ⟨?_, ?_, ?_, ?_, ?_, ?_⟩ <;> omega
  obtain ⟨c, h⟩ | ⟨_, h⟩ := ite_some h
  · obtain rfl := Option.some.inj h
    simp only [Bool.and_eq_true, decide_eq_true_eq] at c
    dsimp only
    refine ⟨?_, ?_, ?_, ?_, ?_, ?_⟩ <;> omega
  obtain ⟨c, h⟩ | ⟨_, h⟩ := ite_some h
  · obtain rfl := Option.some.inj h
    simp only [Bool.and_eq_true, decide_eq_true_eq] at c
    dsimp only
    refine ⟨?_, ?_, ?_, ?_, ?_, ?_⟩ <;> omega
  obtain ⟨c, h⟩ | ⟨_, h⟩ := ite_some h
  · obtain rfl := Option.some.inj h
    simp only [Bool.and_eq_true, decide_eq_true_eq] at c
    dsimp only
    refine ⟨?_, ?_, ?_, ?_, ?_, ?_⟩ <;> omega
  obtain ⟨c, h⟩ | ⟨_, h⟩ := ite_some h
  · obtain rfl := Option.some.inj h
    simp only [Bool.and_eq_true, decide_eq_true_eq] at c
    dsimp only
    refine ⟨?_, ?_, ?_, ?_, ?_, ?_⟩ <;> omega
  obtain ⟨c, h⟩ | ⟨_, h⟩ := ite_some h
  · obtain rfl := Option.some.inj h
    simp only [Bool.and_eq_true, decide_eq_true_eq] at c
    dsimp only
    refine ⟨?_, ?_, ?_, ?_, ?_, ?_⟩ <;> omega
  obtain ⟨c, h⟩ | ⟨_, h⟩ := ite_some h
  · obtain rfl := Option.some.inj h
    simp only [Bool.and_eq_true, decide_eq_true_eq] at c
    dsimp only
    refine ⟨?_, ?_, ?_, ?_, ?_, ?_⟩ <;> omega
  obtain ⟨c, h⟩ | ⟨_, h⟩ := ite_some h
  · obtain rfl := Option.some.inj h
    simp only [Bool.and_eq_true, decide_eq_true_eq] at c
    dsimp only
    refine ⟨?_, ?_, ?_, ?_, ?_, ?_⟩ <;> omega
  obtain ⟨c, h⟩ | ⟨_, h⟩ := ite_some h
  · obtain rfl := Option.some.inj h
    simp only [Bool.and_eq_true, decide_eq_true_eq] at c
    dsimp only
    refine ⟨?_, ?_, ?_, ?_, ?_, ?_⟩ <;> omega
  cases h

/-- The pages of a permitted address lie within its slot. -/
theorem at_base {m a : Nat} {l : Loc} (h : locate a = some l) (ha : At m a) : InPg m l.base ∧ InPg m l.lock := by
  obtain ⟨h1, h2, h3, h4, h5, h6⟩ := locate_slot h
  unfold At slotOf at ha
  rw [if_pos (by omega)] at ha
  exact ⟨⟨_, ha, by omega, by omega, by omega⟩, ⟨_, ha, by omega, by omega, by omega⟩⟩

/-- The mask that lets every part change. -/
abbrev allParts : Nat := 0xffefffa8003ffff

theorem slotOf_bit (a : Nat) : allParts.testBit (slotOf a) = true := by
  unfold slotOf
  split
  · have : ∀ i, i < 18 → allParts.testBit i = true := by decide
    exact this _ (by omega)
  · decide

theorem full_at {m : Nat} (hm : Sub allParts m) (a : Nat) : At m a := Sub.bit hm (slotOf_bit a)

theorem InPg.pcrC {m : Nat} (h : m.testBit 0 = true) : InPg m pcrC := by
  refine ⟨0, h, by decide, ?_, ?_⟩ <;> simp only [Sys2Proof.pcrC, Sys2Proof.blk] <;> omega

theorem InPg.pcrP {m : Nat} (n : Nat) (h : m.testBit 0 = true) : InPg m (pcrP n) := by
  refine ⟨0, h, by decide, ?_, ?_⟩ <;> simp only [Sys2Proof.pcrP, Sys2Proof.chPage, Sys2Proof.blk] <;> omega

theorem InPg.tbsC {m : Nat} (h : m.testBit 1 = true) : InPg m tbsC := by
  refine ⟨1, h, by decide, ?_, ?_⟩ <;> simp only [Sys2Proof.tbsC, Sys2Proof.blk] <;> omega

theorem InPg.tbsP {m : Nat} (n : Nat) (h : m.testBit 1 = true) : InPg m (tbsP n) := by
  refine ⟨1, h, by decide, ?_, ?_⟩ <;> simp only [Sys2Proof.tbsP, Sys2Proof.chPage, Sys2Proof.blk] <;> omega

theorem InPg.rdmC {m : Nat} (h : m.testBit 2 = true) : InPg m rdmC := by
  refine ⟨2, h, by decide, ?_, ?_⟩ <;> simp only [Sys2Proof.rdmC, Sys2Proof.blk] <;> omega

theorem InPg.rdmP {m : Nat} (n : Nat) (h : m.testBit 2 = true) : InPg m (rdmP n) := by
  refine ⟨2, h, by decide, ?_, ?_⟩ <;> simp only [Sys2Proof.rdmP, Sys2Proof.chPage, Sys2Proof.blk] <;> omega

theorem InPg.ikwC {m : Nat} (h : m.testBit 3 = true) : InPg m ikwC := by
  refine ⟨3, h, by decide, ?_, ?_⟩ <;> simp only [Sys2Proof.ikwC, Sys2Proof.blk] <;> omega

theorem InPg.memC {m : Nat} (h : m.testBit 4 = true) : InPg m memC := by
  refine ⟨4, h, by decide, ?_, ?_⟩ <;> simp only [Sys2Proof.memC, Sys2Proof.blk] <;> omega

theorem InPg.sioC {m : Nat} (h : m.testBit 5 = true) : InPg m sioC := by
  refine ⟨5, h, by decide, ?_, ?_⟩ <;> simp only [Sys2Proof.sioC, Sys2Proof.blk] <;> omega

theorem InPg.sibP {m : Nat} (n : Nat) (h : m.testBit 5 = true) : InPg m (sibP n) := by
  refine ⟨5, h, by decide, ?_, ?_⟩ <;> simp only [Sys2Proof.sibP, Sys2Proof.chPage, Sys2Proof.blk] <;> omega

theorem InPg.sogP {m : Nat} (n : Nat) (h : m.testBit 5 = true) : InPg m (sogP n) := by
  refine ⟨5, h, by decide, ?_, ?_⟩ <;> simp only [Sys2Proof.sogP, Sys2Proof.chPage, Sys2Proof.blk] <;> omega

theorem InPg.slpC {m : Nat} (h : m.testBit 6 = true) : InPg m slpC := by
  refine ⟨6, h, by decide, ?_, ?_⟩ <;> simp only [Sys2Proof.slpC, Sys2Proof.blk] <;> omega

theorem InPg.sagC {m : Nat} (h : m.testBit 7 = true) : InPg m sagC := by
  refine ⟨7, h, by decide, ?_, ?_⟩ <;> simp only [Sys2Proof.sagC, Sys2Proof.blk] <;> omega

theorem InPg.sagP {m : Nat} (n : Nat) (h : m.testBit 7 = true) : InPg m (sagP n) := by
  refine ⟨7, h, by decide, ?_, ?_⟩ <;> simp only [Sys2Proof.sagP, Sys2Proof.chPage, Sys2Proof.blk] <;> omega

theorem InPg.mpgC {m : Nat} (h : m.testBit 8 = true) : InPg m mpgC := by
  refine ⟨8, h, by decide, ?_, ?_⟩ <;> simp only [Sys2Proof.mpgC, Sys2Proof.blk] <;> omega

theorem InPg.mpgP {m : Nat} (n : Nat) (h : m.testBit 8 = true) : InPg m (mpgP n) := by
  refine ⟨8, h, by decide, ?_, ?_⟩ <;> simp only [Sys2Proof.mpgP, Sys2Proof.chPage, Sys2Proof.blk] <;> omega

theorem InPg.sepC {m : Nat} (h : m.testBit 9 = true) : InPg m sepC := by
  refine ⟨9, h, by decide, ?_, ?_⟩ <;> simp only [Sys2Proof.sepC, Sys2Proof.blk] <;> omega

theorem InPg.dmcC {m : Nat} (h : m.testBit 10 = true) : InPg m dmcC := by
  refine ⟨10, h, by decide, ?_, ?_⟩ <;> simp only [Sys2Proof.dmcC, Sys2Proof.blk] <;> omega

theorem InPg.dmcP {m : Nat} (n : Nat) (h : m.testBit 10 = true) : InPg m (dmcP n) := by
  refine ⟨10, h, by decide, ?_, ?_⟩ <;> simp only [Sys2Proof.dmcP, Sys2Proof.chPage, Sys2Proof.blk] <;> omega

theorem InPg.pfiC {m : Nat} (h : m.testBit 11 = true) : InPg m pfiC := by
  refine ⟨11, h, by decide, ?_, ?_⟩ <;> simp only [Sys2Proof.pfiC, Sys2Proof.blk] <;> omega

theorem InPg.fbP {m : Nat} (n : Nat) (h : m.testBit 11 = true) : InPg m (fbP n) := by
  refine ⟨11, h, by decide, ?_, ?_⟩ <;> simp only [Sys2Proof.fbP, Sys2Proof.chPage, Sys2Proof.blk] <;> omega

theorem InPg.poP {m : Nat} (n : Nat) (h : m.testBit 11 = true) : InPg m (poP n) := by
  refine ⟨11, h, by decide, ?_, ?_⟩ <;> simp only [Sys2Proof.poP, Sys2Proof.chPage, Sys2Proof.blk] <;> omega

theorem InPg.dlkP {m : Nat} (n : Nat) (h : m.testBit 12 = true) : InPg m (dlkP n) := by
  refine ⟨12, h, by decide, ?_, ?_⟩ <;> simp only [Sys2Proof.dlkP, Sys2Proof.chPage, Sys2Proof.blk] <;> omega

theorem InPg.sbcC {m : Nat} (h : m.testBit 13 = true) : InPg m sbcC := by
  refine ⟨13, h, by decide, ?_, ?_⟩ <;> simp only [Sys2Proof.sbcC, Sys2Proof.blk] <;> omega

theorem InPg.sbcP {m : Nat} (n : Nat) (h : m.testBit 13 = true) : InPg m (sbcP n) := by
  refine ⟨13, h, by decide, ?_, ?_⟩ <;> simp only [Sys2Proof.sbcP, Sys2Proof.chPage, Sys2Proof.blk] <;> omega

theorem InPg.cveC {m : Nat} (h : m.testBit 14 = true) : InPg m cveC := by
  refine ⟨14, h, by decide, ?_, ?_⟩ <;> simp only [Sys2Proof.cveC, Sys2Proof.blk] <;> omega

theorem InPg.ctxP {m : Nat} (n : Nat) (h : m.testBit 14 = true) : InPg m (ctxP n) := by
  refine ⟨14, h, by decide, ?_, ?_⟩ <;> simp only [Sys2Proof.ctxP, Sys2Proof.chPage, Sys2Proof.blk] <;> omega

theorem InPg.clgC {m : Nat} (h : m.testBit 15 = true) : InPg m clgC := by
  refine ⟨15, h, by decide, ?_, ?_⟩ <;> simp only [Sys2Proof.clgC, Sys2Proof.blk] <;> omega

theorem InPg.bniP {m : Nat} (n : Nat) (h : m.testBit 16 = true) : InPg m (bniP n) := by
  refine ⟨16, h, by decide, ?_, ?_⟩ <;> simp only [Sys2Proof.bniP, Sys2Proof.chPage, Sys2Proof.blk] <;> omega

theorem InPg.apxC {m : Nat} (h : m.testBit 17 = true) : InPg m apxC := by
  refine ⟨17, h, by decide, ?_, ?_⟩ <;> simp only [Sys2Proof.apxC, Sys2Proof.blk] <;> omega

theorem InPg.apxP {m : Nat} (n : Nat) (h : m.testBit 17 = true) : InPg m (apxP n) := by
  refine ⟨17, h, by decide, ?_, ?_⟩ <;> simp only [Sys2Proof.apxP, Sys2Proof.chPage, Sys2Proof.blk] <;> omega

theorem InPg.winP {m : Nat} (n : Nat) (h : m.testBit 17 = true) : InPg m (winP n) := by
  refine ⟨17, h, by decide, ?_, ?_⟩ <;> simp only [Sys2Proof.winP, Sys2Proof.blk] <;> omega

theorem InPg.ldgP {m : Nat} (n : Nat) (h : m.testBit 8 = true) : InPg m (ldgP n) := by
  refine ⟨8, h, by decide, ?_, ?_⟩ <;> simp only [Sys2Proof.ldgP, Sys2Proof.blk] <;> omega

theorem InPg.fwP {m : Nat} (n : Nat) (h : m.testBit 2 = true) : InPg m (fwP n) := by
  refine ⟨2, h, by decide, ?_, ?_⟩ <;> simp only [Sys2Proof.fwP, Sys2Proof.blk] <;> omega

theorem InPg.ikwCodeP {m : Nat} (n : Nat) (h : m.testBit 3 = true) : InPg m (ikwCodeP n) := by
  refine ⟨3, h, by decide, ?_, ?_⟩ <;> simp only [Sys2Proof.ikwCodeP, Sys2Proof.blk] <;> omega

theorem InPg.ikwSupP {m : Nat} (n : Nat) (h : m.testBit 3 = true) : InPg m (ikwSupP n) := by
  refine ⟨3, h, by decide, ?_, ?_⟩ <;> simp only [Sys2Proof.ikwSupP, Sys2Proof.blk] <;> omega

theorem InPg.cmpP {m : Nat} (n k : Nat) (h : m.testBit 11 = true) : InPg m (cmpP n k) := by
  refine ⟨11, h, by decide, ?_, ?_⟩ <;> simp only [Sys2Proof.Machine.cmpP, Sys2Proof.fbP, Sys2Proof.chPage, Sys2Proof.blk] <;> omega

theorem InPg.ringP {m : Nat} (n k : Nat) (h : m.testBit 16 = true) : InPg m (ringP n k) := by
  refine ⟨16, h, by decide, ?_, ?_⟩ <;> simp only [Sys2Proof.Machine.ringP, Sys2Proof.bniP, Sys2Proof.chPage, Sys2Proof.blk] <;> omega

theorem InPg.txbP {m : Nat} (n k : Nat) (h : m.testBit 13 = true) : InPg m (txbP n k) := by
  refine ⟨13, h, by decide, ?_, ?_⟩ <;> simp only [Sys2Proof.Machine.txbP, Sys2Proof.sbcP, Sys2Proof.chPage, Sys2Proof.blk] <;> omega

theorem InPg.fltP {m : Nat} (n k : Nat) (h : m.testBit 13 = true) : InPg m (fltP n k) := by
  refine ⟨13, h, by decide, ?_, ?_⟩ <;> simp only [Sys2Proof.Machine.fltP, Sys2Proof.sbcP, Sys2Proof.chPage, Sys2Proof.blk] <;> omega

theorem InPg.mbxP {m : Nat} (n k : Nat) (h : m.testBit 13 = true) : InPg m (mbxP n k) := by
  refine ⟨13, h, by decide, ?_, ?_⟩ <;> simp only [Sys2Proof.Machine.mbxP, Sys2Proof.sbcP, Sys2Proof.chPage, Sys2Proof.blk] <;> omega

theorem InPg.inP {m : Nat} (n : Nat) (h : m.testBit 5 = true) : InPg m (inP n) := by
  refine ⟨5, h, by decide, ?_, ?_⟩ <;> simp only [Sys2Proof.Machine.inP, Sys2Proof.sibP, Sys2Proof.chPage, Sys2Proof.blk] <;> omega

theorem InPg.outP {m : Nat} (n : Nat) (h : m.testBit 5 = true) : InPg m (outP n) := by
  refine ⟨5, h, by decide, ?_, ?_⟩ <;> simp only [Sys2Proof.Machine.outP, Sys2Proof.sogP, Sys2Proof.chPage, Sys2Proof.blk] <;> omega

theorem InPg.mbP {m : Nat} (n : Nat) (h : m.testBit 6 = true) : InPg m (mbP n) := by
  refine ⟨6, h, by decide, ?_, ?_⟩ <;> simp only [Sys2Proof.Machine.mbP, Sys2Proof.slpC, Sys2Proof.blk] <;> omega

theorem InPg.carP {m : Nat} (n : Nat) (h : m.testBit 8 = true) : InPg m (carP n) := by
  refine ⟨8, h, by decide, ?_, ?_⟩ <;> simp only [Sys2Proof.Machine.carP, Sys2Proof.mpgC, Sys2Proof.blk] <;> omega

theorem InPg.qwP {m : Nat} (n : Nat) (h : m.testBit 2 = true) : InPg m (qwP n) := by
  refine ⟨2, h, by decide, ?_, ?_⟩ <;> simp only [Sys2Proof.Machine.qwP, Sys2Proof.rdmC, Sys2Proof.blk] <;> omega

theorem InPg.prbP {m : Nat} (n k : Nat) (h : m.testBit 11 = true) : InPg m (prbP n k) := by
  refine ⟨11, h, by decide, ?_, ?_⟩ <;> simp only [Sys2Proof.Machine.prbP, Sys2Proof.fbP, Sys2Proof.chPage, Sys2Proof.blk] <;> omega

theorem InPg.entP {m : Nat} (n k : Nat) (h : m.testBit 8 = true) : InPg m (entP n k) := by
  refine ⟨8, h, by decide, ?_, ?_⟩ <;> simp only [Sys2Proof.Machine.entP, Sys2Proof.mpgP, Sys2Proof.chPage, Sys2Proof.blk] <;> omega

theorem InPg.cvnP {m : Nat} (n : Nat) (h : m.testBit 14 = true) : InPg m (cvnP n) := by
  refine ⟨14, h, by decide, ?_, ?_⟩ <;> simp only [Sys2Proof.Machine.cvnP, Sys2Proof.cveC, Sys2Proof.blk] <;> omega

theorem InPg.doorPage {m : Nat} (d : DoorDst) (h : m.testBit 10 = true) : InPg m (doorPage d) := by
  refine ⟨10, h, by decide, ?_, ?_⟩ <;> cases d <;>
    simp only [Sys2Proof.Machine.doorPage, Sys2Proof.dmcP, Sys2Proof.grpPage, Sys2Proof.bcastPage, Sys2Proof.chPage, Sys2Proof.blk] <;> omega

theorem InPg.pcrOf {m : Nat} (n : Nat) (h : m.testBit 0 = true) : InPg m (pcrOf n) := by
  refine ⟨0, h, by decide, ?_, ?_⟩ <;> simp only [Sys2Proof.Machine.pcrOf, Sys2Proof.pcrP, Sys2Proof.chPage, Sys2Proof.blk] <;> omega

theorem acc_lt (i : Int) : (i % ((2 ^ 96 : Nat) : Int)).toNat < 2 ^ 96 := by
  have h1 := Int.emod_nonneg i (b := ((2 ^ 96 : Nat) : Int)) (by decide)
  have h2 := Int.emod_lt_of_pos i (b := ((2 ^ 96 : Nat) : Int)) (by decide)
  omega

/-- A record is accepted only while the staging FIFO has room (R465, R468). -/
theorem accepts_lt {s : State} {sev : Nat} (h : s.ikwAccepts sev = true) : s.ikw.fifo.length < 128 := by
  unfold State.ikwAccepts at h
  have h1 := (Bool.and_eq_true _ _ ▸ h).1
  split at h1
  · exact of_decide_eq_true h1
  · have := of_decide_eq_true h1; omega

/-- The timebase has 64 bits (R88). -/
theorem State.stamp_lt (s : State) : s.stamp < 2 ^ 64 := by
  unfold State.stamp
  split <;> exact Nat.mod_lt _ (by decide)

theorem State.ikwTake_fifo (s : State) (c : Nat) : (s.ikwTake c).ikw.fifo = s.ikw.fifo := by
  unfold State.ikwTake
  generalize he : s.p (ikwCodeP c) R.IkwCode.TOKENS (s.g (ikwCodeP c) R.IkwCode.TOKENS - 1) = t
  have ht : t.ikw = s.ikw := by rw [← he, State.p_ikw]
  dsimp only
  rw [he, apply_ite State.ikw, apply_ite Ikw.fifo]
  dsimp only
  rw [ht, ite_self]

theorem Kept.ite {m : Nat} {s₀ a b : State} {c : Prop} [Decidable c] (h : Kept m s₀ a) (k : Kept m s₀ b) :
    Kept m s₀ (if c then a else b) := by
  split <;> assumption

theorem Kept.foldl {m : Nat} {β : Type} {s₀ s : State} (h : Kept m s₀ s) (f : State → β → State) (l : List β)
    (k : ∀ x b, Kept m s₀ x → Kept m s₀ (f x b)) : Kept m s₀ (l.foldl f s) := by
  induction l generalizing s with
  | nil => exact h
  | cons x l ih => exact ih (k s x h)

theorem Kept.foldl_mem {m : Nat} {β : Type} {s₀ s : State} (h : Kept m s₀ s) (f : State → β → State) (l : List β)
    (k : ∀ x b, b ∈ l → Kept m s₀ x → Kept m s₀ (f x b)) : Kept m s₀ (l.foldl f s) := by
  induction l generalizing s with
  | nil => exact h
  | cons x l ih => exact ih (k s x (by simp) h) fun y b hb => k y b (by simp [hb])

theorem Kept.snd {m : Nat} {α : Type} {s₀ t : State} {e : α × State} {a : α} (h : e = (a, t)) (k : Kept m s₀ e.2) :
    Kept m s₀ t := by
  rw [h] at k; exact k

theorem Kept.ite2 {m : Nat} {α : Type} {s₀ : State} {a b : α × State} {c : Prop} [Decidable c] (h : Kept m s₀ a.2)
    (k : Kept m s₀ b.2) : Kept m s₀ (if c then a else b).2 := by
  split <;> assumption

/-- Fields of the state beside the register file and the memory change. -/
theorem Kept.mk' {m : Nat} {s₀ s : State} (h : Kept m s₀ s)
    (v_pmode : Bool)
    (v_latches : List (Nat × Word))
    (v_pends : List (Nat × Nat))
    (v_bus : Bus)
    (v_tbs : Tbs)
    (v_nets : List (Nat × TbsNet))
    (v_rdm : Rdm)
    (v_pair0 : Pair)
    (v_pair1 : Pair)
    (v_ikw : Ikw)
    (v_pcr : Pcr)
    (v_memc : Mem)
    (v_fresh : Nat)
    (v_fbs : List (Nat × Fb))
    (v_pos : List (Nat × Po))
    (v_pulses : List (Nat × Nat))
    (v_hoist : Hoist)
    (v_dlks : List (Nat × Dlk))
    (v_clg : Clg)
    (v_doors : List (Nat × Door))
    (v_safe : Safe)
    (v_ports : List (Nat × Port))
    (v_cve : Cve)
    (v_bnis : List (Nat × Bni))
    (h_pmode : m.testBit 33 = true ∨ v_pmode = s.pmode)
    (h_latches : m.testBit 36 = true ∨ v_latches = s.latches)
    (h_pends : m.testBit 37 = true ∨ v_pends = s.pends)
    (h_bus : m.testBit 38 = true ∨ v_bus = s.bus)
    (h_tbs : m.testBit 39 = true ∨ v_tbs = s.tbs)
    (h_nets : m.testBit 40 = true ∨ v_nets = s.nets)
    (h_rdm : m.testBit 41 = true ∨ v_rdm = s.rdm)
    (h_pair0 : m.testBit 42 = true ∨ v_pair0 = s.pair0)
    (h_pair1 : m.testBit 43 = true ∨ v_pair1 = s.pair1)
    (h_ikw : m.testBit 44 = true ∨ v_ikw = s.ikw)
    (h_pcr : m.testBit 45 = true ∨ v_pcr = s.pcr)
    (h_memc : m.testBit 46 = true ∨ v_memc = s.memc)
    (h_fresh : m.testBit 47 = true ∨ v_fresh = s.fresh)
    (h_fbs : m.testBit 49 = true ∨ v_fbs = s.fbs)
    (h_pos : m.testBit 50 = true ∨ v_pos = s.pos)
    (h_pulses : m.testBit 51 = true ∨ v_pulses = s.pulses)
    (h_hoist : m.testBit 52 = true ∨ v_hoist = s.hoist)
    (h_dlks : m.testBit 53 = true ∨ v_dlks = s.dlks)
    (h_clg : m.testBit 54 = true ∨ v_clg = s.clg)
    (h_doors : m.testBit 55 = true ∨ v_doors = s.doors)
    (h_safe : m.testBit 56 = true ∨ v_safe = s.safe)
    (h_ports : m.testBit 57 = true ∨ v_ports = s.ports)
    (h_cve : m.testBit 58 = true ∨ v_cve = s.cve)
    (h_bnis : m.testBit 59 = true ∨ v_bnis = s.bnis)
    (hacc : s.tbs.acc < 2 ^ 96 → v_tbs.acc < 2 ^ 96) (hfifo : s.ikw.fifo.length ≤ 128 → v_ikw.fifo.length ≤ 128)
    (hheld : s.rdm.held.length ≤ 32 → v_rdm.held.length ≤ 32)
    : Kept m s₀ ⟨s.lh6161, v_pmode, s.regs, s.mem, v_latches, v_pends, v_bus, v_tbs, v_nets, v_rdm, v_pair0, v_pair1, v_ikw, v_pcr, v_memc, v_fresh, s.pending, v_fbs, v_pos, v_pulses, v_hoist, v_dlks, v_clg, v_doors, v_safe, v_ports, v_cve, v_bnis⟩ :=
  h.trans (by
    constructor
    case acc => exact hacc
    case fifo => exact hfifo
    case held => exact hheld
    all_goals first | rfl | exact id | (intro _ _; rfl) | (intro hb; simp_all))

theorem Kept.set_pmode {m : Nat} {s₀ s : State} (h : Kept m s₀ s) (hb : m.testBit 33 = true) (v : Bool) :
    Kept m s₀ { s with pmode := v } :=
  h.trans (by
    constructor
    all_goals first | rfl | exact id | (intro _ _; rfl) | (intro _; rfl) | (intro hc; rw [hb] at hc; cases hc))

theorem Kept.set_latches {m : Nat} {s₀ s : State} (h : Kept m s₀ s) (hb : m.testBit 36 = true) (v : List (Nat × Word)) :
    Kept m s₀ { s with latches := v } :=
  h.trans (by
    constructor
    all_goals first | rfl | exact id | (intro _ _; rfl) | (intro _; rfl) | (intro hc; rw [hb] at hc; cases hc))

theorem Kept.set_pends {m : Nat} {s₀ s : State} (h : Kept m s₀ s) (hb : m.testBit 37 = true) (v : List (Nat × Nat)) :
    Kept m s₀ { s with pends := v } :=
  h.trans (by
    constructor
    all_goals first | rfl | exact id | (intro _ _; rfl) | (intro _; rfl) | (intro hc; rw [hb] at hc; cases hc))

theorem Kept.set_bus {m : Nat} {s₀ s : State} (h : Kept m s₀ s) (hb : m.testBit 38 = true) (v : Bus) :
    Kept m s₀ { s with bus := v } :=
  h.trans (by
    constructor
    all_goals first | rfl | exact id | (intro _ _; rfl) | (intro _; rfl) | (intro hc; rw [hb] at hc; cases hc))

theorem Kept.set_tbs {m : Nat} {s₀ s : State} (h : Kept m s₀ s) (hb : m.testBit 39 = true) (v : Tbs) (hx : s.tbs.acc < 2 ^ 96 → v.acc < 2 ^ 96) :
    Kept m s₀ { s with tbs := v } :=
  h.trans (by
    constructor
    all_goals first | rfl | exact id | exact hx | (intro _ _; rfl) | (intro _; rfl) | (intro hc; rw [hb] at hc; cases hc))

theorem Kept.set_nets {m : Nat} {s₀ s : State} (h : Kept m s₀ s) (hb : m.testBit 40 = true) (v : List (Nat × TbsNet)) :
    Kept m s₀ { s with nets := v } :=
  h.trans (by
    constructor
    all_goals first | rfl | exact id | (intro _ _; rfl) | (intro _; rfl) | (intro hc; rw [hb] at hc; cases hc))

theorem Kept.set_rdm {m : Nat} {s₀ s : State} (h : Kept m s₀ s) (hb : m.testBit 41 = true) (v : Rdm) (hx : s.rdm.held.length ≤ 32 → v.held.length ≤ 32) :
    Kept m s₀ { s with rdm := v } :=
  h.trans (by
    constructor
    all_goals first | rfl | exact id | exact hx | (intro _ _; rfl) | (intro _; rfl) | (intro hc; rw [hb] at hc; cases hc))

theorem Kept.set_pair0 {m : Nat} {s₀ s : State} (h : Kept m s₀ s) (hb : m.testBit 42 = true) (v : Pair) :
    Kept m s₀ { s with pair0 := v } :=
  h.trans (by
    constructor
    all_goals first | rfl | exact id | (intro _ _; rfl) | (intro _; rfl) | (intro hc; rw [hb] at hc; cases hc))

theorem Kept.set_pair1 {m : Nat} {s₀ s : State} (h : Kept m s₀ s) (hb : m.testBit 43 = true) (v : Pair) :
    Kept m s₀ { s with pair1 := v } :=
  h.trans (by
    constructor
    all_goals first | rfl | exact id | (intro _ _; rfl) | (intro _; rfl) | (intro hc; rw [hb] at hc; cases hc))

theorem Kept.set_ikw {m : Nat} {s₀ s : State} (h : Kept m s₀ s) (hb : m.testBit 44 = true) (v : Ikw) (hx : s.ikw.fifo.length ≤ 128 → v.fifo.length ≤ 128) :
    Kept m s₀ { s with ikw := v } :=
  h.trans (by
    constructor
    all_goals first | rfl | exact id | exact hx | (intro _ _; rfl) | (intro _; rfl) | (intro hc; rw [hb] at hc; cases hc))

theorem Kept.set_pcr {m : Nat} {s₀ s : State} (h : Kept m s₀ s) (hb : m.testBit 45 = true) (v : Pcr) :
    Kept m s₀ { s with pcr := v } :=
  h.trans (by
    constructor
    all_goals first | rfl | exact id | (intro _ _; rfl) | (intro _; rfl) | (intro hc; rw [hb] at hc; cases hc))

theorem Kept.set_memc {m : Nat} {s₀ s : State} (h : Kept m s₀ s) (hb : m.testBit 46 = true) (v : Mem) :
    Kept m s₀ { s with memc := v } :=
  h.trans (by
    constructor
    all_goals first | rfl | exact id | (intro _ _; rfl) | (intro _; rfl) | (intro hc; rw [hb] at hc; cases hc))

theorem Kept.set_fresh {m : Nat} {s₀ s : State} (h : Kept m s₀ s) (hb : m.testBit 47 = true) (v : Nat) :
    Kept m s₀ { s with fresh := v } :=
  h.trans (by
    constructor
    all_goals first | rfl | exact id | (intro _ _; rfl) | (intro _; rfl) | (intro hc; rw [hb] at hc; cases hc))

theorem Kept.set_fbs {m : Nat} {s₀ s : State} (h : Kept m s₀ s) (hb : m.testBit 49 = true) (v : List (Nat × Fb)) :
    Kept m s₀ { s with fbs := v } :=
  h.trans (by
    constructor
    all_goals first | rfl | exact id | (intro _ _; rfl) | (intro _; rfl) | (intro hc; rw [hb] at hc; cases hc))

theorem Kept.set_pos {m : Nat} {s₀ s : State} (h : Kept m s₀ s) (hb : m.testBit 50 = true) (v : List (Nat × Po)) :
    Kept m s₀ { s with pos := v } :=
  h.trans (by
    constructor
    all_goals first | rfl | exact id | (intro _ _; rfl) | (intro _; rfl) | (intro hc; rw [hb] at hc; cases hc))

theorem Kept.set_pulses {m : Nat} {s₀ s : State} (h : Kept m s₀ s) (hb : m.testBit 51 = true) (v : List (Nat × Nat)) :
    Kept m s₀ { s with pulses := v } :=
  h.trans (by
    constructor
    all_goals first | rfl | exact id | (intro _ _; rfl) | (intro _; rfl) | (intro hc; rw [hb] at hc; cases hc))

theorem Kept.set_hoist {m : Nat} {s₀ s : State} (h : Kept m s₀ s) (hb : m.testBit 52 = true) (v : Hoist) :
    Kept m s₀ { s with hoist := v } :=
  h.trans (by
    constructor
    all_goals first | rfl | exact id | (intro _ _; rfl) | (intro _; rfl) | (intro hc; rw [hb] at hc; cases hc))

theorem Kept.set_dlks {m : Nat} {s₀ s : State} (h : Kept m s₀ s) (hb : m.testBit 53 = true) (v : List (Nat × Dlk)) :
    Kept m s₀ { s with dlks := v } :=
  h.trans (by
    constructor
    all_goals first | rfl | exact id | (intro _ _; rfl) | (intro _; rfl) | (intro hc; rw [hb] at hc; cases hc))

theorem Kept.set_clg {m : Nat} {s₀ s : State} (h : Kept m s₀ s) (hb : m.testBit 54 = true) (v : Clg) :
    Kept m s₀ { s with clg := v } :=
  h.trans (by
    constructor
    all_goals first | rfl | exact id | (intro _ _; rfl) | (intro _; rfl) | (intro hc; rw [hb] at hc; cases hc))

theorem Kept.set_doors {m : Nat} {s₀ s : State} (h : Kept m s₀ s) (hb : m.testBit 55 = true) (v : List (Nat × Door)) :
    Kept m s₀ { s with doors := v } :=
  h.trans (by
    constructor
    all_goals first | rfl | exact id | (intro _ _; rfl) | (intro _; rfl) | (intro hc; rw [hb] at hc; cases hc))

theorem Kept.set_safe {m : Nat} {s₀ s : State} (h : Kept m s₀ s) (hb : m.testBit 56 = true) (v : Safe) :
    Kept m s₀ { s with safe := v } :=
  h.trans (by
    constructor
    all_goals first | rfl | exact id | (intro _ _; rfl) | (intro _; rfl) | (intro hc; rw [hb] at hc; cases hc))

theorem Kept.set_ports {m : Nat} {s₀ s : State} (h : Kept m s₀ s) (hb : m.testBit 57 = true) (v : List (Nat × Port)) :
    Kept m s₀ { s with ports := v } :=
  h.trans (by
    constructor
    all_goals first | rfl | exact id | (intro _ _; rfl) | (intro _; rfl) | (intro hc; rw [hb] at hc; cases hc))

theorem Kept.set_cve {m : Nat} {s₀ s : State} (h : Kept m s₀ s) (hb : m.testBit 58 = true) (v : Cve) :
    Kept m s₀ { s with cve := v } :=
  h.trans (by
    constructor
    all_goals first | rfl | exact id | (intro _ _; rfl) | (intro _; rfl) | (intro hc; rw [hb] at hc; cases hc))

theorem Kept.set_bnis {m : Nat} {s₀ s : State} (h : Kept m s₀ s) (hb : m.testBit 59 = true) (v : List (Nat × Bni)) :
    Kept m s₀ { s with bnis := v } :=
  h.trans (by
    constructor
    all_goals first | rfl | exact id | (intro _ _; rfl) | (intro _; rfl) | (intro hc; rw [hb] at hc; cases hc))




theorem State.wr_kept {m : Nat} {s₀ : State} {x0 : State} (x1 : Nat) (x2 : Word)
    (h : Kept m s₀ x0) (hm : Sub 0x0 m) (ha : At m x1) : Kept m s₀ (State.wr x0 x1 x2) := h.trans (by
    constructor
    case regsWf => exact fun w => Tab.wf_set _ _ _ _ w
    case rd =>
      intro a hb
      rw [State.rd_wr, if_neg]
      rintro rfl
      unfold At at ha; rw [ha] at hb; cases hb
    all_goals first | rfl | exact id | (intro _; rfl))

theorem State.p_kept {m : Nat} {s₀ : State} {x0 : State} (x1 : Nat) (x2 : Fld) (x3 : Nat)
    (h : Kept m s₀ x0) (hm : Sub 0x0 m) (ha : At m (x1 + x2.off)) : Kept m s₀ (State.p x0 x1 x2 x3) := by
  unfold State.p
  try dsimp only
  with_reducible repeat' first
    | assumption
    | apply State.wr_kept

theorem State.pI_kept {m : Nat} {s₀ : State} {x0 : State} (x1 : Nat) (x2 : Fld) (x3 : Int)
    (h : Kept m s₀ x0) (hm : Sub 0x0 m) (ha : At m (x1 + x2.off)) : Kept m s₀ (State.pI x0 x1 x2 x3) := by
  unfold State.pI
  try dsimp only
  with_reducible repeat' first
    | assumption
    | apply State.p_kept

theorem State.pB_kept {m : Nat} {s₀ : State} {x0 : State} (x1 : Nat) (x2 : Fld) (x3 : Bool)
    (h : Kept m s₀ x0) (hm : Sub 0x0 m) (ha : At m (x1 + x2.off)) : Kept m s₀ (State.pB x0 x1 x2 x3) := by
  unfold State.pB
  try dsimp only
  with_reducible repeat' first
    | assumption
    | apply State.p_kept

theorem State.inc_kept {m : Nat} {s₀ : State} {x0 : State} (x1 : Nat) (x2 : Fld) (x3 : optParam Nat 1)
    (h : Kept m s₀ x0) (hm : Sub 0x0 m) (ha : At m (x1 + x2.off)) : Kept m s₀ (State.inc x0 x1 x2 x3) := by
  unfold State.inc
  try dsimp only
  with_reducible repeat' first
    | assumption
    | apply State.p_kept

theorem State.peak_kept {m : Nat} {s₀ : State} {x0 : State} (x1 : Nat) (x2 : Fld) (x3 : Nat)
    (h : Kept m s₀ x0) (hm : Sub 0x0 m) (ha : At m (x1 + x2.off)) : Kept m s₀ (State.peak x0 x1 x2 x3) := by
  unfold State.peak
  try dsimp only
  with_reducible repeat' first
    | assumption
    | apply State.p_kept

theorem State.flt_kept {m : Nat} {s₀ : State} {x0 : State} (x1 : Nat)
    (h : Kept m s₀ x0) (hm : Sub 0x0 m) (hp : InPg m x1) : Kept m s₀ (State.flt x0 x1) := by
  unfold State.flt
  try dsimp only
  with_reducible repeat' first
    | assumption
    | apply State.inc_kept
    | (apply InPg.at hp; decide)

theorem State.fltOnce_kept {m : Nat} {s₀ : State} (x0 : State) (x1 : Nat) {x2 : State}
    (h : Kept m s₀ x2) (hm : Sub 0x0 m) (hp : InPg m x1) : Kept m s₀ (State.fltOnce x0 x1 x2) := by
  unfold State.fltOnce
  try dsimp only
  with_reducible repeat' first
    | assumption
    | apply Kept.ite
    | apply State.p_kept
    | (apply InPg.at hp; decide)

theorem State.pTs_kept {m : Nat} {s₀ : State} {x0 : State} (x1 : Nat) (x2 : Fld) (x3 : Fld) (x4 : Nat)
    (h : Kept m s₀ x0) (hm : Sub 0x0 m) (ha : At m (x1 + x2.off)) (hb : At m (x1 + x3.off)) : Kept m s₀ (State.pTs x0 x1 x2 x3 x4) := by
  unfold State.pTs
  try dsimp only
  with_reducible repeat' first
    | assumption
    | apply State.wr_kept

theorem State.wrStat_kept {m : Nat} {s₀ : State} {x0 : State} (x1 : Nat) (x2 : Word)
    (h : Kept m s₀ x0) (hm : Sub 0x0 m) (hp : InPg m x1) : Kept m s₀ (State.wrStat x0 x1 x2) := by
  unfold State.wrStat
  try dsimp only
  with_reducible repeat' first
    | assumption
    | apply Kept.ite
    | apply State.wr_kept
    | (apply InPg.at hp; decide)

theorem State.ps_kept {m : Nat} {s₀ : State} {x0 : State} (x1 : Nat) (x2 : Fld) (x3 : Nat)
    (h : Kept m s₀ x0) (hm : Sub 0x0 m) (hp : InPg m x1) : Kept m s₀ (State.ps x0 x1 x2 x3) := by
  unfold State.ps
  try dsimp only
  with_reducible repeat' first
    | assumption
    | apply State.wrStat_kept

theorem State.psB_kept {m : Nat} {s₀ : State} {x0 : State} (x1 : Nat) (x2 : Fld) (x3 : Bool)
    (h : Kept m s₀ x0) (hm : Sub 0x0 m) (hp : InPg m x1) : Kept m s₀ (State.psB x0 x1 x2 x3) := by
  unfold State.psB
  try dsimp only
  with_reducible repeat' first
    | assumption
    | apply State.ps_kept

theorem State.pm_kept {m : Nat} {s₀ : State} {x0 : State} (x1 : Fld) (x2 : Nat)
    (h : Kept m s₀ x0) (hm : Sub 0x100 m) : Kept m s₀ (State.pm x0 x1 x2) := by
  unfold State.pm
  try dsimp only
  with_reducible repeat' first
    | assumption
    | apply Kept.ite
    | apply State.wr_kept
    | (apply Sub.of hm; decide)
    | (apply InPg.at (InPg.mpgC (Sub.bit hm (by decide))) (by first | decide | assumption | (dsimp only; decide)))

theorem State.setPair_kept {m : Nat} {s₀ : State} {x0 : State} (x1 : Nat) (x2 : Pair)
    (h : Kept m s₀ x0) (hm : Sub 0xc0000000000 m) : Kept m s₀ (State.setPair x0 x1 x2) := by
  unfold State.setPair
  try dsimp only
  with_reducible repeat' first
    | assumption
    | apply Kept.ite
    | (apply Sub.bit hm; decide)
    | (fail_if_no_progress apply Kept.set_pair0)
    | (fail_if_no_progress apply Kept.set_pair1)
    | (fail_if_no_progress apply Kept.mk')

theorem State.setNet_kept {m : Nat} {s₀ : State} {x0 : State} (x1 : Nat) (x2 : TbsNet)
    (h : Kept m s₀ x0) (hm : Sub 0x10000000000 m) : Kept m s₀ (State.setNet x0 x1 x2) := by
  unfold State.setNet
  try dsimp only
  with_reducible repeat' first
    | assumption
    | (apply Sub.bit hm; decide)
    | (fail_if_no_progress apply Kept.set_nets)
    | (fail_if_no_progress apply Kept.mk')

theorem State.resumeCores_kept {m : Nat} {s₀ : State} {x0 : State}
    (h : Kept m s₀ x0) (hm : Sub 0xc0000000000 m) : Kept m s₀ (State.resumeCores x0) := by
  unfold State.resumeCores
  try dsimp only
  with_reducible repeat' first
    | assumption
    | (apply Or.inl; apply Sub.bit hm; decide)
    | (apply Or.inr; rfl)
    | (fail_if_no_progress apply Kept.set_pair0)
    | (fail_if_no_progress apply Kept.set_pair1)
    | (fail_if_no_progress apply Kept.mk')
    | ((intros; assumption))

theorem State.pend_kept {m : Nat} {s₀ : State} {x0 : State} (x1 : Nat)
    (h : Kept m s₀ x0) (hm : Sub 0xc2000000000 m) : Kept m s₀ (State.pend x0 x1) := by
  unfold State.pend
  try dsimp only
  with_reducible repeat' first
    | assumption
    | apply State.resumeCores_kept
    | (apply Sub.of hm; decide)
    | (apply Sub.bit hm; decide)
    | (fail_if_no_progress apply Kept.set_pends)
    | (fail_if_no_progress apply Kept.mk')

theorem State.withdraw_kept {m : Nat} {s₀ : State} {x0 : State} (x1 : Nat)
    (h : Kept m s₀ x0) (hm : Sub 0x2000000000 m) : Kept m s₀ (State.withdraw x0 x1) := by
  unfold State.withdraw
  try dsimp only
  with_reducible repeat' first
    | assumption
    | (apply Sub.bit hm; decide)
    | (fail_if_no_progress apply Kept.set_pends)
    | (fail_if_no_progress apply Kept.mk')

theorem State.irqM_kept {m : Nat} {s₀ : State} {x0 : State} (x1 : Nat) (x2 : Nat)
    (h : Kept m s₀ x0) (hm : Sub 0xc2000000000 m) (hp : InPg m x1) : Kept m s₀ (State.irqM x0 x1 x2) := by
  unfold State.irqM
  try dsimp only
  with_reducible repeat' first
    | assumption
    | apply Kept.ite
    | apply State.wr_kept
    | apply State.pend_kept
    | (apply Sub.of hm; decide)
    | (apply InPg.at hp; decide)

theorem State.irq_kept {m : Nat} {s₀ : State} {x0 : State} (x1 : Nat) (x2 : Nat)
    (h : Kept m s₀ x0) (hm : Sub 0xc2000000000 m) (hp : InPg m x1) : Kept m s₀ (State.irq x0 x1 x2) := by
  unfold State.irq
  try dsimp only
  with_reducible repeat' first
    | assumption
    | apply State.irqM_kept

theorem State.incIrq_kept {m : Nat} {s₀ : State} {x0 : State} (x1 : Nat) (x2 : Fld) (x3 : Nat) (x4 : Nat)
    (h : Kept m s₀ x0) (hm : Sub 0xc2000000000 m) (ha : At m (x1 + x2.off)) (hp : InPg m x3) : Kept m s₀ (State.incIrq x0 x1 x2 x3 x4) := by
  unfold State.incIrq
  try dsimp only
  with_reducible repeat' first
    | assumption
    | apply Kept.ite
    | apply State.irq_kept
    | apply State.inc_kept
    | (apply Sub.of hm; decide)

theorem State.drew_kept {m : Nat} {s₀ : State} {x0 : State} (x1 : optParam Nat 1)
    (h : Kept m s₀ x0) (hm : Sub 0x800000000000 m) : Kept m s₀ (State.drew x0 x1) := by
  unfold State.drew
  try dsimp only
  with_reducible repeat' first
    | assumption
    | (apply Sub.bit hm; decide)
    | (fail_if_no_progress apply Kept.set_fresh)
    | (fail_if_no_progress apply Kept.mk')

theorem State.ikwShow_kept {m : Nat} {s₀ : State} {x0 : State}
    (h : Kept m s₀ x0) (hm : Sub 0x8 m) : Kept m s₀ (State.ikwShow x0) := by
  unfold State.ikwShow
  try dsimp only
  with_reducible repeat' first
    | assumption
    | apply State.p_kept
    | apply State.peak_kept
    | apply State.psB_kept
    | (apply Sub.of hm; decide)
    | (apply InPg.at (InPg.ikwC (Sub.bit hm (by decide))) (by first | decide | assumption | (dsimp only; decide)))
    | apply InPg.ikwC (Sub.bit hm (by decide))

theorem State.ikwEnter_kept {m : Nat} {s₀ : State} {x0 : State} (x1 : IkwRec)
    (h : Kept m s₀ x0) (hm : Sub 0x1c2000000008 m) (hl : x0.ikw.fifo.length < 128) : Kept m s₀ (State.ikwEnter x0 x1) := by
  unfold State.ikwEnter
  dsimp only
  have h1 : Kept m s₀ { x0 with ikw := { x0.ikw with fifo := recIn x1 x0.ikw.fifo } } :=
    Kept.set_ikw h (Sub.bit hm (by decide)) _ fun _ => by
      rw [recIn_length]; omega
  with_reducible repeat' first
    | assumption
    | apply Kept.ite
    | apply State.irq_kept
    | apply State.ikwShow_kept
    | (apply Sub.of hm; decide)
    | apply InPg.ikwC (Sub.bit hm (by decide))
    | (fail_if_no_progress apply Kept.set_ikw)
    | (fail_if_no_progress apply Kept.mk')

theorem State.ikwSeq_kept {m : Nat} {s₀ : State} {x0 : State} (x1 : Nat)
    (h : Kept m s₀ x0) (hm : Sub 0x100000000000 m) : Kept m s₀ (State.ikwSeq x0 x1).2 := by
  unfold State.ikwSeq
  try dsimp only
  with_reducible repeat' first
    | assumption
    | (apply Sub.bit hm; decide)
    | (fail_if_no_progress apply Kept.set_ikw)
    | (fail_if_no_progress apply Kept.mk')
    | exact fun hx => hx

theorem State.ikwRefill_kept {m : Nat} {s₀ : State} {x0 : State} (x1 : Nat)
    (h : Kept m s₀ x0) (hm : Sub 0x100000000008 m) : Kept m s₀ (State.ikwRefill x0 x1) := by
  unfold State.ikwRefill
  try dsimp only
  with_reducible repeat' first
    | assumption
    | apply Kept.ite
    | apply State.p_kept
    | (apply Sub.of hm; decide)
    | (apply Sub.bit hm; decide)
    | (apply InPg.at (InPg.ikwCodeP _ (Sub.bit hm (by decide))) (by first | decide | assumption | (dsimp only; decide)))
    | (fail_if_no_progress apply Kept.set_ikw)
    | (fail_if_no_progress apply Kept.mk')
    | exact fun hx => hx

theorem State.ikwTake_kept {m : Nat} {s₀ : State} {x0 : State} (x1 : Nat)
    (h : Kept m s₀ x0) (hm : Sub 0x100000000008 m) : Kept m s₀ (State.ikwTake x0 x1) := by
  unfold State.ikwTake
  try dsimp only
  with_reducible repeat' first
    | assumption
    | apply Kept.ite
    | apply State.p_kept
    | (apply Sub.of hm; decide)
    | (apply Sub.bit hm; decide)
    | (apply InPg.at (InPg.ikwCodeP _ (Sub.bit hm (by decide))) (by first | decide | assumption | (dsimp only; decide)))
    | (fail_if_no_progress apply Kept.set_ikw)
    | (fail_if_no_progress apply Kept.mk')
    | exact fun hx => hx

theorem State.ikwSuppress_kept {m : Nat} {s₀ : State} {x0 : State} (x1 : Nat) (x2 : Nat)
    (h : Kept m s₀ x0) (hm : Sub 0xc2000000008 m) : Kept m s₀ (State.ikwSuppress x0 x1 x2) := by
  unfold State.ikwSuppress
  try dsimp only
  with_reducible repeat' first
    | assumption
    | apply Kept.ite
    | apply State.inc_kept
    | apply State.irq_kept
    | apply State.pTs_kept
    | apply State.p_kept
    | (apply Sub.of hm; decide)
    | (apply InPg.at (InPg.ikwSupP _ (Sub.bit hm (by decide))) (by first | decide | assumption | (dsimp only; decide)))
    | (apply InPg.at (InPg.ikwC (Sub.bit hm (by decide))) (by first | decide | assumption | (dsimp only; decide)))
    | apply InPg.ikwC (Sub.bit hm (by decide))
    | (apply InPg.at (InPg.ikwCodeP _ (Sub.bit hm (by decide))) (by first | decide | assumption | (dsimp only; decide)))
    | split

theorem State.ikwSummary_kept {m : Nat} {s₀ : State} {x0 : State} (x1 : Nat)
    (h : Kept m s₀ x0) (hm : Sub 0x1c2000000008 m) : Kept m s₀ (State.ikwSummary x0 x1) := by
  unfold State.ikwSummary
  dsimp only
  split
  · exact h
  · rename_i hc
    have ha : x0.ikwAccepts (x0.g (ikwCodeP x1) R.IkwCode.SEV) = true := by
      cases hq : x0.ikwAccepts (x0.g (ikwCodeP x1) R.IkwCode.SEV)
      · exact absurd (by rw [hq]; simp) hc
      · rfl
    have hl : ((x0.ikwTake x1).ikwSeq 768).2.ikw.fifo.length < 128 := by
      show (x0.ikwTake x1).ikw.fifo.length < 128
      rw [State.ikwTake_fifo]; exact accepts_lt ha
    have k := State.ikwSeq_kept 768 (State.ikwTake_kept x1 h (Sub.of hm (by decide))) (Sub.of hm (by decide))
    revert hl k
    generalize (x0.ikwTake x1).ikwSeq 768 = e
    obtain ⟨n, s2⟩ := e
    intro hl k
    dsimp only at hl k ⊢
    have hi : InPg m (ikwSupP x1) := InPg.ikwSupP _ (Sub.bit hm (by decide))
    refine State.p_kept _ _ _ ?_ (Sub.of hm (by decide)) (InPg.at (InPg.ikwCodeP _ (Sub.bit hm (by decide))) (by decide))
    iterate 5 refine State.wr_kept _ _ ?_ (Sub.of hm (by decide)) (hi.at (by decide))
    refine State.wr_kept _ _ ?_ (Sub.of hm (by decide)) hi.at0
    exact State.ikwEnter_kept _ k (Sub.of hm (by decide)) hl

theorem State.ikwOffer_kept {m : Nat} {s₀ : State} {x0 : State} (x1 : Nat) (x2 : Nat) (x3 : List Word)
    (h : Kept m s₀ x0) (hm : Sub 0x1c2000000008 m) : Kept m s₀ (State.ikwOffer x0 x1 x2 x3) := by
  unfold State.ikwOffer
  have k := State.ikwSeq_kept x2 h (Sub.of hm (by decide))
  revert k
  generalize x0.ikwSeq x2 = e
  obtain ⟨n, s1⟩ := e
  intro k
  dsimp only at k ⊢
  have k2 := State.ikwSummary_kept x1 (State.ikwRefill_kept x1 k (Sub.of hm (by decide))) (Sub.of hm (by decide))
  revert k2
  generalize (s1.ikwRefill x1).ikwSummary x1 = s2
  intro k2
  split
  · exact State.ikwSuppress_kept _ _ k2 (Sub.of hm (by decide))
  · split
    · exact State.ikwSuppress_kept _ _ k2 (Sub.of hm (by decide))
    · rename_i hc
      have ha : s2.ikwAccepts (s2.g (ikwCodeP x1) R.IkwCode.SEV) = true := by
        cases hq : s2.ikwAccepts (s2.g (ikwCodeP x1) R.IkwCode.SEV)
        · exact absurd (by rw [hq]; rfl) hc
        · rfl
      exact State.ikwEnter_kept _ (State.ikwTake_kept _ k2 (Sub.of hm (by decide))) (Sub.of hm (by decide))
        (by rw [State.ikwTake_fifo]; exact accepts_lt ha)

theorem State.fwPrune_kept {m : Nat} {s₀ : State} {x0 : State} (x1 : Nat)
    (h : Kept m s₀ x0) (hm : Sub 0x20000000000 m) : Kept m s₀ (State.fwPrune x0 x1) := by
  unfold State.fwPrune
  try dsimp only
  with_reducible repeat' first
    | assumption
    | (apply Sub.bit hm; decide)
    | (fail_if_no_progress apply Kept.set_rdm)
    | (fail_if_no_progress apply Kept.mk')
    | exact fun hx => hx

theorem State.fwApply_kept {m : Nat} {s₀ : State} {x0 : State} (x1 : Nat) (x2 : Nat)
    (h : Kept m s₀ x0) (hm : Sub 0x1e200000000c m) : Kept m s₀ (State.fwApply x0 x1 x2) := by
  unfold State.fwApply
  try dsimp only
  with_reducible repeat' first
    | assumption
    | apply Kept.ite
    | apply State.pTs_kept
    | apply State.inc_kept
    | apply State.irq_kept
    | apply State.p_kept
    | apply State.ikwOffer_kept
    | (apply Sub.of hm; decide)
    | (apply Sub.bit hm; decide)
    | (apply InPg.at (InPg.fwP _ (Sub.bit hm (by decide))) (by first | decide | assumption | (dsimp only; decide)))
    | apply InPg.rdmC (Sub.bit hm (by decide))
    | (fail_if_no_progress apply Kept.set_rdm)
    | (fail_if_no_progress apply Kept.mk')
    | exact fun hx => hx

theorem State.fwOccur_kept {m : Nat} {s₀ : State} {x0 : State} (x1 : Nat)
    (h : Kept m s₀ x0) (hm : Sub 0x1e200000000c m) : Kept m s₀ (State.fwOccur x0 x1) := by
  unfold State.fwOccur
  split
  · split
    · rename_i hl
      exact Kept.set_rdm h (Sub.bit hm (by decide)) _ fun _ => by
        rw [List.length_append, List.length_singleton]; omega
    · exact State.ps_kept _ _ _ h (Sub.of hm (by decide)) (InPg.rdmC (Sub.bit hm (by decide)))
  · exact State.fwApply_kept _ _ h (Sub.of hm (by decide))

theorem State.ticksRun_kept {m : Nat} {s₀ : State} {x0 : State} (x1 : Nat)
    (h : Kept m s₀ x0) (hm : Sub 0x8000000000 m) : Kept m s₀ (State.ticksRun x0 x1) := by
  unfold State.ticksRun
  try dsimp only
  with_reducible repeat' first
    | assumption
    | apply Kept.ite
    | (apply Sub.bit hm; decide)
    | (fail_if_no_progress apply Kept.set_tbs)
    | (fail_if_no_progress apply Kept.mk')
    | exact fun hx => hx
    | exact fun _ => acc_lt _

theorem State.ticks_kept {m : Nat} {s₀ : State} {x0 : State} (x1 : Nat)
    (h : Kept m s₀ x0) (hm : Sub 0xca000000002 m) : Kept m s₀ (State.ticks x0 x1) := by
  unfold State.ticks
  try dsimp only
  with_reducible repeat' first
    | assumption
    | apply Kept.ite
    | apply State.ticksRun_kept
    | apply State.irq_kept
    | apply State.psB_kept
    | (apply Sub.of hm; decide)
    | apply InPg.tbsC (Sub.bit hm (by decide))

theorem State.slewBy_kept {m : Nat} {s₀ : State} {x0 : State} (x1 : Int)
    (h : Kept m s₀ x0) (hm : Sub 0x8000000002 m) : Kept m s₀ (State.slewBy x0 x1) := by
  unfold State.slewBy
  try dsimp only
  with_reducible repeat' first
    | assumption
    | apply State.psB_kept
    | (apply Sub.of hm; decide)
    | (apply Sub.bit hm; decide)
    | apply InPg.tbsC (Sub.bit hm (by decide))
    | (fail_if_no_progress apply Kept.set_tbs)
    | (fail_if_no_progress apply Kept.mk')
    | exact fun hx => hx

theorem State.stepTick_kept {m : Nat} {s₀ : State} {x0 : State} (x1 : Int)
    (h : Kept m s₀ x0) (hm : Sub 0x1da00000000a m) : Kept m s₀ (State.stepTick x0 x1) := by
  unfold State.stepTick
  extract_lets before src s1 s2 src2 s2b src3 s3 s4 s5 s6
  have k1 : Kept m s₀ s1 := Kept.set_tbs h (Sub.bit hm (by decide)) _ (fun hx => hx)
  clear_value s1
  have k2 : Kept m s₀ s2 := State.ticks_kept _ k1 (Sub.of hm (by decide))
  clear_value s2
  have k2b : Kept m s₀ s2b := Kept.set_tbs k2 (Sub.bit hm (by decide)) _ (fun _ => Nat.mod_lt _ (by decide))
  clear_value s2b
  have k3 : Kept m s₀ s3 := State.psB_kept _ _ _ (Kept.set_tbs k2b (Sub.bit hm (by decide)) _ (fun hx => hx)) (Sub.of hm (by decide)) (InPg.tbsC (Sub.bit hm (by decide)))
  clear_value s3
  have k4 : Kept m s₀ s4 := by
    refine State.pTs_kept _ _ _ _ k3 (Sub.of hm (by decide)) ?_ ?_ <;> exact (InPg.tbsC (Sub.bit hm (by decide))).at (by decide)
  clear_value s4
  have k5 : Kept m s₀ s5 := State.irq_kept _ _ (State.inc_kept _ _ _ k4 (Sub.of hm (by decide)) ((InPg.tbsC (Sub.bit hm (by decide))).at (by decide))) (Sub.of hm (by decide)) (InPg.tbsC (Sub.bit hm (by decide)))
  clear_value s5
  have k6 : Kept m s₀ s6 := Kept.foldl k5 _ _ fun y n hy => State.setNet_kept _ _ hy (Sub.of hm (by decide))
  clear_value s6
  exact State.ikwOffer_kept _ _ _ k6 (Sub.of hm (by decide))

theorem State.tick_kept {m : Nat} {s₀ : State} {x0 : State}
    (h : Kept m s₀ x0) (hm : Sub 0x1da00000000a m) : Kept m s₀ (State.tick x0) := by
  unfold State.tick
  split
  · exact State.ticks_kept _ h (Sub.of hm (by decide))
  · cases x0.tbs.ofs with
    | nil => exact State.ticks_kept _ h (Sub.of hm (by decide))
    | cons o rest =>
      dsimp only
      split
      · exact State.stepTick_kept _ (Kept.set_tbs h (Sub.bit hm (by decide)) _ (fun hx => hx)) (Sub.of hm (by decide))
      · exact State.ticks_kept _ (State.slewBy_kept _ (Kept.set_tbs h (Sub.bit hm (by decide)) _ (fun hx => hx)) (Sub.of hm (by decide))) (Sub.of hm (by decide))

theorem State.ticksOfs_kept {m : Nat} {s₀ : State} (x0 : Nat) {x1 : State}
    (h : Kept m s₀ x1) (hm : Sub 0x1da00000000a m) : Kept m s₀ (State.ticksOfs x0 x1).2 := by
  induction x0 generalizing x1 with
  | zero => unfold State.ticksOfs; exact h
  | succ n ih =>
    unfold State.ticksOfs
    split
    · exact h
    · exact ih (State.tick_kept h (Sub.of hm (by decide)))

theorem State.advance_kept {m : Nat} {s₀ : State} {x0 : State} (x1 : Nat)
    (h : Kept m s₀ x0) (hm : Sub 0x1da00000000a m) : Kept m s₀ (State.advance x0 x1) := by
  unfold State.advance
  try dsimp only
  with_reducible repeat' first
    | assumption
    | apply State.ticksOfs_kept
    | apply State.ticks_kept
    | (apply Sub.of hm; decide)

theorem State.offsTo_kept {m : Nat} {s₀ : State} (x0 : Nat) {x1 : State} (x2 : Nat)
    (h : Kept m s₀ x1) (hm : Sub 0x1da00000000a m) : Kept m s₀ (State.offsTo x0 x1 x2) := by
  induction x0 generalizing x1 with
  | zero => unfold State.offsTo; exact h
  | succ n ih =>
    unfold State.offsTo
    split
    · exact h
    · exact ih (State.tick_kept h (Sub.of hm (by decide)))

theorem State.untilStamp_kept {m : Nat} {s₀ : State} {x0 : State} (x1 : Nat)
    (h : Kept m s₀ x0) (hm : Sub 0x1da00000000a m) : Kept m s₀ (State.untilStamp x0 x1) := by
  unfold State.untilStamp
  try dsimp only
  with_reducible repeat' first
    | assumption
    | apply Kept.ite
    | apply State.offsTo_kept
    | apply State.ticks_kept
    | (apply Sub.of hm; decide)

theorem State.advanceTo_kept {m : Nat} {s₀ : State} {x0 : State} (x1 : Nat)
    (h : Kept m s₀ x0) (hm : Sub 0x1da00000000a m) : Kept m s₀ (State.advanceTo x0 x1) := by
  unfold State.advanceTo
  try dsimp only
  with_reducible repeat' first
    | assumption
    | apply Kept.ite
    | apply State.advance_kept

theorem State.setByte_kept {m : Nat} {s₀ : State} {x0 : State} (x1 : Nat) (x2 : Nat)
    (h : Kept m s₀ x0) (hm : Sub 0x800000000 m) : Kept m s₀ (State.setByte x0 x1 x2) := h.trans (by
    constructor
    case memWf => exact fun w => Tab.wf_set _ _ _ _ w
    all_goals first | rfl | exact id | (intro _; rfl) | (intro _ _; rfl) | (intro hb; rw [Sub.bit hm (by decide)] at hb; cases hb))

theorem State.mput_kept {m : Nat} {s₀ : State} {x0 : State} (x1 : Nat) (x2 : List Nat)
    (h : Kept m s₀ x0) (hm : Sub 0x800000000 m) : Kept m s₀ (State.mput x0 x1 x2) := by
  induction x2 generalizing x0 x1 with
  | nil => unfold State.mput; exact h
  | cons b l ih => unfold State.mput; exact ih _ (State.setByte_kept _ _ h (Sub.of hm (by decide)))

theorem State.eccClean_kept {m : Nat} {s₀ : State} {x0 : State} (x1 : Nat) (x2 : Nat)
    (h : Kept m s₀ x0) (hm : Sub 0x400000000000 m) : Kept m s₀ (State.eccClean x0 x1 x2) := by
  unfold State.eccClean
  try dsimp only
  with_reducible repeat' first
    | assumption
    | (apply Sub.bit hm; decide)
    | (fail_if_no_progress apply Kept.set_memc)
    | (fail_if_no_progress apply Kept.mk')

theorem State.mputEcc_kept {m : Nat} {s₀ : State} {x0 : State} (x1 : Nat) (x2 : List Nat)
    (h : Kept m s₀ x0) (hm : Sub 0x400800000000 m) : Kept m s₀ (State.mputEcc x0 x1 x2) := by
  unfold State.mputEcc
  try dsimp only
  with_reducible repeat' first
    | assumption
    | apply State.eccClean_kept
    | apply State.mput_kept
    | (apply Sub.of hm; decide)

theorem State.breakHalf_kept {m : Nat} {s₀ : State} {x0 : State} (x1 : Nat)
    (h : Kept m s₀ x0) (hm : Sub 0x0 m) (ha : At m x1) : Kept m s₀ (State.breakHalf x0 x1) := by
  unfold State.breakHalf
  cases hl : locate x1 with
  | none => exact h
  | some l =>
    dsimp only
    apply Kept.ite _ h
    exact State.p_kept _ _ _ h (Sub.of hm (by decide)) ((at_base hl ha).1.at (by decide))

theorem State.onWrite_kept {m : Nat} {s₀ : State} {x0 : State} (x1 : Ini) (x2 : Nat) (x3 : State → State)
    (h : Kept m s₀ x0) (hm : Sub 0x4000020000 m) (ha : At m x2) (h3 : ∀ y, Kept m s₀ y → Kept m s₀ (x3 y)) : Kept m s₀ (State.onWrite x0 x1 x2 x3) := by
  unfold State.onWrite
  cases x0.verdictW x1 x2 with
  | ok => exact h3 _ (State.breakHalf_kept _ (Kept.set_bus h (Sub.bit hm (by decide)) _) (Sub.of hm (by decide)) ha)
  | silent p =>
    refine State.wr_kept _ _ (State.inc_kept _ _ _ (Kept.set_bus h (Sub.bit hm (by decide)) _) (Sub.of hm (by decide)) ?_)
      (Sub.of hm (by decide)) ?_
    · exact InPg.at (InPg.apxP _ (Sub.bit hm (by decide))) (by decide)
    · exact InPg.at (InPg.apxP _ (Sub.bit hm (by decide))) (by decide)
  | errCount =>
    exact State.flt_kept _ (Kept.set_bus h (Sub.bit hm (by decide)) _) (Sub.of hm (by decide)) (InPg.apxC (Sub.bit hm (by decide)))
  | err => exact Kept.set_bus h (Sub.bit hm (by decide)) _
  | fused => exact Kept.set_bus h (Sub.bit hm (by decide)) _
  | blocked => exact h

theorem State.lockWrite_kept {m : Nat} {s₀ : State} {x0 : State} (x1 : Nat) (x2 : Word)
    (h : Kept m s₀ x0) (hm : Sub 0x0 m) (hp : InPg m x1) : Kept m s₀ (State.lockWrite x0 x1 x2) := by
  unfold State.lockWrite
  try dsimp only
  with_reducible repeat' first
    | assumption
    | apply Kept.ite
    | apply State.wr_kept
    | (apply InPg.at hp; decide)

theorem State.irqEnable_kept {m : Nat} {s₀ : State} {x0 : State} (x1 : Nat) (x2 : Word)
    (h : Kept m s₀ x0) (hm : Sub 0xc2000000000 m) (hp : InPg m x1) : Kept m s₀ (State.irqEnable x0 x1 x2) := by
  unfold State.irqEnable
  try dsimp only
  with_reducible repeat' first
    | assumption
    | apply Kept.ite
    | apply State.wr_kept
    | apply State.pend_kept
    | (apply Sub.of hm; decide)
    | (apply InPg.at hp; decide)

theorem State.irqClear_kept {m : Nat} {s₀ : State} {x0 : State} (x1 : Nat) (x2 : Word)
    (h : Kept m s₀ x0) (hm : Sub 0x2000000000 m) (hp : InPg m x1) : Kept m s₀ (State.irqClear x0 x1 x2) := by
  unfold State.irqClear
  try dsimp only
  with_reducible repeat' first
    | assumption
    | apply Kept.ite
    | apply State.wr_kept
    | apply State.withdraw_kept
    | (apply Sub.of hm; decide)
    | (apply InPg.at hp; decide)

theorem State.land_kept {m : Nat} {s₀ : State} {x0 : State} (x1 : Nat) (x2 : Word)
    (h : Kept m s₀ x0) (hm : Sub 0xc2000000000 m) (ha : At m x1) : Kept m s₀ (State.land x0 x1 x2) := by
  unfold State.land
  cases hl : locate x1 with
  | none => exact h
  | some l =>
    have hp := (at_base hl ha).1
    have hq := (at_base hl ha).2
    dsimp only
    with_reducible repeat' first
    | assumption
    | apply Kept.ite
    | apply State.irqEnable_kept
    | apply State.irqClear_kept
    | apply State.irqM_kept
    | apply State.lockWrite_kept
    | apply State.flt_kept
    | apply State.wrStat_kept
    | apply State.wr_kept
    | (apply Sub.of hm; decide)

theorem State.discard_kept {m : Nat} {s₀ : State} {x0 : State} (x1 : Nat)
    (h : Kept m s₀ x0) (hm : Sub 0x0 m) (ha : At m x1) : Kept m s₀ (State.discard x0 x1) := by
  unfold State.discard
  cases hl : locate x1 with
  | none => exact h
  | some l => exact State.flt_kept _ h (Sub.of hm (by decide)) (at_base hl ha).2

theorem State.setStream_kept {m : Nat} {s₀ : State} {x0 : State} (x1 : Nat) (x2 : NibStream)
    (h : Kept m s₀ x0) (hm : Sub 0x20000000000 m) : Kept m s₀ (State.setStream x0 x1 x2) := by
  unfold State.setStream
  try dsimp only
  with_reducible repeat' first
    | assumption
    | (apply Sub.bit hm; decide)
    | (fail_if_no_progress apply Kept.set_rdm)
    | (fail_if_no_progress apply Kept.mk')
    | exact fun hx => hx

theorem State.memShow_kept {m : Nat} {s₀ : State} {x0 : State} (x1 : State)
    (h : Kept m s₀ x0) (hm : Sub 0x10 m) : Kept m s₀ (State.memShow x0 x1) := by
  unfold State.memShow
  try dsimp only
  with_reducible repeat' first
    | assumption
    | apply Kept.ite
    | apply State.pTs_kept
    | (apply Sub.of hm; decide)
    | (apply InPg.at (InPg.memC (Sub.bit hm (by decide))) (by first | decide | assumption | (dsimp only; decide)))

theorem State.readReg_kept {m : Nat} {s₀ : State} {x0 : State} (x1 : Ini) (x2 : Nat)
    (h : Kept m s₀ x0) (hm : Sub 0x5000000000 m) : Kept m s₀ (State.readReg x0 x1 x2) := by
  unfold State.readReg
  have kb : ∀ b, Kept m s₀ { x0 with bus := b } := fun b => Kept.set_bus h (Sub.bit hm (by decide)) _
  split
  · refine Kept.ite (kb _) (Kept.ite ?_ (Kept.ite (kb _) (kb _)))
    exact (by apply Kept.mk' h <;> first | exact .inr rfl | exact .inl (Sub.bit hm (by decide)) | exact fun hx => hx)
  · exact h
  · exact kb _

theorem State.setFb_kept {m : Nat} {s₀ : State} {x0 : State} (x1 : Nat) (x2 : Fb)
    (h : Kept m s₀ x0) (hm : Sub 0x2000000000000 m) : Kept m s₀ (State.setFb x0 x1 x2) := by
  unfold State.setFb
  try dsimp only
  with_reducible repeat' first
    | assumption
    | (apply Sub.bit hm; decide)
    | (fail_if_no_progress apply Kept.set_fbs)
    | (fail_if_no_progress apply Kept.mk')

theorem State.setPo_kept {m : Nat} {s₀ : State} {x0 : State} (x1 : Nat) (x2 : Po)
    (h : Kept m s₀ x0) (hm : Sub 0x4000000000000 m) : Kept m s₀ (State.setPo x0 x1 x2) := by
  unfold State.setPo
  try dsimp only
  with_reducible repeat' first
    | assumption
    | (apply Sub.bit hm; decide)
    | (fail_if_no_progress apply Kept.set_pos)
    | (fail_if_no_progress apply Kept.mk')

theorem State.fbValidate_kept {m : Nat} {s₀ : State} {x0 : State} (x1 : Nat)
    (h : Kept m s₀ x0) (hm : Sub 0x800 m) : Kept m s₀ (State.fbValidate x0 x1) := by
  unfold State.fbValidate
  try dsimp only
  with_reducible repeat' first
    | assumption
    | apply State.psB_kept
    | (apply Sub.of hm; decide)
    | apply InPg.fbP _ (Sub.bit hm (by decide))

theorem State.cmpFire_kept {m : Nat} {s₀ : State} {x0 : State} (x1 : Nat) (x2 : Nat) (x3 : Nat)
    (h : Kept m s₀ x0) (hm : Sub 0x80c2000000800 m) : Kept m s₀ (State.cmpFire x0 x1 x2 x3) := by
  unfold State.cmpFire
  try dsimp only
  with_reducible repeat' first
    | assumption
    | apply State.p_kept
    | apply State.pTs_kept
    | apply State.irq_kept
    | (apply Sub.of hm; decide)
    | (apply Sub.bit hm; decide)
    | (apply InPg.at (InPg.cmpP _ _ (Sub.bit hm (by decide))) (by first | decide | assumption | (dsimp only; decide)))
    | apply InPg.fbP _ (Sub.bit hm (by decide))
    | (fail_if_no_progress apply Kept.set_pulses)
    | (fail_if_no_progress apply Kept.mk')

theorem State.cmpMiss_kept {m : Nat} {s₀ : State} {x0 : State} (x1 : Nat) (x2 : Nat)
    (h : Kept m s₀ x0) (hm : Sub 0xc2000000800 m) : Kept m s₀ (State.cmpMiss x0 x1 x2) := by
  unfold State.cmpMiss
  try dsimp only
  with_reducible repeat' first
    | assumption
    | apply State.irq_kept
    | apply State.p_kept
    | (apply Sub.of hm; decide)
    | (apply InPg.at (InPg.cmpP _ _ (Sub.bit hm (by decide))) (by first | decide | assumption | (dsimp only; decide)))
    | apply InPg.fbP _ (Sub.bit hm (by decide))

theorem State.cmpLate_kept {m : Nat} {s₀ : State} {x0 : State} (x1 : Nat) (x2 : Nat) (x3 : Nat)
    (h : Kept m s₀ x0) (hm : Sub 0x80c2000000800 m) : Kept m s₀ (State.cmpLate x0 x1 x2 x3) := by
  unfold State.cmpLate
  try dsimp only
  with_reducible repeat' first
    | assumption
    | apply Kept.ite
    | apply State.p_kept
    | apply State.cmpFire_kept
    | apply State.cmpMiss_kept
    | (apply Sub.of hm; decide)
    | (apply InPg.at (InPg.cmpP _ _ (Sub.bit hm (by decide))) (by first | decide | assumption | (dsimp only; decide)))

theorem State.cmpCheck_kept {m : Nat} {s₀ : State} {x0 : State} (x1 : Nat) (x2 : Int) (x3 : Nat)
    (h : Kept m s₀ x0) (hm : Sub 0x80c2000000800 m) : Kept m s₀ (State.cmpCheck x0 x1 x2 x3) := by
  unfold State.cmpCheck
  try dsimp only
  with_reducible repeat' first
    | assumption
    | apply Kept.ite
    | apply State.cmpFire_kept
    | apply Kept.foldl
    | intro _ _ _

theorem State.cmpRetest_kept {m : Nat} {s₀ : State} {x0 : State} (x1 : Nat)
    (h : Kept m s₀ x0) (hm : Sub 0x80c2000000800 m) : Kept m s₀ (State.cmpRetest x0 x1) := by
  unfold State.cmpRetest
  try dsimp only
  with_reducible repeat' first
    | assumption
    | apply Kept.ite
    | apply State.cmpLate_kept
    | apply Kept.foldl
    | intro _ _ _

theorem State.posUpdate_kept {m : Nat} {s₀ : State} {x0 : State} (x1 : Nat)
    (h : Kept m s₀ x0) (hm : Sub 0xc2000000800 m) : Kept m s₀ (State.posUpdate x0 x1) := by
  unfold State.posUpdate
  try dsimp only
  with_reducible repeat' first
    | assumption
    | apply Kept.ite
    | apply State.pI_kept
    | apply State.irq_kept
    | apply State.psB_kept
    | (apply Sub.of hm; decide)
    | (apply InPg.at (InPg.fbP _ (Sub.bit hm (by decide))) (by first | decide | assumption | (dsimp only; decide)))
    | apply InPg.fbP _ (Sub.bit hm (by decide))

theorem State.posMoved_kept {m : Nat} {s₀ : State} {x0 : State} (x1 : Nat) (x2 : Nat)
    (h : Kept m s₀ x0) (hm : Sub 0x80c2000000800 m) : Kept m s₀ (State.posMoved x0 x1 x2) := by
  unfold State.posMoved
  try dsimp only
  with_reducible repeat' first
    | assumption
    | apply Kept.ite
    | apply State.posUpdate_kept
    | apply State.cmpCheck_kept
    | (apply Sub.of hm; decide)

theorem State.setOrigin_kept {m : Nat} {s₀ : State} {x0 : State} (x1 : Nat) (x2 : Int) (x3 : Int)
    (h : Kept m s₀ x0) (hm : Sub 0xa0c2000000800 m) : Kept m s₀ (State.setOrigin x0 x1 x2 x3) := by
  unfold State.setOrigin
  try dsimp only
  with_reducible repeat' first
    | assumption
    | apply Kept.ite
    | apply State.setFb_kept
    | apply State.fbValidate_kept
    | apply State.psB_kept
    | apply State.posUpdate_kept
    | apply State.cmpRetest_kept
    | (apply Sub.of hm; decide)
    | apply InPg.fbP _ (Sub.bit hm (by decide))

theorem State.poFeed_kept {m : Nat} {s₀ : State} {x0 : State} (x1 : Nat) (x2 : Nat) (x3 : Int)
    (h : Kept m s₀ x0) (hm : Sub 0x40c2000000800 m) : Kept m s₀ (State.poFeed x0 x1 x2 x3) := by
  unfold State.poFeed
  try dsimp only
  with_reducible repeat' first
    | assumption
    | apply Kept.ite
    | apply State.pI_kept
    | apply State.setPo_kept
    | apply State.psB_kept
    | apply State.irq_kept
    | apply State.inc_kept
    | (apply Sub.of hm; decide)
    | (apply InPg.at (InPg.poP _ (Sub.bit hm (by decide))) (by first | decide | assumption | (dsimp only; decide)))
    | apply InPg.poP _ (Sub.bit hm (by decide))

theorem State.fbRaw_kept {m : Nat} {s₀ : State} {x0 : State} (x1 : Nat) (x2 : Int) (x3 : Nat)
    (h : Kept m s₀ x0) (hm : Sub 0xe0c2000000800 m) : Kept m s₀ (State.fbRaw x0 x1 x2 x3) := by
  unfold State.fbRaw
  try dsimp only
  with_reducible repeat' first
    | assumption
    | apply Kept.ite
    | apply State.pI_kept
    | apply State.setFb_kept
    | apply State.poFeed_kept
    | apply State.psB_kept
    | apply State.posMoved_kept
    | (apply Sub.of hm; decide)
    | (apply InPg.at (InPg.fbP _ (Sub.bit hm (by decide))) (by first | decide | assumption | (dsimp only; decide)))
    | apply InPg.fbP _ (Sub.bit hm (by decide))

theorem State.fbFault_kept {m : Nat} {s₀ : State} {x0 : State} (x1 : Nat)
    (h : Kept m s₀ x0) (hm : Sub 0x100c2000000800 m) : Kept m s₀ (State.fbFault x0 x1) := by
  unfold State.fbFault
  try dsimp only
  with_reducible repeat' first
    | assumption
    | apply Kept.ite
    | apply State.fbValidate_kept
    | apply State.irq_kept
    | apply State.psB_kept
    | apply State.cmpMiss_kept
    | (apply Sub.of hm; decide)
    | (apply Sub.bit hm; decide)
    | apply InPg.fbP _ (Sub.bit hm (by decide))
    | apply Kept.foldl
    | (fail_if_no_progress apply Kept.set_hoist)
    | (fail_if_no_progress apply Kept.mk')
    | intro _ _ _

theorem State.fbOccur_kept {m : Nat} {s₀ : State} {x0 : State} (x1 : Nat)
    (h : Kept m s₀ x0) (hm : Sub 0x101e200000080c m) : Kept m s₀ (State.fbOccur x0 x1) := by
  unfold State.fbOccur
  try dsimp only
  with_reducible repeat' first
    | assumption
    | apply Kept.ite
    | apply State.fwOccur_kept
    | apply State.fbFault_kept
    | (apply Sub.of hm; decide)

theorem State.quadEdge_kept {m : Nat} {s₀ : State} {x0 : State} (x1 : Nat) (x2 : Nat) (x3 : Nat) (x4 : Nat)
    (h : Kept m s₀ x0) (hm : Sub 0x1e1e200000080c m) : Kept m s₀ (State.quadEdge x0 x1 x2 x3 x4) := by
  unfold State.quadEdge
  try dsimp only
  with_reducible repeat' first
    | assumption
    | apply Kept.ite
    | apply State.fbOccur_kept
    | apply State.incIrq_kept
    | apply State.fbRaw_kept
    | (apply Sub.of hm; decide)
    | (apply InPg.at (InPg.fbP _ (Sub.bit hm (by decide))) (by first | decide | assumption | (dsimp only; decide)))
    | apply InPg.fbP _ (Sub.bit hm (by decide))

theorem State.quadStep_kept {m : Nat} {s₀ : State} {x0 : State} (x1 : Nat) (x2 : Bool) (x3 : Bool) (x4 : Nat)
    (h : Kept m s₀ x0) (hm : Sub 0x1e1e200000080c m) : Kept m s₀ (State.quadStep x0 x1 x2 x3 x4) := by
  unfold State.quadStep
  try dsimp only
  with_reducible repeat' first
    | assumption
    | apply Kept.ite
    | apply State.setFb_kept
    | apply State.quadEdge_kept
    | (apply Sub.of hm; decide)
    | split

theorem State.serStart_kept {m : Nat} {s₀ : State} {x0 : State} (x1 : Nat)
    (h : Kept m s₀ x0) (hm : Sub 0x2000000000800 m) : Kept m s₀ (State.serStart x0 x1) := by
  unfold State.serStart
  try dsimp only
  with_reducible repeat' first
    | assumption
    | apply Kept.ite
    | apply State.setFb_kept
    | apply State.fbValidate_kept
    | apply State.psB_kept
    | (apply Sub.of hm; decide)
    | apply InPg.fbP _ (Sub.bit hm (by decide))

theorem State.fbCtrl_kept {m : Nat} {s₀ : State} {x0 : State} (x1 : Nat) (x2 : Word)
    (h : Kept m s₀ x0) (hm : Sub 0xa0c2000000800 m) : Kept m s₀ (State.fbCtrl x0 x1 x2) := by
  unfold State.fbCtrl
  try dsimp only
  with_reducible repeat' first
    | assumption
    | apply Kept.ite
    | apply State.land_kept
    | apply State.setFb_kept
    | apply State.fbValidate_kept
    | apply State.psB_kept
    | apply State.posMoved_kept
    | apply State.serStart_kept
    | (apply Sub.of hm; decide)
    | (apply InPg.at (InPg.fbP _ (Sub.bit hm (by decide))) (by first | decide | assumption | (dsimp only; decide)))
    | apply InPg.fbP _ (Sub.bit hm (by decide))

theorem State.spdWindow_kept {m : Nat} {s₀ : State} {x0 : State} (x1 : Nat)
    (h : Kept m s₀ x0) (hm : Sub 0x21da00000080a m) : Kept m s₀ (State.spdWindow x0 x1) := by
  unfold State.spdWindow
  try dsimp only
  with_reducible repeat' first
    | assumption
    | apply Kept.ite
    | apply State.advanceTo_kept
    | apply State.setFb_kept
    | apply State.pI_kept
    | apply State.irq_kept
    | (apply Sub.of hm; decide)
    | (apply InPg.at (InPg.fbP _ (Sub.bit hm (by decide))) (by first | decide | assumption | (dsimp only; decide)))
    | apply InPg.fbP _ (Sub.bit hm (by decide))

theorem State.serGood_kept {m : Nat} {s₀ : State} {x0 : State} (x1 : Nat) (x2 : Nat)
    (h : Kept m s₀ x0) (hm : Sub 0xe0c2000000800 m) : Kept m s₀ (State.serGood x0 x1 x2) := by
  unfold State.serGood
  try dsimp only
  with_reducible repeat' first
    | assumption
    | apply Kept.ite
    | apply State.pTs_kept
    | apply State.psB_kept
    | apply State.setFb_kept
    | apply State.pI_kept
    | apply State.poFeed_kept
    | apply State.setOrigin_kept
    | apply State.fbValidate_kept
    | apply State.fbRaw_kept
    | (apply Sub.of hm; decide)
    | (apply InPg.at (InPg.fbP _ (Sub.bit hm (by decide))) (by first | decide | assumption | (dsimp only; decide)))
    | apply InPg.fbP _ (Sub.bit hm (by decide))

theorem State.serBad_kept {m : Nat} {s₀ : State} {x0 : State} (x1 : Nat) (x2 : Fld) (x3 : Nat)
    (h : Kept m s₀ x0) (hm : Sub 0x101e200000080c m) (hf : x2.off < 0x1000) : Kept m s₀ (State.serBad x0 x1 x2 x3) := by
  unfold State.serBad
  try dsimp only
  with_reducible repeat' first
    | assumption
    | apply State.fbOccur_kept
    | apply State.incIrq_kept
    | (apply Sub.of hm; decide)
    | (apply InPg.at (InPg.fbP _ (Sub.bit hm (by decide))) (by first | decide | assumption | (dsimp only; decide)))
    | apply InPg.fbP _ (Sub.bit hm (by decide))

theorem State.serWord_kept {m : Nat} {s₀ : State} {x0 : State} (x1 : Nat) (x2 : Bool) (x3 : Nat) (x4 : Bool) (x5 : Bool) (x6 : Nat) (x7 : Nat)
    (h : Kept m s₀ x0) (hm : Sub 0x1e1e200000080c m) : Kept m s₀ (State.serWord x0 x1 x2 x3 x4 x5 x6 x7) := by
  unfold State.serWord
  try dsimp only
  with_reducible repeat' first
    | assumption
    | apply Kept.ite
    | apply State.serBad_kept
    | apply State.wr_kept
    | apply State.p_kept
    | apply State.serGood_kept
    | apply State.irq_kept
    | (apply Sub.of hm; decide)
    | (apply InPg.at (InPg.fbP _ (Sub.bit hm (by decide))) (by first | decide | assumption | (dsimp only; decide)))
    | apply InPg.fbP _ (Sub.bit hm (by decide))
    | decide

theorem State.indexLatch_kept {m : Nat} {s₀ : State} {x0 : State} (x1 : Nat) (x2 : Bool) (x3 : Nat)
    (h : Kept m s₀ x0) (hm : Sub 0x1a1e200000080c m) : Kept m s₀ (State.indexLatch x0 x1 x2 x3) := by
  unfold State.indexLatch
  try dsimp only
  with_reducible repeat' first
    | assumption
    | apply Kept.ite
    | apply State.pTs_kept
    | apply State.pI_kept
    | apply State.irq_kept
    | apply State.fbOccur_kept
    | apply State.incIrq_kept
    | apply State.setFb_kept
    | apply State.p_kept
    | apply State.setOrigin_kept
    | (apply Sub.of hm; decide)
    | (apply InPg.at (InPg.fbP _ (Sub.bit hm (by decide))) (by first | decide | assumption | (dsimp only; decide)))
    | apply InPg.fbP _ (Sub.bit hm (by decide))
    | split

theorem State.zLevel_kept {m : Nat} {s₀ : State} {x0 : State} (x1 : Nat) (x2 : Bool) (x3 : Nat)
    (h : Kept m s₀ x0) (hm : Sub 0x1a1e200000080c m) : Kept m s₀ (State.zLevel x0 x1 x2 x3) := by
  unfold State.zLevel
  try dsimp only
  with_reducible repeat' first
    | assumption
    | apply Kept.ite
    | apply State.setFb_kept
    | apply State.psB_kept
    | apply State.indexLatch_kept
    | (apply Sub.of hm; decide)
    | apply InPg.fbP _ (Sub.bit hm (by decide))
    | split

theorem State.probeLatch_kept {m : Nat} {s₀ : State} {x0 : State} (x1 : Nat) (x2 : Nat) (x3 : Nat)
    (h : Kept m s₀ x0) (hm : Sub 0xc2000000800 m) : Kept m s₀ (State.probeLatch x0 x1 x2 x3) := by
  unfold State.probeLatch
  try dsimp only
  with_reducible repeat' first
    | assumption
    | apply Kept.ite
    | apply State.incIrq_kept
    | apply State.pTs_kept
    | apply State.pI_kept
    | apply State.p_kept
    | apply State.irq_kept
    | (apply Sub.of hm; decide)
    | (apply InPg.at (InPg.fbP _ (Sub.bit hm (by decide))) (by first | decide | assumption | (dsimp only; decide)))
    | apply InPg.fbP _ (Sub.bit hm (by decide))
    | (apply InPg.at (InPg.prbP _ _ (Sub.bit hm (by decide))) (by first | decide | assumption | (dsimp only; decide)))

theorem State.probeEdge_kept {m : Nat} {s₀ : State} {x0 : State} (x1 : Nat) (x2 : Nat) (x3 : Bool) (x4 : Nat)
    (h : Kept m s₀ x0) (hm : Sub 0x1a1e200000080c m) : Kept m s₀ (State.probeEdge x0 x1 x2 x3 x4) := by
  unfold State.probeEdge
  try dsimp only
  with_reducible repeat' first
    | assumption
    | apply Kept.ite
    | apply State.psB_kept
    | apply State.probeLatch_kept
    | apply State.indexLatch_kept
    | (apply Sub.of hm; decide)
    | apply InPg.fbP _ (Sub.bit hm (by decide))

theorem State.probeLevel_kept {m : Nat} {s₀ : State} {x0 : State} (x1 : Nat) (x2 : Nat) (x3 : Bool) (x4 : Nat)
    (h : Kept m s₀ x0) (hm : Sub 0x1a1e200000080c m) : Kept m s₀ (State.probeLevel x0 x1 x2 x3 x4) := by
  unfold State.probeLevel
  try dsimp only
  with_reducible repeat' first
    | assumption
    | apply State.setFb_kept
    | apply State.probeEdge_kept
    | (apply Sub.of hm; decide)
    | split

theorem State.cmpWrite_kept {m : Nat} {s₀ : State} {x0 : State} (x1 : Nat) (x2 : Nat) (x3 : Word)
    (h : Kept m s₀ x0) (hm : Sub 0x80c2000000800 m) : Kept m s₀ (State.cmpWrite x0 x1 x2 x3) := by
  unfold State.cmpWrite
  try dsimp only
  with_reducible repeat' first
    | assumption
    | apply Kept.ite
    | apply State.land_kept
    | apply State.p_kept
    | apply State.flt_kept
    | apply State.cmpMiss_kept
    | apply State.cmpLate_kept
    | (apply Sub.of hm; decide)
    | (apply InPg.at (InPg.cmpP _ _ (Sub.bit hm (by decide))) (by first | decide | assumption | (dsimp only; decide)))
    | apply InPg.fbP _ (Sub.bit hm (by decide))

theorem State.fbStatWrite_kept {m : Nat} {s₀ : State} {x0 : State} (x1 : Nat) (x2 : Word)
    (h : Kept m s₀ x0) (hm : Sub 0x800 m) : Kept m s₀ (State.fbStatWrite x0 x1 x2) := by
  unfold State.fbStatWrite
  try dsimp only
  with_reducible repeat' first
    | assumption
    | apply Kept.ite
    | apply State.flt_kept
    | apply State.psB_kept
    | apply State.fbValidate_kept
    | (apply Sub.of hm; decide)
    | apply InPg.fbP _ (Sub.bit hm (by decide))

theorem State.fbSnap_kept {m : Nat} {s₀ : State} {x0 : State} (x1 : Word)
    (h : Kept m s₀ x0) (hm : Sub 0x800 m) : Kept m s₀ (State.fbSnap x0 x1) := by
  unfold State.fbSnap
  try dsimp only
  with_reducible repeat' first
    | assumption
    | apply Kept.ite
    | apply State.pTs_kept
    | apply State.p_kept
    | apply State.pI_kept
    | (apply Sub.of hm; decide)
    | (apply InPg.at (InPg.fbP _ (Sub.bit hm (by decide))) (by first | decide | assumption | (dsimp only; decide)))
    | apply Kept.foldl
    | intro _ _ _

theorem State.poStep_kept {m : Nat} {s₀ : State} {x0 : State} (x1 : Nat)
    (h : Kept m s₀ x0) (hm : Sub 0x41da00000080a m) : Kept m s₀ (State.poStep x0 x1) := by
  unfold State.poStep
  try dsimp only
  with_reducible repeat' first
    | assumption
    | apply Kept.ite
    | apply State.advanceTo_kept
    | apply State.setPo_kept
    | apply State.psB_kept
    | apply State.pI_kept
    | (apply Sub.of hm; decide)
    | (apply InPg.at (InPg.poP _ (Sub.bit hm (by decide))) (by first | decide | assumption | (dsimp only; decide)))
    | apply InPg.poP _ (Sub.bit hm (by decide))

theorem State.whereUpdate_kept {m : Nat} {s₀ : State} {x0 : State} (x1 : Nat)
    (h : Kept m s₀ x0) (hm : Sub 0x100 m) : Kept m s₀ (State.whereUpdate x0 x1) := by
  unfold State.whereUpdate
  try dsimp only
  with_reducible repeat' first
    | assumption
    | apply Kept.ite
    | apply State.wr_kept
    | apply State.p_kept
    | (apply Sub.of hm; decide)
    | (apply InPg.at (InPg.carP _ (Sub.bit hm (by decide))) (by first | decide | assumption | (dsimp only; decide)))

theorem State.setGen_kept {m : Nat} {s₀ : State} {x0 : State} (x1 : Nat) (x2 : Gen)
    (h : Kept m s₀ x0) (hm : Sub 0x10000000000000 m) : Kept m s₀ (State.setGen x0 x1 x2) := by
  unfold State.setGen
  try dsimp only
  with_reducible repeat' first
    | assumption
    | apply Kept.ite
    | (apply Sub.bit hm; decide)
    | (fail_if_no_progress apply Kept.set_hoist)
    | (fail_if_no_progress apply Kept.mk')

theorem State.setExe_kept {m : Nat} {s₀ : State} {x0 : State} (x1 : Nat) (x2 : Exe)
    (h : Kept m s₀ x0) (hm : Sub 0x10000000000000 m) : Kept m s₀ (State.setExe x0 x1 x2) := by
  unfold State.setExe
  try dsimp only
  with_reducible repeat' first
    | assumption
    | apply Kept.ite
    | (apply Sub.bit hm; decide)
    | (fail_if_no_progress apply Kept.set_hoist)
    | (fail_if_no_progress apply Kept.mk')

theorem State.setGst_kept {m : Nat} {s₀ : State} {x0 : State} (x1 : Nat) (x2 : Nat)
    (h : Kept m s₀ x0) (hm : Sub 0x100 m) : Kept m s₀ (State.setGst x0 x1 x2) := by
  unfold State.setGst
  try dsimp only
  with_reducible repeat' first
    | assumption
    | apply State.ps_kept
    | (apply Sub.of hm; decide)
    | apply InPg.mpgP _ (Sub.bit hm (by decide))

theorem State.genResult_kept {m : Nat} {s₀ : State} {x0 : State} (x1 : Nat) (x2 : Nat) (x3 : Nat)
    (h : Kept m s₀ x0) (hm : Sub 0xc2000000100 m) : Kept m s₀ (State.genResult x0 x1 x2 x3) := by
  unfold State.genResult
  try dsimp only
  with_reducible repeat' first
    | assumption
    | apply Kept.ite
    | apply State.p_kept
    | apply State.irq_kept
    | (apply Sub.of hm; decide)
    | (apply InPg.at (InPg.mpgP _ (Sub.bit hm (by decide))) (by first | decide | assumption | (dsimp only; decide)))
    | apply InPg.mpgP _ (Sub.bit hm (by decide))

theorem State.refHold_kept {m : Nat} {s₀ : State} {x0 : State} (x1 : Nat)
    (h : Kept m s₀ x0) (hm : Sub 0x100 m) : Kept m s₀ (State.refHold x0 x1) := by
  unfold State.refHold
  try dsimp only
  with_reducible repeat' first
    | assumption
    | apply State.pI_kept
    | apply State.p_kept
    | (apply Sub.of hm; decide)
    | (apply InPg.at (InPg.mpgP _ (Sub.bit hm (by decide))) (by first | decide | assumption | (dsimp only; decide)))

theorem State.refFollow_kept {m : Nat} {s₀ : State} {x0 : State} (x1 : Nat)
    (h : Kept m s₀ x0) (hm : Sub 0x10000000000100 m) : Kept m s₀ (State.refFollow x0 x1) := by
  unfold State.refFollow
  try dsimp only
  with_reducible repeat' first
    | assumption
    | apply State.refHold_kept
    | apply State.setGen_kept
    | (apply Sub.of hm; decide)

theorem State.refPoint_kept {m : Nat} {s₀ : State} {x0 : State} (x1 : Nat) (x2 : Pt)
    (h : Kept m s₀ x0) (hm : Sub 0x10800000000100 m) : Kept m s₀ (State.refPoint x0 x1 x2) := by
  unfold State.refPoint
  try dsimp only
  with_reducible repeat' first
    | assumption
    | apply State.setGen_kept
    | apply State.pI_kept
    | apply State.drew_kept
    | (apply Sub.of hm; decide)
    | (apply InPg.at (InPg.mpgP _ (Sub.bit hm (by decide))) (by first | decide | assumption | (dsimp only; decide)))

theorem State.causeSeen_kept {m : Nat} {s₀ : State} {x0 : State} (x1 : Nat) (x2 : Nat)
    (h : Kept m s₀ x0) (hm : Sub 0x100 m) : Kept m s₀ (State.causeSeen x0 x1 x2) := by
  unfold State.causeSeen
  try dsimp only
  with_reducible repeat' first
    | assumption
    | apply State.p_kept
    | (apply Sub.of hm; decide)
    | (apply InPg.at (InPg.mpgP _ (Sub.bit hm (by decide))) (by first | decide | assumption | (dsimp only; decide)))

theorem State.stopStart_kept {m : Nat} {s₀ : State} {x0 : State} (x1 : Nat)
    (h : Kept m s₀ x0) (hm : Sub 0x1c2000000108 m) : Kept m s₀ (State.stopStart x0 x1) := by
  unfold State.stopStart
  try dsimp only
  with_reducible repeat' first
    | assumption
    | apply State.ikwOffer_kept
    | apply State.irq_kept
    | (apply Sub.of hm; decide)
    | apply InPg.mpgP _ (Sub.bit hm (by decide))

theorem State.enterHalted_kept {m : Nat} {s₀ : State} {x0 : State} (x1 : Nat) (x2 : Nat)
    (h : Kept m s₀ x0) (hm : Sub 0x100c2000000100 m) : Kept m s₀ (State.enterHalted x0 x1 x2) := by
  unfold State.enterHalted
  try dsimp only
  with_reducible repeat' first
    | assumption
    | apply Kept.ite
    | apply State.ps_kept
    | apply State.genResult_kept
    | apply State.refHold_kept
    | apply State.setGst_kept
    | apply State.setGen_kept
    | apply State.irq_kept
    | (apply Sub.of hm; decide)
    | apply InPg.mpgP _ (Sub.bit hm (by decide))
    | apply Kept.foldl
    | intro _ _ _

theorem State.safetyHalt_kept {m : Nat} {s₀ : State} {x0 : State} (x1 : Nat)
    (h : Kept m s₀ x0) (hm : Sub 0x101c2000000108 m) : Kept m s₀ (State.safetyHalt x0 x1) := by
  unfold State.safetyHalt
  try dsimp only
  with_reducible repeat' first
    | assumption
    | apply Kept.ite
    | apply State.causeSeen_kept
    | apply State.setGen_kept
    | apply State.enterHalted_kept
    | apply State.stopStart_kept
    | (apply Sub.of hm; decide)

theorem State.genStop_kept {m : Nat} {s₀ : State} {x0 : State} (x1 : Nat) (x2 : StopReq)
    (h : Kept m s₀ x0) (hm : Sub 0x100c2000000100 m) : Kept m s₀ (State.genStop x0 x1 x2) := by
  unfold State.genStop
  try dsimp only
  with_reducible repeat' first
    | assumption
    | apply Kept.ite
    | apply State.causeSeen_kept
    | apply State.genResult_kept
    | apply State.setGen_kept
    | apply State.enterHalted_kept
    | (apply Sub.of hm; decide)
    | split

theorem State.moveTake_kept {m : Nat} {s₀ : State} {x0 : State} (x1 : Nat) (x2 : Nat) (x3 : Nat) (x4 : Nat) (x5 : Nat) (x6 : Int) (x7 : Option Nat) (x8 : Bool)
    (h : Kept m s₀ x0) (hm : Sub 0x10000000000100 m) : Kept m s₀ (State.moveTake x0 x1 x2 x3 x4 x5 x6 x7 x8) := by
  unfold State.moveTake
  try dsimp only
  with_reducible repeat' first
    | assumption
    | apply State.ps_kept
    | apply State.setGst_kept
    | apply State.pI_kept
    | apply State.setGen_kept
    | (apply Sub.of hm; decide)
    | (apply InPg.at (InPg.mpgP _ (Sub.bit hm (by decide))) (by first | decide | assumption | (dsimp only; decide)))
    | apply InPg.mpgP _ (Sub.bit hm (by decide))

theorem State.genMove_kept {m : Nat} {s₀ : State} {x0 : State} (x1 : Nat) (x2 : Nat) (x3 : Nat) (x4 : Nat) (x5 : Nat) (x6 : Nat) (x7 : Int) (x8 : Option Nat)
    (h : Kept m s₀ x0) (hm : Sub 0x100c2000000100 m) : Kept m s₀ (State.genMove x0 x1 x2 x3 x4 x5 x6 x7 x8).2 := by
  unfold State.genMove
  try dsimp only
  with_reducible repeat' first
    | assumption
    | apply State.genResult_kept
    | apply State.p_kept
    | apply State.moveTake_kept
    | (apply Sub.of hm; decide)
    | (apply InPg.at (InPg.mpgP _ (Sub.bit hm (by decide))) (by first | decide | assumption | (dsimp only; decide)))
    | apply Kept.ite2

theorem State.enterSettling_kept {m : Nat} {s₀ : State} {x0 : State} (x1 : Nat)
    (h : Kept m s₀ x0) (hm : Sub 0x10000000000100 m) : Kept m s₀ (State.enterSettling x0 x1) := by
  unfold State.enterSettling
  try dsimp only
  with_reducible repeat' first
    | assumption
    | apply State.setGen_kept
    | apply State.refHold_kept
    | apply State.setGst_kept
    | (apply Sub.of hm; decide)

theorem State.moveStart_kept {m : Nat} {s₀ : State} {x0 : State} (x1 : Nat)
    (h : Kept m s₀ x0) (hm : Sub 0x101c2000000108 m) : Kept m s₀ (State.moveStart x0 x1) := by
  unfold State.moveStart
  try dsimp only
  with_reducible repeat' first
    | assumption
    | apply Kept.ite
    | apply State.setGen_kept
    | apply State.ikwOffer_kept
    | apply State.enterSettling_kept
    | apply State.psB_kept
    | (apply Sub.of hm; decide)
    | apply InPg.mpgP _ (Sub.bit hm (by decide))

theorem State.profFrom_kept {m : Nat} {s₀ : State} {x0 : State} (x1 : Nat) (x2 : List (Nat × Int))
    (h : Kept m s₀ x0) (hm : Sub 0x10000000000000 m) : Kept m s₀ (State.profFrom x0 x1 x2) := by
  unfold State.profFrom
  try dsimp only
  with_reducible repeat' first
    | assumption
    | apply State.setGen_kept

theorem State.stopReq_kept {m : Nat} {s₀ : State} {x0 : State} (x1 : Nat) (x2 : StopReq)
    (h : Kept m s₀ x0) (hm : Sub 0x100c2000000100 m) : Kept m s₀ (State.stopReq x0 x1 x2) := by
  unfold State.stopReq
  try dsimp only
  with_reducible repeat' first
    | assumption
    | apply Kept.ite
    | apply State.genResult_kept
    | apply State.irq_kept
    | apply State.profFrom_kept
    | apply State.setGen_kept
    | apply State.pI_kept
    | (apply Sub.of hm; decide)
    | (apply InPg.at (InPg.mpgP _ (Sub.bit hm (by decide))) (by first | decide | assumption | (dsimp only; decide)))
    | apply InPg.mpgP _ (Sub.bit hm (by decide))
    | split

theorem State.stopDone_kept {m : Nat} {s₀ : State} {x0 : State} (x1 : Nat)
    (h : Kept m s₀ x0) (hm : Sub 0x100c2000000100 m) : Kept m s₀ (State.stopDone x0 x1) := by
  unfold State.stopDone
  try dsimp only
  with_reducible repeat' first
    | assumption
    | apply Kept.ite
    | apply State.setGen_kept
    | apply State.irq_kept
    | apply State.refHold_kept
    | apply State.setGst_kept
    | apply State.ps_kept
    | (apply Sub.of hm; decide)
    | apply InPg.mpgP _ (Sub.bit hm (by decide))

theorem State.stopPeriod_kept {m : Nat} {s₀ : State} {x0 : State} (x1 : Nat)
    (h : Kept m s₀ x0) (hm : Sub 0x108c2000000100 m) : Kept m s₀ (State.stopPeriod x0 x1) := by
  unfold State.stopPeriod
  try dsimp only
  with_reducible repeat' first
    | assumption
    | apply State.refPoint_kept
    | apply State.stopDone_kept
    | apply State.setGen_kept
    | (apply Sub.of hm; decide)
    | split

theorem State.stopBegin_kept {m : Nat} {s₀ : State} {x0 : State} (x1 : Nat) (x2 : List StopReq)
    (h : Kept m s₀ x0) (hm : Sub 0x109c2000000108 m) : Kept m s₀ (State.stopBegin x0 x1 x2) := by
  unfold State.stopBegin
  try dsimp only
  with_reducible repeat' first
    | assumption
    | apply State.ps_kept
    | apply State.pI_kept
    | apply State.profFrom_kept
    | apply State.setGen_kept
    | apply State.setGst_kept
    | apply State.stopReq_kept
    | apply State.stopPeriod_kept
    | apply State.stopStart_kept
    | (apply Sub.of hm; decide)
    | (apply InPg.at (InPg.mpgP _ (Sub.bit hm (by decide))) (by first | decide | assumption | (dsimp only; decide)))
    | apply InPg.mpgP _ (Sub.bit hm (by decide))
    | apply Kept.foldl
    | intro _ _ _

theorem State.replanTest_kept {m : Nat} {s₀ : State} {x0 : State} (x1 : Nat)
    (h : Kept m s₀ x0) (hm : Sub 0x10000000000000 m) : Kept m s₀ (State.replanTest x0 x1) := by
  unfold State.replanTest
  try dsimp only
  with_reducible repeat' first
    | assumption
    | apply Kept.ite
    | apply State.setGen_kept
    | apply State.profFrom_kept
    | split

theorem State.moveRef_kept {m : Nat} {s₀ : State} {x0 : State} (x1 : Nat) (x2 : List StopReq)
    (h : Kept m s₀ x0) (hm : Sub 0x109c2000000108 m) : Kept m s₀ (State.moveRef x0 x1 x2) := by
  unfold State.moveRef
  try dsimp only
  with_reducible repeat' first
    | assumption
    | apply Kept.ite
    | apply State.replanTest_kept
    | apply State.stopBegin_kept
    | apply State.genStop_kept
    | apply State.enterSettling_kept
    | apply State.refPoint_kept
    | apply State.pI_kept
    | (apply Sub.of hm; decide)
    | (apply InPg.at (InPg.mpgP _ (Sub.bit hm (by decide))) (by first | decide | assumption | (dsimp only; decide)))
    | apply Kept.foldl
    | intro _ _ _
    | split

theorem State.movePeriod_kept {m : Nat} {s₀ : State} {x0 : State} (x1 : Nat) (x2 : List StopReq)
    (h : Kept m s₀ x0) (hm : Sub 0x109c2000000108 m) : Kept m s₀ (State.movePeriod x0 x1 x2) := by
  unfold State.movePeriod
  try dsimp only
  with_reducible repeat' first
    | assumption
    | apply Kept.ite
    | apply State.moveStart_kept
    | apply State.setGen_kept
    | apply State.genStop_kept
    | apply State.moveRef_kept
    | (apply Sub.of hm; decide)
    | apply Kept.foldl
    | intro _ _ _

theorem State.settlePeriod_kept {m : Nat} {s₀ : State} {x0 : State} (x1 : Nat)
    (h : Kept m s₀ x0) (hm : Sub 0x10000000000100 m) : Kept m s₀ (State.settlePeriod x0 x1) := by
  unfold State.settlePeriod
  try dsimp only
  with_reducible repeat' first
    | assumption
    | apply State.refHold_kept
    | apply State.setGen_kept
    | (apply Sub.of hm; decide)

theorem State.relevelDecide_kept {m : Nat} {s₀ : State} {x0 : State} (x1 : Nat) (x2 : Nat) (x3 : Option Nat) (x4 : State → Nat → Int → Bool × State)
    (h : Kept m s₀ x0) (hm : Sub 0x100c2000000100 m) (h4 : ∀ y u v, Kept m s₀ y → Kept m s₀ (x4 y u v).2) : Kept m s₀ (State.relevelDecide x0 x1 x2 x3 x4) := by
  unfold State.relevelDecide
  try dsimp only
  with_reducible repeat' first
    | assumption
    | apply h4
    | apply Kept.ite
    | apply State.genResult_kept
    | apply State.ps_kept
    | apply State.irq_kept
    | apply State.setGen_kept
    | apply State.moveTake_kept
    | (apply Sub.of hm; decide)
    | apply InPg.mpgP _ (Sub.bit hm (by decide))
    | apply Kept.ite2

theorem State.relevelPeriod_kept {m : Nat} {s₀ : State} {x0 : State} (x1 : Nat) (x2 : State → Nat → Int → Bool × State)
    (h : Kept m s₀ x0) (hm : Sub 0x100c2000000100 m) (h2 : ∀ y u v, Kept m s₀ y → Kept m s₀ (x2 y u v).2) : Kept m s₀ (State.relevelPeriod x0 x1 x2) := by
  unfold State.relevelPeriod
  try dsimp only
  with_reducible repeat' first
    | assumption
    | apply Kept.ite
    | apply State.refHold_kept
    | apply State.genResult_kept
    | apply State.setGen_kept
    | apply State.relevelDecide_kept
    | (apply Sub.of hm; decide)
    | apply Kept.foldl
    | intro _ _ _
    | split

theorem State.srcDiff_kept {m : Nat} {s₀ : State} {x0 : State} (x1 : Nat)
    (h : Kept m s₀ x0) (hm : Sub 0x101e200000010c m) : Kept m s₀ (State.srcDiff x0 x1) := by
  unfold State.srcDiff
  try dsimp only
  with_reducible repeat' first
    | assumption
    | apply Kept.ite
    | apply State.pI_kept
    | apply State.fwOccur_kept
    | apply State.genStop_kept
    | (apply Sub.of hm; decide)
    | (apply InPg.at (InPg.mpgP _ (Sub.bit hm (by decide))) (by first | decide | assumption | (dsimp only; decide)))

theorem State.srcLost_kept {m : Nat} {s₀ : State} {x0 : State} (x1 : Nat) (x2 : Bool)
    (h : Kept m s₀ x0) (hm : Sub 0x100c2000000100 m) : Kept m s₀ (State.srcLost x0 x1 x2) := by
  unfold State.srcLost
  try dsimp only
  with_reducible repeat' first
    | assumption
    | apply Kept.ite
    | apply State.ps_kept
    | apply State.irq_kept
    | apply State.setGen_kept
    | apply State.genStop_kept
    | (apply Sub.of hm; decide)
    | apply InPg.mpgP _ (Sub.bit hm (by decide))

theorem State.srcScan_kept {m : Nat} {s₀ : State} {x0 : State} (x1 : Nat)
    (h : Kept m s₀ x0) (hm : Sub 0x100c2000000100 m) : Kept m s₀ (State.srcScan x0 x1) := by
  unfold State.srcScan
  try dsimp only
  with_reducible repeat' first
    | assumption
    | apply Kept.ite
    | apply State.srcLost_kept
    | apply Kept.foldl
    | intro _ _ _

theorem State.degClear_kept {m : Nat} {s₀ : State} {x0 : State} (x1 : Nat)
    (h : Kept m s₀ x0) (hm : Sub 0x100 m) : Kept m s₀ (State.degClear x0 x1) := by
  unfold State.degClear
  try dsimp only
  with_reducible repeat' first
    | assumption
    | apply Kept.ite
    | apply State.ps_kept
    | (apply Sub.of hm; decide)
    | apply InPg.mpgP _ (Sub.bit hm (by decide))

theorem State.genOff_kept {m : Nat} {s₀ : State} {x0 : State} (x1 : Nat)
    (h : Kept m s₀ x0) (hm : Sub 0x10000000000100 m) : Kept m s₀ (State.genOff x0 x1) := by
  unfold State.genOff
  try dsimp only
  with_reducible repeat' first
    | assumption
    | apply State.setGen_kept
    | apply State.setGst_kept
    | (apply Sub.of hm; decide)

theorem State.genWake_kept {m : Nat} {s₀ : State} {x0 : State} (x1 : Nat)
    (h : Kept m s₀ x0) (hm : Sub 0x10000000000100 m) : Kept m s₀ (State.genWake x0 x1) := by
  unfold State.genWake
  try dsimp only
  with_reducible repeat' first
    | assumption
    | apply Kept.ite
    | apply State.refFollow_kept
    | apply State.setGen_kept
    | apply State.setGst_kept
    | (apply Sub.of hm; decide)

theorem State.disarm_kept {m : Nat} {s₀ : State} {x0 : State} (x1 : Nat)
    (h : Kept m s₀ x0) (hm : Sub 0x10000000000100 m) : Kept m s₀ (State.disarm x0 x1) := by
  unfold State.disarm
  try dsimp only
  with_reducible repeat' first
    | assumption
    | apply Kept.ite
    | apply State.whereUpdate_kept
    | apply State.pm_kept
    | apply State.genOff_kept
    | (apply Sub.of hm; decide)

theorem State.genPeriod_kept {m : Nat} {s₀ : State} {x0 : State} (x1 : Nat) (x2 : State → Nat → Int → Bool × State)
    (h : Kept m s₀ x0) (hm : Sub 0x109e200000010c m) (h2 : ∀ y u v, Kept m s₀ y → Kept m s₀ (x2 y u v).2) : Kept m s₀ (State.genPeriod x0 x1 x2) := by
  unfold State.genPeriod
  try dsimp only
  with_reducible repeat' first
    | assumption
    | apply Kept.ite
    | apply State.srcDiff_kept
    | apply State.setGen_kept
    | apply State.relevelPeriod_kept
    | apply State.movePeriod_kept
    | apply State.stopPeriod_kept
    | apply State.stopReq_kept
    | apply State.settlePeriod_kept
    | apply State.refFollow_kept
    | apply State.refHold_kept
    | (apply Sub.of hm; decide)
    | apply Kept.foldl
    | intro _ _ _
    | split

theorem State.setDoor_kept {m : Nat} {s₀ : State} {x0 : State} (x1 : Nat) (x2 : Door)
    (h : Kept m s₀ x0) (hm : Sub 0x80000000000000 m) : Kept m s₀ (State.setDoor x0 x1 x2) := by
  unfold State.setDoor
  try dsimp only
  with_reducible repeat' first
    | assumption
    | (apply Sub.bit hm; decide)
    | (fail_if_no_progress apply Kept.set_doors)
    | (fail_if_no_progress apply Kept.mk')

theorem State.doorShow_kept {m : Nat} {s₀ : State} {x0 : State} (x1 : Nat)
    (h : Kept m s₀ x0) (hm : Sub 0x80000000000400 m) : Kept m s₀ (State.doorShow x0 x1) := by
  unfold State.doorShow
  try dsimp only
  with_reducible repeat' first
    | assumption
    | apply Kept.ite
    | apply State.pI_kept
    | apply State.p_kept
    | apply State.psB_kept
    | apply State.setDoor_kept
    | (apply Sub.of hm; decide)
    | (apply InPg.at (InPg.dmcP _ (Sub.bit hm (by decide))) (by first | decide | assumption | (dsimp only; decide)))
    | apply InPg.dmcP _ (Sub.bit hm (by decide))

theorem State.doorSync_kept {m : Nat} {s₀ : State} {x0 : State} (x1 : Nat)
    (h : Kept m s₀ x0) (hm : Sub 0x80000000000400 m) : Kept m s₀ (State.doorSync x0 x1) := by
  unfold State.doorSync
  try dsimp only
  with_reducible repeat' first
    | assumption
    | apply Kept.ite
    | apply State.doorShow_kept
    | apply State.setDoor_kept
    | (apply Sub.of hm; decide)

theorem State.doorSegs_kept {m : Nat} {s₀ : State} {x0 : State} (x1 : Nat) (x2 : List DSeg)
    (h : Kept m s₀ x0) (hm : Sub 0x80000000000000 m) : Kept m s₀ (State.doorSegs x0 x1 x2) := by
  unfold State.doorSegs
  try dsimp only
  with_reducible repeat' first
    | assumption
    | apply State.setDoor_kept

theorem State.doorBrake_kept {m : Nat} {s₀ : State} {x0 : State} (x1 : Nat)
    (h : Kept m s₀ x0) (hm : Sub 0x80000000000000 m) : Kept m s₀ (State.doorBrake x0 x1) := by
  unfold State.doorBrake
  try dsimp only
  with_reducible repeat' first
    | assumption
    | apply State.doorSegs_kept

theorem State.doorHalt_kept {m : Nat} {s₀ : State} {x0 : State} (x1 : Nat)
    (h : Kept m s₀ x0) (hm : Sub 0x80000000000000 m) : Kept m s₀ (State.doorHalt x0 x1) := by
  unfold State.doorHalt
  try dsimp only
  with_reducible repeat' first
    | assumption
    | apply State.doorSegs_kept

theorem State.doorFreeze_kept {m : Nat} {s₀ : State} {x0 : State} (x1 : Nat)
    (h : Kept m s₀ x0) (hm : Sub 0x80000000000000 m) : Kept m s₀ (State.doorFreeze x0 x1) := by
  unfold State.doorFreeze
  try dsimp only
  with_reducible repeat' first
    | assumption
    | apply State.setDoor_kept

theorem State.doorDark_kept {m : Nat} {s₀ : State} {x0 : State} (x1 : Nat)
    (h : Kept m s₀ x0) (hm : Sub 0x80000000000000 m) : Kept m s₀ (State.doorDark x0 x1) := by
  unfold State.doorDark
  try dsimp only
  with_reducible repeat' first
    | assumption
    | apply State.setDoor_kept

theorem State.sideOut_kept {m : Nat} {s₀ : State} {x0 : State}
    (h : Kept m s₀ x0) (hm : Sub 0xc2000000400 m) : Kept m s₀ (State.sideOut x0) := by
  unfold State.sideOut
  try dsimp only
  with_reducible repeat' first
    | assumption
    | apply Kept.ite
    | apply State.p_kept
    | apply State.irq_kept
    | (apply Sub.of hm; decide)
    | (apply InPg.at (InPg.dmcC (Sub.bit hm (by decide))) (by first | decide | assumption | (dsimp only; decide)))
    | apply InPg.dmcC (Sub.bit hm (by decide))

theorem State.doorResult_kept {m : Nat} {s₀ : State} {x0 : State} (x1 : Nat) (x2 : Nat) (x3 : Nat)
    (h : Kept m s₀ x0) (hm : Sub 0xc2000000400 m) : Kept m s₀ (State.doorResult x0 x1 x2 x3) := by
  unfold State.doorResult
  try dsimp only
  with_reducible repeat' first
    | assumption
    | apply Kept.ite
    | apply State.p_kept
    | apply State.irq_kept
    | (apply Sub.of hm; decide)
    | (apply InPg.at (InPg.dmcP _ (Sub.bit hm (by decide))) (by first | decide | assumption | (dsimp only; decide)))
    | apply InPg.dmcP _ (Sub.bit hm (by decide))

theorem State.setDst_kept {m : Nat} {s₀ : State} {x0 : State} (x1 : Nat) (x2 : Nat)
    (h : Kept m s₀ x0) (hm : Sub 0xc2000000400 m) : Kept m s₀ (State.setDst x0 x1 x2) := by
  unfold State.setDst
  try dsimp only
  with_reducible repeat' first
    | assumption
    | apply State.sideOut_kept
    | apply State.ps_kept
    | (apply Sub.of hm; decide)
    | apply InPg.dmcP _ (Sub.bit hm (by decide))

theorem State.calStart_kept {m : Nat} {s₀ : State} {x0 : State} (x1 : Nat) (x2 : Nat) (x3 : Bool)
    (h : Kept m s₀ x0) (hm : Sub 0x800c2000000400 m) : Kept m s₀ (State.calStart x0 x1 x2 x3) := by
  unfold State.calStart
  try dsimp only
  with_reducible repeat' first
    | assumption
    | apply Kept.ite
    | apply State.doorDark_kept
    | apply State.doorFreeze_kept
    | apply State.setDoor_kept
    | apply State.ps_kept
    | apply State.doorShow_kept
    | apply State.setDst_kept
    | (apply Sub.of hm; decide)
    | apply InPg.dmcP _ (Sub.bit hm (by decide))

theorem State.doorEnter_kept {m : Nat} {s₀ : State} {x0 : State} (x1 : Nat) (x2 : Nat)
    (h : Kept m s₀ x0) (hm : Sub 0x800c2000000400 m) : Kept m s₀ (State.doorEnter x0 x1 x2) := by
  unfold State.doorEnter
  try dsimp only
  with_reducible repeat' first
    | assumption
    | apply Kept.ite
    | apply State.ps_kept
    | apply State.doorShow_kept
    | apply State.setDst_kept
    | apply State.calStart_kept
    | (apply Sub.of hm; decide)
    | apply InPg.dmcP _ (Sub.bit hm (by decide))

theorem State.calBack_kept {m : Nat} {s₀ : State} {x0 : State} (x1 : Nat)
    (h : Kept m s₀ x0) (hm : Sub 0x800c2000000400 m) : Kept m s₀ (State.calBack x0 x1) := by
  unfold State.calBack
  try dsimp only
  with_reducible repeat' first
    | assumption
    | apply Kept.ite
    | apply State.setDst_kept
    | apply State.ps_kept
    | apply State.setDoor_kept
    | (apply Sub.of hm; decide)
    | apply InPg.dmcP _ (Sub.bit hm (by decide))

theorem State.doorRest_kept {m : Nat} {s₀ : State} {x0 : State} (x1 : Nat) (x2 : Nat)
    (h : Kept m s₀ x0) (hm : Sub 0x800c2000000400 m) : Kept m s₀ (State.doorRest x0 x1 x2) := by
  unfold State.doorRest
  try dsimp only
  with_reducible repeat' first
    | assumption
    | apply State.doorEnter_kept
    | apply State.setDoor_kept
    | (apply Sub.of hm; decide)

theorem State.doorOut_kept {m : Nat} {s₀ : State} {x0 : State} (x1 : Nat) (x2 : Nat)
    (h : Kept m s₀ x0) (hm : Sub 0x801c2000000408 m) : Kept m s₀ (State.doorOut x0 x1 x2) := by
  unfold State.doorOut
  try dsimp only
  with_reducible repeat' first
    | assumption
    | apply State.doorDark_kept
    | apply State.doorFreeze_kept
    | apply State.setDoor_kept
    | apply State.ps_kept
    | apply State.irq_kept
    | apply State.doorShow_kept
    | apply State.setDst_kept
    | apply State.ikwOffer_kept
    | (apply Sub.of hm; decide)
    | apply InPg.dmcP _ (Sub.bit hm (by decide))

theorem State.doorOutLinked_kept {m : Nat} {s₀ : State} {x0 : State} (x1 : Nat) (x2 : Nat)
    (h : Kept m s₀ x0) (hm : Sub 0x801c2000000408 m) : Kept m s₀ (State.doorOutLinked x0 x1 x2) := by
  unfold State.doorOutLinked
  try dsimp only
  with_reducible repeat' first
    | assumption
    | apply Kept.ite
    | apply State.doorOut_kept
    | apply State.doorSync_kept
    | apply State.setDst_kept
    | apply State.doorBrake_kept
    | apply State.setDoor_kept
    | (apply Sub.of hm; decide)
    | split

theorem State.doorOccur_kept {m : Nat} {s₀ : State} {x0 : State} (x1 : Nat)
    (h : Kept m s₀ x0) (hm : Sub 0x801e200000040c m) : Kept m s₀ (State.doorOccur x0 x1) := by
  unfold State.doorOccur
  try dsimp only
  with_reducible repeat' first
    | assumption
    | apply Kept.ite
    | apply State.fwOccur_kept
    | apply State.doorOutLinked_kept
    | (apply Sub.of hm; decide)

theorem State.doorPlan_kept {m : Nat} {s₀ : State} {x0 : State} (x1 : Nat) (x2 : Int) (x3 : Nat) (x4 : Nat)
    (h : Kept m s₀ x0) (hm : Sub 0x800c2000000400 m) : Kept m s₀ (State.doorPlan x0 x1 x2 x3 x4) := by
  unfold State.doorPlan
  try dsimp only
  with_reducible repeat' first
    | assumption
    | apply State.doorSegs_kept
    | apply State.setDoor_kept
    | apply State.doorShow_kept
    | apply State.setDst_kept
    | (apply Sub.of hm; decide)

theorem State.homeGo_kept {m : Nat} {s₀ : State} {x0 : State} (x1 : Nat) (x2 : Nat)
    (h : Kept m s₀ x0) (hm : Sub 0x80000000000000 m) : Kept m s₀ (State.homeGo x0 x1 x2) := by
  unfold State.homeGo
  try dsimp only
  with_reducible repeat' first
    | assumption
    | apply State.doorSegs_kept
    | apply State.setDoor_kept

theorem State.obstruct1_kept {m : Nat} {s₀ : State} {x0 : State} (x1 : Nat)
    (h : Kept m s₀ x0) (hm : Sub 0x801c2000000408 m) : Kept m s₀ (State.obstruct1 x0 x1) := by
  unfold State.obstruct1
  try dsimp only
  with_reducible repeat' first
    | assumption
    | apply Kept.ite
    | apply State.pTs_kept
    | apply State.inc_kept
    | apply State.ikwOffer_kept
    | apply State.irq_kept
    | apply State.doorHalt_kept
    | apply State.doorShow_kept
    | apply State.setDst_kept
    | apply State.setDoor_kept
    | apply State.doorRest_kept
    | apply State.doorResult_kept
    | (apply Sub.of hm; decide)
    | (apply InPg.at (InPg.dmcP _ (Sub.bit hm (by decide))) (by first | decide | assumption | (dsimp only; decide)))
    | apply InPg.dmcP _ (Sub.bit hm (by decide))
    | split

theorem State.obstruct_kept {m : Nat} {s₀ : State} {x0 : State} (x1 : Nat)
    (h : Kept m s₀ x0) (hm : Sub 0x801c2000000408 m) : Kept m s₀ (State.obstruct x0 x1) := by
  unfold State.obstruct
  try dsimp only
  with_reducible repeat' first
    | assumption
    | apply State.obstruct1_kept
    | apply State.doorSync_kept
    | (apply Sub.of hm; decide)
    | split

theorem State.stallCheck_kept {m : Nat} {s₀ : State} {x0 : State} (x1 : Nat)
    (h : Kept m s₀ x0) (hm : Sub 0x801c2000000408 m) : Kept m s₀ (State.stallCheck x0 x1) := by
  unfold State.stallCheck
  try dsimp only
  with_reducible repeat' first
    | assumption
    | apply Kept.ite
    | apply State.obstruct_kept

theorem State.lostStep_kept {m : Nat} {s₀ : State} {x0 : State} (x1 : Nat)
    (h : Kept m s₀ x0) (hm : Sub 0x801e200000040c m) : Kept m s₀ (State.lostStep x0 x1) := by
  unfold State.lostStep
  try dsimp only
  with_reducible repeat' first
    | assumption
    | apply State.doorOccur_kept
    | apply State.doorRest_kept
    | apply State.irq_kept
    | apply State.doorResult_kept
    | apply State.doorFreeze_kept
    | (apply Sub.of hm; decide)
    | apply InPg.dmcP _ (Sub.bit hm (by decide))

theorem State.permitLost_kept {m : Nat} {s₀ : State} {x0 : State} (x1 : Nat)
    (h : Kept m s₀ x0) (hm : Sub 0x800c2000000400 m) : Kept m s₀ (State.permitLost x0 x1) := by
  unfold State.permitLost
  try dsimp only
  with_reducible repeat' first
    | assumption
    | apply State.doorSync_kept
    | apply State.setDst_kept
    | apply State.doorBrake_kept
    | apply State.setDoor_kept
    | (apply Sub.of hm; decide)

theorem State.doorSignals_kept {m : Nat} {s₀ : State} {x0 : State}
    (h : Kept m s₀ x0) (hm : Sub 0x800c2000000400 m) : Kept m s₀ (State.doorSignals x0) := by
  unfold State.doorSignals
  try dsimp only
  with_reducible repeat' first
    | assumption
    | apply Kept.ite
    | apply State.psB_kept
    | apply State.permitLost_kept
    | (apply Sub.of hm; decide)
    | apply InPg.dmcP _ (Sub.bit hm (by decide))
    | apply Kept.foldl
    | intro _ _ _

theorem State.sepSignal_kept {m : Nat} {s₀ : State} {x0 : State}
    (h : Kept m s₀ x0) (hm : Sub 0x100c2000000100 m) : Kept m s₀ (State.sepSignal x0) := by
  unfold State.sepSignal
  try dsimp only
  with_reducible repeat' first
    | assumption
    | apply Kept.ite
    | apply State.genStop_kept

theorem State.sepCompare_kept {m : Nat} {s₀ : State} {x0 : State}
    (h : Kept m s₀ x0) (hm : Sub 0x101e200000020c m) : Kept m s₀ (State.sepCompare x0) := by
  unfold State.sepCompare
  try dsimp only
  with_reducible repeat' first
    | assumption
    | apply Kept.ite
    | apply State.pI_kept
    | apply State.psB_kept
    | apply State.incIrq_kept
    | apply State.fwOccur_kept
    | apply State.irq_kept
    | apply State.ps_kept
    | (apply Sub.of hm; decide)
    | (apply Sub.bit hm; decide)
    | (apply InPg.at (InPg.sepC (Sub.bit hm (by decide))) (by first | decide | assumption | (dsimp only; decide)))
    | apply InPg.sepC (Sub.bit hm (by decide))
    | (fail_if_no_progress apply Kept.set_hoist)
    | (fail_if_no_progress apply Kept.mk')

theorem State.sepShow_kept {m : Nat} {s₀ : State} {x0 : State}
    (h : Kept m s₀ x0) (hm : Sub 0x200 m) : Kept m s₀ (State.sepShow x0) := by
  unfold State.sepShow
  try dsimp only
  with_reducible repeat' first
    | assumption
    | apply State.psB_kept
    | (apply Sub.of hm; decide)
    | apply InPg.sepC (Sub.bit hm (by decide))

theorem State.sepEval_kept {m : Nat} {s₀ : State} {x0 : State}
    (h : Kept m s₀ x0) (hm : Sub 0x101e200000030c m) : Kept m s₀ (State.sepEval x0) := by
  unfold State.sepEval
  try dsimp only
  with_reducible repeat' first
    | assumption
    | apply Kept.ite
    | apply State.sepShow_kept
    | apply State.psB_kept
    | apply State.p_kept
    | apply State.pI_kept
    | apply State.irq_kept
    | apply State.pTs_kept
    | apply State.inc_kept
    | apply State.ikwOffer_kept
    | apply State.sepCompare_kept
    | apply State.sepSignal_kept
    | (apply Sub.of hm; decide)
    | (apply InPg.at (InPg.sepC (Sub.bit hm (by decide))) (by first | decide | assumption | (dsimp only; decide)))
    | apply InPg.sepC (Sub.bit hm (by decide))

theorem State.sepAsk_kept {m : Nat} {s₀ : State} {x0 : State} (x1 : Nat) (x2 : Nat) (x3 : Int) (x4 : Nat) (x5 : Nat) (x6 : Nat) (x7 : Nat)
    (h : Kept m s₀ x0) (hm : Sub 0xc2000000200 m) : Kept m s₀ (State.sepAsk x0 x1 x2 x3 x4 x5 x6 x7).2 := by
  unfold State.sepAsk
  try dsimp only
  with_reducible repeat' first
    | assumption
    | apply Kept.ite
    | apply State.wr_kept
    | apply State.pI_kept
    | apply State.incIrq_kept
    | (apply Sub.of hm; decide)
    | (apply InPg.at (InPg.sepC (Sub.bit hm (by decide))) (by first | decide | assumption | (dsimp only; decide)))
    | apply InPg.sepC (Sub.bit hm (by decide))
    | split

theorem State.sepRelevel_kept {m : Nat} {s₀ : State} (x0 : Nat) {x1 : State} (x2 : Nat) (x3 : Int)
    (h : Kept m s₀ x1) (hm : Sub 0xc2000000200 m) : Kept m s₀ (State.sepRelevel x0 x1 x2 x3).2 := by
  unfold State.sepRelevel
  try dsimp only
  with_reducible repeat' first
    | assumption
    | apply State.sepAsk_kept

theorem State.setXst_kept {m : Nat} {s₀ : State} {x0 : State} (x1 : Nat) (x2 : Nat)
    (h : Kept m s₀ x0) (hm : Sub 0x100 m) : Kept m s₀ (State.setXst x0 x1 x2) := by
  unfold State.setXst
  try dsimp only
  with_reducible repeat' first
    | assumption
    | apply State.p_kept
    | (apply Sub.of hm; decide)
    | (apply InPg.at (InPg.mpgP _ (Sub.bit hm (by decide))) (by first | decide | assumption | (dsimp only; decide)))

theorem State.xirq_kept {m : Nat} {s₀ : State} {x0 : State} (x1 : Nat) (x2 : Nat)
    (h : Kept m s₀ x0) (hm : Sub 0xc2000000100 m) : Kept m s₀ (State.xirq x0 x1 x2) := by
  unfold State.xirq
  try dsimp only
  with_reducible repeat' first
    | assumption
    | apply State.irq_kept
    | (apply Sub.of hm; decide)
    | apply InPg.mpgC (Sub.bit hm (by decide))

theorem State.entResult_kept {m : Nat} {s₀ : State} {x0 : State} (x1 : Nat) (x2 : Nat)
    (h : Kept m s₀ x0) (hm : Sub 0x100 m) : Kept m s₀ (State.entResult x0 x1 x2) := by
  unfold State.entResult
  try dsimp only
  with_reducible repeat' first
    | assumption
    | apply State.wr_kept
    | (apply Sub.of hm; decide)
    | (apply InPg.at (InPg.mpgP _ (Sub.bit hm (by decide))) (by first | decide | assumption | (dsimp only; decide)))

theorem State.xHeld_kept {m : Nat} {s₀ : State} {x0 : State} (x1 : Nat)
    (h : Kept m s₀ x0) (hm : Sub 0x100c2000000100 m) : Kept m s₀ (State.xHeld x0 x1) := by
  unfold State.xHeld
  try dsimp only
  with_reducible repeat' first
    | assumption
    | apply State.xirq_kept
    | apply State.p_kept
    | apply State.setXst_kept
    | apply State.setExe_kept
    | (apply Sub.of hm; decide)
    | (apply InPg.at (InPg.mpgP _ (Sub.bit hm (by decide))) (by first | decide | assumption | (dsimp only; decide)))

theorem State.xFail_kept {m : Nat} {s₀ : State} {x0 : State} (x1 : Nat) (x2 : Nat)
    (h : Kept m s₀ x0) (hm : Sub 0x100c2000000100 m) : Kept m s₀ (State.xFail x0 x1 x2) := by
  unfold State.xFail
  try dsimp only
  with_reducible repeat' first
    | assumption
    | apply State.xHeld_kept
    | apply State.entResult_kept
    | (apply Sub.of hm; decide)

theorem State.xIdle_kept {m : Nat} {s₀ : State} {x0 : State} (x1 : Nat)
    (h : Kept m s₀ x0) (hm : Sub 0x10000000000100 m) : Kept m s₀ (State.xIdle x0 x1) := by
  unfold State.xIdle
  try dsimp only
  with_reducible repeat' first
    | assumption
    | apply State.setExe_kept
    | apply State.p_kept
    | apply State.setXst_kept
    | (apply Sub.of hm; decide)
    | (apply InPg.at (InPg.mpgP _ (Sub.bit hm (by decide))) (by first | decide | assumption | (dsimp only; decide)))

theorem State.xCancelled_kept {m : Nat} {s₀ : State} {x0 : State} (x1 : Nat) (x2 : Nat)
    (h : Kept m s₀ x0) (hm : Sub 0x100c2000000100 m) : Kept m s₀ (State.xCancelled x0 x1 x2) := by
  unfold State.xCancelled
  try dsimp only
  with_reducible repeat' first
    | assumption
    | apply State.xirq_kept
    | apply State.xIdle_kept
    | apply State.entResult_kept
    | (apply Sub.of hm; decide)

theorem State.xAsk_kept {m : Nat} {s₀ : State} {x0 : State} (x1 : Nat)
    (h : Kept m s₀ x0) (hm : Sub 0x100c2000000300 m) : Kept m s₀ (State.xAsk x0 x1) := by
  unfold State.xAsk
  try dsimp only
  with_reducible repeat' first
    | assumption
    | apply Kept.ite
    | apply State.xFail_kept
    | apply State.sepAsk_kept
    | apply State.setExe_kept
    | apply State.genMove_kept
    | apply State.setXst_kept
    | (apply Sub.of hm; decide)
    | apply Kept.ite2

theorem State.xStart_kept {m : Nat} {s₀ : State} {x0 : State} (x1 : Nat)
    (h : Kept m s₀ x0) (hm : Sub 0x100c2000000300 m) : Kept m s₀ (State.xStart x0 x1) := by
  unfold State.xStart
  try dsimp only
  with_reducible repeat' first
    | assumption
    | apply State.setExe_kept
    | apply State.xAsk_kept
    | apply State.setXst_kept
    | apply State.xirq_kept
    | apply State.xIdle_kept
    | (apply Sub.of hm; decide)
    | split

theorem State.xComplete_kept {m : Nat} {s₀ : State} {x0 : State} (x1 : Nat)
    (h : Kept m s₀ x0) (hm : Sub 0x100c2000000300 m) : Kept m s₀ (State.xComplete x0 x1) := by
  unfold State.xComplete
  try dsimp only
  with_reducible repeat' first
    | assumption
    | apply Kept.ite
    | apply State.entResult_kept
    | apply State.wr_kept
    | apply State.xirq_kept
    | apply State.inc_kept
    | apply State.p_kept
    | apply State.xHeld_kept
    | apply State.xStart_kept
    | (apply Sub.of hm; decide)
    | (apply InPg.at (InPg.entP _ _ (Sub.bit hm (by decide))) (by first | decide | assumption | (dsimp only; decide)))
    | (apply InPg.at (InPg.mpgP _ (Sub.bit hm (by decide))) (by first | decide | assumption | (dsimp only; decide)))

theorem State.xPermit_kept {m : Nat} {s₀ : State} {x0 : State} (x1 : Nat)
    (h : Kept m s₀ x0) (hm : Sub 0xc2000000100 m) : Kept m s₀ (State.xPermit x0 x1) := by
  unfold State.xPermit
  try dsimp only
  with_reducible repeat' first
    | assumption
    | apply Kept.ite
    | apply State.p_kept
    | apply State.xirq_kept
    | (apply Sub.of hm; decide)
    | (apply InPg.at (InPg.mpgP _ (Sub.bit hm (by decide))) (by first | decide | assumption | (dsimp only; decide)))

theorem State.xRunEnd_kept {m : Nat} {s₀ : State} {x0 : State} (x1 : Nat) (x2 : GenEnd)
    (h : Kept m s₀ x0) (hm : Sub 0x100c2000000300 m) : Kept m s₀ (State.xRunEnd x0 x1 x2) := by
  unfold State.xRunEnd
  try dsimp only
  with_reducible repeat' first
    | assumption
    | apply Kept.ite
    | apply State.xCancelled_kept
    | apply State.xFail_kept
    | apply State.setXst_kept
    | apply State.xPermit_kept
    | apply State.xComplete_kept
    | (apply Sub.of hm; decide)
    | split

theorem State.xLocked_kept {m : Nat} {s₀ : State} {x0 : State} (x1 : Nat)
    (h : Kept m s₀ x0) (hm : Sub 0x100c2000000300 m) : Kept m s₀ (State.xLocked x0 x1) := by
  unfold State.xLocked
  try dsimp only
  with_reducible repeat' first
    | assumption
    | apply Kept.ite
    | apply State.p_kept
    | apply State.xCancelled_kept
    | apply State.xComplete_kept
    | (apply Sub.of hm; decide)
    | (apply InPg.at (InPg.mpgP _ (Sub.bit hm (by decide))) (by first | decide | assumption | (dsimp only; decide)))

theorem State.xWait_kept {m : Nat} {s₀ : State} (x0 : Nat) (x1 : Nat) {x2 : State}
    (h : Kept m s₀ x2) (hm : Sub 0x100c2000000300 m) : Kept m s₀ (State.xWait x0 x1 x2) := by
  induction x1 generalizing x2 with
  | zero => unfold State.xWait; exact h
  | succ n ih =>
    unfold State.xWait
    split
    · exact ih (State.xComplete_kept _ h (Sub.of hm (by decide)))
    · exact h

theorem State.xSettle_kept {m : Nat} {s₀ : State} {x0 : State} (x1 : Nat)
    (h : Kept m s₀ x0) (hm : Sub 0x100c2000000300 m) : Kept m s₀ (State.xSettle x0 x1) := by
  unfold State.xSettle
  try dsimp only
  with_reducible repeat' first
    | assumption
    | apply Kept.ite
    | apply State.setGen_kept
    | apply State.xRunEnd_kept
    | apply State.setExe_kept
    | apply State.genStop_kept
    | apply State.xLocked_kept
    | apply State.xWait_kept
    | (apply Sub.of hm; decide)
    | split

theorem State.settle_kept {m : Nat} {s₀ : State} {x0 : State}
    (h : Kept m s₀ x0) (hm : Sub 0x980c2000000700 m) : Kept m s₀ (State.settle x0) := by
  unfold State.settle
  try dsimp only
  with_reducible repeat' first
    | assumption
    | apply Kept.ite
    | apply State.genWake_kept
    | apply State.srcScan_kept
    | apply State.xSettle_kept
    | apply State.setGen_kept
    | apply State.sepShow_kept
    | apply State.doorSignals_kept
    | (apply Sub.of hm; decide)
    | (apply Sub.bit hm; decide)
    | apply Kept.foldl
    | (fail_if_no_progress apply Kept.set_hoist)
    | (fail_if_no_progress apply Kept.set_pulses)
    | (fail_if_no_progress apply Kept.mk')
    | intro _ _ _

theorem State.xPeriod_kept {m : Nat} {s₀ : State} {x0 : State} (x1 : Nat)
    (h : Kept m s₀ x0) (hm : Sub 0x100c2000000300 m) : Kept m s₀ (State.xPeriod x0 x1) := by
  unfold State.xPeriod
  try dsimp only
  with_reducible repeat' first
    | assumption
    | apply Kept.ite
    | apply State.xAsk_kept
    | apply State.setExe_kept
    | apply State.xPermit_kept
    | (apply Sub.of hm; decide)

theorem State.markSync_kept {m : Nat} {s₀ : State} {x0 : State} (x1 : Nat)
    (h : Kept m s₀ x0) (hm : Sub 0x2000000000000 m) : Kept m s₀ (State.markSync x0 x1) := by
  unfold State.markSync
  try dsimp only
  with_reducible repeat' first
    | assumption
    | apply Kept.ite
    | apply State.setFb_kept
    | apply Kept.foldl
    | intro _ _ _

theorem State.hoistBoundary_kept {m : Nat} {s₀ : State} {x0 : State} (x1 : Nat)
    (h : Kept m s₀ x0) (hm : Sub 0x9a9fa00000070e m) : Kept m s₀ (State.hoistBoundary x0 x1) := by
  unfold State.hoistBoundary
  try dsimp only
  with_reducible repeat' first
    | assumption
    | apply Kept.ite
    | apply State.markSync_kept
    | apply State.setGen_kept
    | apply State.advanceTo_kept
    | apply State.whereUpdate_kept
    | apply State.pTs_kept
    | apply State.genPeriod_kept
    | apply State.genWake_kept
    | apply State.sepRelevel_kept
    | apply State.settle_kept
    | apply State.xPeriod_kept
    | apply State.sepEval_kept
    | (apply Sub.of hm; decide)
    | (apply InPg.at (InPg.mpgP _ (Sub.bit hm (by decide))) (by first | decide | assumption | (dsimp only; decide)))
    | intro _ _ _
    | intro

theorem State.onPort_kept {m : Nat} {s₀ : State} {x0 : State} (x1 : Nat) (x2 : State → State)
    (h : Kept m s₀ x0) (hm : Sub 0x4000020000 m) (ha : At m x1) (h2 : ∀ y, Kept m s₀ y → Kept m s₀ (x2 y)) : Kept m s₀ (State.onPort x0 x1 x2) := by
  unfold State.onPort
  try dsimp only
  with_reducible repeat' first
    | assumption
    | apply State.onWrite_kept

theorem State.mapCtrl_kept {m : Nat} {s₀ : State} {x0 : State} (x1 : Word)
    (h : Kept m s₀ x0) (hm : Sub 0x10000000000300 m) : Kept m s₀ (State.mapCtrl x0 x1) := by
  unfold State.mapCtrl
  try dsimp only
  with_reducible repeat' first
    | assumption
    | apply Kept.ite
    | apply State.pm_kept
    | apply State.disarm_kept
    | apply State.sepShow_kept
    | (apply Sub.of hm; decide)
    | (apply Sub.bit hm; decide)
    | (fail_if_no_progress apply Kept.set_hoist)
    | (fail_if_no_progress apply Kept.mk')

theorem State.armResult_kept {m : Nat} {s₀ : State} {x0 : State} (x1 : Nat) (x2 : Bool)
    (h : Kept m s₀ x0) (hm : Sub 0x10000000000100 m) : Kept m s₀ (State.armResult x0 x1 x2) := by
  unfold State.armResult
  try dsimp only
  with_reducible repeat' first
    | assumption
    | apply Kept.ite
    | apply State.pm_kept
    | apply State.disarm_kept
    | (apply Sub.of hm; decide)

theorem State.armOutcome_kept {m : Nat} {s₀ : State} {x0 : State}
    (h : Kept m s₀ x0) (hm : Sub 0x10000000000100 m) : Kept m s₀ (State.armOutcome x0) := by
  unfold State.armOutcome
  try dsimp only
  with_reducible repeat' first
    | assumption
    | apply State.pm_kept
    | apply State.armResult_kept
    | (apply Sub.of hm; decide)
    | (apply Sub.bit hm; decide)
    | apply Kept.foldl
    | (fail_if_no_progress apply Kept.set_hoist)
    | (fail_if_no_progress apply Kept.mk')
    | intro _ _ _

theorem State.armDone_kept {m : Nat} {s₀ : State} {x0 : State}
    (h : Kept m s₀ x0) (hm : Sub 0x980c2000000700 m) : Kept m s₀ (State.armDone x0) := by
  unfold State.armDone
  try dsimp only
  with_reducible repeat' first
    | assumption
    | apply State.settle_kept
    | apply State.armOutcome_kept
    | (apply Sub.of hm; decide)

theorem State.levelEnd_kept {m : Nat} {s₀ : State} {x0 : State} (x1 : Nat)
    (h : Kept m s₀ x0) (hm : Sub 0x101da00000010a m) : Kept m s₀ (State.levelEnd x0 x1) := by
  unfold State.levelEnd
  try dsimp only
  with_reducible repeat' first
    | assumption
    | apply State.advanceTo_kept
    | apply State.genResult_kept
    | apply State.irq_kept
    | apply State.ps_kept
    | apply State.setGst_kept
    | apply State.refHold_kept
    | apply State.setGen_kept
    | (apply Sub.of hm; decide)
    | apply InPg.mpgP _ (Sub.bit hm (by decide))

theorem State.missEnd_kept {m : Nat} {s₀ : State} {x0 : State} (x1 : Nat)
    (h : Kept m s₀ x0) (hm : Sub 0x101da00000010a m) : Kept m s₀ (State.missEnd x0 x1) := by
  unfold State.missEnd
  try dsimp only
  with_reducible repeat' first
    | assumption
    | apply State.advanceTo_kept
    | apply State.irq_kept
    | apply State.ps_kept
    | apply State.setGst_kept
    | apply State.refHold_kept
    | apply State.setGen_kept
    | (apply Sub.of hm; decide)
    | apply InPg.mpgP _ (Sub.bit hm (by decide))

theorem State.mpgWords_kept {m : Nat} {s₀ : State} {x0 : State} (x1 : Nat) (x2 : Word) (x3 : Word) (x4 : Word)
    (h : Kept m s₀ x0) (hm : Sub 0x100 m) : Kept m s₀ (State.mpgWords x0 x1 x2 x3 x4) := by
  unfold State.mpgWords
  try dsimp only
  with_reducible repeat' first
    | assumption
    | apply State.wr_kept
    | (apply Sub.of hm; decide)
    | (apply InPg.at (InPg.mpgP _ (Sub.bit hm (by decide))) (by first | decide | assumption | (dsimp only; decide)))

theorem State.mpgOp_kept {m : Nat} {s₀ : State} {x0 : State} (x1 : Nat) (x2 : Word) (x3 : Word) (x4 : Word)
    (h : Kept m s₀ x0) (hm : Sub 0x980c2000000700 m) : Kept m s₀ (State.mpgOp x0 x1 x2 x3 x4) := by
  unfold State.mpgOp
  try dsimp only
  with_reducible repeat' first
    | assumption
    | apply Kept.ite
    | apply State.mpgWords_kept
    | apply State.settle_kept
    | apply State.genStop_kept
    | apply State.genResult_kept
    | apply State.setGen_kept
    | (apply Sub.of hm; decide)
    | split

theorem State.haltClear_kept {m : Nat} {s₀ : State} {x0 : State} (x1 : Nat)
    (h : Kept m s₀ x0) (hm : Sub 0x10000000000100 m) : Kept m s₀ (State.haltClear x0 x1) := by
  unfold State.haltClear
  try dsimp only
  with_reducible repeat' first
    | assumption
    | apply Kept.ite
    | apply State.ps_kept
    | apply State.setGst_kept
    | apply State.degClear_kept
    | apply State.refFollow_kept
    | apply State.setGen_kept
    | apply State.flt_kept
    | (apply Sub.of hm; decide)
    | apply InPg.mpgP _ (Sub.bit hm (by decide))

theorem State.mpgCtrlAct_kept {m : Nat} {s₀ : State} {x0 : State} (x1 : Nat) (x2 : Word)
    (h : Kept m s₀ x0) (hm : Sub 0x10000000000100 m) : Kept m s₀ (State.mpgCtrlAct x0 x1 x2) := by
  unfold State.mpgCtrlAct
  try dsimp only
  with_reducible repeat' first
    | assumption
    | apply Kept.ite
    | apply State.pB_kept
    | apply State.haltClear_kept
    | apply State.degClear_kept
    | apply State.genOff_kept
    | (apply Sub.of hm; decide)
    | (apply InPg.at (InPg.mpgP _ (Sub.bit hm (by decide))) (by first | decide | assumption | (dsimp only; decide)))

theorem State.mpgCtrl_kept {m : Nat} {s₀ : State} {x0 : State} (x1 : Nat) (x2 : Word)
    (h : Kept m s₀ x0) (hm : Sub 0x980c2000000700 m) : Kept m s₀ (State.mpgCtrl x0 x1 x2) := by
  unfold State.mpgCtrl
  try dsimp only
  with_reducible repeat' first
    | assumption
    | apply Kept.ite
    | apply State.flt_kept
    | apply State.settle_kept
    | apply State.mpgCtrlAct_kept
    | (apply Sub.of hm; decide)
    | apply InPg.mpgP _ (Sub.bit hm (by decide))

theorem State.sepStatWrite_kept {m : Nat} {s₀ : State} {x0 : State} (x1 : Word)
    (h : Kept m s₀ x0) (hm : Sub 0x200 m) : Kept m s₀ (State.sepStatWrite x0 x1) := by
  unfold State.sepStatWrite
  try dsimp only
  with_reducible repeat' first
    | assumption
    | apply Kept.ite
    | apply State.flt_kept
    | apply State.ps_kept
    | (apply Sub.of hm; decide)
    | apply InPg.sepC (Sub.bit hm (by decide))

theorem State.xCmd_kept {m : Nat} {s₀ : State} {x0 : State} (x1 : Nat) (x2 : Nat) (x3 : Nat)
    (h : Kept m s₀ x0) (hm : Sub 0xc2000000100 m) : Kept m s₀ (State.xCmd x0 x1 x2 x3) := by
  unfold State.xCmd
  try dsimp only
  with_reducible repeat' first
    | assumption
    | apply Kept.ite
    | apply State.wr_kept
    | apply State.xirq_kept
    | (apply Sub.of hm; decide)
    | (apply InPg.at (InPg.mpgP _ (Sub.bit hm (by decide))) (by first | decide | assumption | (dsimp only; decide)))

theorem State.xLoad_kept {m : Nat} {s₀ : State} {x0 : State} (x1 : Nat) (x2 : Nat) (x3 : Word) (x4 : Word) (x5 : Word) (x6 : Word) (x7 : Nat)
    (h : Kept m s₀ x0) (hm : Sub 0xc2000000100 m) : Kept m s₀ (State.xLoad x0 x1 x2 x3 x4 x5 x6 x7) := by
  unfold State.xLoad
  try dsimp only
  with_reducible repeat' first
    | assumption
    | apply Kept.ite
    | apply State.xCmd_kept
    | apply State.wr_kept
    | (apply Sub.of hm; decide)
    | (apply InPg.at (InPg.entP _ _ (Sub.bit hm (by decide))) (by first | decide | assumption | (dsimp only; decide)))

theorem State.xGo_kept {m : Nat} {s₀ : State} {x0 : State} (x1 : Nat) (x2 : Nat) (x3 : Nat)
    (h : Kept m s₀ x0) (hm : Sub 0x100c2000000300 m) : Kept m s₀ (State.xGo x0 x1 x2 x3) := by
  unfold State.xGo
  try dsimp only
  with_reducible repeat' first
    | assumption
    | apply Kept.ite
    | apply State.xCmd_kept
    | apply State.xStart_kept
    | apply State.p_kept
    | (apply Sub.of hm; decide)
    | (apply InPg.at (InPg.mpgP _ (Sub.bit hm (by decide))) (by first | decide | assumption | (dsimp only; decide)))

theorem State.xHold_kept {m : Nat} {s₀ : State} {x0 : State} (x1 : Nat) (x2 : Nat)
    (h : Kept m s₀ x0) (hm : Sub 0xc2000000100 m) : Kept m s₀ (State.xHold x0 x1 x2) := by
  unfold State.xHold
  try dsimp only
  with_reducible repeat' first
    | assumption
    | apply Kept.ite
    | apply State.xCmd_kept
    | apply State.p_kept
    | (apply Sub.of hm; decide)
    | (apply InPg.at (InPg.mpgP _ (Sub.bit hm (by decide))) (by first | decide | assumption | (dsimp only; decide)))

theorem State.xResume_kept {m : Nat} {s₀ : State} {x0 : State} (x1 : Nat) (x2 : Nat)
    (h : Kept m s₀ x0) (hm : Sub 0x100c2000000300 m) : Kept m s₀ (State.xResume x0 x1 x2) := by
  unfold State.xResume
  try dsimp only
  with_reducible repeat' first
    | assumption
    | apply Kept.ite
    | apply State.xCmd_kept
    | apply State.xStart_kept
    | (apply Sub.of hm; decide)

theorem State.xCancel_kept {m : Nat} {s₀ : State} {x0 : State} (x1 : Nat) (x2 : Word) (x3 : Word) (x4 : Nat)
    (h : Kept m s₀ x0) (hm : Sub 0x100c2000000100 m) : Kept m s₀ (State.xCancel x0 x1 x2 x3 x4) := by
  unfold State.xCancel
  try dsimp only
  with_reducible repeat' first
    | assumption
    | apply Kept.ite
    | apply State.xCmd_kept
    | apply State.setExe_kept
    | apply State.genStop_kept
    | apply State.setXst_kept
    | apply State.xCancelled_kept
    | (apply Sub.of hm; decide)
    | split

theorem State.xRelease_kept {m : Nat} {s₀ : State} {x0 : State} (x1 : Nat) (x2 : Nat)
    (h : Kept m s₀ x0) (hm : Sub 0xc2000000100 m) : Kept m s₀ (State.xRelease x0 x1 x2) := by
  unfold State.xRelease
  try dsimp only
  with_reducible repeat' first
    | assumption
    | apply Kept.ite
    | apply State.xCmd_kept
    | apply State.setXst_kept
    | (apply Sub.of hm; decide)

theorem State.xOp_kept {m : Nat} {s₀ : State} {x0 : State} (x1 : Nat) (x2 : Word) (x3 : Word) (x4 : Word) (x5 : Word) (x6 : Word)
    (h : Kept m s₀ x0) (hm : Sub 0x980c2000000700 m) : Kept m s₀ (State.xOp x0 x1 x2 x3 x4 x5 x6) := by
  unfold State.xOp
  try dsimp only
  with_reducible repeat' first
    | assumption
    | apply State.wr_kept
    | apply State.settle_kept
    | apply State.xLoad_kept
    | apply State.xGo_kept
    | apply State.xHold_kept
    | apply State.xResume_kept
    | apply State.xCancel_kept
    | apply State.xRelease_kept
    | apply State.xCmd_kept
    | (apply Sub.of hm; decide)
    | (apply InPg.at (InPg.mpgP _ (Sub.bit hm (by decide))) (by first | decide | assumption | (dsimp only; decide)))
    | split

theorem State.setLane_kept {m : Nat} {s₀ : State} {x0 : State} (x1 : Nat) (x2 : LaneSt)
    (h : Kept m s₀ x0) (hm : Sub 0x100000000000000 m) : Kept m s₀ (State.setLane x0 x1 x2) := by
  unfold State.setLane
  try dsimp only
  with_reducible repeat' first
    | assumption
    | (apply Sub.bit hm; decide)
    | (fail_if_no_progress apply Kept.set_safe)
    | (fail_if_no_progress apply Kept.mk')

theorem State.setLcar_kept {m : Nat} {s₀ : State} {x0 : State} (x1 : Nat) (x2 : Nat) (x3 : LaneCar)
    (h : Kept m s₀ x0) (hm : Sub 0x100000000000000 m) : Kept m s₀ (State.setLcar x0 x1 x2 x3) := by
  unfold State.setLcar
  try dsimp only
  with_reducible repeat' first
    | assumption
    | apply State.setLane_kept

theorem State.setLin_kept {m : Nat} {s₀ : State} {x0 : State} (x1 : Nat) (x2 : Nat) (x3 : LaneIn)
    (h : Kept m s₀ x0) (hm : Sub 0x100000000000000 m) : Kept m s₀ (State.setLin x0 x1 x2 x3) := by
  unfold State.setLin
  try dsimp only
  with_reducible repeat' first
    | assumption
    | (apply Sub.bit hm; decide)
    | (fail_if_no_progress apply Kept.set_safe)
    | (fail_if_no_progress apply Kept.mk')

theorem State.setLout_kept {m : Nat} {s₀ : State} {x0 : State} (x1 : Nat) (x2 : Nat) (x3 : LaneOut)
    (h : Kept m s₀ x0) (hm : Sub 0x100000000000000 m) : Kept m s₀ (State.setLout x0 x1 x2 x3) := by
  unfold State.setLout
  try dsimp only
  with_reducible repeat' first
    | assumption
    | (apply Sub.bit hm; decide)
    | (fail_if_no_progress apply Kept.set_safe)
    | (fail_if_no_progress apply Kept.mk')

theorem State.setSw_kept {m : Nat} {s₀ : State} {x0 : State} (x1 : Nat) (x2 : OutSw)
    (h : Kept m s₀ x0) (hm : Sub 0x100000000000000 m) : Kept m s₀ (State.setSw x0 x1 x2) := by
  unfold State.setSw
  try dsimp only
  with_reducible repeat' first
    | assumption
    | (apply Sub.bit hm; decide)
    | (fail_if_no_progress apply Kept.set_safe)
    | (fail_if_no_progress apply Kept.mk')

theorem State.setComm_kept {m : Nat} {s₀ : State} {x0 : State} (x1 : Nat) (x2 : Nat)
    (h : Kept m s₀ x0) (hm : Sub 0x100000000000090 m) : Kept m s₀ (State.setComm x0 x1 x2) := by
  unfold State.setComm
  try dsimp only
  with_reducible repeat' first
    | assumption
    | apply State.memShow_kept
    | apply State.ps_kept
    | apply State.p_kept
    | apply State.setLane_kept
    | (apply Sub.of hm; decide)
    | (apply InPg.at (InPg.sagC (Sub.bit hm (by decide))) (by first | decide | assumption | (dsimp only; decide)))
    | apply InPg.sagP _ (Sub.bit hm (by decide))
    | split

theorem State.inFault_kept {m : Nat} {s₀ : State} {x0 : State} (x1 : Nat) (x2 : Nat) (x3 : Nat)
    (h : Kept m s₀ x0) (hm : Sub 0x1000c2000000020 m) : Kept m s₀ (State.inFault x0 x1 x2 x3) := by
  unfold State.inFault
  try dsimp only
  with_reducible repeat' first
    | assumption
    | apply Kept.ite
    | apply State.setLin_kept
    | apply State.irq_kept
    | apply State.ps_kept
    | apply State.p_kept
    | (apply Sub.of hm; decide)
    | (apply InPg.at (InPg.inP _ (Sub.bit hm (by decide))) (by first | decide | assumption | (dsimp only; decide)))
    | apply InPg.sibP _ (Sub.bit hm (by decide))

theorem State.discTick_kept {m : Nat} {s₀ : State} {x0 : State} (x1 : Nat) (x2 : Nat)
    (h : Kept m s₀ x0) (hm : Sub 0x1001e200000002c m) : Kept m s₀ (State.discTick x0 x1 x2) := by
  unfold State.discTick
  try dsimp only
  with_reducible repeat' first
    | assumption
    | apply Kept.ite
    | apply State.setLin_kept
    | apply State.incIrq_kept
    | apply State.p_kept
    | apply State.fwOccur_kept
    | apply State.inFault_kept
    | (apply Sub.of hm; decide)
    | (apply InPg.at (InPg.inP _ (Sub.bit hm (by decide))) (by first | decide | assumption | (dsimp only; decide)))
    | apply InPg.sibP _ (Sub.bit hm (by decide))

theorem State.relShow_kept {m : Nat} {s₀ : State} {x0 : State}
    (h : Kept m s₀ x0) (hm : Sub 0xc2000000020 m) : Kept m s₀ (State.relShow x0) := by
  unfold State.relShow
  try dsimp only
  with_reducible repeat' first
    | assumption
    | apply Kept.ite
    | apply State.psB_kept
    | apply State.irq_kept
    | (apply Sub.of hm; decide)
    | apply InPg.sogP _ (Sub.bit hm (by decide))
    | apply Kept.foldl
    | intro _ _ _

theorem State.setSwitch_kept {m : Nat} {s₀ : State} {x0 : State} (x1 : Nat) (x2 : Nat) (x3 : Bool)
    (h : Kept m s₀ x0) (hm : Sub 0x1000c2000000020 m) : Kept m s₀ (State.setSwitch x0 x1 x2 x3) := by
  unfold State.setSwitch
  try dsimp only
  with_reducible repeat' first
    | assumption
    | apply Kept.ite
    | apply State.psB_kept
    | apply State.setLout_kept
    | apply State.irq_kept
    | apply State.setSw_kept
    | (apply Sub.of hm; decide)
    | apply InPg.sogP _ (Sub.bit hm (by decide))

theorem State.laneLatch_kept {m : Nat} {s₀ : State} {x0 : State} (x1 : Nat) (x2 : Nat) (x3 : Nat) (x4 : Nat)
    (h : Kept m s₀ x0) (hm : Sub 0x1001c20000000e8 m) : Kept m s₀ (State.laneLatch x0 x1 x2 x3 x4) := by
  unfold State.laneLatch
  try dsimp only
  with_reducible repeat' first
    | assumption
    | apply Kept.ite
    | apply State.setLcar_kept
    | apply State.p_kept
    | apply State.irq_kept
    | apply State.pTs_kept
    | apply State.psB_kept
    | apply State.ikwOffer_kept
    | apply State.irqM_kept
    | apply State.setSwitch_kept
    | (apply Sub.of hm; decide)
    | (apply InPg.at (InPg.slpC (Sub.bit hm (by decide))) (by first | decide | assumption | (dsimp only; decide)))
    | (apply InPg.at (InPg.sagP _ (Sub.bit hm (by decide))) (by first | decide | assumption | (dsimp only; decide)))
    | apply InPg.sagP _ (Sub.bit hm (by decide))
    | apply InPg.sagC (Sub.bit hm (by decide))
    | (apply InPg.at (InPg.sioC (Sub.bit hm (by decide))) (by first | decide | assumption | (dsimp only; decide)))
    | apply InPg.sioC (Sub.bit hm (by decide))
    | apply Kept.foldl
    | intro _ _ _
    | split

theorem State.laneLatchAll_kept {m : Nat} {s₀ : State} {x0 : State} (x1 : Nat) (x2 : Nat)
    (h : Kept m s₀ x0) (hm : Sub 0x1001c20000000e8 m) : Kept m s₀ (State.laneLatchAll x0 x1 x2) := by
  unfold State.laneLatchAll
  try dsimp only
  with_reducible repeat' first
    | assumption
    | apply State.laneLatch_kept

theorem State.groupFault_kept {m : Nat} {s₀ : State} {x0 : State} (x1 : Nat) (x2 : Nat) (x3 : Nat) (x4 : Nat)
    (h : Kept m s₀ x0) (hm : Sub 0x1001e20000000ec m) : Kept m s₀ (State.groupFault x0 x1 x2 x3 x4) := by
  unfold State.groupFault
  try dsimp only
  with_reducible repeat' first
    | assumption
    | apply Kept.ite
    | apply State.setLane_kept
    | apply State.ps_kept
    | apply State.ikwOffer_kept
    | apply State.irq_kept
    | apply State.fwOccur_kept
    | apply State.laneLatch_kept
    | (apply Sub.of hm; decide)
    | apply InPg.sogP _ (Sub.bit hm (by decide))

theorem State.driveOne_kept {m : Nat} {s₀ : State} {x0 : State} (x1 : Nat) (x2 : Nat)
    (h : Kept m s₀ x0) (hm : Sub 0x1001e20000000ec m) : Kept m s₀ (State.driveOne x0 x1 x2) := by
  unfold State.driveOne
  try dsimp only
  with_reducible repeat' first
    | assumption
    | apply Kept.ite
    | apply State.psB_kept
    | apply State.setSw_kept
    | apply State.setSwitch_kept
    | apply State.groupFault_kept
    | (apply Sub.of hm; decide)
    | apply InPg.sogP _ (Sub.bit hm (by decide))
    | split

theorem State.drive_kept {m : Nat} {s₀ : State} {x0 : State} (x1 : Nat)
    (h : Kept m s₀ x0) (hm : Sub 0x1001e20000000ec m) : Kept m s₀ (State.drive x0 x1) := by
  unfold State.drive
  try dsimp only
  with_reducible repeat' first
    | assumption
    | apply State.driveOne_kept
    | apply Kept.foldl
    | intro _ _ _

theorem State.sampleOut_kept {m : Nat} {s₀ : State} {x0 : State} (x1 : Nat) (x2 : Nat) (x3 : Nat)
    (h : Kept m s₀ x0) (hm : Sub 0x100000000000020 m) : Kept m s₀ (State.sampleOut x0 x1 x2 x3) := by
  unfold State.sampleOut
  try dsimp only
  with_reducible repeat' first
    | assumption
    | apply Kept.ite
    | apply State.setLout_kept
    | apply State.psB_kept
    | apply State.p_kept
    | apply State.pTs_kept
    | (apply Sub.of hm; decide)
    | apply InPg.sogP _ (Sub.bit hm (by decide))
    | (apply InPg.at (InPg.outP _ (Sub.bit hm (by decide))) (by first | decide | assumption | (dsimp only; decide)))
    | apply Kept.foldl
    | intro _ _ _

theorem State.fbTick_kept {m : Nat} {s₀ : State} {x0 : State} (x1 : Nat) (x2 : Nat)
    (h : Kept m s₀ x0) (hm : Sub 0x1001e20000000ec m) : Kept m s₀ (State.fbTick x0 x1 x2) := by
  unfold State.fbTick
  try dsimp only
  with_reducible repeat' first
    | assumption
    | apply Kept.ite
    | apply State.setLout_kept
    | apply State.groupFault_kept
    | (apply Sub.of hm; decide)

theorem State.laneTick_kept {m : Nat} {s₀ : State} {x0 : State} (x1 : Nat)
    (h : Kept m s₀ x0) (hm : Sub 0x1001e20000000ec m) : Kept m s₀ (State.laneTick x0 x1) := by
  unfold State.laneTick
  try dsimp only
  with_reducible repeat' first
    | assumption
    | apply Kept.ite
    | apply State.discTick_kept
    | apply State.fbTick_kept
    | (apply Sub.of hm; decide)
    | apply Kept.foldl
    | intro _ _ _

theorem State.laneZone_kept {m : Nat} {s₀ : State} {x0 : State} (x1 : Nat) (x2 : Nat) (x3 : Nat) (x4 : Bool)
    (h : Kept m s₀ x0) (hm : Sub 0x1001c2000000028 m) : Kept m s₀ (State.laneZone x0 x1 x2 x3 x4) := by
  unfold State.laneZone
  try dsimp only
  with_reducible repeat' first
    | assumption
    | apply Kept.ite
    | apply State.setLcar_kept
    | apply State.ikwOffer_kept
    | apply State.irq_kept
    | (apply Sub.of hm; decide)
    | apply InPg.sioC (Sub.bit hm (by decide))

theorem State.laneUcmp_kept {m : Nat} {s₀ : State} {x0 : State} (x1 : Nat) (x2 : Nat)
    (h : Kept m s₀ x0) (hm : Sub 0x1001c20000000e8 m) : Kept m s₀ (State.laneUcmp x0 x1 x2) := by
  unfold State.laneUcmp
  try dsimp only
  with_reducible repeat' first
    | assumption
    | apply Kept.ite
    | apply State.setLcar_kept
    | apply State.p_kept
    | apply State.laneLatch_kept
    | (apply Sub.of hm; decide)
    | ((unfold ucmpDisp; split <;> exact InPg.at (InPg.sioC (Sub.bit hm (by decide))) (by decide)))
    | split

theorem State.ucmpArm_kept {m : Nat} {s₀ : State} {x0 : State} (x1 : Nat)
    (h : Kept m s₀ x0) (hm : Sub 0x100000000000020 m) : Kept m s₀ (State.ucmpArm x0 x1) := by
  unfold State.ucmpArm
  try dsimp only
  with_reducible repeat' first
    | assumption
    | apply Kept.ite
    | apply State.p_kept
    | apply State.setLcar_kept
    | (apply Sub.of hm; decide)
    | ((unfold ucmpDisp; split <;> exact InPg.at (InPg.sioC (Sub.bit hm (by decide))) (by decide)))
    | apply Kept.foldl
    | intro _ _ _

theorem State.resetPress_kept {m : Nat} {s₀ : State} {x0 : State} (x1 : Nat)
    (h : Kept m s₀ x0) (hm : Sub 0x100000000000000 m) : Kept m s₀ (State.resetPress x0 x1) := by
  unfold State.resetPress
  try dsimp only
  with_reducible repeat' first
    | assumption
    | (apply Sub.bit hm; decide)
    | (fail_if_no_progress apply Kept.set_safe)
    | (fail_if_no_progress apply Kept.mk')

theorem State.laneEval_kept {m : Nat} {s₀ : State} {x0 : State} (x1 : Nat) (x2 : Nat → Nat) (x3 : Nat → Bool)
    (h : Kept m s₀ x0) (hm : Sub 0x1001c20000000e8 m) : Kept m s₀ (State.laneEval x0 x1 x2 x3) := by
  unfold State.laneEval
  try dsimp only
  with_reducible repeat' first
    | assumption
    | apply Kept.ite
    | apply State.setLcar_kept
    | apply State.laneUcmp_kept
    | apply State.laneZone_kept
    | apply State.setLane_kept
    | apply State.laneLatch_kept
    | (apply Sub.of hm; decide)
    | apply Kept.foldl
    | intro _ _ _

theorem State.psCar_kept {m : Nat} {s₀ : State} {x0 : State} (x1 : Nat) (x2 : Fld) (x3 : Fld) (x4 : Bool)
    (h : Kept m s₀ x0) (hm : Sub 0x20 m) : Kept m s₀ (State.psCar x0 x1 x2 x3 x4) := by
  unfold State.psCar
  try dsimp only
  with_reducible repeat' first
    | assumption
    | apply State.psB_kept
    | (apply Sub.of hm; decide)
    | apply InPg.sioC (Sub.bit hm (by decide))

theorem State.sioShow_kept {m : Nat} {s₀ : State} {x0 : State}
    (h : Kept m s₀ x0) (hm : Sub 0x1000c2000000020 m) : Kept m s₀ (State.sioShow x0) := by
  unfold State.sioShow
  try dsimp only
  with_reducible repeat' first
    | assumption
    | apply Kept.ite
    | apply State.p_kept
    | apply State.wrStat_kept
    | apply State.irqM_kept
    | apply State.resetPress_kept
    | apply State.psCar_kept
    | apply State.ucmpArm_kept
    | apply State.irq_kept
    | apply State.relShow_kept
    | (apply Sub.of hm; decide)
    | (apply InPg.at (InPg.sioC (Sub.bit hm (by decide))) (by first | decide | assumption | (dsimp only; decide)))
    | apply InPg.sioC (Sub.bit hm (by decide))
    | apply InPg.sibP _ (Sub.bit hm (by decide))
    | apply Kept.foldl
    | intro _ _ _

theorem State.sageOpenShow_kept {m : Nat} {s₀ : State} {x0 : State}
    (h : Kept m s₀ x0) (hm : Sub 0x80 m) : Kept m s₀ (State.sageOpenShow x0) := by
  unfold State.sageOpenShow
  try dsimp only
  with_reducible repeat' first
    | assumption
    | apply State.psB_kept
    | (apply Sub.of hm; decide)
    | apply InPg.sagP _ (Sub.bit hm (by decide))
    | apply Kept.foldl
    | intro _ _ _

theorem State.laneDone_kept {m : Nat} {s₀ : State} {x0 : State} (x1 : State → State)
    (h : Kept m s₀ x0) (hm : Sub 0x1981c20000007a8 m) (h1 : ∀ y, Kept m s₀ y → Kept m s₀ (x1 y)) : Kept m s₀ (State.laneDone x0 x1) := by
  unfold State.laneDone
  try dsimp only
  with_reducible repeat' first
    | assumption
    | apply h1
    | apply Kept.ite
    | apply State.sageOpenShow_kept
    | apply State.sioShow_kept
    | apply State.safetyHalt_kept
    | apply State.settle_kept
    | (apply Sub.of hm; decide)

theorem State.disCmp_kept {m : Nat} {s₀ : State} {x0 : State} (x1 : Nat) (x2 : Bool)
    (h : Kept m s₀ x0) (hm : Sub 0x1000c2000000080 m) : Kept m s₀ (State.disCmp x0 x1 x2) := by
  unfold State.disCmp
  try dsimp only
  with_reducible repeat' first
    | assumption
    | apply Kept.ite
    | apply State.incIrq_kept
    | (apply Sub.of hm; decide)
    | (apply Sub.bit hm; decide)
    | (apply InPg.at (InPg.sagC (Sub.bit hm (by decide))) (by first | decide | assumption | (dsimp only; decide)))
    | apply InPg.sagC (Sub.bit hm (by decide))
    | (fail_if_no_progress apply Kept.set_safe)
    | (fail_if_no_progress apply Kept.mk')

theorem State.postRec_kept {m : Nat} {s₀ : State} {x0 : State} (x1 : Nat) (x2 : Nat) (x3 : Bool)
    (h : Kept m s₀ x0) (hm : Sub 0x100000000000000 m) : Kept m s₀ (State.postRec x0 x1 x2 x3) := by
  unfold State.postRec
  try dsimp only
  with_reducible repeat' first
    | assumption
    | apply State.setLane_kept

theorem State.compare_kept {m : Nat} {s₀ : State} {x0 : State} (x1 : LaneRec) (x2 : LaneRec)
    (h : Kept m s₀ x0) (hm : Sub 0x1000c2000000080 m) : Kept m s₀ (State.compare x0 x1 x2) := by
  unfold State.compare
  try dsimp only
  with_reducible repeat' first
    | assumption
    | apply Kept.ite
    | apply State.pI_kept
    | apply State.disCmp_kept
    | (apply Sub.of hm; decide)
    | (apply InPg.at (InPg.sagP _ (Sub.bit hm (by decide))) (by first | decide | assumption | (dsimp only; decide)))
    | apply Kept.foldl
    | intro _ _ _

theorem State.follow_kept {m : Nat} {s₀ : State} {x0 : State} (x1 : Nat) (x2 : LaneRec)
    (h : Kept m s₀ x0) (hm : Sub 0x1001c20000000e8 m) : Kept m s₀ (State.follow x0 x1 x2) := by
  unfold State.follow
  try dsimp only
  with_reducible repeat' first
    | assumption
    | apply Kept.ite
    | apply State.laneLatch_kept
    | apply State.setLane_kept
    | apply State.inFault_kept
    | (apply Sub.of hm; decide)
    | apply Kept.foldl
    | intro _ _ _

theorem State.missRec_kept {m : Nat} {s₀ : State} {x0 : State} (x1 : Nat)
    (h : Kept m s₀ x0) (hm : Sub 0x1001c20000000e8 m) : Kept m s₀ (State.missRec x0 x1) := by
  unfold State.missRec
  try dsimp only
  with_reducible repeat' first
    | assumption
    | apply Kept.ite
    | apply State.inc_kept
    | apply State.setLane_kept
    | apply State.laneLatchAll_kept
    | (apply Sub.of hm; decide)
    | (apply InPg.at (InPg.sagC (Sub.bit hm (by decide))) (by first | decide | assumption | (dsimp only; decide)))

theorem State.exchange_kept {m : Nat} {s₀ : State} {x0 : State} (x1 : Nat) (x2 : Bool) (x3 : Bool) (x4 : Bool)
    (h : Kept m s₀ x0) (hm : Sub 0x1001c20000000e8 m) : Kept m s₀ (State.exchange x0 x1 x2 x3 x4) := by
  unfold State.exchange
  try dsimp only
  with_reducible repeat' first
    | assumption
    | apply Kept.ite
    | apply State.postRec_kept
    | apply State.setLane_kept
    | apply State.missRec_kept
    | apply State.compare_kept
    | apply State.laneLatchAll_kept
    | apply State.follow_kept
    | apply State.p_kept
    | (apply Sub.of hm; decide)
    | (apply Sub.bit hm; decide)
    | (apply InPg.at (InPg.sagP _ (Sub.bit hm (by decide))) (by first | decide | assumption | (dsimp only; decide)))
    | apply Kept.foldl
    | (fail_if_no_progress apply Kept.set_safe)
    | (fail_if_no_progress apply Kept.mk')
    | intro _ _ _

theorem State.copyRepair_kept {m : Nat} {s₀ : State} {x0 : State} (x1 : Nat)
    (h : Kept m s₀ x0) (hm : Sub 0x5c2800000088 m) : Kept m s₀ (State.copyRepair x0 x1) := by
  unfold State.copyRepair
  try dsimp only
  with_reducible repeat' first
    | assumption
    | apply State.ikwOffer_kept
    | apply State.irq_kept
    | apply State.mputEcc_kept
    | (apply Sub.of hm; decide)
    | apply InPg.sagC (Sub.bit hm (by decide))

theorem State.copySelect_kept {m : Nat} {s₀ : State} {x0 : State}
    (h : Kept m s₀ x0) (hm : Sub 0x5c2800000088 m) : Kept m s₀ (State.copySelect x0).2 := by
  unfold State.copySelect
  try dsimp only
  with_reducible repeat' first
    | assumption
    | apply State.p_kept
    | apply State.copyRepair_kept
    | (apply Sub.of hm; decide)
    | (apply InPg.at (InPg.sagC (Sub.bit hm (by decide))) (by first | decide | assumption | (dsimp only; decide)))
    | apply Kept.ite2
    | split

theorem State.motMirror_kept {m : Nat} {s₀ : State} {x0 : State}
    (h : Kept m s₀ x0) (hm : Sub 0x300 m) : Kept m s₀ (State.motMirror x0) := by
  unfold State.motMirror
  try dsimp only
  with_reducible repeat' first
    | assumption
    | apply Kept.ite
    | apply State.p_kept
    | (apply Sub.of hm; decide)
    | (apply InPg.at (InPg.mpgC (Sub.bit hm (by decide))) (by first | decide | assumption | (dsimp only; decide)))
    | (apply InPg.at (InPg.sepC (Sub.bit hm (by decide))) (by first | decide | assumption | (dsimp only; decide)))
    | (apply InPg.at (InPg.mpgP _ (Sub.bit hm (by decide))) (by first | decide | assumption | (dsimp only; decide)))
    | apply Kept.foldl
    | intro _ _ _
    | split

theorem State.tapMirror_kept {m : Nat} {s₀ : State} {x0 : State} (x1 : Nat)
    (h : Kept m s₀ x0) (hm : Sub 0x2000000000800 m) : Kept m s₀ (State.tapMirror x0 x1) := by
  unfold State.tapMirror
  try dsimp only
  with_reducible repeat' first
    | assumption
    | apply Kept.ite
    | apply State.setFb_kept
    | apply State.p_kept
    | apply State.fbValidate_kept
    | (apply Sub.of hm; decide)
    | (apply InPg.at (InPg.fbP _ (Sub.bit hm (by decide))) (by first | decide | assumption | (dsimp only; decide)))

theorem State.sioMirror_kept {m : Nat} {s₀ : State} {x0 : State}
    (h : Kept m s₀ x0) (hm : Sub 0x20 m) : Kept m s₀ (State.sioMirror x0) := by
  unfold State.sioMirror
  try dsimp only
  with_reducible repeat' first
    | assumption
    | apply State.wr_kept
    | apply State.p_kept
    | (apply Sub.of hm; decide)
    | (apply InPg.at (InPg.inP _ (Sub.bit hm (by decide))) (by first | decide | assumption | (dsimp only; decide)))
    | (apply InPg.at (InPg.outP _ (Sub.bit hm (by decide))) (by first | decide | assumption | (dsimp only; decide)))
    | apply Kept.foldl
    | intro _ _ _

theorem State.setTp_kept {m : Nat} {s₀ : State} {x0 : State} (x1 : Nat) (x2 : TpSt)
    (h : Kept m s₀ x0) (hm : Sub 0x100000000000000 m) : Kept m s₀ (State.setTp x0 x1 x2) := by
  unfold State.setTp
  try dsimp only
  with_reducible repeat' first
    | assumption
    | (apply Sub.bit hm; decide)
    | (fail_if_no_progress apply Kept.set_safe)
    | (fail_if_no_progress apply Kept.mk')

theorem State.tpRestart_kept {m : Nat} {s₀ : State} {x0 : State}
    (h : Kept m s₀ x0) (hm : Sub 0x100000000000000 m) : Kept m s₀ (State.tpRestart x0) := by
  unfold State.tpRestart
  try dsimp only
  with_reducible repeat' first
    | assumption
    | apply State.setTp_kept
    | apply Kept.foldl
    | intro _ _ _

theorem State.mirrorAll_kept {m : Nat} {s₀ : State} {x0 : State}
    (h : Kept m s₀ x0) (hm : Sub 0x102000000000b20 m) : Kept m s₀ (State.mirrorAll x0) := by
  unfold State.mirrorAll
  try dsimp only
  with_reducible repeat' first
    | assumption
    | apply State.tpRestart_kept
    | apply State.sioMirror_kept
    | apply State.tapMirror_kept
    | apply State.motMirror_kept
    | (apply Sub.of hm; decide)

theorem State.recWrite_kept {m : Nat} {s₀ : State} {x0 : State}
    (h : Kept m s₀ x0) (hm : Sub 0x400800000080 m) : Kept m s₀ (State.recWrite x0) := by
  unfold State.recWrite
  try dsimp only
  with_reducible repeat' first
    | assumption
    | apply State.inc_kept
    | apply State.mputEcc_kept
    | (apply Sub.of hm; decide)
    | (apply InPg.at (InPg.sagC (Sub.bit hm (by decide))) (by first | decide | assumption | (dsimp only; decide)))

theorem State.spbStart_kept {m : Nat} {s₀ : State} {x0 : State}
    (h : Kept m s₀ x0) (hm : Sub 0x1025c2800000bb8 m) : Kept m s₀ (State.spbStart x0) := by
  unfold State.spbStart
  have k0 := State.copySelect_kept h (Sub.of hm (by decide))
  revert k0
  generalize x0.copySelect = e
  obtain ⟨used, s0⟩ := e
  intro k0
  cases used with
  | none => exact k0
  | some a =>
    dsimp -zeta only at k0 ⊢
    extract_lets st src s1 s2 bad s3 stOf
    have k1 : Kept m s₀ s1 := Kept.set_safe k0 (Sub.bit hm (by decide)) _
    clear_value s1
    have k2 : Kept m s₀ s2 := by
      refine State.wr_kept _ _ (State.wr_kept _ _ k1 (Sub.of hm (by decide)) ?_) (Sub.of hm (by decide)) ?_ <;>
        exact (InPg.sagC (Sub.bit hm (by decide))).at (by decide)
    clear_value s2
    have k3 : Kept m s₀ s3 := Kept.ite (State.p_kept _ _ _ k2 (Sub.of hm (by decide))
      (show At m (sagC + R.SagC.SAG_COMM_SIG_OK.off) from (InPg.sagC (Sub.bit hm (by decide))).at (by decide))) k2
    clear_value s3
    exact State.mirrorAll_kept (State.setComm_kept _ _ (State.setComm_kept _ _ k3 (Sub.of hm (by decide))) (Sub.of hm (by decide))) (Sub.of hm (by decide))

theorem State.mramCheck_kept {m : Nat} {s₀ : State} {x0 : State}
    (h : Kept m s₀ x0) (hm : Sub 0x1005c28000000e8 m) : Kept m s₀ (State.mramCheck x0) := by
  unfold State.mramCheck
  try dsimp only
  with_reducible repeat' first
    | assumption
    | apply Kept.ite
    | apply State.copySelect_kept
    | apply State.laneLatchAll_kept
    | (apply Sub.of hm; decide)

theorem State.loadEnd_kept {m : Nat} {s₀ : State} {x0 : State} (x1 : Nat) (x2 : Nat)
    (h : Kept m s₀ x0) (hm : Sub 0x1000c2000000080 m) : Kept m s₀ (State.loadEnd x0 x1 x2) := by
  unfold State.loadEnd
  try dsimp only
  with_reducible repeat' first
    | assumption
    | apply State.p_kept
    | apply State.irq_kept
    | (apply Sub.of hm; decide)
    | (apply Sub.bit hm; decide)
    | (apply InPg.at (InPg.sagC (Sub.bit hm (by decide))) (by first | decide | assumption | (dsimp only; decide)))
    | apply InPg.sagC (Sub.bit hm (by decide))
    | (fail_if_no_progress apply Kept.set_safe)
    | (fail_if_no_progress apply Kept.mk')

theorem State.spbSwitch_kept {m : Nat} {s₀ : State} {x0 : State} (x1 : SpbT) (x2 : List Nat)
    (h : Kept m s₀ x0) (hm : Sub 0x112000000000bb0 m) : Kept m s₀ (State.spbSwitch x0 x1 x2) := by
  unfold State.spbSwitch
  try dsimp only
  with_reducible repeat' first
    | assumption
    | apply Kept.ite
    | apply State.p_kept
    | apply State.mirrorAll_kept
    | apply State.setComm_kept
    | apply State.disarm_kept
    | (apply Sub.of hm; decide)
    | (apply Sub.bit hm; decide)
    | (apply InPg.at (InPg.sagC (Sub.bit hm (by decide))) (by first | decide | assumption | (dsimp only; decide)))
    | (fail_if_no_progress apply Kept.set_safe)
    | (fail_if_no_progress apply Kept.mk')

theorem State.commitBoundary_kept {m : Nat} {s₀ : State} {x0 : State}
    (h : Kept m s₀ x0) (hm : Sub 0x1120c2000000bb0 m) : Kept m s₀ (State.commitBoundary x0) := by
  unfold State.commitBoundary
  try dsimp only
  with_reducible repeat' first
    | assumption
    | apply Kept.ite
    | apply State.loadEnd_kept
    | apply State.spbSwitch_kept
    | (apply Sub.of hm; decide)
    | split

theorem State.confirmBoundary_kept {m : Nat} {s₀ : State} {x0 : State}
    (h : Kept m s₀ x0) (hm : Sub 0x1005c2800000098 m) : Kept m s₀ (State.confirmBoundary x0) := by
  unfold State.confirmBoundary
  split
  · exact h
  · rename_i v _
    extract_lets src s1 fin pend t1 t2 src2 t3 n u1 src3 u2 u3
    have k1 : Kept m s₀ s1 := Kept.set_safe h (Sub.bit hm (by decide)) _
    clear_value s1
    have kf : ∀ y code, Kept m s₀ y → Kept m s₀ (fin y code) := fun y code hy =>
by
      refine State.irq_kept _ _ (State.p_kept _ _ _ (State.p_kept _ _ _ hy (Sub.of hm (by decide)) ?_) (Sub.of hm (by decide)) ?_)
        (Sub.of hm (by decide)) (InPg.sagC (Sub.bit hm (by decide))) <;>
        exact (InPg.sagC (Sub.bit hm (by decide))).at (by decide)
    clear_value fin
    split
    · exact kf _ _ k1
    · split
      · have q1 : Kept m s₀ t1 := Kept.ite (State.setComm_kept _ _ k1 (Sub.of hm (by decide))) k1
        clear_value t1
        have q2 : Kept m s₀ t2 := Kept.ite (State.setComm_kept _ _ q1 (Sub.of hm (by decide))) q1
        clear_value t2
        have q3 : Kept m s₀ t3 := Kept.set_safe q2 (Sub.bit hm (by decide)) _
        clear_value t3
        exact kf _ _ (State.ikwOffer_kept _ _ _ (State.recWrite_kept q3 (Sub.of hm (by decide))) (Sub.of hm (by decide)))
      · have q1 : Kept m s₀ u1 := State.inc_kept _ _ _ k1 (Sub.of hm (by decide)) ((InPg.sagC (Sub.bit hm (by decide))).at (by decide))
        clear_value u1
        have q2 : Kept m s₀ u2 := Kept.set_safe q1 (Sub.bit hm (by decide)) _
        clear_value u2
        split
        · have q3 : Kept m s₀ u3 := Kept.ite (State.setComm_kept _ _ q2 (Sub.of hm (by decide))) q2
          clear_value u3
          exact kf _ _ (Kept.ite (State.setComm_kept _ _ q3 (Sub.of hm (by decide))) q3)
        · exact kf _ _ q2

theorem State.loadAngle_kept {m : Nat} {s₀ : State} {x0 : State} (x1 : Nat) (x2 : Int) (x3 : Int) (x4 : Int) (x5 : Int) (x6 : Int) (x7 : Int) (x8 : Nat)
    (h : Kept m s₀ x0) (hm : Sub 0x80800000000400 m) : Kept m s₀ (State.loadAngle x0 x1 x2 x3 x4 x5 x6 x7 x8) := by
  unfold State.loadAngle
  try dsimp only
  with_reducible repeat' first
    | assumption
    | apply Kept.ite
    | apply State.setDoor_kept
    | apply State.drew_kept
    | apply State.pI_kept
    | (apply Sub.of hm; decide)
    | (apply InPg.at (InPg.dmcP _ (Sub.bit hm (by decide))) (by first | decide | assumption | (dsimp only; decide)))

theorem State.pwmDrive_kept {m : Nat} {s₀ : State} {x0 : State} (x1 : Nat)
    (h : Kept m s₀ x0) (hm : Sub 0x80000000000000 m) : Kept m s₀ (State.pwmDrive x0 x1) := by
  unfold State.pwmDrive
  try dsimp only
  with_reducible repeat' first
    | assumption
    | apply Kept.ite
    | apply State.setDoor_kept

theorem State.ocCount_kept {m : Nat} {s₀ : State} {x0 : State} (x1 : Nat) (x2 : Nat)
    (h : Kept m s₀ x0) (hm : Sub 0xc2000000400 m) : Kept m s₀ (State.ocCount x0 x1 x2) := by
  unfold State.ocCount
  try dsimp only
  with_reducible repeat' first
    | assumption
    | apply State.incIrq_kept
    | (apply Sub.of hm; decide)
    | (apply InPg.at (InPg.dmcP _ (Sub.bit hm (by decide))) (by first | decide | assumption | (dsimp only; decide)))
    | apply InPg.dmcP _ (Sub.bit hm (by decide))
    | apply Kept.foldl
    | intro _ _ _

theorem State.ocFeed_kept {m : Nat} {s₀ : State} {x0 : State} (x1 : Nat)
    (h : Kept m s₀ x0) (hm : Sub 0x801e200000040c m) : Kept m s₀ (State.ocFeed x0 x1) := by
  unfold State.ocFeed
  try dsimp only
  with_reducible repeat' first
    | assumption
    | apply Kept.ite
    | apply State.doorOccur_kept
    | apply State.setDoor_kept
    | (apply Sub.of hm; decide)

theorem State.pwmMeasure_kept {m : Nat} {s₀ : State} {x0 : State} (x1 : Nat) (x2 : Nat) (x3 : List (BitVec 14 × BitVec 14))
    (h : Kept m s₀ x0) (hm : Sub 0x809e200000040c m) : Kept m s₀ (State.pwmMeasure x0 x1 x2 x3) := by
  unfold State.pwmMeasure
  try dsimp only
  with_reducible repeat' first
    | assumption
    | apply Kept.ite
    | apply State.drew_kept
    | apply State.pI_kept
    | apply State.setDoor_kept
    | apply State.loadAngle_kept
    | apply State.ocCount_kept
    | apply State.doorOccur_kept
    | (apply Sub.of hm; decide)
    | (apply InPg.at (InPg.dmcP _ (Sub.bit hm (by decide))) (by first | decide | assumption | (dsimp only; decide)))

theorem State.swLearn_kept {m : Nat} {s₀ : State} {x0 : State} (x1 : Nat) (x2 : Bool) (x3 : Int)
    (h : Kept m s₀ x0) (hm : Sub 0x80000000000400 m) : Kept m s₀ (State.swLearn x0 x1 x2 x3) := by
  unfold State.swLearn
  try dsimp only
  with_reducible repeat' first
    | assumption
    | apply State.pI_kept
    | apply State.setDoor_kept
    | (apply Sub.of hm; decide)
    | (apply InPg.at (InPg.dmcP _ (Sub.bit hm (by decide))) (by first | decide | assumption | (dsimp only; decide)))
    | split

theorem State.homeDone_kept {m : Nat} {s₀ : State} {x0 : State} (x1 : Nat) (x2 : Bool) (x3 : Int)
    (h : Kept m s₀ x0) (hm : Sub 0x80000000000400 m) : Kept m s₀ (State.homeDone x0 x1 x2 x3) := by
  unfold State.homeDone
  try dsimp only
  with_reducible repeat' first
    | assumption
    | apply State.setDoor_kept
    | apply State.doorShow_kept
    | apply State.doorBrake_kept
    | apply State.swLearn_kept
    | (apply Sub.of hm; decide)

theorem State.homeSwitch_kept {m : Nat} {s₀ : State} {x0 : State} (x1 : Nat) (x2 : Bool) (x3 : Bool) (x4 : Int) (x5 : Bool)
    (h : Kept m s₀ x0) (hm : Sub 0x801e200000040c m) : Kept m s₀ (State.homeSwitch x0 x1 x2 x3 x4 x5) := by
  unfold State.homeSwitch
  try dsimp only
  with_reducible repeat' first
    | assumption
    | apply Kept.ite
    | apply State.doorOutLinked_kept
    | apply State.irq_kept
    | apply State.doorResult_kept
    | apply State.inc_kept
    | apply State.doorOccur_kept
    | apply State.doorRest_kept
    | apply State.doorHalt_kept
    | apply State.doorShow_kept
    | apply State.homeGo_kept
    | apply State.homeDone_kept
    | (apply Sub.of hm; decide)
    | (apply InPg.at (InPg.dmcP _ (Sub.bit hm (by decide))) (by first | decide | assumption | (dsimp only; decide)))
    | apply InPg.dmcP _ (Sub.bit hm (by decide))
    | split

theorem State.runSwitch_kept {m : Nat} {s₀ : State} {x0 : State} (x1 : Nat) (x2 : Bool) (x3 : Bool) (x4 : Int) (x5 : Bool)
    (h : Kept m s₀ x0) (hm : Sub 0x801e200000040c m) : Kept m s₀ (State.runSwitch x0 x1 x2 x3 x4 x5) := by
  unfold State.runSwitch
  try dsimp only
  with_reducible repeat' first
    | assumption
    | apply Kept.ite
    | apply State.doorOccur_kept
    | apply State.incIrq_kept
    | apply State.swLearn_kept
    | (apply Sub.of hm; decide)
    | (apply InPg.at (InPg.dmcP _ (Sub.bit hm (by decide))) (by first | decide | assumption | (dsimp only; decide)))
    | apply InPg.dmcP _ (Sub.bit hm (by decide))

theorem State.swAccept_kept {m : Nat} {s₀ : State} {x0 : State} (x1 : Nat) (x2 : Bool) (x3 : Int)
    (h : Kept m s₀ x0) (hm : Sub 0x801e200000040c m) : Kept m s₀ (State.swAccept x0 x1 x2 x3) := by
  unfold State.swAccept
  try dsimp only
  with_reducible repeat' first
    | assumption
    | apply State.psB_kept
    | apply State.setDoor_kept
    | apply State.homeSwitch_kept
    | apply State.runSwitch_kept
    | (apply Sub.of hm; decide)
    | apply InPg.dmcP _ (Sub.bit hm (by decide))
    | split

theorem State.doorUntilN_kept {m : Nat} {s₀ : State} (x0 : Nat) (x1 : Nat) (x2 : Nat) {x3 : State}
    (h : Kept m s₀ x3) (hm : Sub 0x801fa00000040e m) : Kept m s₀ (State.doorUntilN x0 x1 x2 x3) := by
  induction x2 generalizing x3 with
  | zero => unfold State.doorUntilN; exact State.doorSync_kept _ (State.advanceTo_kept _ h (Sub.of hm (by decide))) (Sub.of hm (by decide))
  | succ n ih =>
    unfold State.doorUntilN
    split
    · exact ih (State.swAccept_kept _ _ _ (State.doorSync_kept _ (State.advanceTo_kept _ h (Sub.of hm (by decide))) (Sub.of hm (by decide))) (Sub.of hm (by decide)))
    · exact State.doorSync_kept _ (State.advanceTo_kept _ h (Sub.of hm (by decide))) (Sub.of hm (by decide))

theorem State.doorUntil_kept {m : Nat} {s₀ : State} {x0 : State} (x1 : Nat) (x2 : Nat)
    (h : Kept m s₀ x0) (hm : Sub 0x801fa00000040e m) : Kept m s₀ (State.doorUntil x0 x1 x2) := by
  unfold State.doorUntil
  try dsimp only
  with_reducible repeat' first
    | assumption
    | apply State.doorUntilN_kept

theorem State.doorNow_kept {m : Nat} {s₀ : State} {x0 : State} (x1 : Nat)
    (h : Kept m s₀ x0) (hm : Sub 0x801fa00000040e m) : Kept m s₀ (State.doorNow x0 x1) := by
  unfold State.doorNow
  try dsimp only
  with_reducible repeat' first
    | assumption
    | apply State.doorUntil_kept

theorem State.swLook_kept {m : Nat} {s₀ : State} {x0 : State} (x1 : Nat) (x2 : Bool) (x3 : Bool)
    (h : Kept m s₀ x0) (hm : Sub 0x80000000000000 m) : Kept m s₀ (State.swLook x0 x1 x2 x3) := by
  unfold State.swLook
  try dsimp only
  with_reducible repeat' first
    | assumption
    | apply State.setDoor_kept

theorem State.doorStop_kept {m : Nat} {s₀ : State} {x0 : State} (x1 : Nat)
    (h : Kept m s₀ x0) (hm : Sub 0x800c2000000400 m) : Kept m s₀ (State.doorStop x0 x1) := by
  unfold State.doorStop
  try dsimp only
  with_reducible repeat' first
    | assumption
    | apply State.setDst_kept
    | apply State.doorBrake_kept
    | apply State.setDoor_kept
    | apply State.doorRest_kept
    | apply State.irq_kept
    | apply State.doorResult_kept
    | (apply Sub.of hm; decide)
    | apply InPg.dmcP _ (Sub.bit hm (by decide))
    | split

theorem State.doorHome_kept {m : Nat} {s₀ : State} {x0 : State} (x1 : Nat) (x2 : Nat)
    (h : Kept m s₀ x0) (hm : Sub 0x800c2000000400 m) : Kept m s₀ (State.doorHome x0 x1 x2) := by
  unfold State.doorHome
  try dsimp only
  with_reducible repeat' first
    | assumption
    | apply State.ps_kept
    | apply State.setDoor_kept
    | apply State.doorShow_kept
    | apply State.homeGo_kept
    | apply State.setDst_kept
    | (apply Sub.of hm; decide)
    | apply InPg.dmcP _ (Sub.bit hm (by decide))

theorem State.doorMove_kept {m : Nat} {s₀ : State} {x0 : State} (x1 : Nat) (x2 : Int) (x3 : Nat) (x4 : Nat)
    (h : Kept m s₀ x0) (hm : Sub 0x800c2000000400 m) : Kept m s₀ (State.doorMove x0 x1 x2 x3 x4) := by
  unfold State.doorMove
  try dsimp only
  with_reducible repeat' first
    | assumption
    | apply Kept.ite
    | apply State.doorPlan_kept

theorem State.doorEffect_kept {m : Nat} {s₀ : State} {x0 : State} (x1 : Nat) (x2 : Nat) (x3 : Nat) (x4 : Int)
    (h : Kept m s₀ x0) (hm : Sub 0x800c2000000400 m) : Kept m s₀ (State.doorEffect x0 x1 x2 x3 x4) := by
  unfold State.doorEffect
  try dsimp only
  with_reducible repeat' first
    | assumption
    | apply State.doorMove_kept
    | apply State.doorStop_kept
    | apply State.doorHome_kept
    | apply State.calStart_kept
    | split

theorem State.doorDefer_kept {m : Nat} {s₀ : State} {x0 : State} (x1 : Nat) (x2 : Nat)
    (h : Kept m s₀ x0) (hm : Sub 0x80000000000400 m) : Kept m s₀ (State.doorDefer x0 x1 x2) := by
  unfold State.doorDefer
  try dsimp only
  with_reducible repeat' first
    | assumption
    | apply Kept.ite
    | apply State.ps_kept
    | apply State.setDoor_kept
    | (apply Sub.of hm; decide)
    | apply InPg.dmcP _ (Sub.bit hm (by decide))

theorem State.calAgain_kept {m : Nat} {s₀ : State} {x0 : State} (x1 : Nat)
    (h : Kept m s₀ x0) (hm : Sub 0x800c2000000400 m) : Kept m s₀ (State.calAgain x0 x1) := by
  unfold State.calAgain
  try dsimp only
  with_reducible repeat' first
    | assumption
    | apply Kept.ite
    | apply State.calStart_kept

theorem State.doorCmd_kept {m : Nat} {s₀ : State} {x0 : State} (x1 : List Nat) (x2 : Word)
    (h : Kept m s₀ x0) (hm : Sub 0x801fa00000040e m) : Kept m s₀ (State.doorCmd x0 x1 x2) := by
  unfold State.doorCmd
  try dsimp only
  with_reducible repeat' first
    | assumption
    | apply Kept.ite
    | apply State.calBack_kept
    | apply State.doorNow_kept
    | apply State.doorResult_kept
    | apply State.doorEffect_kept
    | apply State.doorDefer_kept
    | apply State.calAgain_kept
    | (apply Sub.of hm; decide)
    | apply Kept.foldl
    | intro _ _ _

theorem State.doorBurst_kept {m : Nat} {s₀ : State} {x0 : State} (x1 : DoorDst) (x2 : Word) (x3 : Word)
    (h : Kept m s₀ x0) (hm : Sub 0x801fe00002040e m) : Kept m s₀ (State.doorBurst x0 x1 x2 x3) := by
  unfold State.doorBurst
  try dsimp only
  with_reducible repeat' first
    | assumption
    | apply State.onPort_kept
    | apply State.breakHalf_kept
    | apply State.wr_kept
    | apply State.doorCmd_kept
    | (apply Sub.of hm; decide)
    | (apply InPg.at (InPg.doorPage _ (Sub.bit hm (by decide))) (by first | decide | assumption | (dsimp only; decide)))
    | (apply InPg.at (InPg.dmcP _ (Sub.bit hm (by decide))) (by first | decide | assumption | (dsimp only; decide)))
    | apply Kept.foldl
    | intro _ _ _
    | intro _ _

theorem State.doorCtrl_kept {m : Nat} {s₀ : State} {x0 : State} (x1 : Nat) (x2 : Word)
    (h : Kept m s₀ x0) (hm : Sub 0x801fa00000040e m) : Kept m s₀ (State.doorCtrl x0 x1 x2) := by
  unfold State.doorCtrl
  try dsimp only
  with_reducible repeat' first
    | assumption
    | apply Kept.ite
    | apply State.doorNow_kept
    | apply State.p_kept
    | apply State.doorDark_kept
    | apply State.doorFreeze_kept
    | apply State.doorEnter_kept
    | apply State.setDoor_kept
    | apply State.ps_kept
    | apply State.doorShow_kept
    | apply State.setDst_kept
    | apply State.flt_kept
    | (apply Sub.of hm; decide)
    | (apply InPg.at (InPg.dmcP _ (Sub.bit hm (by decide))) (by first | decide | assumption | (dsimp only; decide)))
    | apply InPg.dmcP _ (Sub.bit hm (by decide))

theorem State.reverse1_kept {m : Nat} {s₀ : State} {x0 : State} (x1 : Nat)
    (h : Kept m s₀ x0) (hm : Sub 0x800c2000000400 m) : Kept m s₀ (State.reverse1 x0 x1) := by
  unfold State.reverse1
  try dsimp only
  with_reducible repeat' first
    | assumption
    | apply Kept.ite
    | apply State.ps_kept
    | apply State.inc_kept
    | apply State.doorPlan_kept
    | apply State.doorRest_kept
    | apply State.doorResult_kept
    | (apply Sub.of hm; decide)
    | (apply InPg.at (InPg.dmcP _ (Sub.bit hm (by decide))) (by first | decide | assumption | (dsimp only; decide)))
    | apply InPg.dmcP _ (Sub.bit hm (by decide))

theorem State.doorStatWrite_kept {m : Nat} {s₀ : State} {x0 : State} (x1 : Nat) (x2 : Word)
    (h : Kept m s₀ x0) (hm : Sub 0x800c2000000400 m) : Kept m s₀ (State.doorStatWrite x0 x1 x2) := by
  unfold State.doorStatWrite
  try dsimp only
  with_reducible repeat' first
    | assumption
    | apply Kept.ite
    | apply State.ps_kept
    | apply State.flt_kept
    | apply State.doorEnter_kept
    | (apply Sub.of hm; decide)
    | apply InPg.dmcP _ (Sub.bit hm (by decide))

theorem State.doorTick_kept {m : Nat} {s₀ : State} {x0 : State} (x1 : Nat)
    (h : Kept m s₀ x0) (hm : Sub 0x801fa00000040e m) : Kept m s₀ (State.doorTick x0 x1) := by
  unfold State.doorTick
  try dsimp only
  with_reducible repeat' first
    | assumption
    | apply State.doorUntil_kept
    | apply State.setDoor_kept
    | apply State.stallCheck_kept
    | apply State.doorShow_kept
    | (apply Sub.of hm; decide)

theorem State.pwmBoundary_kept {m : Nat} {s₀ : State} {x0 : State} (x1 : Nat) (x2 : List (BitVec 14 × BitVec 14))
    (h : Kept m s₀ x0) (hm : Sub 0x809fa00000040e m) : Kept m s₀ (State.pwmBoundary x0 x1 x2) := by
  unfold State.pwmBoundary
  try dsimp only
  with_reducible repeat' first
    | assumption
    | apply Kept.ite
    | apply State.doorUntil_kept
    | apply State.setDoor_kept
    | apply State.pwmMeasure_kept
    | apply State.lostStep_kept
    | apply State.stallCheck_kept
    | apply State.pwmDrive_kept
    | apply State.psB_kept
    | (apply Sub.of hm; decide)
    | apply InPg.dmcP _ (Sub.bit hm (by decide))

theorem State.setPort_kept {m : Nat} {s₀ : State} {x0 : State} (x1 : Nat) (x2 : Port)
    (h : Kept m s₀ x0) (hm : Sub 0x200000000000000 m) : Kept m s₀ (State.setPort x0 x1 x2) := by
  unfold State.setPort
  try dsimp only
  with_reducible repeat' first
    | assumption
    | (apply Sub.bit hm; decide)
    | (fail_if_no_progress apply Kept.set_ports)
    | (fail_if_no_progress apply Kept.mk')

theorem State.setOpm_kept {m : Nat} {s₀ : State} {x0 : State} (x1 : Nat) (x2 : Nat)
    (h : Kept m s₀ x0) (hm : Sub 0x2000 m) : Kept m s₀ (State.setOpm x0 x1 x2) := by
  unfold State.setOpm
  try dsimp only
  with_reducible repeat' first
    | assumption
    | apply State.ps_kept
    | (apply Sub.of hm; decide)
    | apply InPg.sbcP _ (Sub.bit hm (by decide))

theorem State.wrBytes_kept {m : Nat} {s₀ : State} {x0 : State} (x1 : Nat) (x2 : List Nat)
    (h : Kept m s₀ x0) (hm : Sub 0x0 m) (ha : ∀ k, k < 64 → At m (x1 + k)) : Kept m s₀ (State.wrBytes x0 x1 x2) := by
  unfold State.wrBytes
  refine Kept.foldl_mem h _ _ ?_
  rintro y ⟨v, i⟩ hb hy
  have hi : i < 64 := by simpa using (List.of_mem_zip hb).2
  exact State.p_kept _ _ _ hy (Sub.of hm (by decide)) (ha (i / 4 * 4) (by omega))

theorem State.syncLeg_kept {m : Nat} {s₀ : State} {x0 : State} (x1 : Nat) (x2 : Option Nat)
    (h : Kept m s₀ x0) (hm : Sub 0x10000000002 m) : Kept m s₀ (State.syncLeg x0 x1 x2) := by
  unfold State.syncLeg
  try dsimp only
  with_reducible repeat' first
    | assumption
    | apply Kept.ite
    | apply State.setNet_kept
    | apply State.pTs_kept
    | (apply Sub.of hm; decide)
    | (apply InPg.at (InPg.tbsP _ (Sub.bit hm (by decide))) (by first | decide | assumption | (dsimp only; decide)))
    | split

theorem State.tbsShow_kept {m : Nat} {s₀ : State} {x0 : State} (x1 : Nat)
    (h : Kept m s₀ x0) (hm : Sub 0x2 m) : Kept m s₀ (State.tbsShow x0 x1) := by
  unfold State.tbsShow
  try dsimp only
  with_reducible repeat' first
    | assumption
    | apply Kept.ite
    | apply State.psB_kept
    | apply State.ps_kept
    | (apply Sub.of hm; decide)
    | apply InPg.tbsP _ (Sub.bit hm (by decide))

theorem State.txEnd_kept {m : Nat} {s₀ : State} {x0 : State} (x1 : Nat) (x2 : Nat) (x3 : Nat)
    (h : Kept m s₀ x0) (hm : Sub 0x2000d2000002002 m) : Kept m s₀ (State.txEnd x0 x1 x2 x3) := by
  unfold State.txEnd
  try dsimp only
  with_reducible repeat' first
    | assumption
    | apply Kept.ite
    | apply State.irq_kept
    | apply State.p_kept
    | apply State.setPort_kept
    | apply State.syncLeg_kept
    | (apply Sub.of hm; decide)
    | (apply InPg.at (InPg.txbP _ _ (Sub.bit hm (by decide))) (by first | decide | assumption | (dsimp only; decide)))
    | apply InPg.sbcP _ (Sub.bit hm (by decide))
    | split

theorem State.txPend_kept {m : Nat} {s₀ : State} {x0 : State} (x1 : Nat) (x2 : Nat)
    (h : Kept m s₀ x0) (hm : Sub 0x200000000002000 m) : Kept m s₀ (State.txPend x0 x1 x2) := by
  unfold State.txPend
  try dsimp only
  with_reducible repeat' first
    | assumption
    | apply State.wr_kept
    | apply State.setPort_kept
    | (apply Sub.of hm; decide)
    | (apply InPg.at (InPg.txbP _ _ (Sub.bit hm (by decide))) (by first | decide | assumption | (dsimp only; decide)))

theorem State.txAbort_kept {m : Nat} {s₀ : State} {x0 : State} (x1 : Nat) (x2 : Nat)
    (h : Kept m s₀ x0) (hm : Sub 0x2000d2000002002 m) : Kept m s₀ (State.txAbort x0 x1 x2) := by
  unfold State.txAbort
  try dsimp only
  with_reducible repeat' first
    | assumption
    | apply State.txEnd_kept
    | apply State.setPort_kept
    | (apply Sub.of hm; decide)
    | split

theorem State.txSelect_kept {m : Nat} {s₀ : State} {x0 : State} (x1 : Nat)
    (h : Kept m s₀ x0) (hm : Sub 0x200000000002000 m) : Kept m s₀ (State.txSelect x0 x1) := by
  unfold State.txSelect
  try dsimp only
  with_reducible repeat' first
    | assumption
    | apply Kept.ite
    | apply State.inc_kept
    | apply State.p_kept
    | apply State.setPort_kept
    | apply State.pTs_kept
    | (apply Sub.of hm; decide)
    | (apply InPg.at (InPg.txbP _ _ (Sub.bit hm (by decide))) (by first | decide | assumption | (dsimp only; decide)))
    | split

theorem State.txLoad_kept {m : Nat} {s₀ : State} {x0 : State} (x1 : Nat) (x2 : Nat) (x3 : EFrm)
    (h : Kept m s₀ x0) (hm : Sub 0x200800000002000 m) : Kept m s₀ (State.txLoad x0 x1 x2 x3) := by
  unfold State.txLoad
  try dsimp only
  with_reducible repeat' first
    | assumption
    | apply State.drew_kept
    | apply State.wr_kept
    | apply State.pTs_kept
    | apply State.txPend_kept
    | apply State.wrBytes_kept
    | apply State.setPort_kept
    | (apply Sub.of hm; decide)
    | (apply InPg.at (InPg.txbP _ _ (Sub.bit hm (by decide))) (by first | decide | assumption | (dsimp only; decide)))
    | ((intro k hk; rw [Nat.add_assoc]; exact InPg.at (InPg.txbP _ _ (Sub.bit hm (by decide))) (by omega)))
    | apply Kept.ite2
    | split

theorem State.txFill_kept {m : Nat} {s₀ : State} {x0 : State} (x1 : Nat)
    (h : Kept m s₀ x0) (hm : Sub 0x200800000002000 m) : Kept m s₀ (State.txFill x0 x1) := by
  unfold State.txFill
  try dsimp only
  with_reducible repeat' first
    | assumption
    | apply Kept.ite
    | apply State.txLoad_kept
    | apply State.setPort_kept
    | (apply Sub.of hm; decide)
    | split

theorem State.txKick_kept {m : Nat} {s₀ : State} {x0 : State} (x1 : Nat)
    (h : Kept m s₀ x0) (hm : Sub 0x200800000002000 m) : Kept m s₀ (State.txKick x0 x1) := by
  unfold State.txKick
  try dsimp only
  with_reducible repeat' first
    | assumption
    | apply State.txSelect_kept
    | apply State.txFill_kept
    | (apply Sub.of hm; decide)

theorem State.enqueue_kept {m : Nat} {s₀ : State} {x0 : State} (x1 : Nat) (x2 : Nat) (x3 : EFrm)
    (h : Kept m s₀ x0) (hm : Sub 0x200800000002000 m) : Kept m s₀ (State.enqueue x0 x1 x2 x3) := by
  unfold State.enqueue
  try dsimp only
  with_reducible repeat' first
    | assumption
    | apply State.txKick_kept
    | apply State.setPort_kept
    | (apply Sub.of hm; decide)

theorem State.sendBoth_kept {m : Nat} {s₀ : State} {x0 : State} (x1 : Nat) (x2 : EFrm)
    (h : Kept m s₀ x0) (hm : Sub 0x200800000002000 m) : Kept m s₀ (State.sendBoth x0 x1 x2) := by
  unfold State.sendBoth
  try dsimp only
  with_reducible repeat' first
    | assumption
    | apply Kept.ite
    | apply State.enqueue_kept

theorem State.dropLeg_kept {m : Nat} {s₀ : State} {x0 : State} (x1 : Nat)
    (h : Kept m s₀ x0) (hm : Sub 0x2000d2000002002 m) : Kept m s₀ (State.dropLeg x0 x1) := by
  unfold State.dropLeg
  try dsimp only
  with_reducible repeat' first
    | assumption
    | apply Kept.ite
    | apply State.txAbort_kept
    | apply State.setPort_kept
    | (apply Sub.of hm; decide)

theorem State.bcSeq_kept {m : Nat} {s₀ : State} {x0 : State} (x1 : Nat)
    (h : Kept m s₀ x0) (hm : Sub 0x400000000000000 m) : Kept m s₀ (State.bcSeq x0 x1).2 := by
  unfold State.bcSeq
  try dsimp only
  with_reducible repeat' first
    | assumption
    | (apply Sub.bit hm; decide)
    | (fail_if_no_progress apply Kept.set_cve)
    | (fail_if_no_progress apply Kept.mk')

theorem State.portRestrict_kept {m : Nat} {s₀ : State} {x0 : State} (x1 : Nat)
    (h : Kept m s₀ x0) (hm : Sub 0x200000000002000 m) : Kept m s₀ (State.portRestrict x0 x1) := by
  unfold State.portRestrict
  try dsimp only
  with_reducible repeat' first
    | assumption
    | apply State.setPort_kept
    | apply State.psB_kept
    | apply State.setOpm_kept
    | (apply Sub.of hm; decide)
    | apply InPg.sbcP _ (Sub.bit hm (by decide))

theorem State.portHold_kept {m : Nat} {s₀ : State} {x0 : State} (x1 : Nat)
    (h : Kept m s₀ x0) (hm : Sub 0x200000000002000 m) : Kept m s₀ (State.portHold x0 x1) := by
  unfold State.portHold
  try dsimp only
  with_reducible repeat' first
    | assumption
    | apply Kept.ite
    | apply State.psB_kept
    | apply State.setOpm_kept
    | apply State.portRestrict_kept
    | (apply Sub.of hm; decide)
    | apply InPg.sbcP _ (Sub.bit hm (by decide))
    | split

theorem State.portFault_kept {m : Nat} {s₀ : State} {x0 : State} (x1 : Nat)
    (h : Kept m s₀ x0) (hm : Sub 0x2000c2000002000 m) : Kept m s₀ (State.portFault x0 x1) := by
  unfold State.portFault
  try dsimp only
  with_reducible repeat' first
    | assumption
    | apply State.portHold_kept
    | apply State.irq_kept
    | apply State.psB_kept
    | (apply Sub.of hm; decide)
    | apply InPg.sbcP _ (Sub.bit hm (by decide))

theorem State.portOccur_kept {m : Nat} {s₀ : State} {x0 : State} (x1 : Nat)
    (h : Kept m s₀ x0) (hm : Sub 0x2001e200000200c m) : Kept m s₀ (State.portOccur x0 x1) := by
  unfold State.portOccur
  try dsimp only
  with_reducible repeat' first
    | assumption
    | apply Kept.ite
    | apply State.fwOccur_kept
    | apply State.portFault_kept
    | (apply Sub.of hm; decide)

theorem State.portIntegrate_kept {m : Nat} {s₀ : State} {x0 : State} (x1 : Nat)
    (h : Kept m s₀ x0) (hm : Sub 0x200000000002000 m) : Kept m s₀ (State.portIntegrate x0 x1) := by
  unfold State.portIntegrate
  try dsimp only
  with_reducible repeat' first
    | assumption
    | apply State.p_kept
    | apply State.setPort_kept
    | apply State.setOpm_kept
    | apply State.ps_kept
    | (apply Sub.of hm; decide)
    | (apply InPg.at (InPg.sbcP _ (Sub.bit hm (by decide))) (by first | decide | assumption | (dsimp only; decide)))
    | apply InPg.sbcP _ (Sub.bit hm (by decide))

theorem State.portOff_kept {m : Nat} {s₀ : State} {x0 : State} (x1 : Nat)
    (h : Kept m s₀ x0) (hm : Sub 0x200000000002000 m) : Kept m s₀ (State.portOff x0 x1) := by
  unfold State.portOff
  try dsimp only
  with_reducible repeat' first
    | assumption
    | apply State.setPort_kept
    | apply State.setOpm_kept
    | apply State.ps_kept
    | (apply Sub.of hm; decide)
    | apply InPg.sbcP _ (Sub.bit hm (by decide))

theorem State.portClosed_kept {m : Nat} {s₀ : State} {x0 : State} (x1 : Nat)
    (h : Kept m s₀ x0) (hm : Sub 0x200000000002000 m) : Kept m s₀ (State.portClosed x0 x1) := by
  unfold State.portClosed
  try dsimp only
  with_reducible repeat' first
    | assumption
    | apply Kept.ite
    | apply State.portIntegrate_kept
    | apply State.portOff_kept

theorem State.portClose_kept {m : Nat} {s₀ : State} {x0 : State} (x1 : Nat)
    (h : Kept m s₀ x0) (hm : Sub 0x2000d2000002002 m) : Kept m s₀ (State.portClose x0 x1) := by
  unfold State.portClose
  try dsimp only
  with_reducible repeat' first
    | assumption
    | apply Kept.ite
    | apply State.txEnd_kept
    | apply State.setPort_kept
    | apply State.portOff_kept
    | (apply Sub.of hm; decide)
    | apply Kept.foldl
    | intro _ _ _

theorem State.portErr_kept {m : Nat} {s₀ : State} {x0 : State} (x1 : Nat) (x2 : Nat) (x3 : Bool)
    (h : Kept m s₀ x0) (hm : Sub 0xc2000002000 m) : Kept m s₀ (State.portErr x0 x1 x2 x3) := by
  unfold State.portErr
  try dsimp only
  with_reducible repeat' first
    | assumption
    | apply State.pB_kept
    | apply State.p_kept
    | apply State.incIrq_kept
    | (apply Sub.of hm; decide)
    | (apply InPg.at (InPg.sbcP _ (Sub.bit hm (by decide))) (by first | decide | assumption | (dsimp only; decide)))
    | apply InPg.sbcP _ (Sub.bit hm (by decide))

theorem State.portCounts_kept {m : Nat} {s₀ : State} {x0 : State} (x1 : Nat)
    (h : Kept m s₀ x0) (hm : Sub 0x2001e200000200c m) : Kept m s₀ (State.portCounts x0 x1) := by
  unfold State.portCounts
  try dsimp only
  with_reducible repeat' first
    | assumption
    | apply Kept.ite
    | apply State.psB_kept
    | apply State.portOccur_kept
    | apply State.irq_kept
    | apply State.inc_kept
    | apply State.setPort_kept
    | apply State.setOpm_kept
    | (apply Sub.of hm; decide)
    | (apply InPg.at (InPg.sbcP _ (Sub.bit hm (by decide))) (by first | decide | assumption | (dsimp only; decide)))
    | apply InPg.sbcP _ (Sub.bit hm (by decide))

theorem State.recDown_kept {m : Nat} {s₀ : State} {x0 : State} (x1 : Nat)
    (h : Kept m s₀ x0) (hm : Sub 0x2009e200000200c m) : Kept m s₀ (State.recDown x0 x1) := by
  unfold State.recDown
  try dsimp only
  with_reducible repeat' first
    | assumption
    | apply Kept.ite
    | apply State.portCounts_kept
    | apply State.p_kept
    | apply State.drew_kept
    | (apply Sub.of hm; decide)
    | (apply InPg.at (InPg.sbcP _ (Sub.bit hm (by decide))) (by first | decide | assumption | (dsimp only; decide)))

theorem State.notAlone_kept {m : Nat} {s₀ : State} {x0 : State} (x1 : Nat)
    (h : Kept m s₀ x0) (hm : Sub 0x2000 m) : Kept m s₀ (State.notAlone x0 x1) := by
  unfold State.notAlone
  try dsimp only
  with_reducible repeat' first
    | assumption
    | apply State.ps_kept
    | apply State.p_kept
    | (apply Sub.of hm; decide)
    | (apply InPg.at (InPg.sbcP _ (Sub.bit hm (by decide))) (by first | decide | assumption | (dsimp only; decide)))
    | apply InPg.sbcP _ (Sub.bit hm (by decide))

theorem State.ackError_kept {m : Nat} {s₀ : State} {x0 : State} (x1 : Nat)
    (h : Kept m s₀ x0) (hm : Sub 0x2001e200000200c m) : Kept m s₀ (State.ackError x0 x1) := by
  unfold State.ackError
  try dsimp only
  with_reducible repeat' first
    | assumption
    | apply Kept.ite
    | apply State.inc_kept
    | apply State.portOccur_kept
    | apply State.irq_kept
    | apply State.ps_kept
    | (apply Sub.of hm; decide)
    | (apply InPg.at (InPg.sbcP _ (Sub.bit hm (by decide))) (by first | decide | assumption | (dsimp only; decide)))
    | apply InPg.sbcP _ (Sub.bit hm (by decide))

theorem State.mbxStore_kept {m : Nat} {s₀ : State} {x0 : State} (x1 : Nat) (x2 : Nat) (x3 : Nat) (x4 : RxFrame) (x5 : Bool) (x6 : Bool)
    (h : Kept m s₀ x0) (hm : Sub 0x2000 m) : Kept m s₀ (State.mbxStore x0 x1 x2 x3 x4 x5 x6) := by
  unfold State.mbxStore
  try dsimp only
  with_reducible repeat' first
    | assumption
    | apply State.wr_kept
    | apply State.pTs_kept
    | apply State.inc_kept
    | apply State.wrBytes_kept
    | (apply Sub.of hm; decide)
    | (apply InPg.at (InPg.mbxP _ _ (Sub.bit hm (by decide))) (by first | decide | assumption | (dsimp only; decide)))
    | (apply InPg.at (InPg.sbcP _ (Sub.bit hm (by decide))) (by first | decide | assumption | (dsimp only; decide)))
    | ((intro k hk; rw [Nat.add_assoc]; exact InPg.at (InPg.mbxP _ _ (Sub.bit hm (by decide))) (by omega)))

theorem State.rxSoft_kept {m : Nat} {s₀ : State} {x0 : State} (x1 : Nat) (x2 : RxFrame)
    (h : Kept m s₀ x0) (hm : Sub 0xc2000002000 m) : Kept m s₀ (State.rxSoft x0 x1 x2) := by
  unfold State.rxSoft
  try dsimp only
  with_reducible repeat' first
    | assumption
    | apply Kept.ite
    | apply State.inc_kept
    | apply State.irq_kept
    | apply State.mbxStore_kept
    | apply State.incIrq_kept
    | apply State.p_kept
    | (apply Sub.of hm; decide)
    | (apply InPg.at (InPg.sbcP _ (Sub.bit hm (by decide))) (by first | decide | assumption | (dsimp only; decide)))
    | apply InPg.sbcP _ (Sub.bit hm (by decide))
    | (apply InPg.at (InPg.mbxP _ _ (Sub.bit hm (by decide))) (by first | decide | assumption | (dsimp only; decide)))
    | split

theorem State.clgCount_kept {m : Nat} {s₀ : State} {x0 : State} (x1 : Fld) (x2 : Int)
    (h : Kept m s₀ x0) (hm : Sub 0x8000 m) (hf : x1.off < 0x1000) : Kept m s₀ (State.clgCount x0 x1 x2) := by
  unfold State.clgCount
  try dsimp only
  with_reducible repeat' first
    | assumption
    | apply State.p_kept
    | (apply Sub.of hm; decide)
    | (apply InPg.at (InPg.clgC (Sub.bit hm (by decide))) (by first | decide | assumption | (dsimp only; decide)))

theorem State.hiwatShow_kept {m : Nat} {s₀ : State} {x0 : State}
    (h : Kept m s₀ x0) (hm : Sub 0x8000 m) : Kept m s₀ (State.hiwatShow x0) := by
  unfold State.hiwatShow
  try dsimp only
  with_reducible repeat' first
    | assumption
    | apply State.psB_kept
    | (apply Sub.of hm; decide)
    | apply InPg.clgC (Sub.bit hm (by decide))

theorem State.clgMoved_kept {m : Nat} {s₀ : State} {x0 : State} (x1 : Nat) (x2 : Nat) (x3 : Nat) (x4 : Nat)
    (h : Kept m s₀ x0) (hm : Sub 0xc2000008000 m) : Kept m s₀ (State.clgMoved x0 x1 x2 x3 x4) := by
  unfold State.clgMoved
  try dsimp only
  with_reducible repeat' first
    | assumption
    | apply Kept.ite
    | apply State.clgCount_kept
    | apply State.peak_kept
    | apply State.p_kept
    | apply State.irq_kept
    | apply State.psB_kept
    | apply State.hiwatShow_kept
    | (apply Sub.of hm; decide)
    | (apply InPg.at (InPg.clgC (Sub.bit hm (by decide))) (by first | decide | assumption | (dsimp only; decide)))
    | apply InPg.clgC (Sub.bit hm (by decide))
    | split
    | decide

theorem State.clgRetire_kept {m : Nat} {s₀ : State} {x0 : State}
    (h : Kept m s₀ x0) (hm : Sub 0x40000000008000 m) : Kept m s₀ (State.clgRetire x0) := by
  unfold State.clgRetire
  try dsimp only
  with_reducible repeat' first
    | assumption
    | apply State.p_kept
    | (apply Sub.of hm; decide)
    | (apply Sub.bit hm; decide)
    | (apply InPg.at (InPg.clgC (Sub.bit hm (by decide))) (by first | decide | assumption | (dsimp only; decide)))
    | (fail_if_no_progress apply Kept.set_clg)
    | (fail_if_no_progress apply Kept.mk')

theorem State.setView_kept {m : Nat} {s₀ : State} {x0 : State} (x1 : Nat) (x2 : Nat)
    (h : Kept m s₀ x0) (hm : Sub 0x40000000008000 m) : Kept m s₀ (State.setView x0 x1 x2) := by
  unfold State.setView
  try dsimp only
  with_reducible repeat' first
    | assumption
    | apply Kept.ite
    | apply State.clgRetire_kept
    | (apply Sub.bit hm; decide)
    | (fail_if_no_progress apply Kept.set_clg)
    | (fail_if_no_progress apply Kept.mk')

theorem State.viewServe_kept {m : Nat} {s₀ : State} {x0 : State}
    (h : Kept m s₀ x0) (hm : Sub 0x40004000000000 m) : Kept m s₀ (State.viewServe x0) := by
  unfold State.viewServe
  try dsimp only
  with_reducible repeat' first
    | assumption
    | (apply Sub.bit hm; decide)
    | (apply Or.inl; apply Sub.bit hm; decide)
    | (apply Or.inr; rfl)
    | apply Kept.foldl
    | (fail_if_no_progress apply Kept.set_bus)
    | (fail_if_no_progress apply Kept.set_clg)
    | (fail_if_no_progress apply Kept.mk')
    | ((intros; assumption))
    | intro _ _ _

theorem State.clgAnswer_kept {m : Nat} {s₀ : State} {x0 : State} (x1 : ClgCmd) (x2 : Nat) (x3 : Nat)
    (h : Kept m s₀ x0) (hm : Sub 0xc2000008000 m) : Kept m s₀ (State.clgAnswer x0 x1 x2 x3) := by
  unfold State.clgAnswer
  try dsimp only
  with_reducible repeat' first
    | assumption
    | apply Kept.ite
    | apply State.wr_kept
    | apply State.p_kept
    | apply State.irq_kept
    | (apply Sub.of hm; decide)
    | (apply InPg.at (InPg.clgC (Sub.bit hm (by decide))) (by first | decide | assumption | (dsimp only; decide)))
    | apply InPg.clgC (Sub.bit hm (by decide))

theorem State.clgFault_kept {m : Nat} {s₀ : State} {x0 : State}
    (h : Kept m s₀ x0) (hm : Sub 0x1e200000800c m) : Kept m s₀ (State.clgFault x0) := by
  unfold State.clgFault
  try dsimp only
  with_reducible repeat' first
    | assumption
    | apply Kept.ite
    | apply State.fwOccur_kept
    | apply State.irq_kept
    | apply State.ps_kept
    | (apply Sub.of hm; decide)
    | apply InPg.clgC (Sub.bit hm (by decide))

theorem State.clgEffect_kept {m : Nat} {s₀ : State} {x0 : State} (x1 : ClgCmd) (x2 : Led) (x3 : Nat) (x4 : Nat)
    (h : Kept m s₀ x0) (hm : Sub 0x401e200000800c m) : Kept m s₀ (State.clgEffect x0 x1 x2 x3 x4) := by
  unfold State.clgEffect
  extract_lets old imgs src s1 s2 s3
  have k1 : Kept m s₀ s1 := Kept.set_clg h (Sub.bit hm (by decide)) _
  clear_value s1
  have k2 : Kept m s₀ s2 := Kept.ite k1 (State.clgMoved_kept _ _ _ _ k1 (Sub.of hm (by decide)))
  clear_value s2
  have hp : InPg m clgC := InPg.clgC (Sub.bit hm (by decide))
  have hi : ∀ f : Fld, f.off < 0x1000 → Kept m s₀ (s2.inc clgC f) := fun f hf =>
    State.inc_kept _ _ _ k2 (Sub.of hm (by decide)) (hp.at hf)
  have k3 : Kept m s₀ s3 := by
    dsimp only [s3]
    split
    · exact hi _ (by decide)
    · exact hi _ (by decide)
    · exact Kept.ite (hi _ (by decide)) k2
    · exact Kept.ite (hi _ (by decide)) k2
    · exact hi _ (by decide)
    · exact State.clgFault_kept (State.ikwOffer_kept _ _ _
        (State.incIrq_kept _ _ _ _ k2 (Sub.of hm (by decide)) (hp.at (by decide)) hp) (Sub.of hm (by decide))) (Sub.of hm (by decide))
    · exact k2
  clear_value s3
  exact State.clgRetire_kept (State.clgAnswer_kept _ _ _ k3 (Sub.of hm (by decide))) (Sub.of hm (by decide))

theorem State.clgApply_kept {m : Nat} {s₀ : State} {x0 : State} (x1 : ClgCmd)
    (h : Kept m s₀ x0) (hm : Sub 0x401e600000800c m) : Kept m s₀ (State.clgApply x0 x1) := by
  unfold State.clgApply
  try dsimp only
  with_reducible repeat' first
    | assumption
    | apply Kept.ite
    | apply State.viewServe_kept
    | apply State.clgAnswer_kept
    | apply State.clgFault_kept
    | apply State.clgEffect_kept
    | (apply Sub.of hm; decide)

theorem State.clgStall_kept {m : Nat} {s₀ : State} {x0 : State} (x1 : ClgCmd)
    (h : Kept m s₀ x0) (hm : Sub 0x8000 m) : Kept m s₀ (State.clgStall x0 x1) := by
  unfold State.clgStall
  try dsimp only
  with_reducible repeat' first
    | assumption
    | apply Kept.ite
    | apply State.inc_kept
    | (apply Sub.of hm; decide)
    | (apply InPg.at (InPg.clgC (Sub.bit hm (by decide))) (by first | decide | assumption | (dsimp only; decide)))

theorem State.clgTake_kept {m : Nat} {s₀ : State} {x0 : State} (x1 : ClgCmd)
    (h : Kept m s₀ x0) (hm : Sub 0x401e600000800c m) : Kept m s₀ (State.clgTake x0 x1) := by
  unfold State.clgTake
  try dsimp only
  with_reducible repeat' first
    | assumption
    | apply Kept.ite
    | apply State.clgApply_kept
    | apply State.clgStall_kept
    | (apply Sub.of hm; decide)
    | (apply Or.inl; apply Sub.bit hm; decide)
    | (apply Or.inr; rfl)
    | (fail_if_no_progress apply Kept.set_bus)
    | (fail_if_no_progress apply Kept.set_clg)
    | (fail_if_no_progress apply Kept.mk')
    | ((intros; assumption))

theorem State.clgOp_kept {m : Nat} {s₀ : State} {x0 : State} (x1 : ClgCmd)
    (h : Kept m s₀ x0) (hm : Sub 0x401e600000800c m) : Kept m s₀ (State.clgOp x0 x1) := by
  unfold State.clgOp
  extract_lets s1
  have k1 : Kept m s₀ s1 := by
    refine Kept.foldl_mem h _ _ ?_
    rintro y ⟨a, k⟩ hb hy
    have hk : k ∈ [0, 1, 2, 3, 4, 5, 6, 7] := (List.of_mem_zip hb).2
    have hk2 : k < 8 := by
      revert hk; revert k; intro k _ hk
      simp only [List.mem_cons, List.not_mem_nil, or_false] at hk; omega
    exact State.wr_kept _ _ hy (Sub.of hm (by decide)) (by rw [Nat.add_assoc]; exact (InPg.clgC (Sub.bit hm (by decide))).at (by omega))
  exact State.clgTake_kept _ k1 (Sub.of hm (by decide))

theorem State.clgPort_kept {m : Nat} {s₀ : State} {x0 : State} (x1 : ClgCmd)
    (h : Kept m s₀ x0) (hm : Sub 0x401e600002800c m) : Kept m s₀ (State.clgPort x0 x1) := by
  unfold State.clgPort
  try dsimp only
  with_reducible repeat' first
    | assumption
    | apply State.onWrite_kept
    | apply State.clgOp_kept
    | (apply Sub.of hm; decide)
    | (apply InPg.at (InPg.clgC (Sub.bit hm (by decide))) (by first | decide | assumption | (dsimp only; decide)))
    | intro _ _

theorem State.clgCtrl_kept {m : Nat} {s₀ : State} {x0 : State} (x1 : Word)
    (h : Kept m s₀ x0) (hm : Sub 0x40400000008000 m) : Kept m s₀ (State.clgCtrl x0 x1) := by
  unfold State.clgCtrl
  try dsimp only
  with_reducible repeat' first
    | assumption
    | apply Kept.ite
    | apply State.pB_kept
    | apply State.p_kept
    | apply State.wr_kept
    | apply State.ps_kept
    | (apply Sub.of hm; decide)
    | (apply Or.inl; apply Sub.bit hm; decide)
    | (apply Or.inr; rfl)
    | (apply InPg.at (InPg.clgC (Sub.bit hm (by decide))) (by first | decide | assumption | (dsimp only; decide)))
    | apply InPg.clgC (Sub.bit hm (by decide))
    | (fail_if_no_progress apply Kept.set_clg)
    | (fail_if_no_progress apply Kept.set_memc)
    | (fail_if_no_progress apply Kept.mk')
    | ((intros; assumption))

theorem State.clgStatWrite_kept {m : Nat} {s₀ : State} {x0 : State} (x1 : Word)
    (h : Kept m s₀ x0) (hm : Sub 0x8000 m) : Kept m s₀ (State.clgStatWrite x0 x1) := by
  unfold State.clgStatWrite
  try dsimp only
  with_reducible repeat' first
    | assumption
    | apply Kept.ite
    | apply State.flt_kept
    | apply State.ps_kept
    | (apply Sub.of hm; decide)
    | apply InPg.clgC (Sub.bit hm (by decide))

theorem State.setCtx_kept {m : Nat} {s₀ : State} {x0 : State} (x1 : Nat) (x2 : Ctx)
    (h : Kept m s₀ x0) (hm : Sub 0x400000000000000 m) : Kept m s₀ (State.setCtx x0 x1 x2) := by
  unfold State.setCtx
  try dsimp only
  with_reducible repeat' first
    | assumption
    | (apply Sub.bit hm; decide)
    | (fail_if_no_progress apply Kept.set_cve)
    | (fail_if_no_progress apply Kept.mk')

theorem State.invShow_kept {m : Nat} {s₀ : State} {x0 : State}
    (h : Kept m s₀ x0) (hm : Sub 0x4000 m) : Kept m s₀ (State.invShow x0) := by
  unfold State.invShow
  try dsimp only
  with_reducible repeat' first
    | assumption
    | apply State.psB_kept
    | (apply Sub.of hm; decide)
    | apply InPg.cveC (Sub.bit hm (by decide))

theorem State.setCst_kept {m : Nat} {s₀ : State} {x0 : State} (x1 : Nat) (x2 : Nat)
    (h : Kept m s₀ x0) (hm : Sub 0xc2000004000 m) : Kept m s₀ (State.setCst x0 x1 x2) := by
  unfold State.setCst
  try dsimp only
  with_reducible repeat' first
    | assumption
    | apply Kept.ite
    | apply State.irq_kept
    | apply State.ps_kept
    | apply State.invShow_kept
    | (apply Sub.of hm; decide)
    | apply InPg.ctxP _ (Sub.bit hm (by decide))
    | apply InPg.cveC (Sub.bit hm (by decide))

theorem State.qShow_kept {m : Nat} {s₀ : State} {x0 : State} (x1 : Nat)
    (h : Kept m s₀ x0) (hm : Sub 0xc2000004000 m) : Kept m s₀ (State.qShow x0 x1) := by
  unfold State.qShow
  try dsimp only
  with_reducible repeat' first
    | assumption
    | apply Kept.ite
    | apply State.psB_kept
    | apply State.irq_kept
    | (apply Sub.of hm; decide)
    | apply InPg.ctxP _ (Sub.bit hm (by decide))

theorem State.qWrite_kept {m : Nat} {s₀ : State} {x0 : State} (x1 : Nat) (x2 : Nat) (x3 : Nat) (x4 : Nat) (x5 : List Nat)
    (h : Kept m s₀ x0) (hm : Sub 0x4c2800004000 m) : Kept m s₀ (State.qWrite x0 x1 x2 x3 x4 x5) := by
  unfold State.qWrite
  try dsimp only
  with_reducible repeat' first
    | assumption
    | apply State.mputEcc_kept
    | apply State.p_kept
    | apply State.qShow_kept
    | apply State.irq_kept
    | (apply Sub.of hm; decide)
    | (apply InPg.at (InPg.ctxP _ (Sub.bit hm (by decide))) (by first | decide | assumption | (dsimp only; decide)))
    | apply InPg.ctxP _ (Sub.bit hm (by decide))

theorem State.qEvent_kept {m : Nat} {s₀ : State} {x0 : State} (x1 : Nat) (x2 : Nat) (x3 : Nat)
    (h : Kept m s₀ x0) (hm : Sub 0x4c2800004000 m) : Kept m s₀ (State.qEvent x0 x1 x2 x3) := by
  unfold State.qEvent
  try dsimp only
  with_reducible repeat' first
    | assumption
    | apply Kept.ite
    | apply State.inc_kept
    | apply State.qWrite_kept
    | (apply Sub.of hm; decide)
    | (apply InPg.at (InPg.ctxP _ (Sub.bit hm (by decide))) (by first | decide | assumption | (dsimp only; decide)))

theorem State.qFlush_kept {m : Nat} {s₀ : State} (x0 : Nat) (x1 : List QEnt) {x2 : State}
    (h : Kept m s₀ x2) (hm : Sub 0x4004c2800004000 m) : Kept m s₀ (State.qFlush x0 x1 x2) := by
  induction x1 generalizing x2 with
  | nil => unfold State.qFlush; exact State.setCtx_kept _ _ h (Sub.of hm (by decide))
  | cons e l ih =>
    cases e with
    | gap first len ts =>
      unfold State.qFlush
      split
      · exact State.setCtx_kept _ _ h (Sub.of hm (by decide))
      · exact ih (State.irq_kept _ _ (State.qWrite_kept _ _ _ _ _ h (Sub.of hm (by decide))) (Sub.of hm (by decide)) (InPg.ctxP _ (Sub.bit hm (by decide))))
    | msg f =>
      unfold State.qFlush
      split
      · exact State.setCtx_kept _ _ h (Sub.of hm (by decide))
      · exact ih (State.inc_kept _ _ _ (State.qWrite_kept _ _ _ _ _ h (Sub.of hm (by decide))) (Sub.of hm (by decide)) ((InPg.ctxP _ (Sub.bit hm (by decide))).at (by decide)))

theorem State.qPut_kept {m : Nat} {s₀ : State} {x0 : State} (x1 : Nat) (x2 : QEnt)
    (h : Kept m s₀ x0) (hm : Sub 0x400000000000000 m) : Kept m s₀ (State.qPut x0 x1 x2) := by
  unfold State.qPut
  try dsimp only
  with_reducible repeat' first
    | assumption
    | apply State.setCtx_kept

theorem State.qRun_kept {m : Nat} {s₀ : State} {x0 : State} (x1 : Nat)
    (h : Kept m s₀ x0) (hm : Sub 0x4004c2800004000 m) : Kept m s₀ (State.qRun x0 x1) := by
  unfold State.qRun
  try dsimp only
  with_reducible repeat' first
    | assumption
    | apply State.qFlush_kept

theorem State.qRelease_kept {m : Nat} {s₀ : State} {x0 : State} (x1 : Nat)
    (h : Kept m s₀ x0) (hm : Sub 0x4004c2800004000 m) : Kept m s₀ (State.qRelease x0 x1) := by
  unfold State.qRelease
  try dsimp only
  with_reducible repeat' first
    | assumption
    | apply Kept.ite
    | apply State.p_kept
    | apply State.qShow_kept
    | apply State.qRun_kept
    | apply State.setCtx_kept
    | (apply Sub.of hm; decide)
    | (apply InPg.at (InPg.ctxP _ (Sub.bit hm (by decide))) (by first | decide | assumption | (dsimp only; decide)))

theorem State.relLand_kept {m : Nat} {s₀ : State} {x0 : State} (x1 : Nat) (x2 : Nat) (x3 : Nat)
    (h : Kept m s₀ x0) (hm : Sub 0x4004c2800004000 m) : Kept m s₀ (State.relLand x0 x1 x2 x3).2 := by
  unfold State.relLand
  try dsimp only
  with_reducible repeat' first
    | assumption
    | apply State.qRelease_kept
    | apply State.setCtx_kept
    | (apply Sub.of hm; decide)
    | apply Kept.ite2

theorem State.relJoin_kept {m : Nat} {s₀ : State} {x0 : State} (x1 : Nat)
    (h : Kept m s₀ x0) (hm : Sub 0x400000000000000 m) : Kept m s₀ (State.relJoin x0 x1) := by
  unfold State.relJoin
  try dsimp only
  with_reducible repeat' first
    | assumption
    | apply Kept.ite
    | apply State.setCtx_kept
    | apply Kept.foldl
    | intro _ _ _

theorem State.relAll_kept {m : Nat} {s₀ : State} {x0 : State}
    (h : Kept m s₀ x0) (hm : Sub 0x4004c2800004000 m) : Kept m s₀ (State.relAll x0) := by
  unfold State.relAll
  try dsimp only
  with_reducible repeat' first
    | assumption
    | apply State.qRelease_kept
    | apply Kept.foldl
    | intro _ _ _

theorem State.sendCtl_kept {m : Nat} {s₀ : State} {x0 : State} (x1 : Nat) (x2 : Nat) (x3 : Nat) (x4 : List Nat) (x5 : optParam EKind EKind.plain)
    (h : Kept m s₀ x0) (hm : Sub 0x600800000002000 m) : Kept m s₀ (State.sendCtl x0 x1 x2 x3 x4 x5) := by
  unfold State.sendCtl
  try dsimp only
  with_reducible repeat' first
    | assumption
    | apply State.setCtx_kept
    | apply State.sendBoth_kept
    | (apply Sub.of hm; decide)

theorem State.nak_kept {m : Nat} {s₀ : State} {x0 : State} (x1 : Nat) (x2 : Nat) (x3 : Nat) (x4 : Nat) (x5 : Nat)
    (h : Kept m s₀ x0) (hm : Sub 0x600800000006000 m) : Kept m s₀ (State.nak x0 x1 x2 x3 x4 x5) := by
  unfold State.nak
  try dsimp only
  with_reducible repeat' first
    | assumption
    | apply Kept.ite
    | apply State.inc_kept
    | apply State.sendCtl_kept
    | apply State.setCtx_kept
    | (apply Sub.of hm; decide)
    | (apply InPg.at (InPg.cvnP _ (Sub.bit hm (by decide))) (by first | decide | assumption | (dsimp only; decide)))

theorem State.nakStranger_kept {m : Nat} {s₀ : State} {x0 : State} (x1 : Nat) (x2 : Nat) (x3 : Nat)
    (h : Kept m s₀ x0) (hm : Sub 0x600800000006000 m) : Kept m s₀ (State.nakStranger x0 x1 x2 x3) := by
  unfold State.nakStranger
  try dsimp only
  with_reducible repeat' first
    | assumption
    | apply Kept.ite
    | apply State.inc_kept
    | apply State.drew_kept
    | apply State.sendBoth_kept
    | (apply Sub.of hm; decide)
    | (apply Sub.bit hm; decide)
    | (apply InPg.at (InPg.cvnP _ (Sub.bit hm (by decide))) (by first | decide | assumption | (dsimp only; decide)))
    | (fail_if_no_progress apply Kept.set_cve)
    | (fail_if_no_progress apply Kept.mk')

theorem State.txOutShow_kept {m : Nat} {s₀ : State} {x0 : State} (x1 : Nat)
    (h : Kept m s₀ x0) (hm : Sub 0x4000 m) : Kept m s₀ (State.txOutShow x0 x1) := by
  unfold State.txOutShow
  try dsimp only
  with_reducible repeat' first
    | assumption
    | apply State.p_kept
    | (apply Sub.of hm; decide)
    | (apply InPg.at (InPg.ctxP _ (Sub.bit hm (by decide))) (by first | decide | assumption | (dsimp only; decide)))

theorem State.trySendL_kept {m : Nat} {s₀ : State} (x0 : Nat) (x1 : List OutFrm) {x2 : State}
    (h : Kept m s₀ x2) (hm : Sub 0x200800000002000 m) : Kept m s₀ (State.trySendL x0 x1 x2).2 := by
  induction x1 generalizing x2 with
  | nil => unfold State.trySendL; exact h
  | cons f l ih =>
    unfold State.trySendL
    dsimp only
    split
    · exact ih (State.sendBoth_kept _ _ h (Sub.of hm (by decide)))
    · exact ih h

theorem State.trySend_kept {m : Nat} {s₀ : State} {x0 : State} (x1 : Nat)
    (h : Kept m s₀ x0) (hm : Sub 0x600800000006000 m) : Kept m s₀ (State.trySend x0 x1) := by
  unfold State.trySend
  try dsimp only
  with_reducible repeat' first
    | assumption
    | apply State.trySendL_kept
    | apply State.txOutShow_kept
    | apply State.setCtx_kept
    | (apply Sub.of hm; decide)

theorem State.giveUp_kept {m : Nat} {s₀ : State} {x0 : State} (x1 : Nat) (x2 : OutFrm)
    (h : Kept m s₀ x0) (hm : Sub 0x4004c2800004000 m) : Kept m s₀ (State.giveUp x0 x1 x2) := by
  unfold State.giveUp
  try dsimp only
  with_reducible repeat' first
    | assumption
    | apply State.setCtx_kept
    | apply State.txOutShow_kept
    | apply State.incIrq_kept
    | apply State.qEvent_kept
    | (apply Sub.of hm; decide)
    | (apply InPg.at (InPg.ctxP _ (Sub.bit hm (by decide))) (by first | decide | assumption | (dsimp only; decide)))
    | apply InPg.ctxP _ (Sub.bit hm (by decide))

theorem State.cover_kept {m : Nat} {s₀ : State} {x0 : State} (x1 : Nat) (x2 : Nat) (x3 : List Nat)
    (h : Kept m s₀ x0) (hm : Sub 0x400000000004000 m) : Kept m s₀ (State.cover x0 x1 x2 x3) := by
  unfold State.cover
  try dsimp only
  with_reducible repeat' first
    | assumption
    | apply State.txOutShow_kept
    | apply State.setCtx_kept
    | (apply Sub.of hm; decide)

theorem State.setE_kept {m : Nat} {s₀ : State} {x0 : State} (x1 : Nat) (x2 : Nat)
    (h : Kept m s₀ x0) (hm : Sub 0x4000 m) : Kept m s₀ (State.setE x0 x1 x2) := by
  unfold State.setE
  try dsimp only
  with_reducible repeat' first
    | assumption
    | apply State.p_kept
    | (apply Sub.of hm; decide)
    | (apply InPg.at (InPg.ctxP _ (Sub.bit hm (by decide))) (by first | decide | assumption | (dsimp only; decide)))

theorem State.lose_kept {m : Nat} {s₀ : State} {x0 : State} (x1 : Nat) (x2 : Nat) (x3 : Nat)
    (h : Kept m s₀ x0) (hm : Sub 0x600800000006000 m) : Kept m s₀ (State.lose x0 x1 x2 x3) := by
  unfold State.lose
  try dsimp only
  with_reducible repeat' first
    | assumption
    | apply Kept.ite
    | apply State.qPut_kept
    | apply State.inc_kept
    | apply State.nak_kept
    | (apply Sub.of hm; decide)
    | (apply InPg.at (InPg.ctxP _ (Sub.bit hm (by decide))) (by first | decide | assumption | (dsimp only; decide)))

theorem State.pass_kept {m : Nat} {s₀ : State} (x0 : Nat) (x1 : Nat) (x2 : List HeldFrm) (x3 : Nat) {x4 : State}
    (h : Kept m s₀ x4) (hm : Sub 0x600800000006000 m) : Kept m s₀ (State.pass x0 x1 x2 x3 x4) := by
  induction x2 generalizing x3 x4 with
  | nil => unfold State.pass; exact State.lose_kept _ _ _ (State.setCtx_kept _ _ h (Sub.of hm (by decide))) (Sub.of hm (by decide))
  | cons f l ih =>
    unfold State.pass
    split
    · exact ih _ (State.qPut_kept _ _ (State.lose_kept _ _ _ h (Sub.of hm (by decide))) (Sub.of hm (by decide)))
    · exact State.lose_kept _ _ _ (State.setCtx_kept _ _ h (Sub.of hm (by decide))) (Sub.of hm (by decide))

theorem State.dFollow_kept {m : Nat} {s₀ : State} (x0 : Nat) (x1 : List HeldFrm) (x2 : Nat) {x3 : State}
    (h : Kept m s₀ x3) (hm : Sub 0x400000000004000 m) : Kept m s₀ (State.dFollow x0 x1 x2 x3) := by
  induction x1 generalizing x2 x3 with
  | nil => unfold State.dFollow; exact State.setE_kept _ _ (State.setCtx_kept _ _ h (Sub.of hm (by decide))) (Sub.of hm (by decide))
  | cons f l ih =>
    unfold State.dFollow
    split
    · exact ih _ (State.qPut_kept _ _ h (Sub.of hm (by decide)))
    · exact State.setE_kept _ _ (State.setCtx_kept _ _ h (Sub.of hm (by decide))) (Sub.of hm (by decide))

theorem State.deliver_kept {m : Nat} {s₀ : State} {x0 : State} (x1 : Nat) (x2 : Nat)
    (h : Kept m s₀ x0) (hm : Sub 0x4004c2800004000 m) : Kept m s₀ (State.deliver x0 x1 x2) := by
  unfold State.deliver
  try dsimp only
  with_reducible repeat' first
    | assumption
    | apply State.qRun_kept
    | apply State.dFollow_kept
    | (apply Sub.of hm; decide)

theorem State.passTo_kept {m : Nat} {s₀ : State} {x0 : State} (x1 : Nat) (x2 : Nat)
    (h : Kept m s₀ x0) (hm : Sub 0x600cc2800006000 m) : Kept m s₀ (State.passTo x0 x1 x2) := by
  unfold State.passTo
  try dsimp only
  with_reducible repeat' first
    | assumption
    | apply State.pass_kept
    | apply State.deliver_kept
    | (apply Sub.of hm; decide)

theorem State.gapStop_kept {m : Nat} {s₀ : State} {x0 : State} (x1 : Nat)
    (h : Kept m s₀ x0) (hm : Sub 0x400000000000000 m) : Kept m s₀ (State.gapStop x0 x1) := by
  unfold State.gapStop
  try dsimp only
  with_reducible repeat' first
    | assumption
    | apply Kept.ite
    | apply State.setCtx_kept

theorem State.oweAck_kept {m : Nat} {s₀ : State} {x0 : State} (x1 : Nat)
    (h : Kept m s₀ x0) (hm : Sub 0x400000000000000 m) : Kept m s₀ (State.oweAck x0 x1) := by
  unfold State.oweAck
  try dsimp only
  with_reducible repeat' first
    | assumption
    | apply State.setCtx_kept

theorem State.dupAck_kept {m : Nat} {s₀ : State} {x0 : State} (x1 : Nat)
    (h : Kept m s₀ x0) (hm : Sub 0x400000000000000 m) : Kept m s₀ (State.dupAck x0 x1) := by
  unfold State.dupAck
  try dsimp only
  with_reducible repeat' first
    | assumption
    | apply Kept.ite
    | apply State.oweAck_kept
    | split

theorem State.convEnd_kept {m : Nat} {s₀ : State} {x0 : State} (x1 : Nat) (x2 : Nat)
    (h : Kept m s₀ x0) (hm : Sub 0x600cc2800006000 m) : Kept m s₀ (State.convEnd x0 x1 x2) := by
  unfold State.convEnd
  try dsimp only
  with_reducible repeat' first
    | assumption
    | apply State.passTo_kept
    | apply State.giveUp_kept
    | apply State.qEvent_kept
    | apply State.ps_kept
    | apply State.setCtx_kept
    | (apply Sub.of hm; decide)
    | apply InPg.ctxP _ (Sub.bit hm (by decide))
    | apply Kept.foldl
    | intro _ _ _
    | split

theorem State.ctxBar_kept {m : Nat} {s₀ : State} {x0 : State} (x1 : Nat)
    (h : Kept m s₀ x0) (hm : Sub 0x600cc2800006000 m) : Kept m s₀ (State.ctxBar x0 x1) := by
  unfold State.ctxBar
  try dsimp only
  with_reducible repeat' first
    | assumption
    | apply Kept.ite
    | apply State.sendCtl_kept
    | apply State.ps_kept
    | apply State.convEnd_kept
    | apply State.setCst_kept
    | apply State.irq_kept
    | (apply Sub.of hm; decide)
    | apply InPg.ctxP _ (Sub.bit hm (by decide))

theorem State.violation_kept {m : Nat} {s₀ : State} {x0 : State} (x1 : Nat) (x2 : Nat)
    (h : Kept m s₀ x0) (hm : Sub 0x600de280000600c m) : Kept m s₀ (State.violation x0 x1 x2) := by
  unfold State.violation
  try dsimp only
  with_reducible repeat' first
    | assumption
    | apply Kept.ite
    | apply State.incIrq_kept
    | apply State.p_kept
    | apply State.fwOccur_kept
    | apply State.ctxBar_kept
    | (apply Sub.of hm; decide)
    | (apply InPg.at (InPg.ctxP _ (Sub.bit hm (by decide))) (by first | decide | assumption | (dsimp only; decide)))
    | apply InPg.ctxP _ (Sub.bit hm (by decide))

theorem State.heardShow_kept {m : Nat} {s₀ : State} {x0 : State} (x1 : Nat)
    (h : Kept m s₀ x0) (hm : Sub 0x4000 m) : Kept m s₀ (State.heardShow x0 x1) := by
  unfold State.heardShow
  try dsimp only
  with_reducible repeat' first
    | assumption
    | apply State.psB_kept
    | (apply Sub.of hm; decide)
    | apply InPg.ctxP _ (Sub.bit hm (by decide))

theorem State.touch_kept {m : Nat} {s₀ : State} {x0 : State} (x1 : Nat) (x2 : Nat)
    (h : Kept m s₀ x0) (hm : Sub 0x400000000004000 m) : Kept m s₀ (State.touch x0 x1 x2) := by
  unfold State.touch
  try dsimp only
  with_reducible repeat' first
    | assumption
    | apply State.setCtx_kept
    | apply State.heardShow_kept
    | apply State.ps_kept
    | (apply Sub.of hm; decide)
    | apply InPg.ctxP _ (Sub.bit hm (by decide))

theorem State.accepted_kept {m : Nat} {s₀ : State} {x0 : State} (x1 : Nat) (x2 : Nat) (x3 : Nat)
    (h : Kept m s₀ x0) (hm : Sub 0x4000c2000004000 m) : Kept m s₀ (State.accepted x0 x1 x2 x3) := by
  unfold State.accepted
  try dsimp only
  with_reducible repeat' first
    | assumption
    | apply Kept.ite
    | apply State.pTs_kept
    | apply State.touch_kept
    | apply State.setCst_kept
    | (apply Sub.of hm; decide)
    | (apply InPg.at (InPg.ctxP _ (Sub.bit hm (by decide))) (by first | decide | assumption | (dsimp only; decide)))

theorem State.welcomeDone_kept {m : Nat} {s₀ : State} {x0 : State} (x1 : Nat)
    (h : Kept m s₀ x0) (hm : Sub 0x4000c2000004000 m) : Kept m s₀ (State.welcomeDone x0 x1) := by
  unfold State.welcomeDone
  try dsimp only
  with_reducible repeat' first
    | assumption
    | apply Kept.ite
    | apply State.setCtx_kept
    | apply State.setCst_kept
    | apply State.ps_kept
    | (apply Sub.of hm; decide)
    | apply InPg.ctxP _ (Sub.bit hm (by decide))

theorem State.joinPass_kept {m : Nat} {s₀ : State} {x0 : State} (x1 : Nat) (x2 : Nat) (x3 : Word) (x4 : Nat)
    (h : Kept m s₀ x0) (hm : Sub 0x600cc2800006000 m) : Kept m s₀ (State.joinPass x0 x1 x2 x3 x4) := by
  unfold State.joinPass
  try dsimp only
  with_reducible repeat' first
    | assumption
    | apply Kept.ite
    | apply State.convEnd_kept
    | apply State.setCtx_kept
    | apply State.p_kept
    | apply State.setE_kept
    | apply State.txOutShow_kept
    | apply State.ps_kept
    | apply State.sendCtl_kept
    | apply State.qEvent_kept
    | (apply Sub.of hm; decide)
    | (apply InPg.at (InPg.ctxP _ (Sub.bit hm (by decide))) (by first | decide | assumption | (dsimp only; decide)))
    | apply InPg.ctxP _ (Sub.bit hm (by decide))

theorem State.join_kept {m : Nat} {s₀ : State} {x0 : State} (x1 : Nat) (x2 : Nat) (x3 : Nat) (x4 : Word) (x5 : Nat) (x6 : Nat) (x7 : Nat) (x8 : Nat)
    (h : Kept m s₀ x0) (hm : Sub 0x600cc2800006000 m) : Kept m s₀ (State.join x0 x1 x2 x3 x4 x5 x6 x7 x8) := by
  unfold State.join
  try dsimp only
  with_reducible repeat' first
    | assumption
    | apply Kept.ite
    | apply State.wr_kept
    | apply State.nak_kept
    | apply State.setCtx_kept
    | apply State.inc_kept
    | apply State.touch_kept
    | apply State.accepted_kept
    | apply State.joinPass_kept
    | (apply Sub.of hm; decide)
    | (apply InPg.at (InPg.ctxP _ (Sub.bit hm (by decide))) (by first | decide | assumption | (dsimp only; decide)))
    | (apply InPg.at (InPg.cvnP _ (Sub.bit hm (by decide))) (by first | decide | assumption | (dsimp only; decide)))

theorem State.peerFull_kept {m : Nat} {s₀ : State} {x0 : State} (x1 : Nat) (x2 : Bool)
    (h : Kept m s₀ x0) (hm : Sub 0x4000 m) : Kept m s₀ (State.peerFull x0 x1 x2) := by
  unfold State.peerFull
  try dsimp only
  with_reducible repeat' first
    | assumption
    | apply State.psB_kept
    | (apply Sub.of hm; decide)
    | apply InPg.ctxP _ (Sub.bit hm (by decide))

theorem State.ctlAct_kept {m : Nat} {s₀ : State} {x0 : State} (x1 : Nat) (x2 : Nat) (x3 : List Nat)
    (h : Kept m s₀ x0) (hm : Sub 0x600cc2800006000 m) : Kept m s₀ (State.ctlAct x0 x1 x2 x3) := by
  unfold State.ctlAct
  try dsimp only
  with_reducible repeat' first
    | assumption
    | apply Kept.ite
    | apply State.peerFull_kept
    | apply State.setCtx_kept
    | apply State.trySend_kept
    | apply State.cover_kept
    | apply State.p_kept
    | apply State.setCst_kept
    | apply State.convEnd_kept
    | (apply Sub.of hm; decide)
    | (apply InPg.at (InPg.ctxP _ (Sub.bit hm (by decide))) (by first | decide | assumption | (dsimp only; decide)))
    | split

theorem State.dataIn_kept {m : Nat} {s₀ : State} {x0 : State} (x1 : Nat) (x2 : Nat) (x3 : HeldFrm)
    (h : Kept m s₀ x0) (hm : Sub 0x600de280000600c m) : Kept m s₀ (State.dataIn x0 x1 x2 x3) := by
  unfold State.dataIn
  try dsimp only
  with_reducible repeat' first
    | assumption
    | apply Kept.ite
    | apply State.nak_kept
    | apply State.inc_kept
    | apply State.oweAck_kept
    | apply State.accepted_kept
    | apply State.setCtx_kept
    | apply State.setE_kept
    | apply State.violation_kept
    | apply State.dupAck_kept
    | apply State.touch_kept
    | apply State.gapStop_kept
    | apply State.deliver_kept
    | apply State.qPut_kept
    | apply State.passTo_kept
    | (apply Sub.of hm; decide)
    | (apply InPg.at (InPg.ctxP _ (Sub.bit hm (by decide))) (by first | decide | assumption | (dsimp only; decide)))
    | split

theorem State.fromNode_kept {m : Nat} {s₀ : State} {x0 : State} (x1 : Nat) (x2 : Nat) (x3 : Nat) (x4 : Nat) (x5 : Nat) (x6 : Nat) (x7 : List Nat) (x8 : Nat)
    (h : Kept m s₀ x0) (hm : Sub 0x600de280000600c m) : Kept m s₀ (State.fromNode x0 x1 x2 x3 x4 x5 x6 x7 x8) := by
  unfold State.fromNode
  try dsimp only
  with_reducible repeat' first
    | assumption
    | apply Kept.ite
    | apply State.nak_kept
    | apply State.join_kept
    | apply State.inc_kept
    | apply State.violation_kept
    | apply State.dataIn_kept
    | apply State.touch_kept
    | apply State.accepted_kept
    | apply State.setCtx_kept
    | apply State.ctlAct_kept
    | (apply Sub.of hm; decide)
    | (apply InPg.at (InPg.ctxP _ (Sub.bit hm (by decide))) (by first | decide | assumption | (dsimp only; decide)))
    | split

theorem State.elithIn_kept {m : Nat} {s₀ : State} {x0 : State} (x1 : Nat) (x2 : RxFrame)
    (h : Kept m s₀ x0) (hm : Sub 0x600de280000600c m) : Kept m s₀ (State.elithIn x0 x1 x2) := by
  unfold State.elithIn
  try dsimp only
  with_reducible repeat' first
    | assumption
    | apply Kept.ite
    | apply State.ikwOffer_kept
    | apply State.incIrq_kept
    | apply State.inc_kept
    | apply State.fromNode_kept
    | apply State.p_kept
    | apply State.nakStranger_kept
    | (apply Sub.of hm; decide)
    | (apply InPg.at (InPg.cvnP _ (Sub.bit hm (by decide))) (by first | decide | assumption | (dsimp only; decide)))
    | apply InPg.cveC (Sub.bit hm (by decide))
    | split

theorem State.netChange_kept {m : Nat} {s₀ : State} {x0 : State} (x1 : Nat) (x2 : Nat) (x3 : Nat)
    (h : Kept m s₀ x0) (hm : Sub 0x6009c2000006008 m) : Kept m s₀ (State.netChange x0 x1 x2 x3) := by
  unfold State.netChange
  try dsimp only
  with_reducible repeat' first
    | assumption
    | apply Kept.ite
    | apply State.ikwOffer_kept
    | apply State.irq_kept
    | apply State.trySend_kept
    | (apply Sub.of hm; decide)
    | (apply Sub.bit hm; decide)
    | apply InPg.cveC (Sub.bit hm (by decide))
    | apply Kept.foldl
    | (fail_if_no_progress apply Kept.set_cve)
    | (fail_if_no_progress apply Kept.mk')
    | intro _ _ _

theorem State.legsUpdate_kept {m : Nat} {s₀ : State} {x0 : State}
    (h : Kept m s₀ x0) (hm : Sub 0x6009d200000600a m) : Kept m s₀ (State.legsUpdate x0) := by
  unfold State.legsUpdate
  try dsimp only
  with_reducible repeat' first
    | assumption
    | apply Kept.ite
    | apply State.tbsShow_kept
    | apply State.p_kept
    | apply State.dropLeg_kept
    | apply State.invShow_kept
    | apply State.netChange_kept
    | (apply Sub.of hm; decide)
    | (apply Sub.bit hm; decide)
    | (apply InPg.at (InPg.cveC (Sub.bit hm (by decide))) (by first | decide | assumption | (dsimp only; decide)))
    | apply Kept.foldl
    | (fail_if_no_progress apply Kept.set_cve)
    | (fail_if_no_progress apply Kept.mk')
    | intro _ _ _

theorem State.ikwSweep_kept {m : Nat} {s₀ : State} {x0 : State}
    (h : Kept m s₀ x0) (hm : Sub 0x1c2000000008 m) : Kept m s₀ (State.ikwSweep x0) := by
  unfold State.ikwSweep
  try dsimp only
  with_reducible repeat' first
    | assumption
    | apply State.ikwSummary_kept
    | apply State.ikwRefill_kept
    | (apply Sub.of hm; decide)
    | apply Kept.foldl
    | intro _ _ _

theorem State.ikwFault_kept {m : Nat} {s₀ : State} {x0 : State}
    (h : Kept m s₀ x0) (hm : Sub 0x1e200000000c m) : Kept m s₀ (State.ikwFault x0) := by
  unfold State.ikwFault
  try dsimp only
  with_reducible repeat' first
    | assumption
    | apply Kept.ite
    | apply State.fwOccur_kept
    | apply State.irq_kept
    | apply State.psB_kept
    | (apply Sub.of hm; decide)
    | apply InPg.ikwC (Sub.bit hm (by decide))

theorem State.arcShow_kept {m : Nat} {s₀ : State} {x0 : State}
    (h : Kept m s₀ x0) (hm : Sub 0x8 m) : Kept m s₀ (State.arcShow x0) := by
  unfold State.arcShow
  try dsimp only
  with_reducible repeat' first
    | assumption
    | apply State.psB_kept
    | apply State.p_kept
    | (apply Sub.of hm; decide)
    | (apply InPg.at (InPg.ikwC (Sub.bit hm (by decide))) (by first | decide | assumption | (dsimp only; decide)))
    | apply InPg.ikwC (Sub.bit hm (by decide))

theorem State.ikwAdvance_kept {m : Nat} {s₀ : State} {x0 : State}
    (h : Kept m s₀ x0) (hm : Sub 0x1c2000000008 m) : Kept m s₀ (State.ikwAdvance x0) := by
  unfold State.ikwAdvance
  try dsimp only
  with_reducible repeat' first
    | assumption
    | apply Kept.ite
    | apply State.p_kept
    | apply State.irq_kept
    | apply State.pB_kept
    | apply State.inc_kept
    | apply State.arcShow_kept
    | (apply Sub.of hm; decide)
    | (apply Sub.bit hm; decide)
    | (apply InPg.at (InPg.ikwC (Sub.bit hm (by decide))) (by first | decide | assumption | (dsimp only; decide)))
    | apply InPg.ikwC (Sub.bit hm (by decide))
    | (fail_if_no_progress apply Kept.set_ikw)
    | (fail_if_no_progress apply Kept.mk')
    | exact fun hx => hx

theorem State.ikwStore_kept {m : Nat} {s₀ : State} (x0 : Nat) {x1 : State} (x2 : IkwRec)
    (h : Kept m s₀ x1) (hm : Sub 0x5e280000000c m) : Kept m s₀ (State.ikwStore x0 x1 x2) := by
  induction x0 generalizing x1 with
  | zero => unfold State.ikwStore; exact State.ikwAdvance_kept (State.mputEcc_kept _ _ h (Sub.of hm (by decide))) (Sub.of hm (by decide))
  | succ n ih =>
    unfold State.ikwStore
    exact ih (State.ikwFault_kept (State.inc_kept _ _ _ (State.ikwAdvance_kept h (Sub.of hm (by decide))) (Sub.of hm (by decide)) ((InPg.ikwC (Sub.bit hm (by decide))).at (by decide))) (Sub.of hm (by decide)))

theorem State.ikwDrain_kept {m : Nat} {s₀ : State} {x0 : State} (x1 : Nat)
    (h : Kept m s₀ x0) (hm : Sub 0x5e280000000c m) : Kept m s₀ (State.ikwDrain x0 x1) := by
  unfold State.ikwDrain
  cases he : x0.ikw.fifo with
  | nil => exact h
  | cons r rest =>
    have k1 : Kept m s₀ (State.ikwShow { x0 with ikw := { x0.ikw with fifo := rest } }) :=
      State.ikwShow_kept (Kept.set_ikw h (Sub.bit hm (by decide)) _ fun hx => by
        rw [he, List.length_cons] at hx; dsimp only; omega) (Sub.of hm (by decide))
    dsimp -zeta only
    extract_lets src s1 s2 s3 s4
    split
    · exact h
    · have k1 : Kept m s₀ s1 := k1
      clear_value s1
      have k2 : Kept m s₀ s2 := State.inc_kept _ _ _ (State.ikwStore_kept _ _ k1 (Sub.of hm (by decide))) (Sub.of hm (by decide)) ((InPg.ikwC (Sub.bit hm (by decide))).at (by decide))
      clear_value s2
      have k3 : Kept m s₀ s3 := Kept.ite (State.incIrq_kept _ _ _ _ k2 (Sub.of hm (by decide)) ((InPg.ikwC (Sub.bit hm (by decide))).at (by decide)) (InPg.ikwC (Sub.bit hm (by decide)))) k2
      clear_value s3
      have k4 : Kept m s₀ s4 := Kept.ite (State.irq_kept _ _ k3 (Sub.of hm (by decide)) (InPg.ikwC (Sub.bit hm (by decide)))) k3
      clear_value s4
      exact State.ikwSweep_kept k4 (Sub.of hm (by decide))

theorem State.ikwSw_kept {m : Nat} {s₀ : State} {x0 : State} (x1 : Ini) (x2 : Word)
    (h : Kept m s₀ x0) (hm : Sub 0x1c2000000008 m) : Kept m s₀ (State.ikwSw x0 x1 x2) := by
  unfold State.ikwSw
  try dsimp only
  with_reducible repeat' first
    | assumption
    | apply Kept.ite
    | apply State.flt_kept
    | apply State.ikwOffer_kept
    | (apply Sub.of hm; decide)
    | apply InPg.ikwC (Sub.bit hm (by decide))

theorem State.ikwCtrl_kept {m : Nat} {s₀ : State} {x0 : State} (x1 : Word)
    (h : Kept m s₀ x0) (hm : Sub 0x1c2000000008 m) : Kept m s₀ (State.ikwCtrl x0 x1) := by
  have key : ∀ s1, Kept m s₀ s1 → Kept m s₀ (if (s1.b ikwC R.Hdr.CTRL_EN && !s1.ikw.scanned) = true then
      { s1 with ikw := { s1.ikw with scanned := true, scanEnd := s1.tbs.el + 33000000 } }.psB ikwC R.IkwC.STAT_SCAN true
      else s1) := by
    intro s1 k1
    refine Kept.ite (State.psB_kept _ _ _ ?_ (Sub.of hm (by decide)) (InPg.ikwC (Sub.bit hm (by decide)))) k1
    refine Kept.set_ikw k1 (Sub.bit hm (by decide)) _ ?_
    intro hx
    exact hx
  have k1 := State.arcShow_kept (State.land_kept (ikwC + 0x008) x1 h (Sub.of hm (by decide)) ((InPg.ikwC (Sub.bit hm (by decide))).at (by decide))) (Sub.of hm (by decide))
  unfold State.ikwCtrl
  exact key _ k1

theorem State.ikwRdIdx_kept {m : Nat} {s₀ : State} {x0 : State} (x1 : Word)
    (h : Kept m s₀ x0) (hm : Sub 0xc2000000008 m) : Kept m s₀ (State.ikwRdIdx x0 x1) := by
  unfold State.ikwRdIdx
  extract_lets s1 slot
  have k1 : Kept m s₀ s1 := State.land_kept _ _ h (Sub.of hm (by decide)) ((InPg.ikwC (Sub.bit hm (by decide))).at (by decide))
  refine Kept.foldl_mem k1 _ _ ?_
  intro y b hb hy
  have := List.mem_range.1 hb
  exact State.wr_kept _ _ hy (Sub.of hm (by decide)) (by rw [Nat.add_assoc]; exact (InPg.ikwC (Sub.bit hm (by decide))).at (by omega))

theorem State.ikwCodeWrite_kept {m : Nat} {s₀ : State} {x0 : State} (x1 : Nat) (x2 : Word)
    (h : Kept m s₀ x0) (hm : Sub 0xc2000000008 m) : Kept m s₀ (State.ikwCodeWrite x0 x1 x2) := by
  unfold State.ikwCodeWrite
  try dsimp only
  with_reducible repeat' first
    | assumption
    | apply Kept.ite
    | apply State.flt_kept
    | apply State.land_kept
    | apply State.p_kept
    | (apply Sub.of hm; decide)
    | (apply InPg.at (InPg.ikwCodeP _ (Sub.bit hm (by decide))) (by first | decide | assumption | (dsimp only; decide)))
    | apply InPg.at0 (InPg.ikwCodeP _ (Sub.bit hm (by decide)))
    | apply InPg.ikwC (Sub.bit hm (by decide))

theorem State.ikwStatWrite_kept {m : Nat} {s₀ : State} {x0 : State} (x1 : Word)
    (h : Kept m s₀ x0) (hm : Sub 0xc2000000008 m) : Kept m s₀ (State.ikwStatWrite x0 x1) := by
  unfold State.ikwStatWrite
  try dsimp only
  with_reducible repeat' first
    | assumption
    | apply Kept.ite
    | apply State.flt_kept
    | apply State.land_kept
    | (apply Sub.of hm; decide)
    | (apply InPg.at (InPg.ikwC (Sub.bit hm (by decide))) (by first | decide | assumption | (dsimp only; decide)))
    | apply InPg.ikwC (Sub.bit hm (by decide))

theorem State.sbcCtrl_kept {m : Nat} {s₀ : State} {x0 : State} (x1 : Nat) (x2 : Word)
    (h : Kept m s₀ x0) (hm : Sub 0x6009d200000600a m) : Kept m s₀ (State.sbcCtrl x0 x1 x2) := by
  unfold State.sbcCtrl
  try dsimp only
  with_reducible repeat' first
    | assumption
    | apply Kept.ite
    | apply State.flt_kept
    | apply State.wr_kept
    | apply State.setPort_kept
    | apply State.portIntegrate_kept
    | apply State.portClose_kept
    | apply State.legsUpdate_kept
    | apply State.portHold_kept
    | (apply Sub.of hm; decide)
    | (apply InPg.at (InPg.sbcP _ (Sub.bit hm (by decide))) (by first | decide | assumption | (dsimp only; decide)))
    | apply InPg.sbcP _ (Sub.bit hm (by decide))

theorem State.txCtrl_kept {m : Nat} {s₀ : State} {x0 : State} (x1 : Nat) (x2 : Nat) (x3 : Word)
    (h : Kept m s₀ x0) (hm : Sub 0x2000d2000002002 m) : Kept m s₀ (State.txCtrl x0 x1 x2 x3) := by
  unfold State.txCtrl
  try dsimp only
  with_reducible repeat' first
    | assumption
    | apply Kept.ite
    | apply State.flt_kept
    | apply State.txAbort_kept
    | apply State.p_kept
    | apply State.txPend_kept
    | (apply Sub.of hm; decide)
    | (apply InPg.at (InPg.txbP _ _ (Sub.bit hm (by decide))) (by first | decide | assumption | (dsimp only; decide)))
    | apply InPg.sbcP _ (Sub.bit hm (by decide))

theorem State.busIdle_kept {m : Nat} {s₀ : State} {x0 : State} (x1 : Nat) (x2 : Bool)
    (h : Kept m s₀ x0) (hm : Sub 0x200000000000000 m) : Kept m s₀ (State.busIdle x0 x1 x2) := by
  unfold State.busIdle
  try dsimp only
  with_reducible repeat' first
    | assumption
    | apply State.setPort_kept

theorem State.rxEngine_kept {m : Nat} {s₀ : State} {x0 : State} (x1 : Nat) (x2 : RxFrame)
    (h : Kept m s₀ x0) (hm : Sub 0x600de280000600c m) : Kept m s₀ (State.rxEngine x0 x1 x2) := by
  unfold State.rxEngine
  try dsimp only
  with_reducible repeat' first
    | assumption
    | apply State.drew_kept
    | apply State.elithIn_kept
    | apply State.mbxStore_kept
    | (apply Sub.of hm; decide)

theorem State.rxStore_kept {m : Nat} {s₀ : State} {x0 : State} (x1 : Nat) (x2 : RxFrame)
    (h : Kept m s₀ x0) (hm : Sub 0x600de280000600c m) : Kept m s₀ (State.rxStore x0 x1 x2) := by
  unfold State.rxStore
  try dsimp only
  with_reducible repeat' first
    | assumption
    | apply Kept.ite
    | apply State.rxEngine_kept
    | apply State.rxSoft_kept
    | (apply Sub.of hm; decide)

theorem State.frameIn_kept {m : Nat} {s₀ : State} {x0 : State} (x1 : Nat) (x2 : RxFrame)
    (h : Kept m s₀ x0) (hm : Sub 0x600df280000600e m) : Kept m s₀ (State.frameIn x0 x1 x2) := by
  unfold State.frameIn
  try dsimp only
  with_reducible repeat' first
    | assumption
    | apply Kept.ite
    | apply State.setPort_kept
    | apply State.recDown_kept
    | apply State.notAlone_kept
    | apply State.ps_kept
    | apply State.legsUpdate_kept
    | apply State.txKick_kept
    | apply State.portClosed_kept
    | apply State.rxStore_kept
    | (apply Sub.of hm; decide)
    | apply InPg.sbcP _ (Sub.bit hm (by decide))

theorem State.txOk_kept {m : Nat} {s₀ : State} {x0 : State} (x1 : Nat) (x2 : Nat)
    (h : Kept m s₀ x0) (hm : Sub 0x600df280000600e m) : Kept m s₀ (State.txOk x0 x1 x2) := by
  unfold State.txOk
  try dsimp only
  with_reducible repeat' first
    | assumption
    | apply Kept.ite
    | apply State.inc_kept
    | apply State.portCounts_kept
    | apply State.p_kept
    | apply State.txEnd_kept
    | apply State.notAlone_kept
    | apply State.rxStore_kept
    | apply State.welcomeDone_kept
    | (apply Sub.of hm; decide)
    | (apply InPg.at (InPg.txbP _ _ (Sub.bit hm (by decide))) (by first | decide | assumption | (dsimp only; decide)))
    | (apply InPg.at (InPg.sbcP _ (Sub.bit hm (by decide))) (by first | decide | assumption | (dsimp only; decide)))
    | split

theorem State.txLost_kept {m : Nat} {s₀ : State} {x0 : State} (x1 : Nat) (x2 : Nat)
    (h : Kept m s₀ x0) (hm : Sub 0x2000d2000002002 m) : Kept m s₀ (State.txLost x0 x1 x2) := by
  unfold State.txLost
  try dsimp only
  with_reducible repeat' first
    | assumption
    | apply Kept.ite
    | apply State.p_kept
    | apply State.setPort_kept
    | apply State.txEnd_kept
    | (apply Sub.of hm; decide)
    | (apply InPg.at (InPg.sbcP _ (Sub.bit hm (by decide))) (by first | decide | assumption | (dsimp only; decide)))
    | (apply InPg.at (InPg.txbP _ _ (Sub.bit hm (by decide))) (by first | decide | assumption | (dsimp only; decide)))

theorem State.txError_kept {m : Nat} {s₀ : State} {x0 : State} (x1 : Nat) (x2 : Nat) (x3 : Nat) (x4 : Bool) (x5 : Bool)
    (h : Kept m s₀ x0) (hm : Sub 0x2001f200000200e m) : Kept m s₀ (State.txError x0 x1 x2 x3 x4 x5) := by
  unfold State.txError
  try dsimp only
  with_reducible repeat' first
    | assumption
    | apply Kept.ite
    | apply State.portErr_kept
    | apply State.pB_kept
    | apply State.p_kept
    | apply State.setPort_kept
    | apply State.txEnd_kept
    | apply State.portCounts_kept
    | apply State.ackError_kept
    | (apply Sub.of hm; decide)
    | (apply InPg.at (InPg.txbP _ _ (Sub.bit hm (by decide))) (by first | decide | assumption | (dsimp only; decide)))
    | (apply InPg.at (InPg.sbcP _ (Sub.bit hm (by decide))) (by first | decide | assumption | (dsimp only; decide)))

theorem State.tdcMeasure_kept {m : Nat} {s₀ : State} {x0 : State} (x1 : Nat) (x2 : Nat) (x3 : Nat)
    (h : Kept m s₀ x0) (hm : Sub 0x2000 m) : Kept m s₀ (State.tdcMeasure x0 x1 x2 x3) := by
  unfold State.tdcMeasure
  try dsimp only
  with_reducible repeat' first
    | assumption
    | apply Kept.ite
    | apply State.p_kept
    | (apply Sub.of hm; decide)
    | (apply InPg.at (InPg.sbcP _ (Sub.bit hm (by decide))) (by first | decide | assumption | (dsimp only; decide)))

theorem State.attemptEnd_kept {m : Nat} {s₀ : State} {x0 : State} (x1 : Nat) (x2 : TxEnd) (x3 : Nat) (x4 : Bool)
    (h : Kept m s₀ x0) (hm : Sub 0x600df280000600e m) : Kept m s₀ (State.attemptEnd x0 x1 x2 x3 x4) := by
  unfold State.attemptEnd
  try dsimp only
  with_reducible repeat' first
    | assumption
    | apply Kept.ite
    | apply State.txOk_kept
    | apply State.tdcMeasure_kept
    | apply State.txLost_kept
    | apply State.txError_kept
    | apply State.portHold_kept
    | apply State.portClosed_kept
    | apply State.txKick_kept
    | apply State.legsUpdate_kept
    | (apply Sub.of hm; decide)
    | split

theorem State.sbcStatWrite_kept {m : Nat} {s₀ : State} {x0 : State} (x1 : Nat) (x2 : Word)
    (h : Kept m s₀ x0) (hm : Sub 0x6009d200000600a m) : Kept m s₀ (State.sbcStatWrite x0 x1 x2) := by
  unfold State.sbcStatWrite
  try dsimp only
  with_reducible repeat' first
    | assumption
    | apply Kept.ite
    | apply State.flt_kept
    | apply State.legsUpdate_kept
    | apply State.portHold_kept
    | apply State.ps_kept
    | (apply Sub.of hm; decide)
    | apply InPg.sbcP _ (Sub.bit hm (by decide))

theorem State.rxError_kept {m : Nat} {s₀ : State} {x0 : State} (x1 : Nat) (x2 : Nat) (x3 : Bool) (x4 : Bool)
    (h : Kept m s₀ x0) (hm : Sub 0x6009f200000600e m) : Kept m s₀ (State.rxError x0 x1 x2 x3 x4) := by
  unfold State.rxError
  try dsimp only
  with_reducible repeat' first
    | assumption
    | apply Kept.ite
    | apply State.portErr_kept
    | apply State.setPort_kept
    | apply State.inc_kept
    | apply State.portCounts_kept
    | apply State.p_kept
    | apply State.txKick_kept
    | apply State.legsUpdate_kept
    | apply State.portClosed_kept
    | (apply Sub.of hm; decide)
    | (apply InPg.at (InPg.sbcP _ (Sub.bit hm (by decide))) (by first | decide | assumption | (dsimp only; decide)))

theorem State.ctxStart_kept {m : Nat} {s₀ : State} {x0 : State} (x1 : Nat)
    (h : Kept m s₀ x0) (hm : Sub 0x4000c2000004000 m) : Kept m s₀ (State.ctxStart x0 x1) := by
  unfold State.ctxStart
  try dsimp only
  with_reducible repeat' first
    | assumption
    | apply State.setCtx_kept
    | apply State.p_kept
    | apply State.ps_kept
    | apply State.setCst_kept
    | apply State.qShow_kept
    | (apply Sub.of hm; decide)
    | (apply Sub.bit hm; decide)
    | (apply InPg.at (InPg.ctxP _ (Sub.bit hm (by decide))) (by first | decide | assumption | (dsimp only; decide)))
    | apply InPg.ctxP _ (Sub.bit hm (by decide))
    | (fail_if_no_progress apply Kept.set_cve)
    | (fail_if_no_progress apply Kept.mk')

theorem State.ctxCtrl_kept {m : Nat} {s₀ : State} {x0 : State} (x1 : Nat) (x2 : Word)
    (h : Kept m s₀ x0) (hm : Sub 0x600cc2800006000 m) : Kept m s₀ (State.ctxCtrl x0 x1 x2) := by
  unfold State.ctxCtrl
  extract_lets pg was s1 s2 s3 src
  have hpg : InPg m pg := InPg.ctxP _ (Sub.bit hm (by decide))
  have k1 : Kept m s₀ s1 := State.p_kept _ _ _ h (Sub.of hm (by decide)) (hpg.at (by decide))
  clear_value s1
  have k2 : Kept m s₀ s2 := Kept.ite (State.sendCtl_kept _ _ _ _ _ k1 (Sub.of hm (by decide))) k1
  clear_value s2
  have k3 : Kept m s₀ s3 :=
    State.setCst_kept _ _ (State.ps_kept _ _ _ (State.convEnd_kept _ _ k2 (Sub.of hm (by decide))) (Sub.of hm (by decide)) hpg) (Sub.of hm (by decide))
  clear_value s3
  split
  · exact Kept.ite (State.flt_kept _ h (Sub.of hm (by decide)) hpg) (State.ctxStart_kept _ (State.p_kept _ _ _ h (Sub.of hm (by decide)) (hpg.at (by decide))) (Sub.of hm (by decide)))
  · exact State.invShow_kept (Kept.set_cve k3 (Sub.bit hm (by decide)) _) (Sub.of hm (by decide))
  · exact h

theorem State.cvePortWords_kept {m : Nat} {s₀ : State} {x0 : State} (x1 : Nat) (x2 : Word) (x3 : List Word) (x4 : Word)
    (h : Kept m s₀ x0) (hm : Sub 0x0 m) (hp : InPg m x1) : Kept m s₀ (State.cvePortWords x0 x1 x2 x3 x4) := by
  unfold State.cvePortWords
  dsimp only
  refine Kept.foldl_mem ?_ _ _ ?_
  · exact State.wr_kept _ _ (State.wr_kept _ _ h (Sub.of hm (by decide)) (hp.at (by decide))) (Sub.of hm (by decide)) (hp.at (by decide))
  · rintro y ⟨i, w⟩ hb hy
    have hi : i < 16 := by simpa using (List.of_mem_zip hb).1
    exact State.wr_kept _ _ hy (Sub.of hm (by decide)) (by rw [Nat.add_assoc]; exact hp.at (by omega))

theorem State.ctxResult_kept {m : Nat} {s₀ : State} {x0 : State} (x1 : Nat) (x2 : Nat) (x3 : Nat) (x4 : Option Nat)
    (h : Kept m s₀ x0) (hm : Sub 0xc2000004000 m) : Kept m s₀ (State.ctxResult x0 x1 x2 x3 x4) := by
  unfold State.ctxResult
  try dsimp only
  with_reducible repeat' first
    | assumption
    | apply Kept.ite
    | apply State.wr_kept
    | apply State.p_kept
    | apply State.irq_kept
    | (apply Sub.of hm; decide)
    | (apply InPg.at (InPg.ctxP _ (Sub.bit hm (by decide))) (by first | decide | assumption | (dsimp only; decide)))
    | apply InPg.ctxP _ (Sub.bit hm (by decide))
    | split

theorem State.bcResult_kept {m : Nat} {s₀ : State} {x0 : State} (x1 : Nat) (x2 : Nat) (x3 : Option Nat)
    (h : Kept m s₀ x0) (hm : Sub 0xc2000004000 m) : Kept m s₀ (State.bcResult x0 x1 x2 x3) := by
  unfold State.bcResult
  try dsimp only
  with_reducible repeat' first
    | assumption
    | apply Kept.ite
    | apply State.wr_kept
    | apply State.p_kept
    | apply State.irq_kept
    | (apply Sub.of hm; decide)
    | (apply InPg.at (InPg.cveC (Sub.bit hm (by decide))) (by first | decide | assumption | (dsimp only; decide)))
    | apply InPg.cveC (Sub.bit hm (by decide))
    | split

theorem State.ctxOp_kept {m : Nat} {s₀ : State} {x0 : State} (x1 : Nat) (x2 : Word) (x3 : List Word) (x4 : Word) (x5 : Bool)
    (h : Kept m s₀ x0) (hm : Sub 0x6008c2000006000 m) : Kept m s₀ (State.ctxOp x0 x1 x2 x3 x4 x5) := by
  unfold State.ctxOp
  try dsimp only
  with_reducible repeat' first
    | assumption
    | apply Kept.ite
    | apply State.cvePortWords_kept
    | apply State.ctxResult_kept
    | apply State.setCtx_kept
    | apply State.trySend_kept
    | apply State.p_kept
    | (apply Sub.of hm; decide)
    | (apply InPg.at (InPg.ctxP _ (Sub.bit hm (by decide))) (by first | decide | assumption | (dsimp only; decide)))
    | apply InPg.ctxP _ (Sub.bit hm (by decide))

theorem State.noticeOp_kept {m : Nat} {s₀ : State} {x0 : State} (x1 : Word) (x2 : List Word) (x3 : Word)
    (h : Kept m s₀ x0) (hm : Sub 0x6008c2000006000 m) : Kept m s₀ (State.noticeOp x0 x1 x2 x3) := by
  unfold State.noticeOp
  try dsimp only
  with_reducible repeat' first
    | assumption
    | apply Kept.ite
    | apply State.cvePortWords_kept
    | apply State.bcResult_kept
    | apply State.sendBoth_kept
    | (apply Sub.of hm; decide)
    | (apply Sub.bit hm; decide)
    | apply InPg.cveC (Sub.bit hm (by decide))
    | (fail_if_no_progress apply Kept.set_cve)
    | (fail_if_no_progress apply Kept.mk')

theorem State.ctxStatWrite_kept {m : Nat} {s₀ : State} {x0 : State} (x1 : Nat) (x2 : Word)
    (h : Kept m s₀ x0) (hm : Sub 0xc2000004000 m) : Kept m s₀ (State.ctxStatWrite x0 x1 x2) := by
  unfold State.ctxStatWrite
  try dsimp only
  with_reducible repeat' first
    | assumption
    | apply Kept.ite
    | apply State.flt_kept
    | apply State.ps_kept
    | apply State.setCst_kept
    | (apply Sub.of hm; decide)
    | apply InPg.ctxP _ (Sub.bit hm (by decide))

theorem State.memDrop_kept {m : Nat} {s₀ : State} {x0 : State} (x1 : Nat) (x2 : Nat)
    (h : Kept m s₀ x0) (hm : Sub 0x800000000 m) : Kept m s₀ (State.memDrop x0 x1 x2) := h.trans (by
    constructor
    case memWf => exact fun w => Tab.wf_filter _ _ _ w
    all_goals first | rfl | exact id | (intro _; rfl) | (intro _ _; rfl) | (intro hb; rw [Sub.bit hm (by decide)] at hb; cases hb))

theorem State.memCopy_kept {m : Nat} {s₀ : State} {x0 : State} (x1 : Nat) (x2 : Nat) (x3 : Nat)
    (h : Kept m s₀ x0) (hm : Sub 0x800000000 m) : Kept m s₀ (State.memCopy x0 x1 x2 x3) := by
  unfold State.memCopy
  try dsimp only
  with_reducible repeat' first
    | assumption
    | apply State.setByte_kept
    | apply State.memDrop_kept
    | apply Kept.foldl
    | intro _ _ _

theorem State.pairsShow_kept {m : Nat} {s₀ : State} {x0 : State}
    (h : Kept m s₀ x0) (hm : Sub 0x20000 m) : Kept m s₀ (State.pairsShow x0) := by
  unfold State.pairsShow
  try dsimp only
  with_reducible repeat' first
    | assumption
    | apply State.psB_kept
    | apply State.ps_kept
    | (apply Sub.of hm; decide)
    | apply InPg.apxC (Sub.bit hm (by decide))

theorem State.setPst_kept {m : Nat} {s₀ : State} {x0 : State} (x1 : Nat) (x2 : Nat)
    (h : Kept m s₀ x0) (hm : Sub 0xc2000020000 m) : Kept m s₀ (State.setPst x0 x1 x2) := by
  unfold State.setPst
  try dsimp only
  with_reducible repeat' first
    | assumption
    | apply Kept.ite
    | apply State.pairsShow_kept
    | apply State.irq_kept
    | apply State.ps_kept
    | (apply Sub.of hm; decide)
    | apply InPg.apxP _ (Sub.bit hm (by decide))

theorem State.posAll_kept {m : Nat} {s₀ : State} {x0 : State} (x1 : Nat) (x2 : NibStream → Nat)
    (h : Kept m s₀ x0) (hm : Sub 0x20000000000 m) : Kept m s₀ (State.posAll x0 x1 x2) := by
  unfold State.posAll
  try dsimp only
  with_reducible repeat' first
    | assumption
    | apply State.setStream_kept
    | apply Kept.foldl
    | intro _ _ _

theorem State.pairBoot_kept {m : Nat} {s₀ : State} {x0 : State} (x1 : Nat) (x2 : Nat)
    (h : Kept m s₀ x0) (hm : Sub 0xc2000020000 m) : Kept m s₀ (State.pairBoot x0 x1 x2) := by
  unfold State.pairBoot
  try dsimp only
  with_reducible repeat' first
    | assumption
    | apply State.setPst_kept
    | apply State.setPair_kept
    | (apply Sub.of hm; decide)

theorem State.setNibQ_kept {m : Nat} {s₀ : State} {x0 : State} (x1 : Nat) (x2 : List NibCmd)
    (h : Kept m s₀ x0) (hm : Sub 0x20000000000 m) : Kept m s₀ (State.setNibQ x0 x1 x2) := by
  unfold State.setNibQ
  try dsimp only
  with_reducible repeat' first
    | assumption
    | (apply Sub.bit hm; decide)
    | (fail_if_no_progress apply Kept.set_rdm)
    | (fail_if_no_progress apply Kept.mk')
    | exact fun hx => hx

theorem State.landEffect_kept {m : Nat} {s₀ : State} {x0 : State} (x1 : NibCmd)
    (h : Kept m s₀ x0) (hm : Sub 0x4404c280000c000 m) : Kept m s₀ (State.landEffect x0 x1).2 := by
  unfold State.landEffect
  try dsimp only
  with_reducible repeat' first
    | assumption
    | apply State.setView_kept
    | apply State.relLand_kept
    | (apply Sub.of hm; decide)
    | apply Kept.ite2

theorem State.subRes_kept {m : Nat} {s₀ : State} {x0 : State} (x1 : Nat) (x2 : Nat) (x3 : Nat)
    (h : Kept m s₀ x0) (hm : Sub 0xc2000020000 m) : Kept m s₀ (State.subRes x0 x1 x2 x3) := by
  unfold State.subRes
  try dsimp only
  with_reducible repeat' first
    | assumption
    | apply Kept.ite
    | apply State.wr_kept
    | apply State.inc_kept
    | apply State.irq_kept
    | (apply Sub.of hm; decide)
    | (apply InPg.at (InPg.winP _ (Sub.bit hm (by decide))) (by first | decide | assumption | (dsimp only; decide)))
    | (apply InPg.at (InPg.apxP _ (Sub.bit hm (by decide))) (by first | decide | assumption | (dsimp only; decide)))
    | apply InPg.apxP _ (Sub.bit hm (by decide))

theorem State.unhold_kept {m : Nat} {s₀ : State} {x0 : State} (x1 : Nat)
    (h : Kept m s₀ x0) (hm : Sub 0xc0000020000 m) : Kept m s₀ (State.unhold x0 x1) := by
  unfold State.unhold
  try dsimp only
  with_reducible repeat' first
    | assumption
    | apply Kept.ite
    | apply State.pairsShow_kept
    | apply State.ps_kept
    | apply State.setPair_kept
    | (apply Sub.of hm; decide)
    | apply InPg.apxP _ (Sub.bit hm (by decide))

theorem State.takeFwd_kept {m : Nat} {s₀ : State} {x0 : State} (x1 : NibCmd)
    (h : Kept m s₀ x0) (hm : Sub 0x4404e280002c000 m) : Kept m s₀ (State.takeFwd x0 x1) := by
  unfold State.takeFwd
  try dsimp only
  with_reducible repeat' first
    | assumption
    | apply State.unhold_kept
    | apply State.setStream_kept
    | apply State.landEffect_kept
    | apply State.pTs_kept
    | apply State.subRes_kept
    | apply State.setNibQ_kept
    | (apply Sub.of hm; decide)
    | (apply InPg.at (InPg.apxC (Sub.bit hm (by decide))) (by first | decide | assumption | (dsimp only; decide)))

theorem State.hold_kept {m : Nat} {s₀ : State} {x0 : State} (x1 : NibCmd)
    (h : Kept m s₀ x0) (hm : Sub 0xc2000020000 m) : Kept m s₀ (State.hold x0 x1) := by
  unfold State.hold
  try dsimp only
  with_reducible repeat' first
    | assumption
    | apply Kept.ite
    | apply State.setPair_kept
    | apply State.pairsShow_kept
    | apply State.ps_kept
    | apply State.inc_kept
    | apply State.irq_kept
    | (apply Sub.of hm; decide)
    | (apply InPg.at (InPg.apxP _ (Sub.bit hm (by decide))) (by first | decide | assumption | (dsimp only; decide)))
    | apply InPg.apxP _ (Sub.bit hm (by decide))
    | apply InPg.apxC (Sub.bit hm (by decide))

theorem State.mismatch_kept {m : Nat} {s₀ : State} {x0 : State} (x1 : NibRec) (x2 : Nat) (x3 : Word) (x4 : Nat)
    (h : Kept m s₀ x0) (hm : Sub 0x1e200002000c m) : Kept m s₀ (State.mismatch x0 x1 x2 x3 x4) := by
  unfold State.mismatch
  try dsimp only
  with_reducible repeat' first
    | assumption
    | apply State.wr_kept
    | apply State.inc_kept
    | apply State.pTs_kept
    | apply State.ikwOffer_kept
    | apply State.irq_kept
    | apply State.fwOccur_kept
    | (apply Sub.of hm; decide)
    | (apply InPg.at (InPg.apxC (Sub.bit hm (by decide))) (by first | decide | assumption | (dsimp only; decide)))
    | apply InPg.apxC (Sub.bit hm (by decide))

theorem State.dropSecond_kept {m : Nat} {s₀ : State} {x0 : State} (x1 : NibCmd)
    (h : Kept m s₀ x0) (hm : Sub 0x4405e280002c00c m) : Kept m s₀ (State.dropSecond x0 x1) := by
  unfold State.dropSecond
  try dsimp only
  with_reducible repeat' first
    | assumption
    | apply Kept.ite
    | apply State.setStream_kept
    | apply State.unhold_kept
    | apply State.landEffect_kept
    | apply State.subRes_kept
    | apply State.mismatch_kept
    | (apply Sub.of hm; decide)
    | split

theorem State.retryOne_kept {m : Nat} {s₀ : State} {x0 : State} (x1 : Nat)
    (h : Kept m s₀ x0) (hm : Sub 0x4405e280002c00c m) : Kept m s₀ (State.retryOne x0 x1) := by
  unfold State.retryOne
  try dsimp only
  with_reducible repeat' first
    | assumption
    | apply Kept.ite
    | apply State.dropSecond_kept
    | apply State.takeFwd_kept
    | (apply Sub.of hm; decide)
    | split

theorem State.retryHeld_kept {m : Nat} {s₀ : State} {x0 : State}
    (h : Kept m s₀ x0) (hm : Sub 0x4405e280002c00c m) : Kept m s₀ (State.retryHeld x0) := by
  unfold State.retryHeld
  try dsimp only
  with_reducible repeat' first
    | assumption
    | apply State.retryOne_kept

theorem State.noPair_kept {m : Nat} {s₀ : State} {x0 : State} (x1 : Nat)
    (h : Kept m s₀ x0) (hm : Sub 0x981e200000070d m) : Kept m s₀ (State.noPair x0 x1) := by
  unfold State.noPair
  try dsimp only
  with_reducible repeat' first
    | assumption
    | apply State.p_kept
    | apply State.irq_kept
    | apply State.ikwOffer_kept
    | apply State.xOp_kept
    | (apply Sub.of hm; decide)
    | (apply Sub.bit hm; decide)
    | apply InPg.rdmC (Sub.bit hm (by decide))
    | (apply InPg.at (InPg.pcrC (Sub.bit hm (by decide))) (by first | decide | assumption | (dsimp only; decide)))
    | apply Kept.foldl
    | (fail_if_no_progress apply Kept.set_rdm)
    | (fail_if_no_progress apply Kept.mk')
    | exact fun hx => hx
    | intro _ _ _

theorem State.takeover_kept {m : Nat} {s₀ : State} {x0 : State} (x1 : Nat) (x2 : Nat)
    (h : Kept m s₀ x0) (hm : Sub 0x1c200002000c m) : Kept m s₀ (State.takeover x0 x1 x2) := by
  unfold State.takeover
  try dsimp only
  with_reducible repeat' first
    | assumption
    | apply State.inc_kept
    | apply State.setPst_kept
    | apply State.p_kept
    | apply State.irq_kept
    | apply State.pTs_kept
    | apply State.ikwOffer_kept
    | (apply Sub.of hm; decide)
    | (apply InPg.at (InPg.rdmC (Sub.bit hm (by decide))) (by first | decide | assumption | (dsimp only; decide)))
    | apply InPg.rdmC (Sub.bit hm (by decide))

theorem State.quillStop_kept {m : Nat} {s₀ : State} {x0 : State}
    (h : Kept m s₀ x0) (hm : Sub 0x20000000004 m) : Kept m s₀ (State.quillStop x0) := by
  unfold State.quillStop
  try dsimp only
  with_reducible repeat' first
    | assumption
    | apply State.ps_kept
    | apply State.p_kept
    | (apply Sub.of hm; decide)
    | (apply Sub.bit hm; decide)
    | (apply InPg.at (InPg.rdmC (Sub.bit hm (by decide))) (by first | decide | assumption | (dsimp only; decide)))
    | apply InPg.rdmC (Sub.bit hm (by decide))
    | (fail_if_no_progress apply Kept.set_rdm)
    | (fail_if_no_progress apply Kept.mk')
    | exact fun hx => hx

theorem State.pairFail_kept {m : Nat} {s₀ : State} {x0 : State} (x1 : Nat) (x2 : Nat)
    (h : Kept m s₀ x0) (hm : Sub 0x4d85e280002c70d m) : Kept m s₀ (State.pairFail x0 x1 x2) := by
  unfold State.pairFail
  try dsimp only
  with_reducible repeat' first
    | assumption
    | apply Kept.ite
    | apply State.setPair_kept
    | apply State.unhold_kept
    | apply State.ps_kept
    | apply State.setPst_kept
    | apply State.posAll_kept
    | apply State.quillStop_kept
    | apply State.takeover_kept
    | apply State.retryHeld_kept
    | apply State.relAll_kept
    | apply State.clgRetire_kept
    | apply State.noPair_kept
    | (apply Sub.of hm; decide)
    | (apply Sub.bit hm; decide)
    | apply InPg.rdmP _ (Sub.bit hm (by decide))
    | (fail_if_no_progress apply Kept.set_rdm)
    | (fail_if_no_progress apply Kept.mk')
    | exact fun hx => hx

theorem State.pairOccur_kept {m : Nat} {s₀ : State} {x0 : State} (x1 : Nat)
    (h : Kept m s₀ x0) (hm : Sub 0x4d85e280002c70d m) : Kept m s₀ (State.pairOccur x0 x1) := by
  unfold State.pairOccur
  try dsimp only
  with_reducible repeat' first
    | assumption
    | apply Kept.ite
    | apply State.fwOccur_kept
    | apply State.pairFail_kept
    | (apply Sub.of hm; decide)

theorem State.healthOccur_kept {m : Nat} {s₀ : State} {x0 : State} (x1 : Nat)
    (h : Kept m s₀ x0) (hm : Sub 0x4d85e280002c70d m) : Kept m s₀ (State.healthOccur x0 x1) := by
  unfold State.healthOccur
  try dsimp only
  with_reducible repeat' first
    | assumption
    | apply State.pairOccur_kept
    | apply State.irq_kept
    | (apply Sub.of hm; decide)
    | apply InPg.rdmC (Sub.bit hm (by decide))

theorem State.mmDemote_kept {m : Nat} {s₀ : State} (x0 : State) {x1 : State}
    (h : Kept m s₀ x1) (hm : Sub 0x4d85e280002c70d m) : Kept m s₀ (State.mmDemote x0 x1) := by
  unfold State.mmDemote
  try dsimp only
  with_reducible repeat' first
    | assumption
    | apply Kept.ite
    | apply State.pairFail_kept

theorem State.takeSecond_kept {m : Nat} {s₀ : State} {x0 : State} (x1 : NibCmd)
    (h : Kept m s₀ x0) (hm : Sub 0x4d85e280002c70d m) : Kept m s₀ (State.takeSecond x0 x1) := by
  unfold State.takeSecond
  try dsimp only
  with_reducible repeat' first
    | assumption
    | apply State.mmDemote_kept
    | apply State.retryHeld_kept
    | apply State.dropSecond_kept
    | (apply Sub.of hm; decide)

theorem State.retryAll_kept {m : Nat} {s₀ : State} {x0 : State}
    (h : Kept m s₀ x0) (hm : Sub 0x4d85e280002c70d m) : Kept m s₀ (State.retryAll x0) := by
  unfold State.retryAll
  try dsimp only
  with_reducible repeat' first
    | assumption
    | apply State.mmDemote_kept
    | apply State.retryHeld_kept
    | (apply Sub.of hm; decide)

theorem State.nibClass_kept {m : Nat} {s₀ : State} {x0 : State} (x1 : NibCmd)
    (h : Kept m s₀ x0) (hm : Sub 0x4d85e280002c70d m) : Kept m s₀ (State.nibClass x0 x1) := by
  unfold State.nibClass
  try dsimp only
  with_reducible repeat' first
    | assumption
    | apply Kept.ite
    | apply State.subRes_kept
    | apply State.inc_kept
    | apply State.pairOccur_kept
    | apply State.hold_kept
    | apply State.takeFwd_kept
    | apply State.takeSecond_kept
    | (apply Sub.of hm; decide)
    | (apply InPg.at (InPg.apxP _ (Sub.bit hm (by decide))) (by first | decide | assumption | (dsimp only; decide)))

theorem State.nibPort_kept {m : Nat} {s₀ : State} {x0 : State} (x1 : NibCmd)
    (h : Kept m s₀ x0) (hm : Sub 0x6d89fe00002e70e m) : Kept m s₀ (State.nibPort x0 x1) := by
  unfold State.nibPort
  try dsimp only
  with_reducible repeat' first
    | assumption
    | apply Kept.ite
    | apply State.clgPort_kept
    | apply State.onWrite_kept
    | apply State.mpgOp_kept
    | apply State.xOp_kept
    | apply State.doorBurst_kept
    | apply State.noticeOp_kept
    | apply State.ctxOp_kept
    | (apply Sub.of hm; decide)
    | (apply InPg.at (InPg.mpgP _ (Sub.bit hm (by decide))) (by first | decide | assumption | (dsimp only; decide)))
    | (apply InPg.at (InPg.cveC (Sub.bit hm (by decide))) (by first | decide | assumption | (dsimp only; decide)))
    | (apply InPg.at (InPg.ctxP _ (Sub.bit hm (by decide))) (by first | decide | assumption | (dsimp only; decide)))
    | intro _ _

theorem State.quillShow_kept {m : Nat} {s₀ : State} {x0 : State}
    (h : Kept m s₀ x0) (hm : Sub 0xc2000000004 m) : Kept m s₀ (State.quillShow x0) := by
  unfold State.quillShow
  try dsimp only
  with_reducible repeat' first
    | assumption
    | apply Kept.ite
    | apply State.psB_kept
    | apply State.p_kept
    | apply State.irq_kept
    | (apply Sub.of hm; decide)
    | (apply InPg.at (InPg.rdmC (Sub.bit hm (by decide))) (by first | decide | assumption | (dsimp only; decide)))
    | apply InPg.rdmC (Sub.bit hm (by decide))

theorem State.quillWin_kept {m : Nat} {s₀ : State} {x0 : State} (x1 : Nat)
    (h : Kept m s₀ x0) (hm : Sub 0x20000000004 m) : Kept m s₀ (State.quillWin x0 x1) := by
  unfold State.quillWin
  try dsimp only
  with_reducible repeat' first
    | assumption
    | apply Kept.ite
    | apply State.p_kept
    | (apply Sub.of hm; decide)
    | (apply Sub.bit hm; decide)
    | (apply InPg.at (InPg.qwP _ (Sub.bit hm (by decide))) (by first | decide | assumption | (dsimp only; decide)))
    | (fail_if_no_progress apply Kept.set_rdm)
    | (fail_if_no_progress apply Kept.mk')
    | exact fun hx => hx

theorem State.quillAll_kept {m : Nat} {s₀ : State} {x0 : State}
    (h : Kept m s₀ x0) (hm : Sub 0xe2000000004 m) : Kept m s₀ (State.quillAll x0) := by
  unfold State.quillAll
  try dsimp only
  with_reducible repeat' first
    | assumption
    | apply State.quillShow_kept
    | apply State.quillWin_kept
    | apply State.ps_kept
    | (apply Sub.of hm; decide)
    | apply InPg.rdmC (Sub.bit hm (by decide))
    | apply Kept.foldl
    | intro _ _ _

theorem State.quillWrite_kept {m : Nat} {s₀ : State} {x0 : State} (x1 : Nat) (x2 : Word)
    (h : Kept m s₀ x0) (hm : Sub 0xe2000000004 m) : Kept m s₀ (State.quillWrite x0 x1 x2) := by
  unfold State.quillWrite
  try dsimp only
  with_reducible repeat' first
    | assumption
    | apply Kept.ite
    | apply State.flt_kept
    | apply State.land_kept
    | apply State.p_kept
    | apply State.quillShow_kept
    | apply State.quillWin_kept
    | (apply Sub.of hm; decide)
    | (apply Sub.bit hm; decide)
    | (apply InPg.at (InPg.qwP _ (Sub.bit hm (by decide))) (by first | decide | assumption | (dsimp only; decide)))
    | apply InPg.rdmC (Sub.bit hm (by decide))
    | (fail_if_no_progress apply Kept.set_rdm)
    | (fail_if_no_progress apply Kept.mk')
    | exact fun hx => hx

theorem State.bootStat_kept {m : Nat} {s₀ : State} {x0 : State} (x1 : Nat) (x2 : Nat) (x3 : Bool)
    (h : Kept m s₀ x0) (hm : Sub 0x10 m) : Kept m s₀ (State.bootStat x0 x1 x2 x3) := by
  unfold State.bootStat
  try dsimp only
  with_reducible repeat' first
    | assumption
    | apply State.pB_kept
    | apply State.p_kept
    | (apply Sub.of hm; decide)
    | (apply InPg.at (InPg.memC (Sub.bit hm (by decide))) (by first | decide | assumption | (dsimp only; decide)))
    | split

theorem State.winCommit_kept {m : Nat} {s₀ : State} {x0 : State} (x1 : Nat) (x2 : Word)
    (h : Kept m s₀ x0) (hm : Sub 0x4d85e680002c70d m) : Kept m s₀ (State.winCommit x0 x1 x2) := by
  unfold State.winCommit
  try dsimp only
  with_reducible repeat' first
    | assumption
    | apply Kept.ite
    | apply State.nibClass_kept
    | (apply Sub.of hm; decide)
    | (apply Sub.bit hm; decide)
    | (fail_if_no_progress apply Kept.set_bus)
    | (fail_if_no_progress apply Kept.mk')

theorem State.pairTimers_kept {m : Nat} {s₀ : State} {x0 : State} (x1 : Nat)
    (h : Kept m s₀ x0) (hm : Sub 0xc0000000000 m) : Kept m s₀ (State.pairTimers x0 x1) := by
  unfold State.pairTimers
  try dsimp only
  with_reducible repeat' first
    | assumption
    | apply State.setPair_kept

theorem State.pairTakes_kept {m : Nat} {s₀ : State} {x0 : State} (x1 : Nat)
    (h : Kept m s₀ x0) (hm : Sub 0x440020000008000 m) : Kept m s₀ (State.pairTakes x0 x1) := by
  unfold State.pairTakes
  try dsimp only
  with_reducible repeat' first
    | assumption
    | apply Kept.ite
    | apply State.posAll_kept
    | apply State.setView_kept
    | apply State.relJoin_kept
    | (apply Sub.of hm; decide)

theorem State.hello_kept {m : Nat} {s₀ : State} {x0 : State} (x1 : Nat) (x2 : Word)
    (h : Kept m s₀ x0) (hm : Sub 0x4400e2000028005 m) : Kept m s₀ (State.hello x0 x1 x2) := by
  unfold State.hello
  try dsimp only
  with_reducible repeat' first
    | assumption
    | apply Kept.ite
    | apply State.wr_kept
    | apply State.quillAll_kept
    | apply State.setPst_kept
    | apply State.pairTimers_kept
    | apply State.pairTakes_kept
    | apply State.p_kept
    | (apply Sub.of hm; decide)
    | (apply Sub.bit hm; decide)
    | (apply InPg.at (InPg.apxP _ (Sub.bit hm (by decide))) (by first | decide | assumption | (dsimp only; decide)))
    | (apply InPg.at (InPg.pcrC (Sub.bit hm (by decide))) (by first | decide | assumption | (dsimp only; decide)))
    | (fail_if_no_progress apply Kept.set_rdm)
    | (fail_if_no_progress apply Kept.mk')
    | exact fun hx => hx

theorem State.kick_kept {m : Nat} {s₀ : State} {x0 : State} (x1 : Nat)
    (h : Kept m s₀ x0) (hm : Sub 0xc0000000000 m) : Kept m s₀ (State.kick x0 x1) := by
  unfold State.kick
  try dsimp only
  with_reducible repeat' first
    | assumption
    | apply State.setPair_kept

theorem State.autoRestart_kept {m : Nat} {s₀ : State} {x0 : State} (x1 : Nat)
    (h : Kept m s₀ x0) (hm : Sub 0xc2000020000 m) : Kept m s₀ (State.autoRestart x0 x1) := by
  unfold State.autoRestart
  try dsimp only
  with_reducible repeat' first
    | assumption
    | apply Kept.ite
    | apply State.pairBoot_kept
    | apply State.setPair_kept
    | (apply Sub.of hm; decide)

theorem State.roleSwap_kept {m : Nat} {s₀ : State} {x0 : State}
    (h : Kept m s₀ x0) (hm : Sub 0x1c200002000c m) : Kept m s₀ (State.roleSwap x0) := by
  unfold State.roleSwap
  try dsimp only
  with_reducible repeat' first
    | assumption
    | apply Kept.ite
    | apply State.flt_kept
    | apply State.inc_kept
    | apply State.setPst_kept
    | apply State.ikwOffer_kept
    | apply State.irq_kept
    | (apply Sub.of hm; decide)
    | (apply InPg.at (InPg.rdmC (Sub.bit hm (by decide))) (by first | decide | assumption | (dsimp only; decide)))
    | apply InPg.rdmC (Sub.bit hm (by decide))
    | split

theorem State.admitReq_kept {m : Nat} {s₀ : State} {x0 : State}
    (h : Kept m s₀ x0) (hm : Sub 0x20000000004 m) : Kept m s₀ (State.admitReq x0) := by
  unfold State.admitReq
  try dsimp only
  with_reducible repeat' first
    | assumption
    | apply Kept.ite
    | apply State.flt_kept
    | (apply Sub.of hm; decide)
    | (apply Sub.bit hm; decide)
    | apply InPg.rdmC (Sub.bit hm (by decide))
    | (fail_if_no_progress apply Kept.set_rdm)
    | (fail_if_no_progress apply Kept.mk')
    | exact fun hx => hx

theorem State.restart_kept {m : Nat} {s₀ : State} {x0 : State} (x1 : Nat) (x2 : Nat)
    (h : Kept m s₀ x0) (hm : Sub 0x4d85e280002c70d m) : Kept m s₀ (State.restart x0 x1 x2) := by
  unfold State.restart
  try dsimp only
  with_reducible repeat' first
    | assumption
    | apply Kept.ite
    | apply State.flt_kept
    | apply State.pairFail_kept
    | apply State.pairBoot_kept
    | (apply Sub.of hm; decide)
    | apply InPg.rdmC (Sub.bit hm (by decide))

theorem State.pairCtrl_kept {m : Nat} {s₀ : State} {x0 : State} (x1 : Word)
    (h : Kept m s₀ x0) (hm : Sub 0x4d85e280002c70d m) : Kept m s₀ (State.pairCtrl x0 x1) := by
  unfold State.pairCtrl
  try dsimp only
  with_reducible repeat' first
    | assumption
    | apply Kept.ite
    | apply State.roleSwap_kept
    | apply State.admitReq_kept
    | apply State.restart_kept
    | apply State.fltOnce_kept
    | (apply Sub.of hm; decide)
    | apply InPg.rdmC (Sub.bit hm (by decide))

theorem State.report_kept {m : Nat} {s₀ : State} {x0 : State} (x1 : Nat) (x2 : Word)
    (h : Kept m s₀ x0) (hm : Sub 0x4d85e280002c70d m) : Kept m s₀ (State.report x0 x1 x2) := by
  unfold State.report
  extract_lets ws s1 s2 no src s3
  have hp : InPg m (rdmP x1) := InPg.rdmP _ (Sub.bit hm (by decide))
  refine Kept.ite ?_ (State.healthOccur_kept _ (State.inc_kept _ _ _ h (Sub.of hm (by decide)) (hp.at (by decide))) (Sub.of hm (by decide)))
  have k1 : Kept m s₀ s1 := by
    refine Kept.foldl_mem h _ _ fun y b hb hy => ?_
    have := List.mem_range.1 hb
    exact State.wr_kept _ _ hy (Sub.of hm (by decide)) (by rw [Nat.add_assoc]; exact hp.at (by omega))
  clear_value s1
  have k2 : Kept m s₀ s2 := State.inc_kept _ _ _ (State.pTs_kept _ _ _ _ k1 (Sub.of hm (by decide)) (hp.at (by decide)) (hp.at (by decide))) (Sub.of hm (by decide)) (hp.at (by decide))
  clear_value s2
  have k3 : Kept m s₀ s3 := State.setPair_kept _ _ k2 (Sub.of hm (by decide))
  clear_value s3
  exact Kept.ite k3 (State.healthOccur_kept _ k3 (Sub.of hm (by decide)))

theorem State.testFail_kept {m : Nat} {s₀ : State} {x0 : State} (x1 : Nat)
    (h : Kept m s₀ x0) (hm : Sub 0x4 m) : Kept m s₀ (State.testFail x0 x1) := by
  unfold State.testFail
  try dsimp only
  with_reducible repeat' first
    | assumption
    | apply State.p_kept
    | (apply Sub.of hm; decide)
    | (apply InPg.at (InPg.rdmC (Sub.bit hm (by decide))) (by first | decide | assumption | (dsimp only; decide)))

theorem State.testRan_kept {m : Nat} {s₀ : State} {x0 : State} (x1 : Nat)
    (h : Kept m s₀ x0) (hm : Sub 0x4 m) : Kept m s₀ (State.testRan x0 x1) := by
  unfold State.testRan
  try dsimp only
  with_reducible repeat' first
    | assumption
    | apply State.p_kept
    | (apply Sub.of hm; decide)
    | (apply InPg.at (InPg.rdmC (Sub.bit hm (by decide))) (by first | decide | assumption | (dsimp only; decide)))

theorem State.test0_kept {m : Nat} {s₀ : State} {x0 : State} (x1 : Nat) (x2 : Nat)
    (h : Kept m s₀ x0) (hm : Sub 0x4d85e280002c70d m) : Kept m s₀ (State.test0 x0 x1 x2) := by
  unfold State.test0
  try dsimp only
  with_reducible repeat' first
    | assumption
    | apply Kept.ite
    | apply State.testRan_kept
    | apply State.pairFail_kept
    | apply State.testFail_kept
    | apply State.fwOccur_kept
    | apply State.eccClean_kept
    | (apply Sub.of hm; decide)
    | (apply Sub.bit hm; decide)
    | (fail_if_no_progress apply Kept.set_rdm)
    | (fail_if_no_progress apply Kept.mk')
    | exact fun hx => hx

theorem State.test2_kept {m : Nat} {s₀ : State} {x0 : State} (x1 : Nat) (x2 : Nat)
    (h : Kept m s₀ x0) (hm : Sub 0x4d85e280002c70d m) : Kept m s₀ (State.test2 x0 x1 x2) := by
  unfold State.test2
  extract_lets s1
  have k1 : Kept m s₀ s1 := State.testRan_kept _ h (Sub.of hm (by decide))
  clear_value s1
  split
  · exact k1
  · rename_i w _
    extract_lets s2 n
    have k2 : Kept m s₀ s2 := Kept.set_rdm k1 (Sub.bit hm (by decide)) _ fun hx => hx
    clear_value s2
    refine Kept.ite k2 ?_
    exact State.healthOccur_kept _ (State.quillShow_kept (State.quillWin_kept _ (State.testFail_kept _
      (State.p_kept _ _ _ k2 (Sub.of hm (by decide)) ((InPg.qwP _ (Sub.bit hm (by decide))).at (by decide))) (Sub.of hm (by decide))) (Sub.of hm (by decide))) (Sub.of hm (by decide))) (Sub.of hm (by decide))

theorem State.rstOk_kept {m : Nat} {s₀ : State} {x0 : State}
    (h : Kept m s₀ x0) (hm : Sub 0x20 m) : Kept m s₀ (State.rstOk x0) := by
  unfold State.rstOk
  try dsimp only
  with_reducible repeat' first
    | assumption
    | apply State.inc_kept
    | (apply Sub.of hm; decide)
    | (apply InPg.at (InPg.sioC (Sub.bit hm (by decide))) (by first | decide | assumption | (dsimp only; decide)))

theorem State.rstRef_kept {m : Nat} {s₀ : State} {x0 : State}
    (h : Kept m s₀ x0) (hm : Sub 0xc2000000020 m) : Kept m s₀ (State.rstRef x0) := by
  unfold State.rstRef
  try dsimp only
  with_reducible repeat' first
    | assumption
    | apply State.incIrq_kept
    | (apply Sub.of hm; decide)
    | (apply InPg.at (InPg.sioC (Sub.bit hm (by decide))) (by first | decide | assumption | (dsimp only; decide)))
    | apply InPg.sioC (Sub.bit hm (by decide))

theorem State.setTpFault_kept {m : Nat} {s₀ : State} {x0 : State} (x1 : Nat) (x2 : Bool)
    (h : Kept m s₀ x0) (hm : Sub 0x20 m) : Kept m s₀ (State.setTpFault x0 x1 x2) := by
  unfold State.setTpFault
  try dsimp only
  with_reducible repeat' first
    | assumption
    | apply State.pB_kept
    | (apply Sub.of hm; decide)
    | (apply InPg.at (InPg.sioC (Sub.bit hm (by decide))) (by first | decide | assumption | (dsimp only; decide)))

theorem State.resetIn_kept {m : Nat} {s₀ : State} {x0 : State} (x1 : Nat)
    (h : Kept m s₀ x0) (hm : Sub 0x1000c2000000020 m) : Kept m s₀ (State.resetIn x0 x1) := by
  unfold State.resetIn
  try dsimp only
  with_reducible repeat' first
    | assumption
    | apply Kept.ite
    | apply State.setTpFault_kept
    | apply State.setLin_kept
    | apply State.rstOk_kept
    | apply State.p_kept
    | apply State.rstRef_kept
    | (apply Sub.of hm; decide)
    | (apply InPg.at (InPg.inP _ (Sub.bit hm (by decide))) (by first | decide | assumption | (dsimp only; decide)))
    | apply Kept.foldl
    | intro _ _ _

theorem State.resetOut_kept {m : Nat} {s₀ : State} {x0 : State} (x1 : Nat)
    (h : Kept m s₀ x0) (hm : Sub 0x1000c2000000020 m) : Kept m s₀ (State.resetOut x0 x1) := by
  unfold State.resetOut
  try dsimp only
  with_reducible repeat' first
    | assumption
    | apply Kept.ite
    | apply State.rstRef_kept
    | apply State.setLane_kept
    | apply State.rstOk_kept
    | apply State.ps_kept
    | (apply Sub.of hm; decide)
    | apply InPg.sogP _ (Sub.bit hm (by decide))

theorem State.resetDz_kept {m : Nat} {s₀ : State} {x0 : State} (x1 : Nat)
    (h : Kept m s₀ x0) (hm : Sub 0x1000c2000000020 m) : Kept m s₀ (State.resetDz x0 x1) := by
  unfold State.resetDz
  try dsimp only
  with_reducible repeat' first
    | assumption
    | apply Kept.ite
    | apply State.rstOk_kept
    | apply State.setLcar_kept
    | apply State.rstRef_kept
    | (apply Sub.of hm; decide)

theorem State.resets_kept {m : Nat} {s₀ : State} {x0 : State}
    (h : Kept m s₀ x0) (hm : Sub 0x1000c2000000020 m) : Kept m s₀ (State.resets x0) := by
  unfold State.resets
  try dsimp only
  with_reducible repeat' first
    | assumption
    | apply Kept.ite
    | apply State.resetIn_kept
    | apply State.resetOut_kept
    | apply State.resetDz_kept
    | (apply Sub.bit hm; decide)
    | apply Kept.foldl
    | (fail_if_no_progress apply Kept.set_safe)
    | (fail_if_no_progress apply Kept.mk')
    | intro _ _ _

theorem State.release_kept {m : Nat} {s₀ : State} {x0 : State} (x1 : Nat)
    (h : Kept m s₀ x0) (hm : Sub 0x1000000000000e0 m) : Kept m s₀ (State.release x0 x1) := by
  unfold State.release
  try dsimp only
  with_reducible repeat' first
    | assumption
    | apply State.setLcar_kept
    | apply State.p_kept
    | apply State.psB_kept
    | (apply Sub.of hm; decide)
    | (apply InPg.at (InPg.slpC (Sub.bit hm (by decide))) (by first | decide | assumption | (dsimp only; decide)))
    | (apply InPg.at (InPg.sagP _ (Sub.bit hm (by decide))) (by first | decide | assumption | (dsimp only; decide)))
    | apply InPg.sagC (Sub.bit hm (by decide))
    | (apply InPg.at (InPg.sioC (Sub.bit hm (by decide))) (by first | decide | assumption | (dsimp only; decide)))
    | split

theorem State.releaseEval_kept {m : Nat} {s₀ : State} {x0 : State}
    (h : Kept m s₀ x0) (hm : Sub 0x1000c20000000e0 m) : Kept m s₀ (State.releaseEval x0) := by
  unfold State.releaseEval
  try dsimp only
  with_reducible repeat' first
    | assumption
    | apply Kept.ite
    | apply State.irq_kept
    | apply State.p_kept
    | apply State.release_kept
    | (apply Sub.of hm; decide)
    | (apply Sub.bit hm; decide)
    | (apply InPg.at (InPg.sagC (Sub.bit hm (by decide))) (by first | decide | assumption | (dsimp only; decide)))
    | apply InPg.sagC (Sub.bit hm (by decide))
    | apply Kept.foldl
    | (fail_if_no_progress apply Kept.set_safe)
    | (fail_if_no_progress apply Kept.mk')
    | intro _ _ _

theorem State.setMb_kept {m : Nat} {s₀ : State} {x0 : State} (x1 : Nat) (x2 : Option (Nat × Nat))
    (h : Kept m s₀ x0) (hm : Sub 0x100000000000000 m) : Kept m s₀ (State.setMb x0 x1 x2) := by
  unfold State.setMb
  try dsimp only
  with_reducible repeat' first
    | assumption
    | (apply Sub.bit hm; decide)
    | (fail_if_no_progress apply Kept.set_safe)
    | (fail_if_no_progress apply Kept.mk')

theorem State.mbWords_kept {m : Nat} {s₀ : State} {x0 : State} (x1 : Nat) (x2 : List Word)
    (h : Kept m s₀ x0) (hm : Sub 0x40 m) : Kept m s₀ (State.mbWords x0 x1 x2) := by
  unfold State.mbWords
  refine Kept.foldl_mem h _ _ ?_
  rintro y ⟨w, i⟩ hb hy
  have : i < 13 := List.mem_range.1 (List.of_mem_zip hb).2
  exact State.wr_kept _ _ hy (Sub.of hm (by decide)) (by rw [Nat.add_assoc]; exact (InPg.mbP _ (Sub.bit hm (by decide))).at (by omega))

theorem State.mbAnswer_kept {m : Nat} {s₀ : State} {x0 : State} (x1 : Nat) (x2 : Nat) (x3 : List Word)
    (h : Kept m s₀ x0) (hm : Sub 0x1000c2000000040 m) : Kept m s₀ (State.mbAnswer x0 x1 x2 x3) := by
  unfold State.mbAnswer
  try dsimp only
  with_reducible repeat' first
    | assumption
    | apply State.irq_kept
    | apply State.wr_kept
    | apply State.mbWords_kept
    | apply State.setMb_kept
    | (apply Sub.of hm; decide)
    | (apply InPg.at (InPg.mbP _ (Sub.bit hm (by decide))) (by first | decide | assumption | (dsimp only; decide)))
    | apply InPg.slpC (Sub.bit hm (by decide))
    | split

theorem State.testQueue_kept {m : Nat} {s₀ : State} {x0 : State} (x1 : Nat) (x2 : Nat)
    (h : Kept m s₀ x0) (hm : Sub 0x100000000000000 m) : Kept m s₀ (State.testQueue x0 x1 x2) := by
  unfold State.testQueue
  try dsimp only
  with_reducible repeat' first
    | assumption
    | (apply Sub.bit hm; decide)
    | (fail_if_no_progress apply Kept.set_safe)
    | (fail_if_no_progress apply Kept.mk')

theorem State.mbServe_kept {m : Nat} {s₀ : State} {x0 : State} (x1 : Nat)
    (h : Kept m s₀ x0) (hm : Sub 0x1000c2000000040 m) : Kept m s₀ (State.mbServe x0 x1) := by
  unfold State.mbServe
  try dsimp only
  with_reducible repeat' first
    | assumption
    | apply Kept.ite
    | apply State.p_kept
    | apply State.mbAnswer_kept
    | apply State.testQueue_kept
    | (apply Sub.of hm; decide)
    | (apply InPg.at (InPg.mbP _ (Sub.bit hm (by decide))) (by first | decide | assumption | (dsimp only; decide)))
    | split

theorem State.testOut_kept {m : Nat} {s₀ : State} {x0 : State} (x1 : Nat)
    (h : Kept m s₀ x0) (hm : Sub 0x1001c20000000e8 m) : Kept m s₀ (State.testOut x0 x1) := by
  unfold State.testOut
  try dsimp only
  with_reducible repeat' first
    | assumption
    | apply State.laneLatchAll_kept
    | split

theorem State.testEnd_kept {m : Nat} {s₀ : State} {x0 : State} (x1 : Nat) (x2 : Nat × List Nat)
    (h : Kept m s₀ x0) (hm : Sub 0x1005c28000000e8 m) : Kept m s₀ (State.testEnd x0 x1 x2) := by
  unfold State.testEnd
  try dsimp only
  with_reducible repeat' first
    | assumption
    | apply Kept.ite
    | apply State.mramCheck_kept
    | apply State.mbAnswer_kept
    | (apply Sub.of hm; decide)
    | apply Kept.foldl
    | intro _ _ _

theorem State.testRun_kept {m : Nat} {s₀ : State} {x0 : State} (x1 : Nat)
    (h : Kept m s₀ x0) (hm : Sub 0x100dc28000000e8 m) : Kept m s₀ (State.testRun x0 x1) := by
  unfold State.testRun
  try dsimp only
  with_reducible repeat' first
    | assumption
    | apply State.drew_kept
    | apply State.testEnd_kept
    | (apply Sub.of hm; decide)
    | (apply Sub.bit hm; decide)
    | apply Kept.foldl
    | (fail_if_no_progress apply Kept.set_safe)
    | (fail_if_no_progress apply Kept.mk')
    | intro _ _ _

theorem State.mbDoor_kept {m : Nat} {s₀ : State} {x0 : State} (x1 : Nat) (x2 : Word)
    (h : Kept m s₀ x0) (hm : Sub 0x100000000000040 m) : Kept m s₀ (State.mbDoor x0 x1 x2) := by
  unfold State.mbDoor
  try dsimp only
  with_reducible repeat' first
    | assumption
    | apply Kept.ite
    | apply State.flt_kept
    | apply State.setMb_kept
    | apply State.wr_kept
    | (apply Sub.of hm; decide)
    | apply InPg.slpC (Sub.bit hm (by decide))
    | (apply InPg.at (InPg.mbP _ (Sub.bit hm (by decide))) (by first | decide | assumption | (dsimp only; decide)))

theorem State.slpSample_kept {m : Nat} {s₀ : State} {x0 : State} (x1 : Nat)
    (h : Kept m s₀ x0) (hm : Sub 0x100000000000000 m) : Kept m s₀ (State.slpSample x0 x1) := by
  unfold State.slpSample
  try dsimp only
  with_reducible repeat' first
    | assumption
    | apply State.setLcar_kept
    | split

theorem State.clkDetect_kept {m : Nat} {s₀ : State} {x0 : State}
    (h : Kept m s₀ x0) (hm : Sub 0x1e200000000d m) : Kept m s₀ (State.clkDetect x0) := by
  unfold State.clkDetect
  try dsimp only
  with_reducible repeat' first
    | assumption
    | apply State.fwOccur_kept
    | apply State.incIrq_kept
    | (apply Sub.of hm; decide)
    | (apply InPg.at (InPg.pcrC (Sub.bit hm (by decide))) (by first | decide | assumption | (dsimp only; decide)))
    | apply InPg.pcrC (Sub.bit hm (by decide))

theorem State.clkMon_kept {m : Nat} {s₀ : State} {x0 : State} (x1 : Nat)
    (h : Kept m s₀ x0) (hm : Sub 0x1001e20000000ed m) : Kept m s₀ (State.clkMon x0 x1) := by
  unfold State.clkMon
  try dsimp only
  with_reducible repeat' first
    | assumption
    | apply Kept.ite
    | apply State.p_kept
    | apply State.clkDetect_kept
    | apply State.irq_kept
    | apply State.laneLatchAll_kept
    | (apply Sub.of hm; decide)
    | (apply Sub.bit hm; decide)
    | (apply InPg.at (InPg.sagC (Sub.bit hm (by decide))) (by first | decide | assumption | (dsimp only; decide)))
    | apply InPg.sagC (Sub.bit hm (by decide))
    | (fail_if_no_progress apply Kept.set_safe)
    | (fail_if_no_progress apply Kept.mk')

theorem State.slpTests_kept {m : Nat} {s₀ : State} {x0 : State} (x1 : Nat)
    (h : Kept m s₀ x0) (hm : Sub 0x100de28000000ec m) : Kept m s₀ (State.slpTests x0 x1) := by
  unfold State.slpTests
  try dsimp only
  with_reducible repeat' first
    | assumption
    | apply Kept.ite
    | apply State.testOut_kept
    | apply State.fwOccur_kept
    | apply State.inc_kept
    | apply State.mramCheck_kept
    | apply State.drew_kept
    | apply State.peak_kept
    | apply State.psB_kept
    | apply State.ps_kept
    | (apply Sub.of hm; decide)
    | (apply Sub.bit hm; decide)
    | (apply InPg.at (InPg.slpC (Sub.bit hm (by decide))) (by first | decide | assumption | (dsimp only; decide)))
    | apply InPg.slpC (Sub.bit hm (by decide))
    | apply Kept.foldl
    | (fail_if_no_progress apply Kept.set_safe)
    | (fail_if_no_progress apply Kept.mk')
    | intro _ _ _

theorem State.slpCycle_kept {m : Nat} {s₀ : State} {x0 : State} (x1 : Nat) (x2 : Nat) (x3 : Nat) (x4 : Nat) (x5 : Bool) (x6 : Bool)
    (h : Kept m s₀ x0) (hm : Sub 0x19adfa800000fff m) : Kept m s₀ (State.slpCycle x0 x1 x2 x3 x4 x5 x6) := by
  unfold State.slpCycle
  try dsimp only
  with_reducible repeat' first
    | assumption
    | apply State.advanceTo_kept
    | apply State.pTs_kept
    | apply State.laneDone_kept
    | apply State.exchange_kept
    | apply State.commitBoundary_kept
    | apply State.confirmBoundary_kept
    | apply State.resets_kept
    | apply State.clkMon_kept
    | apply State.slpSample_kept
    | apply State.laneTick_kept
    | apply State.sampleOut_kept
    | apply State.sioShow_kept
    | apply State.laneEval_kept
    | apply State.releaseEval_kept
    | apply State.drive_kept
    | apply State.slpTests_kept
    | apply State.mbServe_kept
    | apply State.testRun_kept
    | (apply Sub.of hm; decide)
    | (apply Sub.bit hm; decide)
    | (apply InPg.at (InPg.slpC (Sub.bit hm (by decide))) (by first | decide | assumption | (dsimp only; decide)))
    | apply Kept.foldl
    | (fail_if_no_progress apply Kept.set_safe)
    | (fail_if_no_progress apply Kept.mk')
    | intro _ _ _
    | intro _ _

theorem State.sgBad_kept {m : Nat} {s₀ : State} {x0 : State} (x1 : Nat) (x2 : Fld)
    (h : Kept m s₀ x0) (hm : Sub 0x1000c2000000080 m) (hf : x2.off < 0x1000) : Kept m s₀ (State.sgBad x0 x1 x2) := by
  unfold State.sgBad
  try dsimp only
  with_reducible repeat' first
    | assumption
    | apply State.incIrq_kept
    | apply State.setLcar_kept
    | (apply Sub.of hm; decide)
    | (apply InPg.at (InPg.sagP _ (Sub.bit hm (by decide))) (by first | decide | assumption | (dsimp only; decide)))
    | apply InPg.sagP _ (Sub.bit hm (by decide))

theorem State.sgWord_kept {m : Nat} {s₀ : State} {x0 : State} (x1 : Nat) (x2 : SgWord)
    (h : Kept m s₀ x0) (hm : Sub 0x1000c2000000080 m) : Kept m s₀ (State.sgWord x0 x1 x2) := by
  unfold State.sgWord
  try dsimp only
  with_reducible repeat' first
    | assumption
    | apply Kept.ite
    | apply State.sgBad_kept
    | apply State.setLcar_kept
    | (apply Sub.of hm; decide)
    | decide

theorem State.sgShow_kept {m : Nat} {s₀ : State} {x0 : State} (x1 : Nat)
    (h : Kept m s₀ x0) (hm : Sub 0x80 m) : Kept m s₀ (State.sgShow x0 x1) := by
  unfold State.sgShow
  try dsimp only
  with_reducible repeat' first
    | assumption
    | apply State.psB_kept
    | apply State.p_kept
    | apply State.pI_kept
    | (apply Sub.of hm; decide)
    | (apply InPg.at (InPg.sagP _ (Sub.bit hm (by decide))) (by first | decide | assumption | (dsimp only; decide)))
    | apply InPg.sagP _ (Sub.bit hm (by decide))

theorem State.snapshot_kept {m : Nat} {s₀ : State} {x0 : State}
    (h : Kept m s₀ x0) (hm : Sub 0x10000000000080 m) : Kept m s₀ (State.snapshot x0) := by
  unfold State.snapshot
  try dsimp only
  with_reducible repeat' first
    | assumption
    | apply State.sgShow_kept
    | apply State.pTs_kept
    | apply State.pI_kept
    | (apply Sub.of hm; decide)
    | (apply Sub.bit hm; decide)
    | (apply InPg.at (InPg.sagC (Sub.bit hm (by decide))) (by first | decide | assumption | (dsimp only; decide)))
    | apply Kept.foldl
    | (fail_if_no_progress apply Kept.set_hoist)
    | (fail_if_no_progress apply Kept.mk')
    | intro _ _ _

theorem State.sageCycle_kept {m : Nat} {s₀ : State} {x0 : State} (x1 : Nat) (x2 : Nat) (x3 : Nat) (x4 : Nat → Option SgWord) (x5 : Bool)
    (h : Kept m s₀ x0) (hm : Sub 0x19e1fa000000fee m) : Kept m s₀ (State.sageCycle x0 x1 x2 x3 x4 x5) := by
  unfold State.sageCycle
  extract_lets at_ s1 src s2
  have k1 : Kept m s₀ s1 := State.advanceTo_kept _ h (Sub.of hm (by decide))
  clear_value s1
  have k2 : Kept m s₀ s2 := Kept.set_safe k1 (Sub.bit hm (by decide)) _
  clear_value s2
  refine State.laneDone_kept _ k2 (Sub.of hm (by decide)) ?_
  intro y hy
  extract_lets p a1 a2 a3 a4 a5
  have q1 : Kept m s₀ a1 := by
    refine Kept.foldl hy _ _ ?_
    intro z c hz
    extract_lets m1
    have qm : Kept m s₀ m1 := Kept.ite (State.serStart_kept _ hz (Sub.of hm (by decide))) hz
    clear_value m1
    split
    · exact qm
    · exact State.serWord_kept _ _ _ _ _ _ _ (State.sgWord_kept _ _ qm (Sub.of hm (by decide))) (Sub.of hm (by decide))
  clear_value a1
  have q2 : Kept m s₀ a2 := State.sampleOut_kept _ _ _ q1 (Sub.of hm (by decide))
  clear_value a2
  have q3 : Kept m s₀ a3 := Kept.ite (State.sioShow_kept (State.laneTick_kept _ q2 (Sub.of hm (by decide))) (Sub.of hm (by decide))) q2
  clear_value a3
  have q4 : Kept m s₀ a4 := State.laneEval_kept _ _ _ q3 (Sub.of hm (by decide))
  clear_value a4
  have q5 : Kept m s₀ a5 := State.drive_kept _ (Kept.ite (State.laneLatchAll_kept _ _ q4 (Sub.of hm (by decide))) q4) (Sub.of hm (by decide))
  clear_value a5
  exact State.snapshot_kept q5 (Sub.of hm (by decide))

theorem State.setGate_kept {m : Nat} {s₀ : State} {x0 : State} (x1 : Nat)
    (h : Kept m s₀ x0) (hm : Sub 0x100000000000080 m) : Kept m s₀ (State.setGate x0 x1) := by
  unfold State.setGate
  try dsimp only
  with_reducible repeat' first
    | assumption
    | apply State.psB_kept
    | (apply Sub.of hm; decide)
    | (apply Sub.bit hm; decide)
    | apply InPg.sagC (Sub.bit hm (by decide))
    | (fail_if_no_progress apply Kept.set_safe)
    | (fail_if_no_progress apply Kept.mk')

theorem State.sagTouch_kept {m : Nat} {s₀ : State} {x0 : State}
    (h : Kept m s₀ x0) (hm : Sub 0x100000000000080 m) : Kept m s₀ (State.sagTouch x0) := by
  unfold State.sagTouch
  try dsimp only
  with_reducible repeat' first
    | assumption
    | apply Kept.ite
    | apply State.setGate_kept

theorem State.gated_kept {m : Nat} {s₀ : State} {x0 : State} (x1 : State → State)
    (h : Kept m s₀ x0) (hm : Sub 0x100000000000080 m) (h1 : ∀ y, Kept m s₀ y → Kept m s₀ (x1 y)) : Kept m s₀ (State.gated x0 x1) := by
  unfold State.gated
  try dsimp only
  with_reducible repeat' first
    | assumption
    | apply h1
    | apply Kept.ite
    | apply State.flt_kept
    | apply State.sagTouch_kept
    | (apply Sub.of hm; decide)
    | apply InPg.sagC (Sub.bit hm (by decide))

theorem State.gateKey_kept {m : Nat} {s₀ : State} {x0 : State} (x1 : Word)
    (h : Kept m s₀ x0) (hm : Sub 0x100000000000080 m) : Kept m s₀ (State.gateKey x0 x1) := by
  unfold State.gateKey
  try dsimp only
  with_reducible repeat' first
    | assumption
    | apply State.setGate_kept

theorem State.latchClr_kept {m : Nat} {s₀ : State} {x0 : State} (x1 : Word)
    (h : Kept m s₀ x0) (hm : Sub 0x100000000000080 m) : Kept m s₀ (State.latchClr x0 x1) := by
  unfold State.latchClr
  try dsimp only
  with_reducible repeat' first
    | assumption
    | apply State.gated_kept
    | apply State.setGate_kept
    | (apply Sub.bit hm; decide)
    | (fail_if_no_progress apply Kept.set_safe)
    | (fail_if_no_progress apply Kept.mk')
    | intro _ _

theorem State.loadAddr_kept {m : Nat} {s₀ : State} {x0 : State} (x1 : Word)
    (h : Kept m s₀ x0) (hm : Sub 0x100000000000080 m) : Kept m s₀ (State.loadAddr x0 x1) := by
  unfold State.loadAddr
  try dsimp only
  with_reducible repeat' first
    | assumption
    | apply Kept.ite
    | apply State.gated_kept
    | apply State.flt_kept
    | apply State.p_kept
    | (apply Sub.of hm; decide)
    | (apply InPg.at (InPg.sagC (Sub.bit hm (by decide))) (by first | decide | assumption | (dsimp only; decide)))
    | apply InPg.sagC (Sub.bit hm (by decide))
    | intro _ _

theorem State.loadData_kept {m : Nat} {s₀ : State} {x0 : State} (x1 : Word)
    (h : Kept m s₀ x0) (hm : Sub 0x100000000000080 m) : Kept m s₀ (State.loadData x0 x1) := by
  unfold State.loadData
  try dsimp only
  with_reducible repeat' first
    | assumption
    | apply Kept.ite
    | apply State.gated_kept
    | apply State.flt_kept
    | apply State.p_kept
    | (apply Sub.of hm; decide)
    | (apply Sub.bit hm; decide)
    | (apply InPg.at (InPg.sagC (Sub.bit hm (by decide))) (by first | decide | assumption | (dsimp only; decide)))
    | apply InPg.sagC (Sub.bit hm (by decide))
    | (fail_if_no_progress apply Kept.set_safe)
    | (fail_if_no_progress apply Kept.mk')
    | intro _ _

theorem State.loadCtrl_kept {m : Nat} {s₀ : State} {x0 : State} (x1 : Word)
    (h : Kept m s₀ x0) (hm : Sub 0x100000000000080 m) : Kept m s₀ (State.loadCtrl x0 x1) := by
  unfold State.loadCtrl
  try dsimp only
  with_reducible repeat' first
    | assumption
    | apply Kept.ite
    | apply State.gated_kept
    | apply State.setGate_kept
    | apply State.flt_kept
    | apply State.p_kept
    | (apply Sub.of hm; decide)
    | (apply Sub.bit hm; decide)
    | (apply InPg.at (InPg.sagC (Sub.bit hm (by decide))) (by first | decide | assumption | (dsimp only; decide)))
    | apply InPg.sagC (Sub.bit hm (by decide))
    | (fail_if_no_progress apply Kept.set_safe)
    | (fail_if_no_progress apply Kept.mk')
    | intro _ _

theorem State.safeConfirm_kept {m : Nat} {s₀ : State} {x0 : State} (x1 : Word)
    (h : Kept m s₀ x0) (hm : Sub 0x1000c2000000080 m) : Kept m s₀ (State.safeConfirm x0 x1) := by
  unfold State.safeConfirm
  try dsimp only
  with_reducible repeat' first
    | assumption
    | apply Kept.ite
    | apply State.gated_kept
    | apply State.setGate_kept
    | apply State.irq_kept
    | apply State.p_kept
    | (apply Sub.of hm; decide)
    | (apply Sub.bit hm; decide)
    | (apply InPg.at (InPg.sagC (Sub.bit hm (by decide))) (by first | decide | assumption | (dsimp only; decide)))
    | apply InPg.sagC (Sub.bit hm (by decide))
    | (fail_if_no_progress apply Kept.set_safe)
    | (fail_if_no_progress apply Kept.mk')
    | intro _ _

theorem State.setDlk_kept {m : Nat} {s₀ : State} {x0 : State} (x1 : Nat) (x2 : Dlk)
    (h : Kept m s₀ x0) (hm : Sub 0x20000000000000 m) : Kept m s₀ (State.setDlk x0 x1 x2) := by
  unfold State.setDlk
  try dsimp only
  with_reducible repeat' first
    | assumption
    | (apply Sub.bit hm; decide)
    | (fail_if_no_progress apply Kept.set_dlks)
    | (fail_if_no_progress apply Kept.mk')

theorem State.setLst_kept {m : Nat} {s₀ : State} {x0 : State} (x1 : Nat) (x2 : Nat)
    (h : Kept m s₀ x0) (hm : Sub 0x1000 m) : Kept m s₀ (State.setLst x0 x1 x2) := by
  unfold State.setLst
  try dsimp only
  with_reducible repeat' first
    | assumption
    | apply State.ps_kept
    | (apply Sub.of hm; decide)
    | apply InPg.dlkP _ (Sub.bit hm (by decide))

theorem State.dlkDrop_kept {m : Nat} {s₀ : State} {x0 : State} (x1 : Nat) (x2 : Nat)
    (h : Kept m s₀ x0) (hm : Sub 0x301c2000001108 m) : Kept m s₀ (State.dlkDrop x0 x1 x2) := by
  unfold State.dlkDrop
  try dsimp only
  with_reducible repeat' first
    | assumption
    | apply State.genStop_kept
    | apply State.ps_kept
    | apply State.setDlk_kept
    | apply State.setLst_kept
    | apply State.ikwOffer_kept
    | apply State.irq_kept
    | (apply Sub.of hm; decide)
    | apply InPg.dlkP _ (Sub.bit hm (by decide))

theorem State.dlkLost_kept {m : Nat} {s₀ : State} {x0 : State} (x1 : Nat) (x2 : Nat)
    (h : Kept m s₀ x0) (hm : Sub 0xb81c2000001708 m) : Kept m s₀ (State.dlkLost x0 x1 x2) := by
  unfold State.dlkLost
  try dsimp only
  with_reducible repeat' first
    | assumption
    | apply Kept.ite
    | apply State.settle_kept
    | apply State.dlkDrop_kept
    | apply State.ps_kept
    | (apply Sub.of hm; decide)
    | apply InPg.dlkP _ (Sub.bit hm (by decide))

theorem State.dlkMiss_kept {m : Nat} {s₀ : State} {x0 : State} (x1 : Nat)
    (h : Kept m s₀ x0) (hm : Sub 0xb81e200000170c m) : Kept m s₀ (State.dlkMiss x0 x1) := by
  unfold State.dlkMiss
  try dsimp only
  with_reducible repeat' first
    | assumption
    | apply Kept.ite
    | apply State.setDlk_kept
    | apply State.incIrq_kept
    | apply State.fwOccur_kept
    | apply State.dlkLost_kept
    | (apply Sub.of hm; decide)
    | (apply InPg.at (InPg.dlkP _ (Sub.bit hm (by decide))) (by first | decide | assumption | (dsimp only; decide)))
    | apply InPg.dlkP _ (Sub.bit hm (by decide))

theorem State.dlkExpire_kept {m : Nat} {s₀ : State} {x0 : State} (x1 : Nat)
    (h : Kept m s₀ x0) (hm : Sub 0xb81fa00000170e m) : Kept m s₀ (State.dlkExpire x0 x1) := by
  unfold State.dlkExpire
  try dsimp only
  with_reducible repeat' first
    | assumption
    | apply Kept.ite
    | apply State.dlkMiss_kept
    | apply State.advanceTo_kept
    | (apply Sub.of hm; decide)

theorem State.dlkHsFail_kept {m : Nat} {s₀ : State} {x0 : State} (x1 : Nat)
    (h : Kept m s₀ x0) (hm : Sub 0xc2000001000 m) : Kept m s₀ (State.dlkHsFail x0 x1) := by
  unfold State.dlkHsFail
  try dsimp only
  with_reducible repeat' first
    | assumption
    | apply State.setLst_kept
    | apply State.irq_kept
    | apply State.inc_kept
    | (apply Sub.of hm; decide)
    | (apply InPg.at (InPg.dlkP _ (Sub.bit hm (by decide))) (by first | decide | assumption | (dsimp only; decide)))
    | apply InPg.dlkP _ (Sub.bit hm (by decide))

theorem State.dlkGood_kept {m : Nat} {s₀ : State} {x0 : State} (x1 : Nat) (x2 : List Byte)
    (h : Kept m s₀ x0) (hm : Sub 0xb81c2000001708 m) : Kept m s₀ (State.dlkGood x0 x1 x2) := by
  unfold State.dlkGood
  try dsimp only
  with_reducible repeat' first
    | assumption
    | apply Kept.ite
    | apply State.setDlk_kept
    | apply State.psB_kept
    | apply State.pTs_kept
    | apply State.p_kept
    | apply State.irq_kept
    | apply State.setLst_kept
    | apply State.dlkHsFail_kept
    | apply State.dlkLost_kept
    | (apply Sub.of hm; decide)
    | (apply InPg.at (InPg.dlkP _ (Sub.bit hm (by decide))) (by first | decide | assumption | (dsimp only; decide)))
    | apply InPg.dlkP _ (Sub.bit hm (by decide))
    | split

theorem State.dlkCtrl_kept {m : Nat} {s₀ : State} {x0 : State} (x1 : Nat) (x2 : Word)
    (h : Kept m s₀ x0) (hm : Sub 0x20000000001000 m) : Kept m s₀ (State.dlkCtrl x0 x1 x2) := by
  unfold State.dlkCtrl
  try dsimp only
  with_reducible repeat' first
    | assumption
    | apply Kept.ite
    | apply State.flt_kept
    | apply State.pB_kept
    | apply State.setDlk_kept
    | apply State.setLst_kept
    | apply State.ps_kept
    | (apply Sub.of hm; decide)
    | (apply InPg.at (InPg.dlkP _ (Sub.bit hm (by decide))) (by first | decide | assumption | (dsimp only; decide)))
    | apply InPg.dlkP _ (Sub.bit hm (by decide))

theorem State.setDom_kept {m : Nat} {s₀ : State} {x0 : State} (x1 : Nat) (x2 : Nat)
    (h : Kept m s₀ x0) (hm : Sub 0xc2000000001 m) : Kept m s₀ (State.setDom x0 x1 x2) := by
  unfold State.setDom
  try dsimp only
  with_reducible repeat' first
    | assumption
    | apply Kept.ite
    | apply State.psB_kept
    | apply State.ps_kept
    | apply State.inc_kept
    | apply State.irq_kept
    | (apply Sub.of hm; decide)
    | (apply InPg.at (InPg.pcrP _ (Sub.bit hm (by decide))) (by first | decide | assumption | (dsimp only; decide)))
    | apply InPg.pcrP _ (Sub.bit hm (by decide))

theorem State.regsReset_kept {m : Nat} {s₀ : State} {x0 : State} (x1 : Nat)
    (h : Kept m s₀ x0) (hm : Sub 0xffefffa8003ffff m) : Kept m s₀ (State.regsReset x0 x1) := h.trans (by
    constructor
    case regsWf => exact fun w => Tab.wf_filter _ _ _ w
    case rd => intro a hb; rw [full_at hm a] at hb; cases hb
    all_goals first | rfl | exact id | (intro _; rfl) | (intro _; decide) | (intro hb; rw [Sub.bit hm (by decide)] at hb; cases hb))

theorem State.domClear_kept {m : Nat} {s₀ : State} {x0 : State} (x1 : Nat)
    (h : Kept m s₀ x0) (hm : Sub 0xffefffa8003ffff m) : Kept m s₀ (State.domClear x0 x1) := by
  have k1 : Kept m s₀ (x0.regsReset x1) := State.regsReset_kept _ h (Sub.of hm (by decide))
  unfold State.domClear
  generalize x0.regsReset x1 = s1 at k1 ⊢
  dsimp only
  split
  · exact (by apply Kept.mk' k1 <;> first | exact .inr rfl | exact .inl (Sub.bit hm (by decide)) | exact fun hx => hx)
  · exact (by apply Kept.mk' k1 <;> first | exact .inr rfl | exact .inl (Sub.bit hm (by decide)) | exact fun hx => hx)
  · refine Kept.foldl ?_ _ _ fun y b hy => State.tbsShow_kept _ hy (Sub.of hm (by decide))
    exact (by apply Kept.mk' k1 <;> first | exact .inr rfl | exact .inl (Sub.bit hm (by decide)) | exact fun hx => hx)
  · exact Kept.set_bnis k1 (Sub.bit hm (by decide)) _
  · exact State.p_kept _ _ _ (State.psB_kept _ _ _ (Kept.set_memc k1 (Sub.bit hm (by decide)) _) (Sub.of hm (by decide)) (InPg.memC (Sub.bit hm (by decide)))) (Sub.of hm (by decide)) ((InPg.memC (Sub.bit hm (by decide))).at (by decide))
  · exact k1

theorem State.domLose_kept {m : Nat} {s₀ : State} {x0 : State} (x1 : Nat)
    (h : Kept m s₀ x0) (hm : Sub 0xffefffa8003ffff m) : Kept m s₀ (State.domLose x0 x1) := by
  unfold State.domLose
  try dsimp only
  with_reducible repeat' first
    | assumption
    | apply State.domClear_kept
    | apply State.memDrop_kept
    | (apply Sub.of hm; decide)
    | split

theorem State.clkOk_kept {m : Nat} {s₀ : State} {x0 : State} (x1 : Nat) (x2 : Bool)
    (h : Kept m s₀ x0) (hm : Sub 0x1 m) : Kept m s₀ (State.clkOk x0 x1 x2) := by
  unfold State.clkOk
  try dsimp only
  with_reducible repeat' first
    | assumption
    | apply State.pB_kept
    | (apply Sub.of hm; decide)
    | (apply InPg.at (InPg.pcrC (Sub.bit hm (by decide))) (by first | decide | assumption | (dsimp only; decide)))

theorem State.domPower_kept {m : Nat} {s₀ : State} {x0 : State} (x1 : Nat)
    (h : Kept m s₀ x0) (hm : Sub 0x100c2000000301 m) : Kept m s₀ (State.domPower x0 x1) := by
  unfold State.domPower
  try dsimp only
  with_reducible repeat' first
    | assumption
    | apply Kept.ite
    | apply State.setDom_kept
    | apply State.motMirror_kept
    | apply State.clkOk_kept
    | (apply Sub.of hm; decide)
    | (apply Sub.bit hm; decide)
    | (fail_if_no_progress apply Kept.set_hoist)
    | (fail_if_no_progress apply Kept.mk')

theorem State.rail_kept {m : Nat} {s₀ : State} {x0 : State} (x1 : Nat) (x2 : Nat) (x3 : Bool)
    (h : Kept m s₀ x0) (hm : Sub 0x1 m) : Kept m s₀ (State.rail x0 x1 x2 x3) := by
  unfold State.rail
  try dsimp only
  with_reducible repeat' first
    | assumption
    | apply Kept.ite
    | apply State.p_kept
    | apply State.pB_kept
    | (apply Sub.of hm; decide)
    | (apply InPg.at (InPg.pcrC (Sub.bit hm (by decide))) (by first | decide | assumption | (dsimp only; decide)))

theorem State.railOpp_kept {m : Nat} {s₀ : State} {x0 : State}
    (h : Kept m s₀ x0) (hm : Sub 0x1 m) : Kept m s₀ (State.railOpp x0) := by
  unfold State.railOpp
  try dsimp only
  with_reducible repeat' first
    | assumption
    | apply Kept.ite
    | apply State.rail_kept

theorem State.oppBoot_kept {m : Nat} {s₀ : State} {x0 : State}
    (h : Kept m s₀ x0) (hm : Sub 0x1 m) : Kept m s₀ (State.oppBoot x0) := by
  unfold State.oppBoot
  try dsimp only
  with_reducible repeat' first
    | assumption
    | apply State.p_kept
    | apply State.railOpp_kept
    | (apply Sub.of hm; decide)
    | (apply InPg.at (InPg.pcrC (Sub.bit hm (by decide))) (by first | decide | assumption | (dsimp only; decide)))

theorem State.keeper_kept {m : Nat} {s₀ : State} {x0 : State} (x1 : Bool)
    (h : Kept m s₀ x0) (hm : Sub 0x808 m) : Kept m s₀ (State.keeper x0 x1) := by
  unfold State.keeper
  try dsimp only
  with_reducible repeat' first
    | assumption
    | apply State.psB_kept
    | (apply Sub.of hm; decide)
    | apply InPg.pfiC (Sub.bit hm (by decide))
    | apply InPg.ikwC (Sub.bit hm (by decide))
    | apply InPg.fbP _ (Sub.bit hm (by decide))
    | apply Kept.foldl
    | intro _ _ _

theorem State.rstCause_kept {m : Nat} {s₀ : State} {x0 : State} (x1 : Nat)
    (h : Kept m s₀ x0) (hm : Sub 0x1 m) : Kept m s₀ (State.rstCause x0 x1) := by
  unfold State.rstCause
  try dsimp only
  with_reducible repeat' first
    | assumption
    | apply State.p_kept
    | (apply Sub.of hm; decide)
    | (apply InPg.at (InPg.pcrC (Sub.bit hm (by decide))) (by first | decide | assumption | (dsimp only; decide)))

theorem State.rstRecord_kept {m : Nat} {s₀ : State} {x0 : State} (x1 : Nat)
    (h : Kept m s₀ x0) (hm : Sub 0x1c2000000008 m) : Kept m s₀ (State.rstRecord x0 x1) := by
  unfold State.rstRecord
  try dsimp only
  with_reducible repeat' first
    | assumption
    | apply State.ikwOffer_kept

theorem State.lifeWrite_kept {m : Nat} {s₀ : State} {x0 : State} (x1 : Nat)
    (h : Kept m s₀ x0) (hm : Sub 0x600800000000 m) : Kept m s₀ (State.lifeWrite x0 x1) := by
  unfold State.lifeWrite
  try dsimp only
  with_reducible repeat' first
    | assumption
    | apply State.mputEcc_kept
    | (apply Sub.of hm; decide)
    | (apply Sub.bit hm; decide)
    | (fail_if_no_progress apply Kept.set_pcr)
    | (fail_if_no_progress apply Kept.mk')

theorem State.checkpoint_kept {m : Nat} {s₀ : State} {x0 : State}
    (h : Kept m s₀ x0) (hm : Sub 0x600800000000 m) : Kept m s₀ (State.checkpoint x0) := by
  unfold State.checkpoint
  try dsimp only
  with_reducible repeat' first
    | assumption
    | apply State.lifeWrite_kept

theorem State.lifeLoad_kept {m : Nat} {s₀ : State} {x0 : State}
    (h : Kept m s₀ x0) (hm : Sub 0x6c2800000001 m) : Kept m s₀ (State.lifeLoad x0) := by
  unfold State.lifeLoad
  try dsimp only
  with_reducible repeat' first
    | assumption
    | apply Kept.ite
    | apply State.checkpoint_kept
    | apply State.irq_kept
    | apply State.lifeWrite_kept
    | (apply Sub.of hm; decide)
    | (apply Sub.bit hm; decide)
    | apply InPg.pcrC (Sub.bit hm (by decide))
    | (fail_if_no_progress apply Kept.set_pcr)
    | (fail_if_no_progress apply Kept.mk')

theorem State.fabStart_kept {m : Nat} {s₀ : State} {x0 : State}
    (h : Kept m s₀ x0) (hm : Sub 0xe2000020010 m) : Kept m s₀ (State.fabStart x0) := by
  unfold State.fabStart
  try dsimp only
  with_reducible repeat' first
    | assumption
    | apply Kept.ite
    | apply State.p_kept
    | apply State.pairBoot_kept
    | (apply Sub.of hm; decide)
    | (apply Sub.bit hm; decide)
    | (apply InPg.at (InPg.memC (Sub.bit hm (by decide))) (by first | decide | assumption | (dsimp only; decide)))
    | (fail_if_no_progress apply Kept.set_rdm)
    | (fail_if_no_progress apply Kept.mk')
    | exact fun hx => hx

theorem State.lanesStart_kept {m : Nat} {s₀ : State} {x0 : State}
    (h : Kept m s₀ x0) (hm : Sub 0x1025c2800000bb8 m) : Kept m s₀ (State.lanesStart x0) := by
  unfold State.lanesStart
  try dsimp only
  with_reducible repeat' first
    | assumption
    | apply State.spbStart_kept
    | (apply Sub.bit hm; decide)
    | (fail_if_no_progress apply Kept.set_safe)
    | (fail_if_no_progress apply Kept.mk')

theorem State.startUp_kept {m : Nat} {s₀ : State} {x0 : State}
    (h : Kept m s₀ x0) (hm : Sub 0x1127ea800020bb9 m) : Kept m s₀ (State.startUp x0) := by
  unfold State.startUp
  try dsimp only
  with_reducible repeat' first
    | assumption
    | apply State.oppBoot_kept
    | apply State.clkOk_kept
    | apply State.domPower_kept
    | apply State.lanesStart_kept
    | apply State.fabStart_kept
    | (apply Sub.of hm; decide)
    | (apply Or.inl; apply Sub.bit hm; decide)
    | (apply Or.inr; rfl)
    | apply Kept.foldl
    | (fail_if_no_progress apply Kept.set_pcr)
    | (fail_if_no_progress apply Kept.set_tbs)
    | (fail_if_no_progress apply Kept.mk')
    | exact fun hx => hx
    | intro _ _ _

theorem State.resetSwitched_kept {m : Nat} {s₀ : State} {x0 : State}
    (h : Kept m s₀ x0) (hm : Sub 0xffefffa8003ffff m) : Kept m s₀ (State.resetSwitched x0) := by
  unfold State.resetSwitched
  extract_lets s1 s2 src s3 limp s4
  have k1 : Kept m s₀ s1 := Kept.foldl h _ _ fun y b hy => State.domClear_kept _ hy (Sub.of hm (by decide))
  clear_value s1
  have k2 : Kept m s₀ s2 := Kept.foldl k1 _ _ fun y b hy => State.setDom_kept _ _ hy (Sub.of hm (by decide))
  clear_value s2
  have k3 : Kept m s₀ s3 := Kept.set_pcr k2 (Sub.bit hm (by decide)) _
  clear_value s3
  have k4 : Kept m s₀ s4 := State.oppBoot_kept (State.keeper_kept _ (State.clkOk_kept _ _ k3 (Sub.of hm (by decide))) (Sub.of hm (by decide))) (Sub.of hm (by decide))
  clear_value s4
  exact State.fabStart_kept (Kept.foldl k4 _ _ fun y b hy => State.domPower_kept _ hy (Sub.of hm (by decide))) (Sub.of hm (by decide))

theorem State.toAonEdge_kept {m : Nat} {s₀ : State} {x0 : State}
    (h : Kept m s₀ x0) (hm : Sub 0x1da00000000a m) : Kept m s₀ (State.toAonEdge x0) := by
  unfold State.toAonEdge
  exact State.advanceTo_kept _ h (Sub.of hm (by decide))

theorem State.freeze_kept {m : Nat} {s₀ : State} {x0 : State} (x1 : Nat) (x2 : Nat)
    (h : Kept m s₀ x0) (hm : Sub 0x8000000000 m) : Kept m s₀ (State.freeze x0 x1 x2) := by
  unfold State.freeze
  refine Kept.set_tbs h (Sub.bit hm (by decide)) _ ?_
  dsimp only
  exact id

theorem State.reload_kept {m : Nat} {s₀ : State} {x0 : State} (x1 : Nat)
    (h : Kept m s₀ x0) (hm : Sub 0x8000000000 m) : Kept m s₀ (State.reload x0 x1) := by
  unfold State.reload
  refine Kept.set_tbs h (Sub.bit hm (by decide)) _ ?_
  dsimp only
  intro _
  have : x1 % 2 ^ 64 < 2 ^ 64 := Nat.mod_lt _ (by decide)
  omega

theorem State.capture_kept {m : Nat} {s₀ : State} {x0 : State}
    (h : Kept m s₀ x0) (hm : Sub 0x1da00000000a m) : Kept m s₀ (State.capture x0) := by
  unfold State.capture
  try dsimp only
  with_reducible repeat' first
    | assumption
    | apply State.toAonEdge_kept
    | apply State.freeze_kept
    | (apply Sub.of hm; decide)

theorem State.reseed_kept {m : Nat} {s₀ : State} {x0 : State}
    (h : Kept m s₀ x0) (hm : Sub 0x1da00000000a m) : Kept m s₀ (State.reseed x0) := by
  unfold State.reseed
  try dsimp only
  with_reducible repeat' first
    | assumption
    | apply Kept.ite
    | apply State.toAonEdge_kept
    | apply State.reload_kept
    | apply State.pTs_kept
    | apply State.ps_kept
    | apply State.ikwOffer_kept
    | apply State.irq_kept
    | (apply Sub.of hm; decide)
    | (apply InPg.at (InPg.tbsC (Sub.bit hm (by decide))) (by first | decide | assumption | (dsimp only; decide)))
    | apply InPg.tbsC (Sub.bit hm (by decide))

theorem State.restore_kept {m : Nat} {s₀ : State} {x0 : State}
    (h : Kept m s₀ x0) (hm : Sub 0xffefffa8003ffff m) : Kept m s₀ (State.restore x0) := by
  unfold State.restore
  exact Kept.foldl h _ _ fun y b hy => Kept.ite (State.wr_kept _ _ hy (Sub.of hm (by decide)) (full_at hm _)) hy

theorem State.locksClose_kept {m : Nat} {s₀ : State} {x0 : State} (x1 : Nat → Bool)
    (h : Kept m s₀ x0) (hm : Sub 0xffefffa8003ffff m) : Kept m s₀ (State.locksClose x0 x1) := h.trans (by
    constructor
    case regsWf => exact fun w => Tab.wf_filter _ _ _ w
    case rd => intro a hb; rw [full_at hm a] at hb; cases hb
    all_goals first | rfl | exact id | (intro _; rfl) | (intro _; decide) | (intro hb; rw [Sub.bit hm (by decide)] at hb; cases hb))

theorem State.fwOwner_kept {m : Nat} {s₀ : State} {x0 : State} (x1 : Nat)
    (h : Kept m s₀ x0) (hm : Sub 0x7d8de280003ef2f m) : Kept m s₀ (State.fwOwner x0 x1) := by
  unfold State.fwOwner
  try dsimp only
  with_reducible repeat' first
    | assumption
    | apply Kept.ite
    | apply State.ctxBar_kept
    | apply State.fbFault_kept
    | apply State.inFault_kept
    | apply State.portFault_kept
    | apply State.irq_kept
    | apply State.ps_kept
    | apply State.pairFail_kept
    | apply State.psB_kept
    | (apply Sub.of hm; decide)
    | apply InPg.bniP _ (Sub.bit hm (by decide))
    | apply InPg.tbsC (Sub.bit hm (by decide))
    | apply InPg.clgC (Sub.bit hm (by decide))
    | apply InPg.ikwC (Sub.bit hm (by decide))

theorem State.heldApply_kept {m : Nat} {s₀ : State} {x0 : State}
    (h : Kept m s₀ x0) (hm : Sub 0x7d8de280003ef2f m) : Kept m s₀ (State.heldApply x0) := by
  unfold State.heldApply
  extract_lets l src
  refine Kept.foldl (Kept.set_rdm h (Sub.bit hm (by decide)) _ fun _ => by simp) _ _ fun y b hy => ?_
  dsimp only
  exact Kept.ite (State.fwOwner_kept _ (State.fwApply_kept _ _ hy (Sub.of hm (by decide))) (Sub.of hm (by decide))) (State.fwApply_kept _ _ hy (Sub.of hm (by decide)))

theorem State.sleepRes_kept {m : Nat} {s₀ : State} {x0 : State} (x1 : Nat)
    (h : Kept m s₀ x0) (hm : Sub 0xc2000000001 m) : Kept m s₀ (State.sleepRes x0 x1) := by
  unfold State.sleepRes
  try dsimp only
  with_reducible repeat' first
    | assumption
    | apply Kept.ite
    | apply State.p_kept
    | apply State.irq_kept
    | (apply Sub.of hm; decide)
    | (apply InPg.at (InPg.pcrC (Sub.bit hm (by decide))) (by first | decide | assumption | (dsimp only; decide)))
    | apply InPg.pcrC (Sub.bit hm (by decide))

theorem State.sleepReq_kept {m : Nat} {s₀ : State} {x0 : State} (x1 : Nat) (x2 : Nat)
    (h : Kept m s₀ x0) (hm : Sub 0x2c2000000001 m) : Kept m s₀ (State.sleepReq x0 x1 x2) := by
  unfold State.sleepReq
  try dsimp only
  with_reducible repeat' first
    | assumption
    | apply Kept.ite
    | apply State.sleepRes_kept
    | (apply Sub.of hm; decide)
    | (apply Sub.bit hm; decide)
    | (fail_if_no_progress apply Kept.set_pcr)
    | (fail_if_no_progress apply Kept.mk')

theorem State.sleepIn_kept {m : Nat} {s₀ : State} {x0 : State} (x1 : Power)
    (h : Kept m s₀ x0) (hm : Sub 0x102200000000889 m) : Kept m s₀ (State.sleepIn x0 x1) := by
  unfold State.sleepIn
  try dsimp only
  with_reducible repeat' first
    | assumption
    | apply Kept.ite
    | apply State.fbValidate_kept
    | apply State.ps_kept
    | apply State.setFb_kept
    | apply State.setGate_kept
    | apply State.rail_kept
    | apply State.keeper_kept
    | apply State.clkOk_kept
    | (apply Sub.of hm; decide)
    | (apply Sub.bit hm; decide)
    | apply InPg.fbP _ (Sub.bit hm (by decide))
    | apply Kept.foldl
    | (fail_if_no_progress apply Kept.set_pcr)
    | (fail_if_no_progress apply Kept.mk')
    | intro _ _ _

theorem State.standbyIn_kept {m : Nat} {s₀ : State} {x0 : State}
    (h : Kept m s₀ x0) (hm : Sub 0x1822c2000000899 m) : Kept m s₀ (State.standbyIn x0) := by
  unfold State.standbyIn
  try dsimp only
  with_reducible repeat' first
    | assumption
    | apply Kept.ite
    | apply State.p_kept
    | apply State.setDoor_kept
    | apply State.sleepIn_kept
    | apply State.setDom_kept
    | apply State.arcShow_kept
    | (apply Sub.of hm; decide)
    | (apply InPg.at (InPg.memC (Sub.bit hm (by decide))) (by first | decide | assumption | (dsimp only; decide)))
    | apply Kept.foldl
    | intro _ _ _

theorem State.hibernateIn_kept {m : Nat} {s₀ : State} {x0 : State}
    (h : Kept m s₀ x0) (hm : Sub 0xffefffa8003ffff m) : Kept m s₀ (State.hibernateIn x0) := by
  unfold State.hibernateIn
  try dsimp only
  with_reducible repeat' first
    | assumption
    | apply State.sleepIn_kept
    | apply State.capture_kept
    | apply State.clkOk_kept
    | apply State.domLose_kept
    | apply State.setDom_kept
    | apply State.arcShow_kept
    | (apply Sub.of hm; decide)
    | (apply Sub.bit hm; decide)
    | apply Kept.foldl
    | (fail_if_no_progress apply Kept.set_memc)
    | (fail_if_no_progress apply Kept.set_pcr)
    | (fail_if_no_progress apply Kept.mk')
    | intro _ _ _

theorem State.wakeStart_kept {m : Nat} {s₀ : State} {x0 : State} (x1 : Nat)
    (h : Kept m s₀ x0) (hm : Sub 0x200000000001 m) : Kept m s₀ (State.wakeStart x0 x1) := by
  unfold State.wakeStart
  try dsimp only
  with_reducible repeat' first
    | assumption
    | apply State.p_kept
    | (apply Sub.of hm; decide)
    | (apply Sub.bit hm; decide)
    | (apply InPg.at (InPg.pcrC (Sub.bit hm (by decide))) (by first | decide | assumption | (dsimp only; decide)))
    | (fail_if_no_progress apply Kept.set_pcr)
    | (fail_if_no_progress apply Kept.mk')

theorem State.shiftTimers_kept {m : Nat} {s₀ : State} {x0 : State} (x1 : Nat)
    (h : Kept m s₀ x0) (hm : Sub 0x8b04e0000000000 m) : Kept m s₀ (State.shiftTimers x0 x1) := by
  unfold State.shiftTimers
  try dsimp only
  with_reducible repeat' first
    | assumption
    | (apply Or.inl; apply Sub.bit hm; decide)
    | (apply Or.inr; rfl)
    | (fail_if_no_progress apply Kept.set_bnis)
    | (fail_if_no_progress apply Kept.set_dlks)
    | (fail_if_no_progress apply Kept.set_doors)
    | (fail_if_no_progress apply Kept.set_hoist)
    | (fail_if_no_progress apply Kept.set_memc)
    | (fail_if_no_progress apply Kept.set_pair0)
    | (fail_if_no_progress apply Kept.set_pair1)
    | (fail_if_no_progress apply Kept.set_rdm)
    | (fail_if_no_progress apply Kept.mk')
    | exact fun hx => hx

theorem State.wakeEnd_kept {m : Nat} {s₀ : State} {x0 : State} (x1 : Nat) (x2 : Nat)
    (h : Kept m s₀ x0) (hm : Sub 0x7d8fe280003ef2f m) : Kept m s₀ (State.wakeEnd x0 x1 x2) := by
  unfold State.wakeEnd
  try dsimp only
  with_reducible repeat' first
    | assumption
    | apply State.p_kept
    | apply State.heldApply_kept
    | apply State.ikwOffer_kept
    | apply State.irq_kept
    | (apply Sub.of hm; decide)
    | (apply Sub.bit hm; decide)
    | (apply InPg.at (InPg.pcrC (Sub.bit hm (by decide))) (by first | decide | assumption | (dsimp only; decide)))
    | apply InPg.pcrC (Sub.bit hm (by decide))
    | (fail_if_no_progress apply Kept.set_pcr)
    | (fail_if_no_progress apply Kept.mk')

theorem State.standbyOut_kept {m : Nat} {s₀ : State} {x0 : State}
    (h : Kept m s₀ x0) (hm : Sub 0xff8fe280003ff3f m) : Kept m s₀ (State.standbyOut x0) := by
  unfold State.standbyOut
  try dsimp only
  with_reducible repeat' first
    | assumption
    | apply Kept.ite
    | apply State.railOpp_kept
    | apply State.shiftTimers_kept
    | apply State.keeper_kept
    | apply State.clkOk_kept
    | apply State.setDom_kept
    | apply State.p_kept
    | apply State.setDoor_kept
    | apply State.setDlk_kept
    | apply State.setLst_kept
    | apply State.wakeEnd_kept
    | apply State.arcShow_kept
    | (apply Sub.of hm; decide)
    | (apply InPg.at (InPg.memC (Sub.bit hm (by decide))) (by first | decide | assumption | (dsimp only; decide)))
    | apply Kept.foldl
    | intro _ _ _

theorem State.netWake_kept {m : Nat} {s₀ : State} {x0 : State}
    (h : Kept m s₀ x0) (hm : Sub 0x6005c280000e00a m) : Kept m s₀ (State.netWake x0) := by
  unfold State.netWake
  try dsimp only
  with_reducible repeat' first
    | assumption
    | apply Kept.ite
    | apply State.ikwOffer_kept
    | apply State.ps_kept
    | apply State.portIntegrate_kept
    | apply State.qEvent_kept
    | apply State.ctxStart_kept
    | apply State.tbsShow_kept
    | apply State.irq_kept
    | (apply Sub.of hm; decide)
    | apply InPg.clgC (Sub.bit hm (by decide))
    | apply InPg.cveC (Sub.bit hm (by decide))
    | apply Kept.foldl
    | intro _ _ _

theorem State.hibernateOut_kept {m : Nat} {s₀ : State} {x0 : State} (x1 : Bool)
    (h : Kept m s₀ x0) (hm : Sub 0xffefffa8003ffff m) : Kept m s₀ (State.hibernateOut x0 x1) := by
  unfold State.hibernateOut
  try dsimp only
  with_reducible repeat' first
    | assumption
    | apply Kept.ite
    | apply State.oppBoot_kept
    | apply State.keeper_kept
    | apply State.reseed_kept
    | apply State.clkOk_kept
    | apply State.locksClose_kept
    | apply State.domPower_kept
    | apply State.restore_kept
    | apply State.ps_kept
    | apply State.fabStart_kept
    | apply State.netWake_kept
    | apply State.motMirror_kept
    | apply State.wakeEnd_kept
    | apply State.arcShow_kept
    | (apply Sub.of hm; decide)
    | apply InPg.pcrC (Sub.bit hm (by decide))
    | apply Kept.foldl
    | intro _ _ _

theorem State.limpEntry_kept {m : Nat} {s₀ : State} {x0 : State}
    (h : Kept m s₀ x0) (hm : Sub 0xffefffa8003ffff m) : Kept m s₀ (State.limpEntry x0) := by
  unfold State.limpEntry
  try dsimp only
  with_reducible repeat' first
    | assumption
    | apply Kept.ite
    | apply State.irq_kept
    | apply State.p_kept
    | apply State.ps_kept
    | apply State.laneDone_kept
    | apply State.laneLatchAll_kept
    | apply State.ikwOffer_kept
    | apply State.setDom_kept
    | apply State.domClear_kept
    | apply State.railOpp_kept
    | apply State.keeper_kept
    | (apply Sub.of hm; decide)
    | (apply InPg.at (InPg.pcrC (Sub.bit hm (by decide))) (by first | decide | assumption | (dsimp only; decide)))
    | apply InPg.pcrC (Sub.bit hm (by decide))
    | apply InPg.tbsC (Sub.bit hm (by decide))
    | apply Kept.foldl
    | intro _ _ _
    | intro _ _

theorem State.supplyFault_kept {m : Nat} {s₀ : State} {x0 : State} (x1 : Nat)
    (h : Kept m s₀ x0) (hm : Sub 0xffefffa8003ffff m) : Kept m s₀ (State.supplyFault x0 x1) := by
  unfold State.supplyFault
  try dsimp only
  with_reducible repeat' first
    | assumption
    | apply Kept.ite
    | apply State.reseed_kept
    | apply State.clkOk_kept
    | apply State.rstCause_kept
    | apply State.inc_kept
    | apply State.irq_kept
    | apply State.fwOccur_kept
    | apply State.heldApply_kept
    | apply State.resetSwitched_kept
    | apply State.rstRecord_kept
    | apply State.ikwOffer_kept
    | apply State.laneDone_kept
    | apply State.laneLatchAll_kept
    | (apply Sub.of hm; decide)
    | apply InPg.pcrC (Sub.bit hm (by decide))
    | apply full_at hm
    | intro _ _

theorem State.posSet_kept {m : Nat} {s₀ : State} {x0 : State} (x1 : Nat) (x2 : Word)
    (h : Kept m s₀ x0) (hm : Sub 0x9a0c2000000f00 m) : Kept m s₀ (State.posSet x0 x1 x2) := by
  unfold State.posSet
  try dsimp only
  with_reducible repeat' first
    | assumption
    | apply State.settle_kept
    | apply State.setOrigin_kept
    | apply State.wr_kept
    | (apply Sub.of hm; decide)
    | (apply InPg.at (InPg.fbP _ (Sub.bit hm (by decide))) (by first | decide | assumption | (dsimp only; decide)))

theorem State.tpCheck_kept {m : Nat} {s₀ : State} {x0 : State} (x1 : Nat) (x2 : Nat) (x3 : Nat) (x4 : Nat) (x5 : Nat) (x6 : Nat) (x7 : Nat)
    (h : Kept m s₀ x0) (hm : Sub 0x1000c2000000020 m) : Kept m s₀ (State.tpCheck x0 x1 x2 x3 x4 x5 x6 x7) := by
  unfold State.tpCheck
  try dsimp only
  with_reducible repeat' first
    | assumption
    | apply Kept.ite
    | apply State.inFault_kept
    | apply State.inc_kept
    | (apply Sub.of hm; decide)
    | (apply InPg.at (InPg.inP _ (Sub.bit hm (by decide))) (by first | decide | assumption | (dsimp only; decide)))

theorem State.tpLane_kept {m : Nat} {s₀ : State} {x0 : State} (x1 : Nat) (x2 : Nat) (x3 : Nat) (x4 : Nat) (x5 : Nat) (x6 : Nat)
    (h : Kept m s₀ x0) (hm : Sub 0x1000c2000000020 m) : Kept m s₀ (State.tpLane x0 x1 x2 x3 x4 x5 x6) := by
  unfold State.tpLane
  try dsimp only
  with_reducible repeat' first
    | assumption
    | apply Kept.ite
    | apply State.tpCheck_kept
    | apply State.irq_kept
    | apply State.setTpFault_kept
    | apply State.inFault_kept
    | (apply Sub.of hm; decide)
    | apply InPg.sioC (Sub.bit hm (by decide))
    | apply Kept.foldl
    | intro _ _ _

theorem State.sioInReset_kept {m : Nat} {s₀ : State} {x0 : State} (x1 : Word)
    (h : Kept m s₀ x0) (hm : Sub 0x100000000000000 m) : Kept m s₀ (State.sioInReset x0 x1) := by
  unfold State.sioInReset
  try dsimp only
  with_reducible repeat' first
    | assumption
    | (apply Sub.bit hm; decide)
    | (fail_if_no_progress apply Kept.set_safe)
    | (fail_if_no_progress apply Kept.mk')

theorem State.sioOutReset_kept {m : Nat} {s₀ : State} {x0 : State} (x1 : Word)
    (h : Kept m s₀ x0) (hm : Sub 0x100000000000000 m) : Kept m s₀ (State.sioOutReset x0 x1) := by
  unfold State.sioOutReset
  try dsimp only
  with_reducible repeat' first
    | assumption
    | (apply Sub.bit hm; decide)
    | (fail_if_no_progress apply Kept.set_safe)
    | (fail_if_no_progress apply Kept.mk')

theorem State.ofsCommit_kept {m : Nat} {s₀ : State} {x0 : State} (x1 : Word)
    (h : Kept m s₀ x0) (hm : Sub 0xca000000002 m) : Kept m s₀ (State.ofsCommit x0 x1) := by
  unfold State.ofsCommit
  try dsimp only
  with_reducible repeat' first
    | assumption
    | apply Kept.ite
    | apply State.wr_kept
    | apply State.flt_kept
    | apply State.irq_kept
    | (apply Sub.of hm; decide)
    | (apply Sub.bit hm; decide)
    | (apply InPg.at (InPg.tbsC (Sub.bit hm (by decide))) (by first | decide | assumption | (dsimp only; decide)))
    | apply InPg.tbsC (Sub.bit hm (by decide))
    | (fail_if_no_progress apply Kept.set_tbs)
    | (fail_if_no_progress apply Kept.mk')
    | exact fun hx => hx

theorem State.tbsStatWrite_kept {m : Nat} {s₀ : State} {x0 : State} (x1 : Word)
    (h : Kept m s₀ x0) (hm : Sub 0x2 m) : Kept m s₀ (State.tbsStatWrite x0 x1) := by
  unfold State.tbsStatWrite
  try dsimp only
  with_reducible repeat' first
    | assumption
    | apply Kept.ite
    | apply State.pTs_kept
    | apply State.ps_kept
    | (apply Sub.of hm; decide)
    | (apply InPg.at (InPg.tbsC (Sub.bit hm (by decide))) (by first | decide | assumption | (dsimp only; decide)))
    | apply InPg.tbsC (Sub.bit hm (by decide))

theorem State.syncQueue_kept {m : Nat} {s₀ : State} {x0 : State} (x1 : Nat) (x2 : Nat)
    (h : Kept m s₀ x0) (hm : Sub 0x600810000002002 m) : Kept m s₀ (State.syncQueue x0 x1 x2) := by
  unfold State.syncQueue
  try dsimp only
  with_reducible repeat' first
    | assumption
    | apply Kept.ite
    | apply State.psB_kept
    | apply State.bcSeq_kept
    | apply State.setNet_kept
    | apply State.inc_kept
    | apply State.p_kept
    | apply State.enqueue_kept
    | (apply Sub.of hm; decide)
    | (apply InPg.at (InPg.tbsP _ (Sub.bit hm (by decide))) (by first | decide | assumption | (dsimp only; decide)))
    | apply InPg.tbsP _ (Sub.bit hm (by decide))

theorem State.syncAbandon_kept {m : Nat} {s₀ : State} {x0 : State} (x1 : Nat)
    (h : Kept m s₀ x0) (hm : Sub 0x2001f200000200e m) : Kept m s₀ (State.syncAbandon x0 x1) := by
  unfold State.syncAbandon
  try dsimp only
  with_reducible repeat' first
    | assumption
    | apply Kept.ite
    | apply State.txAbort_kept
    | apply State.setPort_kept
    | apply State.syncLeg_kept
    | apply State.incIrq_kept
    | apply State.fwOccur_kept
    | apply State.irq_kept
    | (apply Sub.of hm; decide)
    | (apply InPg.at (InPg.tbsP _ (Sub.bit hm (by decide))) (by first | decide | assumption | (dsimp only; decide)))
    | apply InPg.tbsP _ (Sub.bit hm (by decide))
    | apply InPg.tbsC (Sub.bit hm (by decide))
    | split

theorem State.oppWrite_kept {m : Nat} {s₀ : State} {x0 : State} (x1 : Word)
    (h : Kept m s₀ x0) (hm : Sub 0x200000000001 m) : Kept m s₀ (State.oppWrite x0 x1) := by
  unfold State.oppWrite
  try dsimp only
  with_reducible repeat' first
    | assumption
    | apply Kept.ite
    | apply State.flt_kept
    | apply State.p_kept
    | (apply Sub.of hm; decide)
    | (apply Sub.bit hm; decide)
    | (apply InPg.at (InPg.pcrC (Sub.bit hm (by decide))) (by first | decide | assumption | (dsimp only; decide)))
    | apply InPg.pcrC (Sub.bit hm (by decide))
    | (fail_if_no_progress apply Kept.set_pcr)
    | (fail_if_no_progress apply Kept.mk')

theorem State.oppDone_kept {m : Nat} {s₀ : State} {x0 : State}
    (h : Kept m s₀ x0) (hm : Sub 0xc2000000001 m) : Kept m s₀ (State.oppDone x0) := by
  unfold State.oppDone
  try dsimp only
  with_reducible repeat' first
    | assumption
    | apply State.irq_kept
    | apply State.p_kept
    | apply State.rail_kept
    | (apply Sub.of hm; decide)
    | (apply InPg.at (InPg.pcrC (Sub.bit hm (by decide))) (by first | decide | assumption | (dsimp only; decide)))
    | apply InPg.pcrC (Sub.bit hm (by decide))

theorem State.oppFail_kept {m : Nat} {s₀ : State} {x0 : State}
    (h : Kept m s₀ x0) (hm : Sub 0xc2000000001 m) : Kept m s₀ (State.oppFail x0) := by
  unfold State.oppFail
  try dsimp only
  with_reducible repeat' first
    | assumption
    | apply Kept.ite
    | apply State.p_kept
    | apply State.irq_kept
    | (apply Sub.of hm; decide)
    | (apply InPg.at (InPg.pcrC (Sub.bit hm (by decide))) (by first | decide | assumption | (dsimp only; decide)))
    | apply InPg.pcrC (Sub.bit hm (by decide))

theorem State.wakeEvent_kept {m : Nat} {s₀ : State} {x0 : State} (x1 : Nat) (x2 : Nat)
    (h : Kept m s₀ x0) (hm : Sub 0x3da00000000b m) : Kept m s₀ (State.wakeEvent x0 x1 x2) := by
  unfold State.wakeEvent
  extract_lets go latch
  have hl : ∀ t, Kept m s₀ t → Kept m s₀ (latch t) := fun t ht => Kept.set_pcr ht (Sub.bit hm (by decide)) _
  clear_value latch
  have hg : ∀ y hib k, Kept m s₀ y → (∀ t, Kept m s₀ t → Kept m s₀ (k t)) → Kept m s₀ (go y hib k) := by
    intro y hib k hy hk
    refine Kept.ite hy ?_
    have ht : Kept m s₀ (if x1 = 0 then y.advanceTo y.wakeDue else y) := Kept.ite (State.advanceTo_kept _ hy (Sub.of hm (by decide))) hy
    exact Kept.ite (hk _ ht) hy
  clear_value go
  split
  · exact hg _ _ _ h fun t ht => State.wakeStart_kept _ ht (Sub.of hm (by decide))
  · exact hg _ _ _ h fun t ht => State.wakeStart_kept _ ht (Sub.of hm (by decide))
  · exact hg _ _ _ h fun t ht => State.wakeStart_kept _ ht (Sub.of hm (by decide))
  · exact hg _ _ _ h hl
  · exact hg _ _ _ h hl
  · exact h

theorem State.wakeFailed_kept {m : Nat} {s₀ : State} {x0 : State} (x1 : Nat)
    (h : Kept m s₀ x0) (hm : Sub 0x1c2000000009 m) : Kept m s₀ (State.wakeFailed x0 x1) := by
  unfold State.wakeFailed
  try dsimp only
  with_reducible repeat' first
    | assumption
    | apply State.ikwOffer_kept
    | apply State.irq_kept
    | (apply Sub.of hm; decide)
    | apply InPg.pcrC (Sub.bit hm (by decide))

theorem State.regNever_kept {m : Nat} {s₀ : State} {x0 : State}
    (h : Kept m s₀ x0) (hm : Sub 0x3c2000000009 m) : Kept m s₀ (State.regNever x0) := by
  unfold State.regNever
  try dsimp only
  with_reducible repeat' first
    | assumption
    | apply State.p_kept
    | apply State.wakeFailed_kept
    | (apply Sub.of hm; decide)
    | (apply Sub.bit hm; decide)
    | (apply InPg.at (InPg.pcrC (Sub.bit hm (by decide))) (by first | decide | assumption | (dsimp only; decide)))
    | (fail_if_no_progress apply Kept.set_pcr)
    | (fail_if_no_progress apply Kept.mk')

theorem State.firstStart_kept {m : Nat} {s₀ : State} {x0 : State}
    (h : Kept m s₀ x0) (hm : Sub 0x1127ea800020bb9 m) : Kept m s₀ (State.firstStart x0) := by
  unfold State.firstStart
  try dsimp only
  with_reducible repeat' first
    | assumption
    | apply State.rstRecord_kept
    | apply State.startUp_kept
    | apply State.lifeLoad_kept
    | (apply Sub.of hm; decide)

theorem State.startEnd_kept {m : Nat} {s₀ : State} {x0 : State}
    (h : Kept m s₀ x0) (hm : Sub 0x1127ea800020bb9 m) : Kept m s₀ (State.startEnd x0) := by
  unfold State.startEnd
  try dsimp only
  with_reducible repeat' first
    | assumption
    | apply State.p_kept
    | apply State.firstStart_kept
    | (apply Sub.of hm; decide)
    | (apply InPg.at (InPg.pcrC (Sub.bit hm (by decide))) (by first | decide | assumption | (dsimp only; decide)))

theorem State.regReady_kept {m : Nat} {s₀ : State} {x0 : State}
    (h : Kept m s₀ x0) (hm : Sub 0x200000000001 m) : Kept m s₀ (State.regReady x0) := by
  unfold State.regReady
  try dsimp only
  with_reducible repeat' first
    | assumption
    | apply Kept.ite
    | apply State.railOpp_kept
    | apply State.rail_kept
    | (apply Sub.of hm; decide)
    | (apply Sub.bit hm; decide)
    | (fail_if_no_progress apply Kept.set_pcr)
    | (fail_if_no_progress apply Kept.mk')

theorem State.pendingAgain_kept {m : Nat} {s₀ : State} {x0 : State} (x1 : List Nat)
    (h : Kept m s₀ x0) (hm : Sub 0x8 m) : Kept m s₀ (State.pendingAgain x0 x1) := by
  unfold State.pendingAgain
  try dsimp only
  with_reducible repeat' first
    | assumption
    | apply Kept.ite
    | apply State.p_kept
    | (apply Sub.of hm; decide)
    | (apply InPg.at (InPg.ikwCodeP _ (Sub.bit hm (by decide))) (by first | decide | assumption | (dsimp only; decide)))
    | apply Kept.foldl
    | intro _ _ _

theorem State.nresetClear_kept {m : Nat} {s₀ : State} {x0 : State}
    (h : Kept m s₀ x0) (hm : Sub 0xffefffa8003ffff m) : Kept m s₀ (State.nresetClear x0) := h.trans (by
    unfold State.nresetClear
    constructor
    case regsWf => exact fun w => Tab.wf_filter _ _ _ w
    case rd => intro a hb; rw [full_at hm a] at hb; cases hb
    case acc => dsimp only; exact id
    case fifo => dsimp only; exact id
    case held => intro _; exact Nat.zero_le _
    all_goals first | rfl | exact id | (intro hb; rw [Sub.bit hm (by decide)] at hb; try cases hb))

theorem State.nreset_kept {m : Nat} {s₀ : State} {x0 : State}
    (h : Kept m s₀ x0) (hm : Sub 0xffefffa8003ffff m) : Kept m s₀ (State.nreset x0) := by
  unfold State.nreset
  try dsimp only
  with_reducible repeat' first
    | assumption
    | apply State.reseed_kept
    | apply State.nresetClear_kept
    | apply State.domClear_kept
    | apply State.arcShow_kept
    | apply State.ikwShow_kept
    | apply State.pendingAgain_kept
    | apply State.p_kept
    | apply State.rstCause_kept
    | (apply Sub.of hm; decide)
    | (apply InPg.at (InPg.pcrP _ (Sub.bit hm (by decide))) (by first | decide | assumption | (dsimp only; decide)))
    | apply Kept.foldl
    | intro _ _ _

theorem State.bootAgain_kept {m : Nat} {s₀ : State} {x0 : State}
    (h : Kept m s₀ x0) (hm : Sub 0x1127ea800020bb9 m) : Kept m s₀ (State.bootAgain x0) := by
  unfold State.bootAgain
  try dsimp only
  with_reducible repeat' first
    | assumption
    | apply Kept.ite
    | apply State.setDom_kept
    | apply State.p_kept
    | apply State.rstRecord_kept
    | apply State.startUp_kept
    | (apply Sub.of hm; decide)
    | (apply InPg.at (InPg.pcrP _ (Sub.bit hm (by decide))) (by first | decide | assumption | (dsimp only; decide)))
    | apply Kept.foldl
    | intro _ _ _

theorem State.porState_kept {m : Nat} {s₀ : State} {x0 : State}
    (h : Kept m s₀ x0) (hm : Sub 0xffefffa8003ffff m) : Kept m s₀ (State.porState x0) := h.trans (by
    unfold State.porState
    constructor
    case memWf => exact fun w => Tab.wf_filter _ _ _ w
    case regsWf => exact fun _ => rfl
    case rd => intro a hb; rw [full_at hm a] at hb; cases hb
    case acc => intro _; show 0 < 2 ^ 96; decide
    case fifo => intro _; exact Nat.zero_le _
    case held => intro _; exact Nat.zero_le _
    all_goals first | rfl | exact id | (intro hb; rw [Sub.bit hm (by decide)] at hb; try cases hb))

theorem State.fails_kept {m : Nat} {s₀ : State} {x0 : State} (x1 : Nat)
    (h : Kept m s₀ x0) (hm : Sub 0x1 m) : Kept m s₀ (State.fails x0 x1) := by
  unfold State.fails
  try dsimp only
  with_reducible repeat' first
    | assumption
    | apply Kept.ite
    | apply State.inc_kept
    | (apply Sub.of hm; decide)
    | (apply InPg.at (InPg.pcrC (Sub.bit hm (by decide))) (by first | decide | assumption | (dsimp only; decide)))

theorem State.domWrite_kept {m : Nat} {s₀ : State} {x0 : State} (x1 : Ini) (x2 : Nat) (x3 : Word)
    (h : Kept m s₀ x0) (hm : Sub 0xffefffa8003ffff m) : Kept m s₀ (State.domWrite x0 x1 x2 x3) := by
  unfold State.domWrite
  try dsimp only
  with_reducible repeat' first
    | assumption
    | apply Kept.ite
    | apply State.domPower_kept
    | apply State.p_kept
    | apply State.pairBoot_kept
    | apply State.setDom_kept
    | apply State.domLose_kept
    | apply State.pairFail_kept
    | apply State.flt_kept
    | apply State.clkOk_kept
    | (apply Sub.of hm; decide)
    | (apply InPg.at (InPg.pcrP _ (Sub.bit hm (by decide))) (by first | decide | assumption | (dsimp only; decide)))
    | apply InPg.pcrP _ (Sub.bit hm (by decide))
    | split

theorem State.openLane_kept {m : Nat} {s₀ : State} {x0 : State} (x1 : Nat)
    (h : Kept m s₀ x0) (hm : Sub 0x1000c2000000020 m) : Kept m s₀ (State.openLane x0 x1) := by
  unfold State.openLane
  try dsimp only
  with_reducible repeat' first
    | assumption
    | apply State.setSwitch_kept
    | apply Kept.foldl
    | intro _ _ _

theorem State.setEcc_kept {m : Nat} {s₀ : State} {x0 : State} (x1 : Nat) (x2 : Nat)
    (h : Kept m s₀ x0) (hm : Sub 0x400000000000 m) : Kept m s₀ (State.setEcc x0 x1 x2) := by
  unfold State.setEcc
  try dsimp only
  with_reducible repeat' first
    | assumption
    | (apply Sub.bit hm; decide)
    | (fail_if_no_progress apply Kept.set_memc)
    | (fail_if_no_progress apply Kept.mk')

theorem State.eccCe_kept {m : Nat} {s₀ : State} {x0 : State} (x1 : EccKind) (x2 : Nat)
    (h : Kept m s₀ x0) (hm : Sub 0x5e200000001c m) : Kept m s₀ (State.eccCe x0 x1 x2) := by
  unfold State.eccCe
  refine State.fwOccur_kept _ (State.inc_kept _ _ _ (State.setEcc_kept _ _ h (Sub.of hm (by decide))) (Sub.of hm (by decide)) ?_) (Sub.of hm (by decide))
  exact (InPg.memC (Sub.bit hm (by decide))).at (by cases x1 <;> decide)

theorem State.eccUe_kept {m : Nat} {s₀ : State} {x0 : State} (x1 : EccKind) (x2 : Nat)
    (h : Kept m s₀ x0) (hm : Sub 0x5d85e280002c7fd m) : Kept m s₀ (State.eccUe x0 x1 x2) := by
  unfold State.eccUe
  extract_lets s1
  have hp : InPg m memC := InPg.memC (Sub.bit hm (by decide))
  have k1 : Kept m s₀ s1 := State.irq_kept _ _ (State.wr_kept _ _ (State.inc_kept _ _ _ (State.setEcc_kept _ _ h (Sub.of hm (by decide))) (Sub.of hm (by decide))
    (hp.at (by cases x1 <;> decide))) (Sub.of hm (by decide)) (hp.at (by decide))) (Sub.of hm (by decide)) hp
  clear_value s1
  split
  · exact State.pairFail_kept _ _ k1 (Sub.of hm (by decide))
  · split
    · exact State.pairFail_kept _ _ k1 (Sub.of hm (by decide))
    · split
      · exact State.laneDone_kept _ k1 (Sub.of hm (by decide)) fun y hy => State.laneLatchAll_kept _ _ hy (Sub.of hm (by decide))
      · exact k1

theorem State.eccWord_kept {m : Nat} {s₀ : State} {x0 : State} (x1 : EccKind) (x2 : Nat) (x3 : Nat)
    (h : Kept m s₀ x0) (hm : Sub 0x5d85e280002c7fd m) : Kept m s₀ (State.eccWord x0 x1 x2 x3).2 := by
  unfold State.eccWord
  try dsimp only
  with_reducible repeat' first
    | assumption
    | apply State.eccCe_kept
    | apply State.eccUe_kept
    | (apply Sub.of hm; decide)
    | split

theorem State.eccRead_kept {m : Nat} {s₀ : State} {x0 : State} (x1 : EccKind) (x2 : List Nat) (x3 : Nat)
    (h : Kept m s₀ x0) (hm : Sub 0x5d85e280002c7fd m) : Kept m s₀ (State.eccRead x0 x1 x2 x3).2 := by
  induction x2 generalizing x0 x3 with
  | nil => unfold State.eccRead; exact h
  | cons a l ih =>
    unfold State.eccRead
    exact ih _ (State.eccWord_kept _ _ _ h (Sub.of hm (by decide)))

theorem State.ddrWrite_kept {m : Nat} {s₀ : State} {x0 : State} (x1 : Word)
    (h : Kept m s₀ x0) (hm : Sub 0x4c2000000010 m) : Kept m s₀ (State.ddrWrite x0 x1) := by
  unfold State.ddrWrite
  try dsimp only
  with_reducible repeat' first
    | assumption
    | apply Kept.ite
    | apply State.flt_kept
    | apply State.p_kept
    | apply State.land_kept
    | apply State.psB_kept
    | (apply Sub.of hm; decide)
    | (apply Sub.bit hm; decide)
    | (apply InPg.at (InPg.memC (Sub.bit hm (by decide))) (by first | decide | assumption | (dsimp only; decide)))
    | apply InPg.memC (Sub.bit hm (by decide))
    | (fail_if_no_progress apply Kept.set_memc)
    | (fail_if_no_progress apply Kept.mk')

theorem State.ddrMiB_kept {m : Nat} {s₀ : State} {x0 : State}
    (h : Kept m s₀ x0) (hm : Sub 0x800000000000 m) : Kept m s₀ (State.ddrMiB x0).2 := by
  unfold State.ddrMiB
  try dsimp only
  with_reducible repeat' first
    | assumption
    | apply State.drew_kept
    | apply Kept.ite2

theorem State.xspiWrite_kept {m : Nat} {s₀ : State} {x0 : State} (x1 : Ini) (x2 : Word)
    (h : Kept m s₀ x0) (hm : Sub 0x4c2000000018 m) : Kept m s₀ (State.xspiWrite x0 x1 x2) := by
  unfold State.xspiWrite
  try dsimp only
  with_reducible repeat' first
    | assumption
    | apply Kept.ite
    | apply State.land_kept
    | apply State.flt_kept
    | apply State.arcShow_kept
    | apply State.psB_kept
    | (apply Sub.of hm; decide)
    | (apply Sub.bit hm; decide)
    | (apply InPg.at (InPg.memC (Sub.bit hm (by decide))) (by first | decide | assumption | (dsimp only; decide)))
    | apply InPg.memC (Sub.bit hm (by decide))
    | (fail_if_no_progress apply Kept.set_memc)
    | (fail_if_no_progress apply Kept.mk')

theorem State.otpWrite_kept {m : Nat} {s₀ : State} {x0 : State} (x1 : Word)
    (h : Kept m s₀ x0) (hm : Sub 0x400000000010 m) : Kept m s₀ (State.otpWrite x0 x1) := by
  unfold State.otpWrite
  try dsimp only
  with_reducible repeat' first
    | assumption
    | apply Kept.ite
    | apply State.flt_kept
    | apply State.wr_kept
    | apply State.p_kept
    | (apply Sub.of hm; decide)
    | (apply Sub.bit hm; decide)
    | (apply InPg.at (InPg.memC (Sub.bit hm (by decide))) (by first | decide | assumption | (dsimp only; decide)))
    | apply InPg.memC (Sub.bit hm (by decide))
    | (fail_if_no_progress apply Kept.set_memc)
    | (fail_if_no_progress apply Kept.mk')

theorem State.arbWrite_kept {m : Nat} {s₀ : State} {x0 : State} (x1 : Word)
    (h : Kept m s₀ x0) (hm : Sub 0xc2800000010 m) : Kept m s₀ (State.arbWrite x0 x1) := by
  unfold State.arbWrite
  try dsimp only
  with_reducible repeat' first
    | assumption
    | apply Kept.ite
    | apply State.wr_kept
    | apply State.mput_kept
    | apply State.irq_kept
    | apply State.p_kept
    | (apply Sub.of hm; decide)
    | (apply InPg.at (InPg.memC (Sub.bit hm (by decide))) (by first | decide | assumption | (dsimp only; decide)))
    | apply InPg.memC (Sub.bit hm (by decide))

theorem State.bootSelWrite_kept {m : Nat} {s₀ : State} {x0 : State} (x1 : Word)
    (h : Kept m s₀ x0) (hm : Sub 0x4c2800000010 m) : Kept m s₀ (State.bootSelWrite x0 x1) := by
  unfold State.bootSelWrite
  try dsimp only
  with_reducible repeat' first
    | assumption
    | apply State.land_kept
    | apply State.mputEcc_kept
    | (apply Sub.of hm; decide)
    | (apply InPg.at (InPg.memC (Sub.bit hm (by decide))) (by first | decide | assumption | (dsimp only; decide)))

theorem State.attWrite_kept {m : Nat} {s₀ : State} {x0 : State} (x1 : Word)
    (h : Kept m s₀ x0) (hm : Sub 0x400000000010 m) : Kept m s₀ (State.attWrite x0 x1) := by
  unfold State.attWrite
  try dsimp only
  with_reducible repeat' first
    | assumption
    | apply Kept.ite
    | apply State.flt_kept
    | apply State.psB_kept
    | (apply Sub.of hm; decide)
    | (apply Sub.bit hm; decide)
    | apply InPg.memC (Sub.bit hm (by decide))
    | (fail_if_no_progress apply Kept.set_memc)
    | (fail_if_no_progress apply Kept.mk')

theorem State.drawChal_kept {m : Nat} {s₀ : State} {x0 : State}
    (h : Kept m s₀ x0) (hm : Sub 0xc00000000010 m) : Kept m s₀ (State.drawChal x0) := by
  unfold State.drawChal
  extract_lets ws src memcSrc s1
  have k1 : Kept m s₀ s1 := Kept.set_memc (State.drew_kept _ h (Sub.of hm (by decide))) (Sub.bit hm (by decide)) _
  clear_value s1
  refine Kept.foldl_mem k1 _ _ fun y b hb hy => ?_
  have := List.mem_range.1 hb
  exact State.wr_kept _ _ hy (Sub.of hm (by decide)) (by rw [Nat.add_assoc]; exact (InPg.memC (Sub.bit hm (by decide))).at (by omega))

theorem State.refuseChal_kept {m : Nat} {s₀ : State} {x0 : State}
    (h : Kept m s₀ x0) (hm : Sub 0x400000000010 m) : Kept m s₀ (State.refuseChal x0) := by
  unfold State.refuseChal
  refine Kept.foldl_mem (Kept.set_memc h (Sub.bit hm (by decide)) _) _ _ fun y b hb hy => ?_
  have := List.mem_range.1 hb
  exact State.wr_kept _ _ hy (Sub.of hm (by decide)) (by rw [Nat.add_assoc]; exact (InPg.memC (Sub.bit hm (by decide))).at (by omega))

theorem State.dbgSubmit_kept {m : Nat} {s₀ : State} {x0 : State} (x1 : Word)
    (h : Kept m s₀ x0) (hm : Sub 0x400000000010 m) : Kept m s₀ (State.dbgSubmit x0 x1) := by
  unfold State.dbgSubmit
  try dsimp only
  with_reducible repeat' first
    | assumption
    | apply Kept.ite
    | apply State.wr_kept
    | apply State.flt_kept
    | (apply Sub.of hm; decide)
    | (apply Sub.bit hm; decide)
    | (apply InPg.at (InPg.memC (Sub.bit hm (by decide))) (by first | decide | assumption | (dsimp only; decide)))
    | apply InPg.memC (Sub.bit hm (by decide))
    | (fail_if_no_progress apply Kept.set_memc)
    | (fail_if_no_progress apply Kept.mk')

theorem State.setBni_kept {m : Nat} {s₀ : State} {x0 : State} (x1 : Nat) (x2 : Bni)
    (h : Kept m s₀ x0) (hm : Sub 0x800000000000000 m) : Kept m s₀ (State.setBni x0 x1 x2) := by
  unfold State.setBni
  try dsimp only
  with_reducible repeat' first
    | assumption
    | (apply Sub.bit hm; decide)
    | (fail_if_no_progress apply Kept.set_bnis)
    | (fail_if_no_progress apply Kept.mk')

theorem State.setLink_kept {m : Nat} {s₀ : State} {x0 : State} (x1 : Nat) (x2 : Bool)
    (h : Kept m s₀ x0) (hm : Sub 0x1e200001000c m) : Kept m s₀ (State.setLink x0 x1 x2) := by
  unfold State.setLink
  try dsimp only
  with_reducible repeat' first
    | assumption
    | apply Kept.ite
    | apply State.irq_kept
    | apply State.psB_kept
    | apply State.fwOccur_kept
    | apply State.ps_kept
    | (apply Sub.of hm; decide)
    | apply InPg.bniP _ (Sub.bit hm (by decide))

theorem State.dmaEcc_kept {m : Nat} {s₀ : State} {x0 : State} (x1 : Nat) (x2 : List Nat)
    (h : Kept m s₀ x0) (hm : Sub 0x5d85e280002c7fd m) : Kept m s₀ (State.dmaEcc x0 x1 x2).2 := by
  unfold State.dmaEcc
  try dsimp only
  with_reducible repeat' first
    | assumption
    | apply State.eccRead_kept
    | apply Kept.ite2

theorem State.dmaRead_kept {m : Nat} {s₀ : State} {x0 : State} (x1 : Nat) (x2 : Nat)
    (h : Kept m s₀ x0) (hm : Sub 0x5d85e280002c7fd m) : Kept m s₀ (State.dmaRead x0 x1 x2).2 := by
  unfold State.dmaRead
  try dsimp only
  with_reducible repeat' first
    | assumption
    | apply State.dmaEcc_kept
    | apply Kept.ite2

theorem State.dmaWrite_kept {m : Nat} {s₀ : State} {x0 : State} (x1 : Nat) (x2 : List Nat)
    (h : Kept m s₀ x0) (hm : Sub 0x5d85e280002c7fd m) : Kept m s₀ (State.dmaWrite x0 x1 x2).2 := by
  unfold State.dmaWrite
  try dsimp only
  with_reducible repeat' first
    | assumption
    | apply State.dmaEcc_kept
    | apply State.mputEcc_kept
    | (apply Sub.of hm; decide)
    | apply Kept.ite2

theorem State.ringNext_kept {m : Nat} {s₀ : State} {x0 : State} (x1 : Nat) (x2 : Nat)
    (h : Kept m s₀ x0) (hm : Sub 0x10000 m) : Kept m s₀ (State.ringNext x0 x1 x2) := by
  unfold State.ringNext
  try dsimp only
  with_reducible repeat' first
    | assumption
    | apply State.p_kept
    | (apply Sub.of hm; decide)
    | (apply InPg.at (InPg.ringP _ _ (Sub.bit hm (by decide))) (by first | decide | assumption | (dsimp only; decide)))

theorem State.descBack_kept {m : Nat} {s₀ : State} {x0 : State} (x1 : Nat) (x2 : Nat) (x3 : Nat) (x4 : Bool) (x5 : Option Nat)
    (h : Kept m s₀ x0) (hm : Sub 0x400800010000 m) : Kept m s₀ (State.descBack x0 x1 x2 x3 x4 x5) := by
  unfold State.descBack
  try dsimp only
  with_reducible repeat' first
    | assumption
    | apply Kept.ite
    | apply State.mput_kept
    | apply State.mputEcc_kept
    | apply State.ringNext_kept
    | (apply Sub.of hm; decide)
    | split

theorem State.dmaErr_kept {m : Nat} {s₀ : State} {x0 : State} (x1 : Nat) (x2 : Nat)
    (h : Kept m s₀ x0) (hm : Sub 0x4c2800010000 m) : Kept m s₀ (State.dmaErr x0 x1 x2) := by
  unfold State.dmaErr
  try dsimp only
  with_reducible repeat' first
    | assumption
    | apply State.descBack_kept
    | apply State.irq_kept
    | apply State.inc_kept
    | (apply Sub.of hm; decide)
    | (apply InPg.at (InPg.bniP _ (Sub.bit hm (by decide))) (by first | decide | assumption | (dsimp only; decide)))
    | apply InPg.bniP _ (Sub.bit hm (by decide))

theorem State.rxTake_kept {m : Nat} {s₀ : State} {x0 : State} (x1 : Nat) (x2 : Nat)
    (h : Kept m s₀ x0) (hm : Sub 0x800000000000000 m) : Kept m s₀ (State.rxTake x0 x1 x2) := by
  unfold State.rxTake
  try dsimp only
  with_reducible repeat' first
    | assumption
    | apply State.setBni_kept

theorem State.ethStore_kept {m : Nat} {s₀ : State} {x0 : State} (x1 : Nat) (x2 : Nat) (x3 : List Nat)
    (h : Kept m s₀ x0) (hm : Sub 0xdd85e280003c7fd m) : Kept m s₀ (State.ethStore x0 x1 x2 x3) := by
  unfold State.ethStore
  try dsimp only
  with_reducible repeat' first
    | assumption
    | apply Kept.ite
    | apply State.dmaRead_kept
    | apply State.dmaErr_kept
    | apply State.dmaWrite_kept
    | apply State.rxTake_kept
    | apply State.descBack_kept
    | apply State.irq_kept
    | apply State.inc_kept
    | (apply Sub.of hm; decide)
    | (apply InPg.at (InPg.bniP _ (Sub.bit hm (by decide))) (by first | decide | assumption | (dsimp only; decide)))
    | apply InPg.bniP _ (Sub.bit hm (by decide))

theorem State.rxFrame_kept {m : Nat} {s₀ : State} {x0 : State} (x1 : Nat) (x2 : List Nat)
    (h : Kept m s₀ x0) (hm : Sub 0xdd85e280003c7fd m) : Kept m s₀ (State.rxFrame x0 x1 x2) := by
  unfold State.rxFrame
  try dsimp only
  with_reducible repeat' first
    | assumption
    | apply Kept.ite
    | apply State.setBni_kept
    | apply State.incIrq_kept
    | apply State.ethStore_kept
    | (apply Sub.of hm; decide)
    | (apply InPg.at (InPg.bniP _ (Sub.bit hm (by decide))) (by first | decide | assumption | (dsimp only; decide)))
    | apply InPg.bniP _ (Sub.bit hm (by decide))
    | split

theorem State.credits_kept {m : Nat} {s₀ : State} {x0 : State} (x1 : Nat)
    (h : Kept m s₀ x0) (hm : Sub 0x800000000000000 m) : Kept m s₀ (State.credits x0 x1) := by
  unfold State.credits
  try dsimp only
  with_reducible repeat' first
    | assumption
    | apply State.setBni_kept

theorem State.txFrame_kept {m : Nat} {s₀ : State} {x0 : State} (x1 : Nat) (x2 : Nat) (x3 : Bool)
    (h : Kept m s₀ x0) (hm : Sub 0xdd85e280003c7fd m) : Kept m s₀ (State.txFrame x0 x1 x2 x3) := by
  unfold State.txFrame
  try dsimp only
  with_reducible repeat' first
    | assumption
    | apply Kept.ite
    | apply State.dmaRead_kept
    | apply State.irq_kept
    | apply State.dmaErr_kept
    | apply State.descBack_kept
    | apply State.credits_kept
    | apply State.setBni_kept
    | apply State.inc_kept
    | (apply Sub.of hm; decide)
    | (apply InPg.at (InPg.bniP _ (Sub.bit hm (by decide))) (by first | decide | assumption | (dsimp only; decide)))
    | apply InPg.bniP _ (Sub.bit hm (by decide))

theorem State.ringFlush_kept {m : Nat} {s₀ : State} (x0 : Nat) (x1 : Nat) (x2 : Nat) {x3 : State}
    (h : Kept m s₀ x3) (hm : Sub 0x4c2800010000 m) : Kept m s₀ (State.ringFlush x0 x1 x2 x3) := by
  induction x2 generalizing x3 with
  | zero => unfold State.ringFlush; exact h
  | succ n ih =>
    unfold State.ringFlush
    split
    · exact h
    · dsimp only
      split
      · exact ih (State.irq_kept _ _ (State.descBack_kept _ _ _ _ _ h (Sub.of hm (by decide))) (Sub.of hm (by decide)) (InPg.bniP _ (Sub.bit hm (by decide))))
      · exact ih (State.descBack_kept _ _ _ _ _ h (Sub.of hm (by decide)))

theorem State.bniCtrl_kept {m : Nat} {s₀ : State} {x0 : State} (x1 : Nat) (x2 : Word)
    (h : Kept m s₀ x0) (hm : Sub 0x8004c2800010000 m) : Kept m s₀ (State.bniCtrl x0 x1 x2) := by
  unfold State.bniCtrl
  try dsimp only
  with_reducible repeat' first
    | assumption
    | apply Kept.ite
    | apply State.land_kept
    | apply State.setBni_kept
    | apply State.ringFlush_kept
    | (apply Sub.of hm; decide)
    | (apply InPg.at (InPg.bniP _ (Sub.bit hm (by decide))) (by first | decide | assumption | (dsimp only; decide)))
    | apply Kept.foldl
    | intro _ _ _

theorem State.bniStatWrite_kept {m : Nat} {s₀ : State} {x0 : State} (x1 : Nat) (x2 : Word)
    (h : Kept m s₀ x0) (hm : Sub 0x10000 m) : Kept m s₀ (State.bniStatWrite x0 x1 x2) := by
  unfold State.bniStatWrite
  try dsimp only
  with_reducible repeat' first
    | assumption
    | apply Kept.ite
    | apply State.flt_kept
    | apply State.ps_kept
    | (apply Sub.of hm; decide)
    | apply InPg.bniP _ (Sub.bit hm (by decide))

theorem State.landUnless_kept {m : Nat} {s₀ : State} {x0 : State} (x1 : Nat) (x2 : Word) (x3 : Bool)
    (h : Kept m s₀ x0) (hm : Sub 0xc2000000000 m) (ha : At m x1) : Kept m s₀ (State.landUnless x0 x1 x2 x3) := by
  unfold State.landUnless
  try dsimp only
  with_reducible repeat' first
    | assumption
    | apply Kept.ite
    | apply State.discard_kept
    | apply State.land_kept
    | (apply Sub.of hm; decide)

theorem State.wPcr_kept {m : Nat} {s₀ : State} {x0 : State} (x1 : Nat) (x2 : Nat) (x3 : Word)
    (h : Kept m s₀ x0) (hm : Sub 0x2c2000000001 m) (ha : At m x1) : Kept m s₀ (State.wPcr x0 x1 x2 x3) := by
  unfold State.wPcr
  try dsimp only
  with_reducible repeat' first
    | assumption
    | apply State.oppWrite_kept
    | apply State.sleepReq_kept
    | apply State.land_kept
    | apply State.landUnless_kept
    | (apply Sub.of hm; decide)
    | split

theorem State.wTbs_kept {m : Nat} {s₀ : State} {x0 : State} (x1 : Nat) (x2 : Nat) (x3 : Word)
    (h : Kept m s₀ x0) (hm : Sub 0xca000000002 m) (ha : At m x1) : Kept m s₀ (State.wTbs x0 x1 x2 x3) := by
  unfold State.wTbs
  try dsimp only
  with_reducible repeat' first
    | assumption
    | apply State.tbsStatWrite_kept
    | apply State.landUnless_kept
    | apply State.ofsCommit_kept
    | apply State.land_kept
    | (apply Sub.of hm; decide)
    | split

theorem State.wRdm_kept {m : Nat} {s₀ : State} {x0 : State} (x1 : Nat) (x2 : Nat) (x3 : Word)
    (h : Kept m s₀ x0) (hm : Sub 0x4d85e280002c70d m) (ha : At m x1) : Kept m s₀ (State.wRdm x0 x1 x2 x3) := by
  unfold State.wRdm
  try dsimp only
  with_reducible repeat' first
    | assumption
    | apply Kept.ite
    | apply State.pairCtrl_kept
    | apply State.landUnless_kept
    | apply State.quillWrite_kept
    | apply State.land_kept
    | (apply Sub.of hm; decide)
    | split

theorem State.fwClear_kept {m : Nat} {s₀ : State} {x0 : State} (x1 : Nat) (x2 : Word)
    (h : Kept m s₀ x0) (hm : Sub 0x20000000000 m) : Kept m s₀ (State.fwClear x0 x1 x2) := by
  unfold State.fwClear
  try dsimp only
  with_reducible repeat' first
    | assumption
    | apply Kept.ite
    | (apply Sub.bit hm; decide)
    | (fail_if_no_progress apply Kept.set_rdm)
    | (fail_if_no_progress apply Kept.mk')
    | exact fun hx => hx

theorem State.wFw_kept {m : Nat} {s₀ : State} {x0 : State} (x1 : Nat) (x2 : Nat) (x3 : Word)
    (h : Kept m s₀ x0) (hm : Sub 0xe2000000000 m) (ha : At m x1) : Kept m s₀ (State.wFw x0 x1 x2 x3) := by
  unfold State.wFw
  try dsimp only
  with_reducible repeat' first
    | assumption
    | apply State.landUnless_kept
    | apply State.fwPrune_kept
    | apply State.land_kept
    | apply State.fwClear_kept
    | (apply Sub.of hm; decide)
    | split

theorem State.wIkw_kept {m : Nat} {s₀ : State} {x0 : State} (x1 : Ini) (x2 : Nat) (x3 : Nat) (x4 : Word)
    (h : Kept m s₀ x0) (hm : Sub 0x1c2000000008 m) (ha : At m x2) : Kept m s₀ (State.wIkw x0 x1 x2 x3 x4) := by
  unfold State.wIkw
  try dsimp only
  with_reducible repeat' first
    | assumption
    | apply State.ikwCtrl_kept
    | apply State.ikwStatWrite_kept
    | apply State.landUnless_kept
    | apply State.ikwSw_kept
    | apply State.ikwRdIdx_kept
    | apply State.land_kept
    | (apply Sub.of hm; decide)
    | split

theorem State.wMem_kept {m : Nat} {s₀ : State} {x0 : State} (x1 : Ini) (x2 : Nat) (x3 : Nat) (x4 : Word)
    (h : Kept m s₀ x0) (hm : Sub 0x4c2800000018 m) (ha : At m x2) : Kept m s₀ (State.wMem x0 x1 x2 x3 x4) := by
  unfold State.wMem
  try dsimp only
  with_reducible repeat' first
    | assumption
    | apply State.ddrWrite_kept
    | apply State.xspiWrite_kept
    | apply State.bootSelWrite_kept
    | apply State.arbWrite_kept
    | apply State.otpWrite_kept
    | apply State.attWrite_kept
    | apply State.dbgSubmit_kept
    | apply State.land_kept
    | (apply Sub.of hm; decide)
    | split

theorem State.wSio_kept {m : Nat} {s₀ : State} {x0 : State} (x1 : Nat) (x2 : Nat) (x3 : Word)
    (h : Kept m s₀ x0) (hm : Sub 0x1000c2000000000 m) (ha : At m x1) : Kept m s₀ (State.wSio x0 x1 x2 x3) := by
  unfold State.wSio
  try dsimp only
  with_reducible repeat' first
    | assumption
    | apply State.sioInReset_kept
    | apply State.sioOutReset_kept
    | apply State.land_kept
    | (apply Sub.of hm; decide)
    | split

theorem State.wSlp_kept {m : Nat} {s₀ : State} {x0 : State} (x1 : Nat) (x2 : Nat) (x3 : Word)
    (h : Kept m s₀ x0) (hm : Sub 0x1000c2000000040 m) (ha : At m x1) : Kept m s₀ (State.wSlp x0 x1 x2 x3) := by
  unfold State.wSlp
  try dsimp only
  with_reducible repeat' first
    | assumption
    | apply Kept.ite
    | apply State.mbDoor_kept
    | apply State.land_kept
    | (apply Sub.of hm; decide)

theorem State.wSag_kept {m : Nat} {s₀ : State} {x0 : State} (x1 : Nat) (x2 : Nat) (x3 : Word)
    (h : Kept m s₀ x0) (hm : Sub 0x1000c2000000080 m) (ha : At m x1) : Kept m s₀ (State.wSag x0 x1 x2 x3) := by
  unfold State.wSag
  try dsimp only
  with_reducible repeat' first
    | assumption
    | apply State.gateKey_kept
    | apply State.loadAddr_kept
    | apply State.loadData_kept
    | apply State.loadCtrl_kept
    | apply State.safeConfirm_kept
    | apply State.latchClr_kept
    | apply State.land_kept
    | apply State.sagTouch_kept
    | (apply Sub.of hm; decide)
    | split

theorem State.mapGuard_kept {m : Nat} {s₀ : State} {x0 : State} (x1 : Nat) (x2 : Word) (x3 : Bool)
    (h : Kept m s₀ x0) (hm : Sub 0xc2000000100 m) (ha : At m x1) : Kept m s₀ (State.mapGuard x0 x1 x2 x3) := by
  unfold State.mapGuard
  try dsimp only
  with_reducible repeat' first
    | assumption
    | apply Kept.ite
    | apply State.pm_kept
    | apply State.flt_kept
    | apply State.land_kept
    | (apply Sub.of hm; decide)
    | apply InPg.mpgC (Sub.bit hm (by decide))

theorem State.mapStatWrite_kept {m : Nat} {s₀ : State} {x0 : State} (x1 : Word)
    (h : Kept m s₀ x0) (hm : Sub 0x100 m) : Kept m s₀ (State.mapStatWrite x0 x1) := by
  unfold State.mapStatWrite
  try dsimp only
  with_reducible repeat' first
    | assumption
    | apply Kept.ite
    | apply State.pm_kept
    | apply Kept.foldl
    | intro _ _ _

theorem State.wMpgC_kept {m : Nat} {s₀ : State} {x0 : State} (x1 : Nat) (x2 : Nat) (x3 : Word)
    (h : Kept m s₀ x0) (hm : Sub 0x100c2000000300 m) (ha : At m x1) : Kept m s₀ (State.wMpgC x0 x1 x2 x3) := by
  unfold State.wMpgC
  try dsimp only
  with_reducible repeat' first
    | assumption
    | apply Kept.ite
    | apply State.sepShow_kept
    | apply State.mapGuard_kept
    | apply State.mapCtrl_kept
    | apply State.mapStatWrite_kept
    | apply State.land_kept
    | (apply Sub.of hm; decide)

theorem State.wMpg_kept {m : Nat} {s₀ : State} {x0 : State} (x1 : Nat) (x2 : Nat) (x3 : Nat) (x4 : Word)
    (h : Kept m s₀ x0) (hm : Sub 0x980c2000000700 m) (ha : At m x2) : Kept m s₀ (State.wMpg x0 x1 x2 x3 x4) := by
  unfold State.wMpg
  try dsimp only
  with_reducible repeat' first
    | assumption
    | apply State.mpgCtrl_kept
    | apply State.mpgOp_kept
    | apply State.land_kept
    | apply State.xOp_kept
    | apply State.settle_kept
    | apply State.landUnless_kept
    | (apply Sub.of hm; decide)
    | split

theorem State.wSep_kept {m : Nat} {s₀ : State} {x0 : State} (x1 : Nat) (x2 : Nat) (x3 : Word)
    (h : Kept m s₀ x0) (hm : Sub 0xc2000000200 m) (ha : At m x1) : Kept m s₀ (State.wSep x0 x1 x2 x3) := by
  unfold State.wSep
  try dsimp only
  with_reducible repeat' first
    | assumption
    | apply State.sepStatWrite_kept
    | apply State.landUnless_kept
    | apply State.sepShow_kept
    | apply State.land_kept
    | (apply Sub.of hm; decide)
    | split

theorem State.probeInv_kept {m : Nat} {s₀ : State} {x0 : State} (x1 : Nat) (x2 : State)
    (h : Kept m s₀ x0) (hm : Sub 0x800 m) : Kept m s₀ (State.probeInv x0 x1 x2) := by
  unfold State.probeInv
  try dsimp only
  with_reducible repeat' first
    | assumption
    | apply Kept.ite
    | apply State.psB_kept
    | (apply Sub.of hm; decide)
    | apply InPg.fbP _ (Sub.bit hm (by decide))

theorem State.wFb_kept {m : Nat} {s₀ : State} {x0 : State} (x1 : Nat) (x2 : Nat) (x3 : Nat) (x4 : Word)
    (h : Kept m s₀ x0) (hm : Sub 0x9a0c2000000f00 m) (ha : At m x2) : Kept m s₀ (State.wFb x0 x1 x2 x3 x4) := by
  unfold State.wFb
  try dsimp only
  with_reducible repeat' first
    | assumption
    | apply Kept.ite
    | apply State.settle_kept
    | apply State.fbCtrl_kept
    | apply State.fbStatWrite_kept
    | apply State.posSet_kept
    | apply State.probeInv_kept
    | apply State.land_kept
    | apply State.cmpWrite_kept
    | apply State.landUnless_kept
    | (apply Sub.of hm; decide)

theorem State.wPo_kept {m : Nat} {s₀ : State} {x0 : State} (x1 : Nat) (x2 : Nat) (x3 : Word)
    (h : Kept m s₀ x0) (hm : Sub 0xc2000000000 m) (ha : At m x1) : Kept m s₀ (State.wPo x0 x1 x2 x3) := by
  unfold State.wPo
  try dsimp only
  with_reducible repeat' first
    | assumption
    | apply State.landUnless_kept
    | apply State.land_kept
    | split

theorem State.wDlk_kept {m : Nat} {s₀ : State} {x0 : State} (x1 : Nat) (x2 : Nat) (x3 : Nat) (x4 : Word)
    (h : Kept m s₀ x0) (hm : Sub 0x200c2000001000 m) (ha : At m x2) : Kept m s₀ (State.wDlk x0 x1 x2 x3 x4) := by
  unfold State.wDlk
  try dsimp only
  with_reducible repeat' first
    | assumption
    | apply State.dlkCtrl_kept
    | apply State.landUnless_kept
    | apply State.land_kept
    | (apply Sub.of hm; decide)
    | split

theorem State.clgBurst_kept {m : Nat} {s₀ : State} {x0 : State} (x1 : Word)
    (h : Kept m s₀ x0) (hm : Sub 0x401e600000800c m) : Kept m s₀ (State.clgBurst x0 x1) := by
  unfold State.clgBurst
  try dsimp only
  with_reducible repeat' first
    | assumption
    | apply State.clgOp_kept

theorem State.wClg_kept {m : Nat} {s₀ : State} {x0 : State} (x1 : Nat) (x2 : Nat) (x3 : Word)
    (h : Kept m s₀ x0) (hm : Sub 0x405e600000800c m) (ha : At m x1) : Kept m s₀ (State.wClg x0 x1 x2 x3) := by
  unfold State.wClg
  try dsimp only
  with_reducible repeat' first
    | assumption
    | apply State.clgCtrl_kept
    | apply State.clgStatWrite_kept
    | apply State.hiwatShow_kept
    | apply State.landUnless_kept
    | apply State.clgBurst_kept
    | apply State.land_kept
    | (apply Sub.of hm; decide)
    | split

theorem State.wDmc_kept {m : Nat} {s₀ : State} {x0 : State} (x1 : Nat) (x2 : Nat) (x3 : Nat) (x4 : Word)
    (h : Kept m s₀ x0) (hm : Sub 0x801fa00000040e m) (ha : At m x2) : Kept m s₀ (State.wDmc x0 x1 x2 x3 x4) := by
  unfold State.wDmc
  try dsimp only
  with_reducible repeat' first
    | assumption
    | apply Kept.ite
    | apply State.doorCtrl_kept
    | apply State.doorStatWrite_kept
    | apply State.doorCmd_kept
    | apply State.land_kept
    | apply State.landUnless_kept
    | apply State.doorShow_kept
    | apply State.doorNow_kept
    | apply State.doorSignals_kept
    | apply State.sideOut_kept
    | apply State.swLook_kept
    | (apply Sub.of hm; decide)
    | split

theorem State.wTxb_kept {m : Nat} {s₀ : State} {x0 : State} (x1 : Nat) (x2 : Nat) (x3 : Nat) (x4 : Word)
    (h : Kept m s₀ x0) (hm : Sub 0xc2000000000 m) (ha : At m x3) : Kept m s₀ (State.wTxb x0 x1 x2 x3 x4) := by
  unfold State.wTxb
  try dsimp only
  with_reducible repeat' first
    | assumption
    | apply State.landUnless_kept

theorem State.wSbc_kept {m : Nat} {s₀ : State} {x0 : State} (x1 : Nat) (x2 : Nat) (x3 : Nat) (x4 : Word)
    (h : Kept m s₀ x0) (hm : Sub 0x6009d200000600a m) (ha : At m x2) : Kept m s₀ (State.wSbc x0 x1 x2 x3 x4) := by
  unfold State.wSbc
  try dsimp only
  with_reducible repeat' first
    | assumption
    | apply Kept.ite
    | apply State.sbcCtrl_kept
    | apply State.sbcStatWrite_kept
    | apply State.txSelect_kept
    | apply State.txCtrl_kept
    | apply State.wTxb_kept
    | apply State.landUnless_kept
    | apply State.tbsShow_kept
    | (apply Sub.of hm; decide)

theorem State.wCve_kept {m : Nat} {s₀ : State} {x0 : State} (x1 : Nat) (x2 : Nat) (x3 : Word)
    (h : Kept m s₀ x0) (hm : Sub 0x6008c2000006000 m) (ha : At m x1) : Kept m s₀ (State.wCve x0 x1 x2 x3) := by
  unfold State.wCve
  try dsimp only
  with_reducible repeat' first
    | assumption
    | apply State.landUnless_kept
    | apply State.noticeOp_kept
    | apply State.land_kept
    | (apply Sub.of hm; decide)
    | split

theorem State.wCtx_kept {m : Nat} {s₀ : State} {x0 : State} (x1 : Nat) (x2 : Nat) (x3 : Nat) (x4 : Word)
    (h : Kept m s₀ x0) (hm : Sub 0x600cc2800006000 m) (ha : At m x2) : Kept m s₀ (State.wCtx x0 x1 x2 x3 x4) := by
  unfold State.wCtx
  try dsimp only
  with_reducible repeat' first
    | assumption
    | apply State.ctxCtrl_kept
    | apply State.ctxStatWrite_kept
    | apply State.ctxOp_kept
    | apply State.landUnless_kept
    | (apply Sub.of hm; decide)
    | split

theorem State.wBni_kept {m : Nat} {s₀ : State} {x0 : State} (x1 : Nat) (x2 : Nat) (x3 : Nat) (x4 : Word)
    (h : Kept m s₀ x0) (hm : Sub 0x8004c2800010000 m) (ha : At m x2) : Kept m s₀ (State.wBni x0 x1 x2 x3 x4) := by
  unfold State.wBni
  try dsimp only
  with_reducible repeat' first
    | assumption
    | apply Kept.ite
    | apply State.bniCtrl_kept
    | apply State.bniStatWrite_kept
    | apply State.landUnless_kept
    | apply State.land_kept
    | (apply Sub.of hm; decide)

theorem State.wApx_kept {m : Nat} {s₀ : State} {x0 : State} (x1 : Nat) (x2 : Nat) (x3 : Word)
    (h : Kept m s₀ x0) (hm : Sub 0xc2000000000 m) (ha : At m x1) : Kept m s₀ (State.wApx x0 x1 x2 x3) := by
  unfold State.wApx
  try dsimp only
  with_reducible repeat' first
    | assumption
    | apply State.landUnless_kept
    | apply State.land_kept
    | split

theorem State.wWin_kept {m : Nat} {s₀ : State} {x0 : State} (x1 : Nat) (x2 : Nat) (x3 : Nat) (x4 : Word)
    (h : Kept m s₀ x0) (hm : Sub 0x4d85e680002c70d m) (ha : At m x2) : Kept m s₀ (State.wWin x0 x1 x2 x3 x4) := by
  unfold State.wWin
  try dsimp only
  with_reducible repeat' first
    | assumption
    | apply State.winCommit_kept
    | apply State.kick_kept
    | apply State.hello_kept
    | apply State.report_kept
    | apply State.land_kept
    | (apply Sub.of hm; decide)
    | split

theorem State.wCommon_kept {m : Nat} {s₀ : State} {x0 : State} (x1 : Ini) (x2 : Nat) (x3 : Nat) (x4 : Nat) (x5 : Word)
    (h : Kept m s₀ x0) (hm : Sub 0x7d8fee80002efdf m) (ha : At m x3) : Kept m s₀ (State.wCommon x0 x1 x2 x3 x4 x5) := by
  unfold State.wCommon
  try dsimp only
  with_reducible repeat' first
    | assumption
    | apply Kept.ite
    | apply State.wPcr_kept
    | apply State.wTbs_kept
    | apply State.wRdm_kept
    | apply State.wIkw_kept
    | apply State.wMem_kept
    | apply State.wSio_kept
    | apply State.wSlp_kept
    | apply State.wSag_kept
    | apply State.wMpgC_kept
    | apply State.wSep_kept
    | apply State.fbSnap_kept
    | apply State.land_kept
    | apply State.wCve_kept
    | apply State.wClg_kept
    | apply State.wApx_kept
    | (apply Sub.of hm; decide)
    | split

theorem State.wChannel_kept {m : Nat} {s₀ : State} {x0 : State} (x1 : Ini) (x2 : Nat) (x3 : Nat) (x4 : Nat) (x5 : Nat) (x6 : Word)
    (h : Kept m s₀ x0) (hm : Sub 0xffefffa8003ffff m) (ha : At m x4) : Kept m s₀ (State.wChannel x0 x1 x2 x3 x4 x5 x6) := by
  unfold State.wChannel
  try dsimp only
  with_reducible repeat' first
    | assumption
    | apply Kept.ite
    | apply State.domWrite_kept
    | apply State.land_kept
    | apply State.tbsShow_kept
    | apply State.sagTouch_kept
    | apply State.wMpg_kept
    | apply State.wDmc_kept
    | apply State.wFb_kept
    | apply State.wPo_kept
    | apply State.wDlk_kept
    | apply State.wSbc_kept
    | apply State.wCtx_kept
    | apply State.wBni_kept
    | (apply Sub.of hm; decide)
    | split

theorem State.landPage_kept {m : Nat} {s₀ : State} {x0 : State} (x1 : Ini) (x2 : Nat) (x3 : Word)
    (h : Kept m s₀ x0) (hm : Sub 0xffefffa8003ffff m) (ha : At m x2) : Kept m s₀ (State.landPage x0 x1 x2 x3) := by
  unfold State.landPage
  try dsimp only
  with_reducible repeat' first
    | assumption
    | apply Kept.ite
    | apply State.land_kept
    | apply State.sagTouch_kept
    | apply State.wCommon_kept
    | apply State.wChannel_kept
    | apply State.mapGuard_kept
    | apply State.wFw_kept
    | apply State.ikwCodeWrite_kept
    | apply State.wWin_kept
    | (apply Sub.of hm; decide)
    | split

theorem State.landMembers_kept {m : Nat} {s₀ : State} {x0 : State} (x1 : Ini) (x2 : Nat) (x3 : List Nat) (x4 : Nat) (x5 : Word)
    (h : Kept m s₀ x0) (hm : Sub 0xffefffa8003ffff m) : Kept m s₀ (State.landMembers x0 x1 x2 x3 x4 x5) := by
  unfold State.landMembers
  try dsimp only
  with_reducible repeat' first
    | assumption
    | apply Kept.ite
    | apply State.doorCmd_kept
    | apply State.land_kept
    | apply State.breakHalf_kept
    | apply State.landPage_kept
    | (apply Sub.of hm; decide)
    | apply full_at hm
    | apply Kept.foldl
    | intro _ _ _

theorem State.landWrite_kept {m : Nat} {s₀ : State} {x0 : State} (x1 : Ini) (x2 : Nat) (x3 : Word)
    (h : Kept m s₀ x0) (hm : Sub 0xffefffa8003ffff m) (ha : At m x2) : Kept m s₀ (State.landWrite x0 x1 x2 x3) := by
  unfold State.landWrite
  try dsimp only
  with_reducible repeat' first
    | assumption
    | apply State.landMembers_kept
    | apply State.landPage_kept
    | split

theorem State.regWrite_kept {m : Nat} {s₀ : State} {x0 : State} (x1 : Ini) (x2 : Nat) (x3 : Word)
    (h : Kept m s₀ x0) (hm : Sub 0xffefffa8003ffff m) (ha : At m x2) : Kept m s₀ (State.regWrite x0 x1 x2 x3) := by
  unfold State.regWrite
  try dsimp only
  with_reducible repeat' first
    | assumption
    | apply State.onWrite_kept
    | apply State.landWrite_kept
    | (apply Sub.of hm; decide)
    | intro _ _

theorem State.regRead_kept {m : Nat} {s₀ : State} {x0 : State} (x1 : Ini) (x2 : Nat)
    (h : Kept m s₀ x0) (hm : Sub 0xc05000000010 m) : Kept m s₀ (State.regRead x0 x1 x2) := by
  unfold State.regRead
  try dsimp only
  with_reducible repeat' first
    | assumption
    | apply Kept.ite
    | apply State.readReg_kept
    | apply State.refuseChal_kept
    | apply State.drawChal_kept
    | (apply Sub.of hm; decide)

theorem State.putByte_kept {m : Nat} {s₀ : State} {x0 : State} (x1 : Nat) (x2 : Nat)
    (h : Kept m s₀ x0) (hm : Sub 0x40000800000000 m) : Kept m s₀ (State.putByte x0 x1 x2) := by
  unfold State.putByte
  try dsimp only
  with_reducible repeat' first
    | assumption
    | apply Kept.ite
    | apply State.setByte_kept
    | (apply Sub.of hm; decide)
    | (apply Sub.bit hm; decide)
    | (fail_if_no_progress apply Kept.set_clg)
    | (fail_if_no_progress apply Kept.mk')

theorem State.putBytes_kept {m : Nat} {s₀ : State} {x0 : State} (x1 : Nat) (x2 : Nat → Bool) (x3 : List Nat)
    (h : Kept m s₀ x0) (hm : Sub 0x40000800000000 m) : Kept m s₀ (State.putBytes x0 x1 x2 x3) := by
  induction x3 generalizing x0 x1 with
  | nil => unfold State.putBytes; exact h
  | cons b l ih =>
    unfold State.putBytes
    split
    · exact ih _ h
    · exact ih _ (State.putByte_kept _ _ h (Sub.of hm (by decide)))

theorem State.eccPass_kept {m : Nat} {s₀ : State} {x0 : State} (x1 : Region) (x2 : List Nat) (x3 : Nat)
    (h : Kept m s₀ x0) (hm : Sub 0x5d85e280002c7fd m) : Kept m s₀ (State.eccPass x0 x1 x2 x3).2 := by
  unfold State.eccPass
  try dsimp only
  with_reducible repeat' first
    | assumption
    | apply State.eccRead_kept
    | split

theorem State.eccFresh_kept {m : Nat} {s₀ : State} {x0 : State} (x1 : Nat) (x2 : Nat)
    (h : Kept m s₀ x0) (hm : Sub 0x400000000000 m) : Kept m s₀ (State.eccFresh x0 x1 x2) := by
  unfold State.eccFresh
  try dsimp only
  with_reducible repeat' first
    | assumption
    | apply State.setEcc_kept
    | apply Kept.foldl
    | intro _ _ _

theorem State.memRead_kept {m : Nat} {s₀ : State} {x0 : State} (x1 : Ini) (x2 : Region) (x3 : Nat) (x4 : Nat) (x5 : Nat)
    (h : Kept m s₀ x0) (hm : Sub 0x5d8de680002c7fd m) : Kept m s₀ (State.memRead x0 x1 x2 x3 x4 x5) := by
  unfold State.memRead
  have k1 := State.eccPass_kept x2 (eccWords x3 x4) x5 h (Sub.of hm (by decide))
  generalize x0.eccPass x2 (eccWords x3 x4) x5 = e at k1 ⊢
  obtain ⟨bad, s1⟩ := e
  dsimp -zeta only at k1 ⊢
  refine Kept.ite (Kept.set_bus k1 (Sub.bit hm (by decide)) _) ?_
  split
  · exact (by apply Kept.mk' k1 <;> first | exact .inr rfl | exact .inl (Sub.bit hm (by decide)) | exact fun hx => hx)
  · exact State.drew_kept _ (Kept.set_bus k1 (Sub.bit hm (by decide)) _) (Sub.of hm (by decide))

theorem State.localWrite_kept {m : Nat} {s₀ : State} {x0 : State} (x1 : Nat) (x2 : Nat) (x3 : List Nat)
    (h : Kept m s₀ x0) (hm : Sub 0x40000800000004 m) : Kept m s₀ (State.localWrite x0 x1 x2 x3) := by
  unfold State.localWrite
  try dsimp only
  with_reducible repeat' first
    | assumption
    | apply Kept.ite
    | apply State.inc_kept
    | apply State.putBytes_kept
    | (apply Sub.of hm; decide)
    | (apply InPg.at (InPg.qwP _ (Sub.bit hm (by decide))) (by first | decide | assumption | (dsimp only; decide)))
    | apply Kept.foldl
    | intro _ _ _

theorem State.memWrite_kept {m : Nat} {s₀ : State} {x0 : State} (x1 : Ini) (x2 : Region) (x3 : Nat) (x4 : List Nat) (x5 : Nat)
    (h : Kept m s₀ x0) (hm : Sub 0x5d85e680002c7fd m) : Kept m s₀ (State.memWrite x0 x1 x2 x3 x4 x5) := by
  unfold State.memWrite
  have k1 := State.eccPass_kept x2 (partialWords x3 x4.length) x5 h (Sub.of hm (by decide))
  generalize x0.eccPass x2 (partialWords x3 x4.length) x5 = e at k1 ⊢
  obtain ⟨bad, s1⟩ := e
  dsimp -zeta only at k1 ⊢
  refine Kept.ite (Kept.set_bus k1 (Sub.bit hm (by decide)) _) ?_
  have k2 : Kept m s₀ (State.eccFresh { s1 with bus := .done 0 } x3 x4.length) :=
    State.eccFresh_kept _ _ (Kept.set_bus k1 (Sub.bit hm (by decide)) _) (Sub.of hm (by decide))
  generalize State.eccFresh { s1 with bus := .done 0 } x3 x4.length = s2 at k2 ⊢
  dsimp only
  split
  · exact State.localWrite_kept _ _ _ k2 (Sub.of hm (by decide))
  · exact State.putBytes_kept _ _ _ k2 (Sub.of hm (by decide))

theorem State.access_kept {m : Nat} {s₀ : State} {x0 : State} (x1 : Ini) (x2 : Nat) (x3 : MemOp) (x4 : Nat)
    (h : Kept m s₀ x0) (hm : Sub 0xffefffa8003ffff m) : Kept m s₀ (State.access x0 x1 x2 x3 x4) := by
  unfold State.access
  extract_lets bs n blocked
  have kb : ∀ b, Kept m s₀ { x0 with bus := b } := fun b => Kept.set_bus h (Sub.bit hm (by decide)) _
  refine Kept.ite h (Kept.ite (Kept.ite (kb _) ?_) ?_)
  · split
    · exact State.regRead_kept _ _ h (Sub.of hm (by decide))
    · exact State.regWrite_kept _ _ _ h (Sub.of hm (by decide)) (full_at hm _)
  · split
    · exact kb _
    · refine Kept.ite (kb _) ?_
      split
      · exact Kept.ite (State.memRead_kept _ _ _ _ _ h (Sub.of hm (by decide))) (kb _)
      · refine Kept.ite (State.memWrite_kept _ _ _ _ _ h (Sub.of hm (by decide))) (Kept.ite ?_ (kb _))
        exact State.flt_kept _ (kb _) (Sub.of hm (by decide)) (InPg.apxC (Sub.bit hm (by decide)))

theorem State.granted_kept {m : Nat} {s₀ : State} {x0 : State} (x1 : Nat)
    (h : Kept m s₀ x0) (hm : Sub 0x4000000000 m) (ha : At m x1) : Kept m s₀ (State.granted x0 x1) := by
  unfold State.granted
  try dsimp only
  with_reducible repeat' first
    | assumption
    | apply State.breakHalf_kept
    | (apply Sub.of hm; decide)
    | (apply Sub.bit hm; decide)
    | (fail_if_no_progress apply Kept.set_bus)
    | (fail_if_no_progress apply Kept.mk')

end Sys2Proof.Machine
end

