-- ==== Sys2Proof/Laws/KeptCmd.lean ====
section
/-! SUPPORT. What every command keeps, command by command: the masks of `Kept`. -/

set_option linter.unusedTactic false
set_option linter.unreachableTactic false
set_option linter.unusedVariables false

namespace Sys2Proof.Machine
open Sys2Proof

/-- `Kept`, of an outcome: of a next state; anything of a stop. -/
def KeptO (m : Nat) (s : State) : Host.Outcome State Fault Refusal → Prop
  | .next t => Kept m s t
  | _ => True

theorem KeptO.next {m : Nat} {s t : State} (h : Kept m s t) : KeptO m s (.next t) := h

theorem KeptO.ite {m : Nat} {s : State} {c : Prop} [Decidable c] {x y : Host.Outcome State Fault Refusal}
    (h : KeptO m s x) (k : KeptO m s y) : KeptO m s (if c then x else y) := by split <;> assumption

theorem execArmU_kept {m : Nat} {s₀ : State} (x0 : Ini) (x1 : Word) {x2 : State}
    (h : Kept m s₀ x2) (hm : Sub 0x10004000020300 m) : KeptO m s₀ (execArmU x0 x1 x2) := by
  unfold execArmU
  try dsimp only
  with_reducible repeat' first
    | assumption
    | apply KeptO.next
    | apply State.onWrite_kept
    | apply State.mapCtrl_kept
    | (apply Sub.of hm; decide)
    | (apply InPg.at (InPg.mpgC (Sub.bit hm (by decide))) (by first | decide | assumption | (dsimp only; decide)))
    | intro _ _

theorem execArmL_kept {m : Nat} {s₀ : State} (x0 : Ini) (x1 : Word) {x2 : State}
    (h : Kept m s₀ x2) (hm : Sub 0x10004000020300 m) : KeptO m s₀ (execArmL x0 x1 x2) := by
  unfold execArmL
  try dsimp only
  with_reducible repeat' first
    | assumption
    | apply KeptO.next
    | apply State.onWrite_kept
    | apply State.mapCtrl_kept
    | (apply Sub.of hm; decide)
    | (apply InPg.at (InPg.mpgC (Sub.bit hm (by decide))) (by first | decide | assumption | (dsimp only; decide)))
    | intro _ _

theorem execArmCheckDone_kept {m : Nat} {s₀ : State} {x0 : State}
    (h : Kept m s₀ x0) (hm : Sub 0x980c2000000700 m) : KeptO m s₀ (execArmCheckDone x0) := by
  unfold execArmCheckDone
  try dsimp only
  with_reducible repeat' first
    | assumption
    | apply KeptO.next
    | apply Kept.ite
    | apply State.armDone_kept

theorem execDisarmU_kept {m : Nat} {s₀ : State} (x0 : Ini) (x1 : Word) {x2 : State}
    (h : Kept m s₀ x2) (hm : Sub 0x10004000020300 m) : KeptO m s₀ (execDisarmU x0 x1 x2) := by
  unfold execDisarmU
  try dsimp only
  with_reducible repeat' first
    | assumption
    | apply KeptO.next
    | apply State.onWrite_kept
    | apply State.mapCtrl_kept
    | (apply Sub.of hm; decide)
    | (apply InPg.at (InPg.mpgC (Sub.bit hm (by decide))) (by first | decide | assumption | (dsimp only; decide)))
    | intro _ _

theorem execDisarmL_kept {m : Nat} {s₀ : State} (x0 : Ini) (x1 : Word) {x2 : State}
    (h : Kept m s₀ x2) (hm : Sub 0x10004000020300 m) : KeptO m s₀ (execDisarmL x0 x1 x2) := by
  unfold execDisarmL
  try dsimp only
  with_reducible repeat' first
    | assumption
    | apply KeptO.next
    | apply State.onWrite_kept
    | apply State.mapCtrl_kept
    | (apply Sub.of hm; decide)
    | (apply InPg.at (InPg.mpgC (Sub.bit hm (by decide))) (by first | decide | assumption | (dsimp only; decide)))
    | intro _ _

theorem execHoistPeriodBoundary_kept {m : Nat} {s₀ : State} (x0 : Fin 2) {x1 : State}
    (h : Kept m s₀ x1) (hm : Sub 0x9a9fa00000070e m) : KeptO m s₀ (execHoistPeriodBoundary x0 x1) := by
  unfold execHoistPeriodBoundary
  try dsimp only
  with_reducible repeat' first
    | assumption
    | apply KeptO.next
    | apply State.hoistBoundary_kept

theorem execLevelled_kept {m : Nat} {s₀ : State} (x0 : Fin 2) {x1 : State}
    (h : Kept m s₀ x1) (hm : Sub 0x981da00000070a m) : KeptO m s₀ (execLevelled x0 x1) := by
  unfold execLevelled
  try dsimp only
  with_reducible repeat' first
    | assumption
    | apply KeptO.next
    | apply Kept.ite
    | apply State.settle_kept
    | apply State.levelEnd_kept
    | (apply Sub.of hm; decide)

theorem execLevelMiss_kept {m : Nat} {s₀ : State} (x0 : Fin 2) {x1 : State}
    (h : Kept m s₀ x1) (hm : Sub 0x981da00000070a m) : KeptO m s₀ (execLevelMiss x0 x1) := by
  unfold execLevelMiss
  try dsimp only
  with_reducible repeat' first
    | assumption
    | apply KeptO.next
    | apply Kept.ite
    | apply State.settle_kept
    | apply State.missEnd_kept
    | (apply Sub.of hm; decide)

theorem execMpgStop_kept {m : Nat} {s₀ : State} (x0 : Fin 2) (x1 : BitVec 16) {x2 : State}
    (h : Kept m s₀ x2) (hm : Sub 0x980c6000020700 m) : KeptO m s₀ (execMpgStop x0 x1 x2) := by
  unfold execMpgStop
  try dsimp only
  with_reducible repeat' first
    | assumption
    | apply KeptO.next
    | apply State.onPort_kept
    | apply State.mpgOp_kept
    | (apply Sub.of hm; decide)
    | (apply InPg.at (InPg.mpgP _ (Sub.bit hm (by decide))) (by first | decide | assumption | (dsimp only; decide)))
    | intro _ _

theorem execMpgStopRamp_kept {m : Nat} {s₀ : State} (x0 : Fin 2) (x1 : Word) (x2 : Word) (x3 : BitVec 16) {x4 : State}
    (h : Kept m s₀ x4) (hm : Sub 0x980c6000020700 m) : KeptO m s₀ (execMpgStopRamp x0 x1 x2 x3 x4) := by
  unfold execMpgStopRamp
  try dsimp only
  with_reducible repeat' first
    | assumption
    | apply KeptO.next
    | apply State.onPort_kept
    | apply State.mpgOp_kept
    | (apply Sub.of hm; decide)
    | (apply InPg.at (InPg.mpgP _ (Sub.bit hm (by decide))) (by first | decide | assumption | (dsimp only; decide)))
    | intro _ _

theorem execMpgRelevel_kept {m : Nat} {s₀ : State} (x0 : Fin 2) (x1 : BitVec 16) {x2 : State}
    (h : Kept m s₀ x2) (hm : Sub 0x980c6000020700 m) : KeptO m s₀ (execMpgRelevel x0 x1 x2) := by
  unfold execMpgRelevel
  try dsimp only
  with_reducible repeat' first
    | assumption
    | apply KeptO.next
    | apply State.onPort_kept
    | apply State.mpgOp_kept
    | (apply Sub.of hm; decide)
    | (apply InPg.at (InPg.mpgP _ (Sub.bit hm (by decide))) (by first | decide | assumption | (dsimp only; decide)))
    | intro _ _

theorem execHaltClr_kept {m : Nat} {s₀ : State} (x0 : Ini) (x1 : Fin 2) (x2 : Word) {x3 : State}
    (h : Kept m s₀ x3) (hm : Sub 0x980c6000020700 m) : KeptO m s₀ (execHaltClr x0 x1 x2 x3) := by
  unfold execHaltClr
  try dsimp only
  with_reducible repeat' first
    | assumption
    | apply KeptO.next
    | apply State.onWrite_kept
    | apply State.mpgCtrl_kept
    | (apply Sub.of hm; decide)
    | (apply InPg.at (InPg.mpgP _ (Sub.bit hm (by decide))) (by first | decide | assumption | (dsimp only; decide)))
    | intro _ _

theorem execMpgEnable_kept {m : Nat} {s₀ : State} (x0 : Ini) (x1 : Fin 2) (x2 : Word) {x3 : State}
    (h : Kept m s₀ x3) (hm : Sub 0x980c6000020700 m) : KeptO m s₀ (execMpgEnable x0 x1 x2 x3) := by
  unfold execMpgEnable
  try dsimp only
  with_reducible repeat' first
    | assumption
    | apply KeptO.next
    | apply State.onWrite_kept
    | apply State.mpgCtrl_kept
    | (apply Sub.of hm; decide)
    | (apply InPg.at (InPg.mpgP _ (Sub.bit hm (by decide))) (by first | decide | assumption | (dsimp only; decide)))
    | intro _ _

theorem execSepDisagreeClear_kept {m : Nat} {s₀ : State} (x0 : Ini) (x1 : Word) {x2 : State}
    (h : Kept m s₀ x2) (hm : Sub 0x4000020200 m) : KeptO m s₀ (execSepDisagreeClear x0 x1 x2) := by
  unfold execSepDisagreeClear
  try dsimp only
  with_reducible repeat' first
    | assumption
    | apply KeptO.next
    | apply State.onWrite_kept
    | apply State.sepStatWrite_kept
    | (apply Sub.of hm; decide)
    | (apply InPg.at (InPg.sepC (Sub.bit hm (by decide))) (by first | decide | assumption | (dsimp only; decide)))
    | intro _ _

theorem execExeLoad_kept {m : Nat} {s₀ : State} (x0 : Fin 2) (x1 : Fin 64) (x2 : Word) (x3 : Word) (x4 : Word) (x5 : Word) (x6 : BitVec 16) {x7 : State}
    (h : Kept m s₀ x7) (hm : Sub 0x980c6000020700 m) : KeptO m s₀ (execExeLoad x0 x1 x2 x3 x4 x5 x6 x7) := by
  unfold execExeLoad
  try dsimp only
  with_reducible repeat' first
    | assumption
    | apply KeptO.next
    | apply State.onPort_kept
    | apply State.xOp_kept
    | (apply Sub.of hm; decide)
    | (apply InPg.at (InPg.mpgP _ (Sub.bit hm (by decide))) (by first | decide | assumption | (dsimp only; decide)))
    | intro _ _

theorem execExeGo_kept {m : Nat} {s₀ : State} (x0 : Fin 2) (x1 : Fin 64) (x2 : BitVec 16) {x3 : State}
    (h : Kept m s₀ x3) (hm : Sub 0x980c6000020700 m) : KeptO m s₀ (execExeGo x0 x1 x2 x3) := by
  unfold execExeGo
  try dsimp only
  with_reducible repeat' first
    | assumption
    | apply KeptO.next
    | apply State.onPort_kept
    | apply State.xOp_kept
    | (apply Sub.of hm; decide)
    | (apply InPg.at (InPg.mpgP _ (Sub.bit hm (by decide))) (by first | decide | assumption | (dsimp only; decide)))
    | intro _ _

theorem execExeHold_kept {m : Nat} {s₀ : State} (x0 : Fin 2) (x1 : BitVec 16) {x2 : State}
    (h : Kept m s₀ x2) (hm : Sub 0x980c6000020700 m) : KeptO m s₀ (execExeHold x0 x1 x2) := by
  unfold execExeHold
  try dsimp only
  with_reducible repeat' first
    | assumption
    | apply KeptO.next
    | apply State.onPort_kept
    | apply State.xOp_kept
    | (apply Sub.of hm; decide)
    | (apply InPg.at (InPg.mpgP _ (Sub.bit hm (by decide))) (by first | decide | assumption | (dsimp only; decide)))
    | intro _ _

theorem execExeResume_kept {m : Nat} {s₀ : State} (x0 : Fin 2) (x1 : BitVec 16) {x2 : State}
    (h : Kept m s₀ x2) (hm : Sub 0x980c6000020700 m) : KeptO m s₀ (execExeResume x0 x1 x2) := by
  unfold execExeResume
  try dsimp only
  with_reducible repeat' first
    | assumption
    | apply KeptO.next
    | apply State.onPort_kept
    | apply State.xOp_kept
    | (apply Sub.of hm; decide)
    | (apply InPg.at (InPg.mpgP _ (Sub.bit hm (by decide))) (by first | decide | assumption | (dsimp only; decide)))
    | intro _ _

theorem execExeCancel_kept {m : Nat} {s₀ : State} (x0 : Fin 2) (x1 : Word) (x2 : Word) (x3 : BitVec 16) {x4 : State}
    (h : Kept m s₀ x4) (hm : Sub 0x980c6000020700 m) : KeptO m s₀ (execExeCancel x0 x1 x2 x3 x4) := by
  unfold execExeCancel
  try dsimp only
  with_reducible repeat' first
    | assumption
    | apply KeptO.next
    | apply State.onPort_kept
    | apply State.xOp_kept
    | (apply Sub.of hm; decide)
    | (apply InPg.at (InPg.mpgP _ (Sub.bit hm (by decide))) (by first | decide | assumption | (dsimp only; decide)))
    | intro _ _

theorem execExeRelease_kept {m : Nat} {s₀ : State} (x0 : Fin 2) (x1 : BitVec 16) {x2 : State}
    (h : Kept m s₀ x2) (hm : Sub 0x980c6000020700 m) : KeptO m s₀ (execExeRelease x0 x1 x2) := by
  unfold execExeRelease
  try dsimp only
  with_reducible repeat' first
    | assumption
    | apply KeptO.next
    | apply State.onPort_kept
    | apply State.xOp_kept
    | (apply Sub.of hm; decide)
    | (apply InPg.at (InPg.mpgP _ (Sub.bit hm (by decide))) (by first | decide | assumption | (dsimp only; decide)))
    | intro _ _

theorem execDwellDone_kept {m : Nat} {s₀ : State} (x0 : Fin 2) {x1 : State}
    (h : Kept m s₀ x1) (hm : Sub 0x981da00000070a m) : KeptO m s₀ (execDwellDone x0 x1) := by
  unfold execDwellDone
  try dsimp only
  with_reducible repeat' first
    | assumption
    | apply KeptO.next
    | apply Kept.ite
    | apply State.settle_kept
    | apply State.xComplete_kept
    | apply State.advanceTo_kept
    | (apply Sub.of hm; decide)

theorem execEvtTimeout_kept {m : Nat} {s₀ : State} (x0 : Fin 2) {x1 : State}
    (h : Kept m s₀ x1) (hm : Sub 0x981da00000070a m) : KeptO m s₀ (execEvtTimeout x0 x1) := by
  unfold execEvtTimeout
  try dsimp only
  with_reducible repeat' first
    | assumption
    | apply KeptO.next
    | apply Kept.ite
    | apply State.settle_kept
    | apply State.xFail_kept
    | apply State.advanceTo_kept
    | (apply Sub.of hm; decide)

theorem execEndSwitch_kept {m : Nat} {s₀ : State} (x0 : Fin 8) (x1 : Bool) (x2 : Bool) (x3 : Nat) {x4 : State}
    (h : Kept m s₀ x4) (hm : Sub 0x801fa00000040e m) : KeptO m s₀ (execEndSwitch x0 x1 x2 x3 x4) := by
  unfold execEndSwitch
  try dsimp only
  with_reducible repeat' first
    | assumption
    | apply KeptO.next
    | apply Kept.ite
    | apply State.doorNow_kept
    | apply State.swLook_kept
    | apply State.setDoor_kept
    | apply State.doorUntil_kept
    | (apply Sub.of hm; decide)

theorem execDmcOpen_kept {m : Nat} {s₀ : State} (x0 : DoorDst) (x1 : Word) (x2 : BitVec 16) {x3 : State}
    (h : Kept m s₀ x3) (hm : Sub 0x801fe00002040e m) : KeptO m s₀ (execDmcOpen x0 x1 x2 x3) := by
  unfold execDmcOpen
  try dsimp only
  with_reducible repeat' first
    | assumption
    | apply KeptO.next
    | apply State.doorBurst_kept

theorem execDmcClose_kept {m : Nat} {s₀ : State} (x0 : DoorDst) (x1 : BitVec 16) {x2 : State}
    (h : Kept m s₀ x2) (hm : Sub 0x801fe00002040e m) : KeptO m s₀ (execDmcClose x0 x1 x2) := by
  unfold execDmcClose
  try dsimp only
  with_reducible repeat' first
    | assumption
    | apply KeptO.next
    | apply State.doorBurst_kept

theorem execDmcStop_kept {m : Nat} {s₀ : State} (x0 : DoorDst) (x1 : BitVec 16) {x2 : State}
    (h : Kept m s₀ x2) (hm : Sub 0x801fe00002040e m) : KeptO m s₀ (execDmcStop x0 x1 x2) := by
  unfold execDmcStop
  try dsimp only
  with_reducible repeat' first
    | assumption
    | apply KeptO.next
    | apply State.doorBurst_kept

theorem execDmcHome_kept {m : Nat} {s₀ : State} (x0 : DoorDst) (x1 : BitVec 16) {x2 : State}
    (h : Kept m s₀ x2) (hm : Sub 0x801fe00002040e m) : KeptO m s₀ (execDmcHome x0 x1 x2) := by
  unfold execDmcHome
  try dsimp only
  with_reducible repeat' first
    | assumption
    | apply KeptO.next
    | apply State.doorBurst_kept

theorem execDmcCal_kept {m : Nat} {s₀ : State} (x0 : DoorDst) (x1 : BitVec 16) {x2 : State}
    (h : Kept m s₀ x2) (hm : Sub 0x801fe00002040e m) : KeptO m s₀ (execDmcCal x0 x1 x2) := by
  unfold execDmcCal
  try dsimp only
  with_reducible repeat' first
    | assumption
    | apply KeptO.next
    | apply State.doorBurst_kept

theorem execDmcEnable_kept {m : Nat} {s₀ : State} (x0 : Ini) (x1 : Fin 8) (x2 : Word) {x3 : State}
    (h : Kept m s₀ x3) (hm : Sub 0x801fe00002040e m) : KeptO m s₀ (execDmcEnable x0 x1 x2 x3) := by
  unfold execDmcEnable
  try dsimp only
  with_reducible repeat' first
    | assumption
    | apply KeptO.next
    | apply State.onWrite_kept
    | apply State.doorCtrl_kept
    | (apply Sub.of hm; decide)
    | (apply InPg.at (InPg.dmcP _ (Sub.bit hm (by decide))) (by first | decide | assumption | (dsimp only; decide)))
    | intro _ _

theorem execDoorMoveDone_kept {m : Nat} {s₀ : State} (x0 : Fin 8) {x1 : State}
    (h : Kept m s₀ x1) (hm : Sub 0x801fa00000040e m) : KeptO m s₀ (execDoorMoveDone x0 x1) := by
  unfold execDoorMoveDone
  try dsimp only
  with_reducible repeat' first
    | assumption
    | apply KeptO.next
    | apply Kept.ite
    | apply State.doorNow_kept
    | apply State.doorUntil_kept
    | apply State.doorRest_kept
    | apply State.irq_kept
    | apply State.doorResult_kept
    | (apply Sub.of hm; decide)
    | apply InPg.dmcP _ (Sub.bit hm (by decide))
    | split

theorem execDoorAtRest_kept {m : Nat} {s₀ : State} (x0 : Fin 8) {x1 : State}
    (h : Kept m s₀ x1) (hm : Sub 0x801fa00000040e m) : KeptO m s₀ (execDoorAtRest x0 x1) := by
  unfold execDoorAtRest
  try dsimp only
  with_reducible repeat' first
    | assumption
    | apply KeptO.next
    | apply Kept.ite
    | apply State.doorNow_kept
    | apply State.doorUntil_kept
    | apply State.doorRest_kept
    | apply State.irq_kept
    | apply State.doorResult_kept
    | apply State.ps_kept
    | apply State.doorOut_kept
    | (apply Sub.of hm; decide)
    | apply InPg.dmcP _ (Sub.bit hm (by decide))

theorem execObstruction_kept {m : Nat} {s₀ : State} (x0 : Fin 8) {x1 : State}
    (h : Kept m s₀ x1) (hm : Sub 0x801fa00000040e m) : KeptO m s₀ (execObstruction x0 x1) := by
  unfold execObstruction
  try dsimp only
  with_reducible repeat' first
    | assumption
    | apply KeptO.next
    | apply Kept.ite
    | apply State.doorNow_kept
    | apply State.doorUntil_kept
    | apply State.obstruct_kept
    | (apply Sub.of hm; decide)
    | split

theorem execLostStep_kept {m : Nat} {s₀ : State} (x0 : Fin 8) {x1 : State}
    (h : Kept m s₀ x1) (hm : Sub 0x801fa00000040e m) : KeptO m s₀ (execLostStep x0 x1) := by
  unfold execLostStep
  try dsimp only
  with_reducible repeat' first
    | assumption
    | apply KeptO.next
    | apply Kept.ite
    | apply State.doorNow_kept
    | apply State.lostStep_kept
    | (apply Sub.of hm; decide)

theorem execReverseStart_kept {m : Nat} {s₀ : State} (x0 : Fin 8) {x1 : State}
    (h : Kept m s₀ x1) (hm : Sub 0x801fa00000040e m) : KeptO m s₀ (execReverseStart x0 x1) := by
  unfold execReverseStart
  try dsimp only
  with_reducible repeat' first
    | assumption
    | apply KeptO.next
    | apply Kept.ite
    | apply State.doorNow_kept
    | apply State.doorUntil_kept
    | apply State.reverse1_kept
    | (apply Sub.of hm; decide)
    | split

theorem execOverCurrent_kept {m : Nat} {s₀ : State} (x0 : Fin 8) (x1 : Bool) {x2 : State}
    (h : Kept m s₀ x2) (hm : Sub 0x801fa00000040e m) : KeptO m s₀ (execOverCurrent x0 x1 x2) := by
  unfold execOverCurrent
  try dsimp only
  with_reducible repeat' first
    | assumption
    | apply KeptO.next
    | apply Kept.ite
    | apply State.doorNow_kept
    | apply State.setDoor_kept
    | apply State.ocFeed_kept
    | apply State.ocCount_kept
    | (apply Sub.of hm; decide)

theorem execDriverFault_kept {m : Nat} {s₀ : State} (x0 : Fin 8) (x1 : Bool) {x2 : State}
    (h : Kept m s₀ x2) (hm : Sub 0x801fa00000040e m) : KeptO m s₀ (execDriverFault x0 x1 x2) := by
  unfold execDriverFault
  try dsimp only
  with_reducible repeat' first
    | assumption
    | apply KeptO.next
    | apply Kept.ite
    | apply State.doorNow_kept
    | apply State.psB_kept
    | apply State.doorDark_kept
    | apply State.doorFreeze_kept
    | apply State.incIrq_kept
    | apply State.doorOccur_kept
    | apply State.doorResult_kept
    | apply State.doorRest_kept
    | (apply Sub.of hm; decide)
    | (apply InPg.at (InPg.dmcP _ (Sub.bit hm (by decide))) (by first | decide | assumption | (dsimp only; decide)))
    | apply InPg.dmcP _ (Sub.bit hm (by decide))

theorem execHomeTimeout_kept {m : Nat} {s₀ : State} (x0 : Fin 8) {x1 : State}
    (h : Kept m s₀ x1) (hm : Sub 0x801fa00000040e m) : KeptO m s₀ (execHomeTimeout x0 x1) := by
  unfold execHomeTimeout
  try dsimp only
  with_reducible repeat' first
    | assumption
    | apply KeptO.next
    | apply Kept.ite
    | apply State.doorNow_kept
    | apply State.doorUntil_kept
    | apply State.setDoor_kept
    | apply State.doorShow_kept
    | apply State.doorBrake_kept
    | apply State.doorOccur_kept
    | apply State.irq_kept
    | apply State.doorResult_kept
    | (apply Sub.of hm; decide)
    | apply InPg.dmcP _ (Sub.bit hm (by decide))
    | split

theorem execCalDone_kept {m : Nat} {s₀ : State} (x0 : Fin 8) (x1 : BitVec 24 × BitVec 24) (x2 : Nat) (x3 : Nat) (x4 : Nat) (x5 : Nat) {x6 : State}
    (h : Kept m s₀ x6) (hm : Sub 0x809fa00000040e m) : KeptO m s₀ (execCalDone x0 x1 x2 x3 x4 x5 x6) := by
  unfold execCalDone
  try dsimp only
  with_reducible repeat' first
    | assumption
    | apply KeptO.next
    | apply Kept.ite
    | apply State.doorNow_kept
    | apply State.drew_kept
    | apply State.doorUntil_kept
    | apply State.setDoor_kept
    | apply State.pI_kept
    | apply State.doorEnter_kept
    | apply State.irq_kept
    | apply State.doorResult_kept
    | apply State.doorOccur_kept
    | (apply Sub.of hm; decide)
    | (apply InPg.at (InPg.dmcP _ (Sub.bit hm (by decide))) (by first | decide | assumption | (dsimp only; decide)))
    | apply InPg.dmcP _ (Sub.bit hm (by decide))

theorem execOosClear_kept {m : Nat} {s₀ : State} (x0 : Ini) (x1 : Fin 8) (x2 : Word) {x3 : State}
    (h : Kept m s₀ x3) (hm : Sub 0x800c6000020400 m) : KeptO m s₀ (execOosClear x0 x1 x2 x3) := by
  unfold execOosClear
  try dsimp only
  with_reducible repeat' first
    | assumption
    | apply KeptO.next
    | apply State.onWrite_kept
    | apply State.doorStatWrite_kept
    | (apply Sub.of hm; decide)
    | (apply InPg.at (InPg.dmcP _ (Sub.bit hm (by decide))) (by first | decide | assumption | (dsimp only; decide)))
    | intro _ _

theorem execDoorProfileTick_kept {m : Nat} {s₀ : State} (x0 : Fin 8) {x1 : State}
    (h : Kept m s₀ x1) (hm : Sub 0x801fa00000040e m) : KeptO m s₀ (execDoorProfileTick x0 x1) := by
  unfold execDoorProfileTick
  try dsimp only
  with_reducible repeat' first
    | assumption
    | apply KeptO.next
    | apply Kept.ite
    | apply State.doorTick_kept

theorem execPwmPeriodBoundary_kept {m : Nat} {s₀ : State} (x0 : Fin 8) (x1 : BitVec 14) (x2 : BitVec 14) (x3 : List (BitVec 14)) (x4 : List (BitVec 14)) {x5 : State}
    (h : Kept m s₀ x5) (hm : Sub 0x809fa00000040e m) : KeptO m s₀ (execPwmPeriodBoundary x0 x1 x2 x3 x4 x5) := by
  unfold execPwmPeriodBoundary
  try dsimp only
  with_reducible repeat' first
    | assumption
    | apply KeptO.next
    | apply Kept.ite
    | apply State.pwmBoundary_kept

theorem execClgInsert_kept {m : Nat} {s₀ : State} (x0 : Word) (x1 : Word) (x2 : Word) (x3 : Word) (x4 : Word) (x5 : Word) (x6 : BitVec 16) (x7 : BitVec 16) {x8 : State}
    (h : Kept m s₀ x8) (hm : Sub 0x401e600002800c m) : KeptO m s₀ (execClgInsert x0 x1 x2 x3 x4 x5 x6 x7 x8) := by
  unfold execClgInsert
  try dsimp only
  with_reducible repeat' first
    | assumption
    | apply KeptO.next
    | apply State.clgPort_kept

theorem execClgAssign_kept {m : Nat} {s₀ : State} (x0 : BitVec 14) (x1 : Fin 4) (x2 : BitVec 16) (x3 : BitVec 16) {x4 : State}
    (h : Kept m s₀ x4) (hm : Sub 0x401e600002800c m) : KeptO m s₀ (execClgAssign x0 x1 x2 x3 x4) := by
  unfold execClgAssign
  try dsimp only
  with_reducible repeat' first
    | assumption
    | apply KeptO.next
    | apply State.clgPort_kept

theorem execClgUnassign_kept {m : Nat} {s₀ : State} (x0 : BitVec 14) (x1 : BitVec 16) (x2 : BitVec 16) {x3 : State}
    (h : Kept m s₀ x3) (hm : Sub 0x401e600002800c m) : KeptO m s₀ (execClgUnassign x0 x1 x2 x3) := by
  unfold execClgUnassign
  try dsimp only
  with_reducible repeat' first
    | assumption
    | apply KeptO.next
    | apply State.clgPort_kept

theorem execClgServe_kept {m : Nat} {s₀ : State} (x0 : BitVec 14) (x1 : BitVec 16) (x2 : BitVec 16) {x3 : State}
    (h : Kept m s₀ x3) (hm : Sub 0x401e600002800c m) : KeptO m s₀ (execClgServe x0 x1 x2 x3) := by
  unfold execClgServe
  try dsimp only
  with_reducible repeat' first
    | assumption
    | apply KeptO.next
    | apply State.clgPort_kept

theorem execClgCancel_kept {m : Nat} {s₀ : State} (x0 : BitVec 14) (x1 : BitVec 16) (x2 : BitVec 16) {x3 : State}
    (h : Kept m s₀ x3) (hm : Sub 0x401e600002800c m) : KeptO m s₀ (execClgCancel x0 x1 x2 x3) := by
  unfold execClgCancel
  try dsimp only
  with_reducible repeat' first
    | assumption
    | apply KeptO.next
    | apply State.clgPort_kept

theorem execClgSetApp_kept {m : Nat} {s₀ : State} (x0 : BitVec 14) (x1 : BitVec 6) (x2 : Word) (x3 : BitVec 16) (x4 : BitVec 16) {x5 : State}
    (h : Kept m s₀ x5) (hm : Sub 0x401e600002800c m) : KeptO m s₀ (execClgSetApp x0 x1 x2 x3 x4 x5) := by
  unfold execClgSetApp
  try dsimp only
  with_reducible repeat' first
    | assumption
    | apply KeptO.next
    | apply State.clgPort_kept

theorem execViewStallApply_kept {m : Nat} {s₀ : State} {x0 : State}
    (h : Kept m s₀ x0) (hm : Sub 0x401e600000800c m) : KeptO m s₀ (execViewStallApply x0) := by
  unfold execViewStallApply
  refine KeptO.next ?_
  extract_lets s1
  have k1 : Kept m s₀ s1 := State.clgRetire_kept h (Sub.of hm (by decide))
  clear_value s1
  split
  · exact k1
  · rename_i c rest _
    have kb : ∀ l, Kept m s₀ { s1 with bus := .done 0, clg := { s1.clg with held := l } } := fun l => by
      apply Kept.mk' k1 <;> first | exact .inr rfl | exact .inl (Sub.bit hm (by decide)) | exact fun hx => hx
    have k2 := State.clgApply_kept c (kb rest) (Sub.of hm (by decide))
    refine Kept.ite ?_ k1
    dsimp only
    split
    · exact k2
    · exact State.clgStall_kept _ k2 (Sub.of hm (by decide))

theorem execClgEnable_kept {m : Nat} {s₀ : State} (x0 : Ini) (x1 : Word) {x2 : State}
    (h : Kept m s₀ x2) (hm : Sub 0x40404000028000 m) : KeptO m s₀ (execClgEnable x0 x1 x2) := by
  unfold execClgEnable
  try dsimp only
  with_reducible repeat' first
    | assumption
    | apply KeptO.next
    | apply State.onWrite_kept
    | apply State.clgCtrl_kept
    | (apply Sub.of hm; decide)
    | (apply InPg.at (InPg.clgC (Sub.bit hm (by decide))) (by first | decide | assumption | (dsimp only; decide)))
    | intro _ _

theorem execClgInitDone_kept {m : Nat} {s₀ : State} {x0 : State}
    (h : Kept m s₀ x0) (hm : Sub 0xc2000008000 m) : KeptO m s₀ (execClgInitDone x0) := by
  unfold execClgInitDone
  try dsimp only
  with_reducible repeat' first
    | assumption
    | apply KeptO.next
    | apply Kept.ite
    | apply State.irq_kept
    | apply State.ps_kept
    | (apply Sub.of hm; decide)
    | apply InPg.clgC (Sub.bit hm (by decide))

theorem execPeakClr_kept {m : Nat} {s₀ : State} (x0 : Ini) (x1 : Word) {x2 : State}
    (h : Kept m s₀ x2) (hm : Sub 0x40404000028000 m) : KeptO m s₀ (execPeakClr x0 x1 x2) := by
  unfold execPeakClr
  try dsimp only
  with_reducible repeat' first
    | assumption
    | apply KeptO.next
    | apply State.onWrite_kept
    | apply State.clgCtrl_kept
    | (apply Sub.of hm; decide)
    | (apply InPg.at (InPg.clgC (Sub.bit hm (by decide))) (by first | decide | assumption | (dsimp only; decide)))
    | intro _ _

theorem execClgFaultClear_kept {m : Nat} {s₀ : State} (x0 : Ini) (x1 : Word) {x2 : State}
    (h : Kept m s₀ x2) (hm : Sub 0x4000028000 m) : KeptO m s₀ (execClgFaultClear x0 x1 x2) := by
  unfold execClgFaultClear
  try dsimp only
  with_reducible repeat' first
    | assumption
    | apply KeptO.next
    | apply State.onWrite_kept
    | apply State.clgStatWrite_kept
    | (apply Sub.of hm; decide)
    | (apply InPg.at (InPg.clgC (Sub.bit hm (by decide))) (by first | decide | assumption | (dsimp only; decide)))
    | intro _ _

theorem execIkwSwRecord_kept {m : Nat} {s₀ : State} (x0 : Ini) (x1 : Word) {x2 : State}
    (h : Kept m s₀ x2) (hm : Sub 0x1c6000020008 m) : KeptO m s₀ (execIkwSwRecord x0 x1 x2) := by
  unfold execIkwSwRecord
  try dsimp only
  with_reducible repeat' first
    | assumption
    | apply KeptO.next
    | apply State.onWrite_kept
    | apply State.ikwSw_kept
    | (apply Sub.of hm; decide)
    | (apply InPg.at (InPg.ikwC (Sub.bit hm (by decide))) (by first | decide | assumption | (dsimp only; decide)))
    | intro _ _

theorem execRecordDrain_kept {m : Nat} {s₀ : State} (x0 : Nat) {x1 : State}
    (h : Kept m s₀ x1) (hm : Sub 0x5e280000000c m) : KeptO m s₀ (execRecordDrain x0 x1) := by
  unfold execRecordDrain
  try dsimp only
  with_reducible repeat' first
    | assumption
    | apply KeptO.next
    | apply State.ikwDrain_kept

theorem execTokenRefill_kept {m : Nat} {s₀ : State} (x0 : Fin 1024) {x1 : State}
    (h : Kept m s₀ x1) (hm : Sub 0x1da00000000a m) : KeptO m s₀ (execTokenRefill x0 x1) := by
  unfold execTokenRefill
  try dsimp only
  with_reducible repeat' first
    | assumption
    | apply KeptO.next
    | apply Kept.ite
    | apply State.untilStamp_kept
    | apply State.ikwSweep_kept
    | apply State.ikwRefill_kept
    | (apply Sub.of hm; decide)

theorem execIkwEnable_kept {m : Nat} {s₀ : State} (x0 : Ini) (x1 : Word) {x2 : State}
    (h : Kept m s₀ x2) (hm : Sub 0x1c6000020008 m) : KeptO m s₀ (execIkwEnable x0 x1 x2) := by
  unfold execIkwEnable
  try dsimp only
  with_reducible repeat' first
    | assumption
    | apply KeptO.next
    | apply State.onWrite_kept
    | apply State.ikwCtrl_kept
    | (apply Sub.of hm; decide)
    | (apply InPg.at (InPg.ikwC (Sub.bit hm (by decide))) (by first | decide | assumption | (dsimp only; decide)))
    | intro _ _

theorem execScanDone_kept {m : Nat} {s₀ : State} {x0 : State}
    (h : Kept m s₀ x0) (hm : Sub 0x1da00000000a m) : KeptO m s₀ (execScanDone x0) := by
  have hp : InPg m ikwC := InPg.ikwC (Sub.bit hm (by decide))
  unfold execScanDone
  refine KeptO.next (Kept.ite h ?_)
  extract_lets s1 slots best s2 src1 s3
  have k1 : Kept m s₀ s1 := State.advanceTo_kept _ h (Sub.of hm (by decide))
  clear_value s1 slots best
  have k2 : Kept m s₀ s2 := by
    dsimp only [s2]
    split
    · exact k1
    · exact State.p_kept _ _ _ k1 (Sub.of hm (by decide)) (hp.at (by decide))
  clear_value s2
  have k3 : Kept m s₀ s3 := by
    dsimp -zeta only [s3]
    split
    · exact Kept.set_ikw k2 (Sub.bit hm (by decide)) _ id
    · exact State.p_kept _ _ _ (Kept.set_ikw k2 (Sub.bit hm (by decide)) _ id) (Sub.of hm (by decide)) (hp.at (by decide))
  clear_value s3
  have k4 : Kept m s₀ s3.arcShow := State.arcShow_kept k3 (Sub.of hm (by decide))
  exact State.irq_kept _ _ (State.psB_kept _ _ _ k4 (Sub.of hm (by decide)) hp) (Sub.of hm (by decide)) hp

theorem execArchiveCopy_kept {m : Nat} {s₀ : State} (x0 : Bool) {x1 : State}
    (h : Kept m s₀ x1) (hm : Sub 0x1e280000000c m) : KeptO m s₀ (execArchiveCopy x0 x1) := by
  have hp : InPg m ikwC := InPg.ikwC (Sub.bit hm (by decide))
  unfold execArchiveCopy
  refine KeptO.next ?_
  split
  · exact h
  · refine Kept.ite h ?_
    extract_lets k s1 s2
    have k1 : Kept m s₀ s1 := State.p_kept _ _ _ h (Sub.of hm (by decide)) (hp.at (by decide))
    clear_value k s1
    have k2 : Kept m s₀ s2 := State.mput_kept _ _ k1 (Sub.of hm (by decide))
    clear_value s2
    refine Kept.ite ?_ ?_
    · exact State.arcShow_kept (Kept.set_ikw k2 (Sub.bit hm (by decide)) _ id) (Sub.of hm (by decide))
    · exact State.ikwFault_kept (State.inc_kept _ _ _ k1 (Sub.of hm (by decide)) (hp.at (by decide))) (Sub.of hm (by decide))

theorem execIkwRdIdx_kept {m : Nat} {s₀ : State} (x0 : Ini) (x1 : Word) {x2 : State}
    (h : Kept m s₀ x2) (hm : Sub 0xc6000020008 m) : KeptO m s₀ (execIkwRdIdx x0 x1 x2) := by
  unfold execIkwRdIdx
  try dsimp only
  with_reducible repeat' first
    | assumption
    | apply KeptO.next
    | apply State.onWrite_kept
    | apply State.ikwRdIdx_kept
    | (apply Sub.of hm; decide)
    | (apply InPg.at (InPg.ikwC (Sub.bit hm (by decide))) (by first | decide | assumption | (dsimp only; decide)))
    | intro _ _

theorem execIkwCodeWrite_kept {m : Nat} {s₀ : State} (x0 : Ini) (x1 : Fin 1024) (x2 : Word) {x3 : State}
    (h : Kept m s₀ x3) (hm : Sub 0xc6000020008 m) : KeptO m s₀ (execIkwCodeWrite x0 x1 x2 x3) := by
  unfold execIkwCodeWrite
  try dsimp only
  with_reducible repeat' first
    | assumption
    | apply KeptO.next
    | apply State.onWrite_kept
    | apply State.ikwCodeWrite_kept
    | (apply Sub.of hm; decide)
    | apply InPg.at0 (InPg.ikwCodeP _ (Sub.bit hm (by decide)))
    | intro _ _

theorem execIkwFaultClear_kept {m : Nat} {s₀ : State} (x0 : Ini) (x1 : Word) {x2 : State}
    (h : Kept m s₀ x2) (hm : Sub 0xc6000020008 m) : KeptO m s₀ (execIkwFaultClear x0 x1 x2) := by
  unfold execIkwFaultClear
  try dsimp only
  with_reducible repeat' first
    | assumption
    | apply KeptO.next
    | apply State.onWrite_kept
    | apply State.ikwStatWrite_kept
    | (apply Sub.of hm; decide)
    | (apply InPg.at (InPg.ikwC (Sub.bit hm (by decide))) (by first | decide | assumption | (dsimp only; decide)))
    | intro _ _

theorem execIkwRead_kept {m : Nat} {s₀ : State} (x0 : Nat) {x1 : State}
    (h : Kept m s₀ x1) (hm : Sub 0x100000000000 m) : KeptO m s₀ (execIkwRead x0 x1) := by
  unfold execIkwRead
  try dsimp only
  with_reducible repeat' first
    | assumption
    | apply KeptO.next
    | (apply Sub.bit hm; decide)
    | (fail_if_no_progress apply Kept.set_ikw)
    | (fail_if_no_progress apply Kept.mk')
    | exact fun hx => hx

theorem execSbcEnable_kept {m : Nat} {s₀ : State} (x0 : Ini) (x1 : Fin 8) (x2 : Word) {x3 : State}
    (h : Kept m s₀ x3) (hm : Sub 0x6009d600002600a m) : KeptO m s₀ (execSbcEnable x0 x1 x2 x3) := by
  unfold execSbcEnable
  try dsimp only
  with_reducible repeat' first
    | assumption
    | apply KeptO.next
    | apply State.onWrite_kept
    | apply State.sbcCtrl_kept
    | (apply Sub.of hm; decide)
    | (apply InPg.at (InPg.sbcP _ (Sub.bit hm (by decide))) (by first | decide | assumption | (dsimp only; decide)))
    | intro _ _

theorem execSbcOos_kept {m : Nat} {s₀ : State} (x0 : Ini) (x1 : Fin 8) (x2 : Word) {x3 : State}
    (h : Kept m s₀ x3) (hm : Sub 0x6009d600002600a m) : KeptO m s₀ (execSbcOos x0 x1 x2 x3) := by
  unfold execSbcOos
  try dsimp only
  with_reducible repeat' first
    | assumption
    | apply KeptO.next
    | apply State.onWrite_kept
    | apply State.sbcCtrl_kept
    | (apply Sub.of hm; decide)
    | (apply InPg.at (InPg.sbcP _ (Sub.bit hm (by decide))) (by first | decide | assumption | (dsimp only; decide)))
    | intro _ _

theorem execBorReq_kept {m : Nat} {s₀ : State} (x0 : Ini) (x1 : Fin 8) (x2 : Word) {x3 : State}
    (h : Kept m s₀ x3) (hm : Sub 0x6009d600002600a m) : KeptO m s₀ (execBorReq x0 x1 x2 x3) := by
  unfold execBorReq
  try dsimp only
  with_reducible repeat' first
    | assumption
    | apply KeptO.next
    | apply State.onWrite_kept
    | apply State.sbcCtrl_kept
    | (apply Sub.of hm; decide)
    | (apply InPg.at (InPg.sbcP _ (Sub.bit hm (by decide))) (by first | decide | assumption | (dsimp only; decide)))
    | intro _ _

theorem execBusIntegrated_kept {m : Nat} {s₀ : State} (x0 : Fin 8) {x1 : State}
    (h : Kept m s₀ x1) (hm : Sub 0x6009d200000600a m) : KeptO m s₀ (execBusIntegrated x0 x1) := by
  unfold execBusIntegrated
  try dsimp only
  with_reducible repeat' first
    | assumption
    | apply KeptO.next
    | apply Kept.ite
    | apply State.legsUpdate_kept
    | apply State.portRestrict_kept
    | (apply Sub.of hm; decide)

theorem execRestrictedEnd_kept {m : Nat} {s₀ : State} (x0 : Fin 8) {x1 : State}
    (h : Kept m s₀ x1) (hm : Sub 0x6009da00000600a m) : KeptO m s₀ (execRestrictedEnd x0 x1) := by
  unfold execRestrictedEnd
  try dsimp only
  with_reducible repeat' first
    | assumption
    | apply KeptO.next
    | apply Kept.ite
    | apply State.advanceTo_kept
    | apply State.txKick_kept
    | apply State.legsUpdate_kept
    | apply State.irq_kept
    | apply State.setOpm_kept
    | (apply Sub.of hm; decide)
    | apply InPg.sbcP _ (Sub.bit hm (by decide))

theorem execBusOffRecovered_kept {m : Nat} {s₀ : State} (x0 : Fin 8) {x1 : State}
    (h : Kept m s₀ x1) (hm : Sub 0x6009d200000600a m) : KeptO m s₀ (execBusOffRecovered x0 x1) := by
  unfold execBusOffRecovered
  try dsimp only
  with_reducible repeat' first
    | assumption
    | apply KeptO.next
    | apply Kept.ite
    | apply State.legsUpdate_kept
    | apply State.portIntegrate_kept
    | (apply Sub.of hm; decide)

theorem execTxReq_kept {m : Nat} {s₀ : State} (x0 : Ini) (x1 : Fin 8) (x2 : Fin 3) (x3 : Word) (x4 : Bool) {x5 : State}
    (h : Kept m s₀ x5) (hm : Sub 0x2000d6000022002 m) : KeptO m s₀ (execTxReq x0 x1 x2 x3 x4 x5) := by
  unfold execTxReq
  try dsimp only
  with_reducible repeat' first
    | assumption
    | apply KeptO.next
    | apply State.onWrite_kept
    | apply State.txSelect_kept
    | apply State.busIdle_kept
    | apply State.txCtrl_kept
    | (apply Sub.of hm; decide)
    | (apply InPg.at (InPg.txbP _ _ (Sub.bit hm (by decide))) (by first | decide | assumption | (dsimp only; decide)))
    | intro _ _

theorem execTxAbort_kept {m : Nat} {s₀ : State} (x0 : Ini) (x1 : Fin 8) (x2 : Fin 3) (x3 : Word) {x4 : State}
    (h : Kept m s₀ x4) (hm : Sub 0x2000d6000022002 m) : KeptO m s₀ (execTxAbort x0 x1 x2 x3 x4) := by
  unfold execTxAbort
  try dsimp only
  with_reducible repeat' first
    | assumption
    | apply KeptO.next
    | apply State.onWrite_kept
    | apply State.txCtrl_kept
    | (apply Sub.of hm; decide)
    | (apply InPg.at (InPg.txbP _ _ (Sub.bit hm (by decide))) (by first | decide | assumption | (dsimp only; decide)))
    | intro _ _

theorem execTxLaunchDue_kept {m : Nat} {s₀ : State} (x0 : Fin 8) (x1 : Fin 3) (x2 : Bool) {x3 : State}
    (h : Kept m s₀ x3) (hm : Sub 0x2001da00000200a m) : KeptO m s₀ (execTxLaunchDue x0 x1 x2 x3) := by
  unfold execTxLaunchDue
  try dsimp only
  with_reducible repeat' first
    | assumption
    | apply KeptO.next
    | apply Kept.ite
    | apply State.txSelect_kept
    | apply State.busIdle_kept
    | apply State.untilStamp_kept
    | (apply Sub.of hm; decide)

theorem execFrameReceived_kept {m : Nat} {s₀ : State} (x0 : Fin 8) (x1 : RxFrame) {x2 : State}
    (h : Kept m s₀ x2) (hm : Sub 0x600df280000600e m) : KeptO m s₀ (execFrameReceived x0 x1 x2) := by
  unfold execFrameReceived
  try dsimp only
  with_reducible repeat' first
    | assumption
    | apply KeptO.next
    | apply State.frameIn_kept

theorem execTxAttemptEnd_kept {m : Nat} {s₀ : State} (x0 : Fin 8) (x1 : TxEnd) (x2 : Nat) (x3 : Bool) {x4 : State}
    (h : Kept m s₀ x4) (hm : Sub 0x600df280000600e m) : KeptO m s₀ (execTxAttemptEnd x0 x1 x2 x3 x4) := by
  unfold execTxAttemptEnd
  try dsimp only
  with_reducible repeat' first
    | assumption
    | apply KeptO.next
    | apply Kept.ite
    | apply State.attemptEnd_kept

theorem execAloneRetry_kept {m : Nat} {s₀ : State} (x0 : Fin 8) {x1 : State}
    (h : Kept m s₀ x1) (hm : Sub 0x2001da00000200a m) : KeptO m s₀ (execAloneRetry x0 x1) := by
  unfold execAloneRetry
  try dsimp only
  with_reducible repeat' first
    | assumption
    | apply KeptO.next
    | apply Kept.ite
    | apply State.txSelect_kept
    | apply State.advanceTo_kept
    | (apply Sub.of hm; decide)

theorem execSbcFaultClear_kept {m : Nat} {s₀ : State} (x0 : Ini) (x1 : Fin 8) (x2 : Word) {x3 : State}
    (h : Kept m s₀ x3) (hm : Sub 0x6009d600002600a m) : KeptO m s₀ (execSbcFaultClear x0 x1 x2 x3) := by
  unfold execSbcFaultClear
  try dsimp only
  with_reducible repeat' first
    | assumption
    | apply KeptO.next
    | apply State.onWrite_kept
    | apply State.sbcStatWrite_kept
    | (apply Sub.of hm; decide)
    | (apply InPg.at (InPg.sbcP _ (Sub.bit hm (by decide))) (by first | decide | assumption | (dsimp only; decide)))
    | intro _ _

theorem execBusError_kept {m : Nat} {s₀ : State} (x0 : Fin 8) (x1 : BitVec 3) (x2 : Bool) (x3 : Bool) {x4 : State}
    (h : Kept m s₀ x4) (hm : Sub 0x6009f200000600e m) : KeptO m s₀ (execBusError x0 x1 x2 x3 x4) := by
  unfold execBusError
  try dsimp only
  with_reducible repeat' first
    | assumption
    | apply KeptO.next
    | apply State.rxError_kept

theorem execProtocolException_kept {m : Nat} {s₀ : State} (x0 : Fin 8) {x1 : State}
    (h : Kept m s₀ x1) (hm : Sub 0x6009f200000600e m) : KeptO m s₀ (execProtocolException x0 x1) := by
  unfold execProtocolException
  try dsimp only
  with_reducible repeat' first
    | assumption
    | apply KeptO.next
    | apply Kept.ite
    | apply State.legsUpdate_kept
    | apply State.portClosed_kept
    | apply State.irq_kept
    | apply State.setOpm_kept
    | apply State.ps_kept
    | apply State.setPort_kept
    | apply State.rxError_kept
    | (apply Sub.of hm; decide)
    | apply InPg.sbcP _ (Sub.bit hm (by decide))

theorem execCtxEnable_kept {m : Nat} {s₀ : State} (x0 : Ini) (x1 : Fin 160) (x2 : Word) {x3 : State}
    (h : Kept m s₀ x3) (hm : Sub 0x600cc6800026000 m) : KeptO m s₀ (execCtxEnable x0 x1 x2 x3) := by
  unfold execCtxEnable
  try dsimp only
  with_reducible repeat' first
    | assumption
    | apply KeptO.next
    | apply State.onWrite_kept
    | apply State.ctxCtrl_kept
    | (apply Sub.of hm; decide)
    | (apply InPg.at (InPg.ctxP _ (Sub.bit hm (by decide))) (by first | decide | assumption | (dsimp only; decide)))
    | intro _ _

theorem execCtxDisable_kept {m : Nat} {s₀ : State} (x0 : Ini) (x1 : Fin 160) (x2 : Word) {x3 : State}
    (h : Kept m s₀ x3) (hm : Sub 0x600cc6800026000 m) : KeptO m s₀ (execCtxDisable x0 x1 x2 x3) := by
  unfold execCtxDisable
  try dsimp only
  with_reducible repeat' first
    | assumption
    | apply KeptO.next
    | apply State.onWrite_kept
    | apply State.ctxCtrl_kept
    | (apply Sub.of hm; decide)
    | (apply InPg.at (InPg.ctxP _ (Sub.bit hm (by decide))) (by first | decide | assumption | (dsimp only; decide)))
    | intro _ _

theorem execInviteSlot_kept {m : Nat} {s₀ : State} {x0 : State}
    (h : Kept m s₀ x0) (hm : Sub 0x6009da00000600a m) : KeptO m s₀ (execInviteSlot x0) := by
  unfold execInviteSlot
  refine KeptO.next ?_
  split
  · exact h
  · refine Kept.ite h ?_
    extract_lets s1 src s2
    have k1 : Kept m s₀ s1 := State.advanceTo_kept _ h (Sub.of hm (by decide))
    clear_value s1
    have k2 : Kept m s₀ s2 := Kept.set_cve k1 (Sub.bit hm (by decide)) _
    clear_value s2
    split
    · exact State.invShow_kept k2 (Sub.of hm (by decide))
    · extract_lets s3 src s4
      have k3 : Kept m s₀ s3 := State.sendCtl_kept _ _ _ _ _ k2 (Sub.of hm (by decide))
      clear_value s3
      have k4 : Kept m s₀ s4 := State.setCtx_kept _ _ k3 (Sub.of hm (by decide))
      clear_value s4
      exact State.invShow_kept (Kept.ite (State.setCst_kept _ _ k4 (Sub.of hm (by decide))) k4) (Sub.of hm (by decide))

theorem execInviteTimeout_kept {m : Nat} {s₀ : State} (x0 : Fin 160) {x1 : State}
    (h : Kept m s₀ x1) (hm : Sub 0x1da00000400a m) : KeptO m s₀ (execInviteTimeout x0 x1) := by
  unfold execInviteTimeout
  try dsimp only
  with_reducible repeat' first
    | assumption
    | apply KeptO.next
    | apply Kept.ite
    | apply State.advanceTo_kept
    | apply State.setCst_kept
    | apply State.invShow_kept
    | (apply Sub.of hm; decide)
    | split

theorem execJoin_kept {m : Nat} {s₀ : State} (x0 : Fin 8) (x1 : Byte) (x2 : BitVec 16) (x3 : Word) (x4 : Byte) (x5 : Byte) (x6 : BitVec 16) (x7 : Nat) {x8 : State}
    (h : Kept m s₀ x8) (hm : Sub 0x600df280000600e m) : KeptO m s₀ (execJoin x0 x1 x2 x3 x4 x5 x6 x7 x8) := by
  unfold execJoin
  try dsimp only
  with_reducible repeat' first
    | assumption
    | apply KeptO.next
    | apply State.frameIn_kept

theorem execWelcome_kept {m : Nat} {s₀ : State} (x0 : Fin 160) {x1 : State}
    (h : Kept m s₀ x1) (hm : Sub 0x600df280000600e m) : KeptO m s₀ (execWelcome x0 x1) := by
  unfold execWelcome
  try dsimp only
  with_reducible repeat' first
    | assumption
    | apply KeptO.next
    | apply State.attemptEnd_kept
    | split

theorem execLeave_kept {m : Nat} {s₀ : State} (x0 : Fin 8) (x1 : Byte) (x2 : BitVec 16) (x3 : Byte) (x4 : Nat) {x5 : State}
    (h : Kept m s₀ x5) (hm : Sub 0x600df280000600e m) : KeptO m s₀ (execLeave x0 x1 x2 x3 x4 x5) := by
  unfold execLeave
  try dsimp only
  with_reducible repeat' first
    | assumption
    | apply KeptO.next
    | apply State.frameIn_kept

theorem execData_kept {m : Nat} {s₀ : State} (x0 : Fin 8) (x1 : Byte) (x2 : BitVec 3) (x3 : BitVec 6) (x4 : BitVec 16) (x5 : List Byte) (x6 : Nat) {x7 : State}
    (h : Kept m s₀ x7) (hm : Sub 0x600df280000600e m) : KeptO m s₀ (execData x0 x1 x2 x3 x4 x5 x6 x7) := by
  unfold execData
  try dsimp only
  with_reducible repeat' first
    | assumption
    | apply KeptO.next
    | apply State.frameIn_kept

theorem execAck_kept {m : Nat} {s₀ : State} (x0 : Fin 8) (x1 : Byte) (x2 : BitVec 16) (x3 : BitVec 16) (x4 : Byte) (x5 : Bool) (x6 : Nat) {x7 : State}
    (h : Kept m s₀ x7) (hm : Sub 0x600df280000600e m) : KeptO m s₀ (execAck x0 x1 x2 x3 x4 x5 x6 x7) := by
  unfold execAck
  try dsimp only
  with_reducible repeat' first
    | assumption
    | apply KeptO.next
    | apply State.frameIn_kept

theorem execNak_kept {m : Nat} {s₀ : State} (x0 : Fin 8) (x1 : Byte) (x2 : BitVec 16) (x3 : BitVec 16) (x4 : Byte) (x5 : Byte) (x6 : BitVec 16) (x7 : Nat) {x8 : State}
    (h : Kept m s₀ x8) (hm : Sub 0x600df280000600e m) : KeptO m s₀ (execNak x0 x1 x2 x3 x4 x5 x6 x7 x8) := by
  unfold execNak
  try dsimp only
  with_reducible repeat' first
    | assumption
    | apply KeptO.next
    | apply State.frameIn_kept

theorem execHeartbeat_kept {m : Nat} {s₀ : State} (x0 : Fin 8) (x1 : Byte) (x2 : BitVec 16) (x3 : BitVec 16) (x4 : Bool) (x5 : Byte) (x6 : Byte) (x7 : Nat) {x8 : State}
    (h : Kept m s₀ x8) (hm : Sub 0x600df280000600e m) : KeptO m s₀ (execHeartbeat x0 x1 x2 x3 x4 x5 x6 x7 x8) := by
  unfold execHeartbeat
  try dsimp only
  with_reducible repeat' first
    | assumption
    | apply KeptO.next
    | apply State.frameIn_kept

theorem execGapTimeout_kept {m : Nat} {s₀ : State} (x0 : Fin 160) {x1 : State}
    (h : Kept m s₀ x1) (hm : Sub 0x600dda80000600a m) : KeptO m s₀ (execGapTimeout x0 x1) := by
  unfold execGapTimeout
  try dsimp only
  with_reducible repeat' first
    | assumption
    | apply KeptO.next
    | apply Kept.ite
    | apply State.advanceTo_kept
    | apply State.passTo_kept
    | apply State.setCtx_kept
    | (apply Sub.of hm; decide)
    | split

theorem execAckDue_kept {m : Nat} {s₀ : State} (x0 : Fin 160) {x1 : State}
    (h : Kept m s₀ x1) (hm : Sub 0x600800000002000 m) : KeptO m s₀ (execAckDue x0 x1) := by
  unfold execAckDue
  try dsimp only
  with_reducible repeat' first
    | assumption
    | apply KeptO.next
    | apply Kept.ite
    | apply State.setCtx_kept
    | apply State.sendCtl_kept
    | (apply Sub.of hm; decide)

theorem execRetransmitDue_kept {m : Nat} {s₀ : State} (x0 : Fin 160) {x1 : State}
    (h : Kept m s₀ x1) (hm : Sub 0x600dda80000600a m) : KeptO m s₀ (execRetransmitDue x0 x1) := by
  unfold execRetransmitDue
  try dsimp only
  with_reducible repeat' first
    | assumption
    | apply KeptO.next
    | apply Kept.ite
    | apply State.advanceTo_kept
    | apply State.setCtx_kept
    | apply State.sendBoth_kept
    | apply State.inc_kept
    | apply State.giveUp_kept
    | (apply Sub.of hm; decide)
    | (apply InPg.at (InPg.ctxP _ (Sub.bit hm (by decide))) (by first | decide | assumption | (dsimp only; decide)))
    | split

theorem execHeartbeatMiss_kept {m : Nat} {s₀ : State} (x0 : Fin 160) {x1 : State}
    (h : Kept m s₀ x1) (hm : Sub 0x600dda80000600a m) : KeptO m s₀ (execHeartbeatMiss x0 x1) := by
  unfold execHeartbeatMiss
  try dsimp only
  with_reducible repeat' first
    | assumption
    | apply KeptO.next
    | apply Kept.ite
    | apply State.advanceTo_kept
    | apply State.heardShow_kept
    | apply State.ps_kept
    | apply State.setCst_kept
    | apply State.inc_kept
    | apply State.convEnd_kept
    | apply State.ikwOffer_kept
    | (apply Sub.of hm; decide)
    | (apply InPg.at (InPg.ctxP _ (Sub.bit hm (by decide))) (by first | decide | assumption | (dsimp only; decide)))
    | apply InPg.ctxP _ (Sub.bit hm (by decide))

theorem execBcastHeartbeat_kept {m : Nat} {s₀ : State} (x0 : Fin 4) {x1 : State}
    (h : Kept m s₀ x1) (hm : Sub 0x6009da00000200a m) : KeptO m s₀ (execBcastHeartbeat x0 x1) := by
  unfold execBcastHeartbeat
  refine KeptO.next ?_
  extract_lets k per
  split
  · extract_lets s1 src s2
    have k1 : Kept m s₀ s1 := State.advanceTo_kept _ h (Sub.of hm (by decide))
    clear_value s1
    have k2 : Kept m s₀ s2 := Kept.set_cve k1 (Sub.bit hm (by decide)) _
    clear_value s2
    have k3 := State.bcSeq_kept k k2 (Sub.of hm (by decide))
    generalize s2.bcSeq k = e at k3 ⊢
    obtain ⟨n, s3⟩ := e
    exact State.sendBoth_kept _ _ (State.drew_kept _ k3 (Sub.of hm (by decide))) (Sub.of hm (by decide))
  · exact h

theorem execCveSend_kept {m : Nat} {s₀ : State} (x0 : Fin 160) (x1 : Word) (x2 : List Word) (x3 : BitVec 16) {x4 : State}
    (h : Kept m s₀ x4) (hm : Sub 0x6008c6000026000 m) : KeptO m s₀ (execCveSend x0 x1 x2 x3 x4) := by
  unfold execCveSend
  try dsimp only
  with_reducible repeat' first
    | assumption
    | apply KeptO.next
    | apply State.onWrite_kept
    | apply State.ctxOp_kept
    | (apply Sub.of hm; decide)
    | (apply InPg.at (InPg.ctxP _ (Sub.bit hm (by decide))) (by first | decide | assumption | (dsimp only; decide)))
    | intro _ _

theorem execCveRelease_kept {m : Nat} {s₀ : State} (x0 : Fin 160) (x1 : Fin 2) (x2 : BitVec 7) (x3 : BitVec 16) {x4 : State}
    (h : Kept m s₀ x4) (hm : Sub 0x600cc6800026000 m) : KeptO m s₀ (execCveRelease x0 x1 x2 x3 x4) := by
  unfold execCveRelease
  try dsimp only
  with_reducible repeat' first
    | assumption
    | apply KeptO.next
    | apply State.onWrite_kept
    | apply State.relLand_kept
    | apply State.ctxOp_kept
    | (apply Sub.of hm; decide)
    | (apply InPg.at (InPg.ctxP _ (Sub.bit hm (by decide))) (by first | decide | assumption | (dsimp only; decide)))
    | apply Kept.ite2
    | intro _ _

theorem execCveNotice_kept {m : Nat} {s₀ : State} (x0 : Word) (x1 : List Word) (x2 : BitVec 16) {x3 : State}
    (h : Kept m s₀ x3) (hm : Sub 0x6008c6000026000 m) : KeptO m s₀ (execCveNotice x0 x1 x2 x3) := by
  unfold execCveNotice
  try dsimp only
  with_reducible repeat' first
    | assumption
    | apply KeptO.next
    | apply State.onWrite_kept
    | apply State.noticeOp_kept
    | (apply Sub.of hm; decide)
    | (apply InPg.at (InPg.cveC (Sub.bit hm (by decide))) (by first | decide | assumption | (dsimp only; decide)))
    | intro _ _

theorem execCtxBarClear_kept {m : Nat} {s₀ : State} (x0 : Ini) (x1 : Fin 160) (x2 : Word) {x3 : State}
    (h : Kept m s₀ x3) (hm : Sub 0xc6000024000 m) : KeptO m s₀ (execCtxBarClear x0 x1 x2 x3) := by
  unfold execCtxBarClear
  try dsimp only
  with_reducible repeat' first
    | assumption
    | apply KeptO.next
    | apply State.onWrite_kept
    | apply State.ctxStatWrite_kept
    | (apply Sub.of hm; decide)
    | (apply InPg.at (InPg.ctxP _ (Sub.bit hm (by decide))) (by first | decide | assumption | (dsimp only; decide)))
    | intro _ _

theorem execNibSubmit_kept {m : Nat} {s₀ : State} (x0 : Ini) (x1 : Fin 2) (x2 : Word) {x3 : State}
    (h : Kept m s₀ x3) (hm : Sub 0x4d85e680002c70d m) : KeptO m s₀ (execNibSubmit x0 x1 x2 x3) := by
  unfold execNibSubmit
  try dsimp only
  with_reducible repeat' first
    | assumption
    | apply KeptO.next
    | apply State.onWrite_kept
    | apply State.winCommit_kept
    | (apply Sub.of hm; decide)
    | (apply InPg.at (InPg.winP _ (Sub.bit hm (by decide))) (by first | decide | assumption | (dsimp only; decide)))
    | intro _ _

theorem execNibForward_kept {m : Nat} {s₀ : State} (x0 : Fin 4) {x1 : State}
    (h : Kept m s₀ x1) (hm : Sub 0x6d8dfe80002e70f m) : KeptO m s₀ (execNibForward x0 x1) := by
  unfold execNibForward
  try dsimp only
  with_reducible repeat' first
    | assumption
    | apply KeptO.next
    | apply Kept.ite
    | apply State.retryAll_kept
    | apply State.inc_kept
    | apply State.nibPort_kept
    | apply State.setNibQ_kept
    | (apply Sub.of hm; decide)
    | (apply InPg.at (InPg.apxC (Sub.bit hm (by decide))) (by first | decide | assumption | (dsimp only; decide)))
    | split

theorem execLagTimeout_kept {m : Nat} {s₀ : State} (x0 : Fin 2) {x1 : State}
    (h : Kept m s₀ x1) (hm : Sub 0x4d85fa80002c70f m) : KeptO m s₀ (execLagTimeout x0 x1) := by
  unfold execLagTimeout
  try dsimp only
  with_reducible repeat' first
    | assumption
    | apply KeptO.next
    | apply Kept.ite
    | apply State.advanceTo_kept
    | apply State.pairFail_kept
    | apply State.irq_kept
    | (apply Sub.of hm; decide)
    | apply InPg.apxC (Sub.bit hm (by decide))
    | split

theorem execNibHello_kept {m : Nat} {s₀ : State} (x0 : Ini) (x1 : Fin 2) (x2 : Word) {x3 : State}
    (h : Kept m s₀ x3) (hm : Sub 0x4400e6000028005 m) : KeptO m s₀ (execNibHello x0 x1 x2 x3) := by
  unfold execNibHello
  try dsimp only
  with_reducible repeat' first
    | assumption
    | apply KeptO.next
    | apply State.onWrite_kept
    | apply State.hello_kept
    | (apply Sub.of hm; decide)
    | (apply InPg.at (InPg.winP _ (Sub.bit hm (by decide))) (by first | decide | assumption | (dsimp only; decide)))
    | intro _ _

theorem execNibWdgKick_kept {m : Nat} {s₀ : State} (x0 : Ini) (x1 : Fin 2) (x2 : Word) {x3 : State}
    (h : Kept m s₀ x3) (hm : Sub 0xc4000020000 m) : KeptO m s₀ (execNibWdgKick x0 x1 x2 x3) := by
  unfold execNibWdgKick
  try dsimp only
  with_reducible repeat' first
    | assumption
    | apply KeptO.next
    | apply State.onWrite_kept
    | apply State.kick_kept
    | (apply Sub.of hm; decide)
    | (apply InPg.at (InPg.winP _ (Sub.bit hm (by decide))) (by first | decide | assumption | (dsimp only; decide)))
    | intro _ _

theorem execWdgTimeout_kept {m : Nat} {s₀ : State} (x0 : Fin 2) {x1 : State}
    (h : Kept m s₀ x1) (hm : Sub 0x4d85fa80002c70f m) : KeptO m s₀ (execWdgTimeout x0 x1) := by
  unfold execWdgTimeout
  try dsimp only
  with_reducible repeat' first
    | assumption
    | apply KeptO.next
    | apply Kept.ite
    | apply State.pairFail_kept
    | apply State.advanceTo_kept
    | (apply Sub.of hm; decide)

theorem execBootTimeout_kept {m : Nat} {s₀ : State} (x0 : Fin 2) {x1 : State}
    (h : Kept m s₀ x1) (hm : Sub 0x4d85fa80002c70f m) : KeptO m s₀ (execBootTimeout x0 x1) := by
  unfold execBootTimeout
  try dsimp only
  with_reducible repeat' first
    | assumption
    | apply KeptO.next
    | apply Kept.ite
    | apply State.pairFail_kept
    | apply State.advanceTo_kept
    | (apply Sub.of hm; decide)

theorem execAutoRestart_kept {m : Nat} {s₀ : State} {x0 : State}
    (h : Kept m s₀ x0) (hm : Sub 0x1fa00002000a m) : KeptO m s₀ (execAutoRestart x0) := by
  have hs : ∀ y t, Kept m s₀ y → Kept m s₀ (State.autoRestart { y.advanceTo t with rdm := { (y.advanceTo t).rdm with noPairAt := none } } 0) := by
    intro y t hy
    refine State.autoRestart_kept _ ?_ (Sub.of hm (by decide))
    exact Kept.set_rdm (State.advanceTo_kept t hy (Sub.of hm (by decide))) (Sub.bit hm (by decide)) _ (by dsimp only; exact id)
  unfold execAutoRestart
  refine KeptO.next ?_
  cases x0.rdm.noPairAt with
  | none => exact h
  | some t =>
    dsimp only
    refine Kept.ite h ?_
    exact State.autoRestart_kept _ (hs _ _ h) (Sub.of hm (by decide))

theorem execRoleSwap_kept {m : Nat} {s₀ : State} (x0 : Ini) (x1 : Word) {x2 : State}
    (h : Kept m s₀ x2) (hm : Sub 0x4d85e680002c70d m) : KeptO m s₀ (execRoleSwap x0 x1 x2) := by
  unfold execRoleSwap
  try dsimp only
  with_reducible repeat' first
    | assumption
    | apply KeptO.next
    | apply State.onWrite_kept
    | apply State.pairCtrl_kept
    | (apply Sub.of hm; decide)
    | (apply InPg.at (InPg.rdmC (Sub.bit hm (by decide))) (by first | decide | assumption | (dsimp only; decide)))
    | intro _ _

theorem execAdmit_kept {m : Nat} {s₀ : State} (x0 : Ini) (x1 : Word) {x2 : State}
    (h : Kept m s₀ x2) (hm : Sub 0x4d85e680002c70d m) : KeptO m s₀ (execAdmit x0 x1 x2) := by
  unfold execAdmit
  try dsimp only
  with_reducible repeat' first
    | assumption
    | apply KeptO.next
    | apply State.onWrite_kept
    | apply State.pairCtrl_kept
    | (apply Sub.of hm; decide)
    | (apply InPg.at (InPg.rdmC (Sub.bit hm (by decide))) (by first | decide | assumption | (dsimp only; decide)))
    | intro _ _

theorem execPairRestart_kept {m : Nat} {s₀ : State} (x0 : Ini) (x1 : Fin 2) (x2 : Word) {x3 : State}
    (h : Kept m s₀ x3) (hm : Sub 0x4d85e680002c70d m) : KeptO m s₀ (execPairRestart x0 x1 x2 x3) := by
  unfold execPairRestart
  try dsimp only
  with_reducible repeat' first
    | assumption
    | apply KeptO.next
    | apply State.onWrite_kept
    | apply State.pairCtrl_kept
    | (apply Sub.of hm; decide)
    | (apply InPg.at (InPg.rdmC (Sub.bit hm (by decide))) (by first | decide | assumption | (dsimp only; decide)))
    | intro _ _

theorem execAdmitted_kept {m : Nat} {s₀ : State} {x0 : State}
    (h : Kept m s₀ x0) (hm : Sub 0x4401e200002800c m) : KeptO m s₀ (execAdmitted x0) := by
  have hp : InPg m rdmC := InPg.rdmC (Sub.bit hm (by decide))
  unfold execAdmitted
  refine KeptO.next ?_
  split
  · exact h
  · extract_lets q src s1
    have k1 : Kept m s₀ s1 :=
      State.pairTakes_kept q (Kept.set_rdm h (Sub.bit hm (by decide)) _ (by dsimp only [src]; exact id)) (Sub.of hm (by decide))
    clear_value s1
    refine Kept.ite h ?_
    exact State.ikwOffer_kept _ _ _ (State.irq_kept _ _ (State.setPst_kept _ _ k1 (Sub.of hm (by decide))) (Sub.of hm (by decide)) hp)
      (Sub.of hm (by decide))

theorem execQuillBulkDone_kept {m : Nat} {s₀ : State} (x0 : Fin 32) {x1 : State}
    (h : Kept m s₀ x1) (hm : Sub 0x4d85fa80002c70f m) : KeptO m s₀ (execQuillBulkDone x0 x1) := by
  unfold execQuillBulkDone
  refine KeptO.next ?_
  extract_lets left s1
  have k1 : Kept m s₀ s1 := State.advance_kept _ h (Sub.of hm (by decide))
  clear_value s1
  split
  · refine Kept.ite h ?_
    extract_lets s2 s3
    have k2 : Kept m s₀ s2 := State.memCopy_kept _ _ _ k1 (Sub.of hm (by decide))
    clear_value s2
    have k3 : Kept m s₀ s3 := State.p_kept _ _ _ (State.eccClean_kept _ _ k2 (Sub.of hm (by decide))) (Sub.of hm (by decide))
      ((InPg.qwP _ (Sub.bit hm (by decide))).at (by decide))
    clear_value s3
    refine Kept.ite (State.pairFail_kept _ _ k1 (Sub.of hm (by decide))) ?_
    exact State.quillShow_kept (Kept.set_rdm k3 (Sub.bit hm (by decide)) _ (by dsimp only; exact id)) (Sub.of hm (by decide))
  · exact h

theorem execHealthReport_kept {m : Nat} {s₀ : State} (x0 : Ini) (x1 : Fin 2) (x2 : Word) {x3 : State}
    (h : Kept m s₀ x3) (hm : Sub 0x4d85e680002c70d m) : KeptO m s₀ (execHealthReport x0 x1 x2 x3) := by
  unfold execHealthReport
  try dsimp only
  with_reducible repeat' first
    | assumption
    | apply KeptO.next
    | apply State.onWrite_kept
    | apply State.report_kept
    | (apply Sub.of hm; decide)
    | (apply InPg.at (InPg.winP _ (Sub.bit hm (by decide))) (by first | decide | assumption | (dsimp only; decide)))
    | intro _ _

theorem execHrTimeout_kept {m : Nat} {s₀ : State} (x0 : Fin 2) {x1 : State}
    (h : Kept m s₀ x1) (hm : Sub 0x4d85fa80002c70f m) : KeptO m s₀ (execHrTimeout x0 x1) := by
  unfold execHrTimeout
  try dsimp only
  with_reducible repeat' first
    | assumption
    | apply KeptO.next
    | apply Kept.ite
    | apply State.advanceTo_kept
    | apply State.setPair_kept
    | apply State.healthOccur_kept
    | apply State.inc_kept
    | (apply Sub.of hm; decide)
    | (apply InPg.at (InPg.rdmP _ (Sub.bit hm (by decide))) (by first | decide | assumption | (dsimp only; decide)))

theorem execTestSlot_kept {m : Nat} {s₀ : State} (x0 : Fin 3) (x1 x2 : Bool) {x3 : State}
    (h : Kept m s₀ x3) (hm : Sub 0x4d85fa80002c70f m) : KeptO m s₀ (execTestSlot x0 x1 x2 x3) := by
  have hp : InPg m rdmC := InPg.rdmC (Sub.bit hm (by decide))
  have ha : InPg m apxC := InPg.apxC (Sub.bit hm (by decide))
  unfold execTestSlot
  refine KeptO.next (Kept.ite h ?_)
  extract_lets s1 grid src s2 req r1 s3 r2 s4
  have k1 : Kept m s₀ s1 := State.advanceTo_kept _ h (Sub.of hm (by decide))
  clear_value s1
  have k2 : Kept m s₀ s2 := Kept.set_rdm k1 (Sub.bit hm (by decide)) _ id
  clear_value s2
  have q1 : Kept m s₀ r1 := State.testRan_kept 1 k2 (Sub.of hm (by decide))
  clear_value r1
  have k3 : Kept m s₀ s3 :=
    Kept.ite (Kept.ite q1 (State.irq_kept _ _ (State.psB_kept _ _ _ (State.testFail_kept _ q1 (Sub.of hm (by decide)))
      (Sub.of hm (by decide)) ha) (Sub.of hm (by decide)) hp)) k2
  clear_value s3
  have q2 : Kept m s₀ r2 := State.testRan_kept 3 k3 (Sub.of hm (by decide))
  clear_value r2
  have k4 : Kept m s₀ s4 :=
    Kept.ite (Kept.ite q2 (State.irq_kept _ _ (State.testFail_kept _ q2 (Sub.of hm (by decide))) (Sub.of hm (by decide)) hp)) k3
  clear_value s4
  split
  · exact k4
  · refine Kept.ite k4 ?_
    extract_lets s5
    have k5 : Kept m s₀ s5 := State.test2_kept _ _ k4 (Sub.of hm (by decide))
    clear_value s5
    exact Kept.ite k5 (State.test0_kept _ _ k5 (Sub.of hm (by decide)))

theorem execTestReq_kept {m : Nat} {s₀ : State} (x0 : Ini) (x1 : Word) {x2 : State}
    (h : Kept m s₀ x2) (hm : Sub 0xc6000020004 m) : KeptO m s₀ (execTestReq x0 x1 x2) := by
  unfold execTestReq
  try dsimp only
  with_reducible repeat' first
    | assumption
    | apply KeptO.next
    | apply State.onWrite_kept
    | apply State.land_kept
    | (apply Sub.of hm; decide)
    | (apply InPg.at (InPg.rdmC (Sub.bit hm (by decide))) (by first | decide | assumption | (dsimp only; decide)))
    | intro _ _

theorem execBootDone_kept {m : Nat} {s₀ : State} (x0 : Fin 2) (x1 : Fin 16001) (x2 : Bool) (x3 : Bool) (x4 : Bool) (x5 : Bool) {x6 : State}
    (h : Kept m s₀ x6) (hm : Sub 0x5da80000001a m) : KeptO m s₀ (execBootDone x0 x1 x2 x3 x4 x5 x6) := by
  unfold execBootDone
  try dsimp only
  with_reducible repeat' first
    | assumption
    | apply State.advance_kept
    | apply KeptO.next
    | apply Kept.ite
    | apply State.p_kept
    | apply State.eccClean_kept
    | apply State.memCopy_kept
    | apply State.setPair_kept
    | apply State.bootStat_kept
    | apply State.irq_kept
    | (apply Sub.of hm; decide)
    | (apply InPg.at (InPg.memC (Sub.bit hm (by decide))) (by first | decide | assumption | (dsimp only; decide)))
    | apply InPg.memC (Sub.bit hm (by decide))

theorem execSlpGetStatus_kept {m : Nat} {s₀ : State} (x0 : Fin 2) (x1 : BitVec 16) {x2 : State}
    (h : Kept m s₀ x2) (hm : Sub 0x100004000020040 m) : KeptO m s₀ (execSlpGetStatus x0 x1 x2) := by
  unfold execSlpGetStatus
  try dsimp only
  with_reducible repeat' first
    | assumption
    | apply KeptO.next
    | apply State.onWrite_kept
    | apply State.mbDoor_kept
    | (apply Sub.of hm; decide)
    | (apply InPg.at (InPg.mbP _ (Sub.bit hm (by decide))) (by first | decide | assumption | (dsimp only; decide)))
    | intro _ _

theorem execSlpRunTest_kept {m : Nat} {s₀ : State} (x0 : Fin 2) (x1 : BitVec 16) {x2 : State}
    (h : Kept m s₀ x2) (hm : Sub 0x100004000020040 m) : KeptO m s₀ (execSlpRunTest x0 x1 x2) := by
  unfold execSlpRunTest
  try dsimp only
  with_reducible repeat' first
    | assumption
    | apply KeptO.next
    | apply State.onWrite_kept
    | apply State.mbDoor_kept
    | (apply Sub.of hm; decide)
    | (apply InPg.at (InPg.mbP _ (Sub.bit hm (by decide))) (by first | decide | assumption | (dsimp only; decide)))
    | intro _ _

theorem execSlpReadSpb_kept {m : Nat} {s₀ : State} (x0 : Fin 2) (x1 : BitVec 16) {x2 : State}
    (h : Kept m s₀ x2) (hm : Sub 0x100004000020040 m) : KeptO m s₀ (execSlpReadSpb x0 x1 x2) := by
  unfold execSlpReadSpb
  try dsimp only
  with_reducible repeat' first
    | assumption
    | apply KeptO.next
    | apply State.onWrite_kept
    | apply State.mbDoor_kept
    | (apply Sub.of hm; decide)
    | (apply InPg.at (InPg.mbP _ (Sub.bit hm (by decide))) (by first | decide | assumption | (dsimp only; decide)))
    | intro _ _

theorem execSlpCycle_kept {m : Nat} {s₀ : State} (x0 : BitVec 12) (x1 : BitVec 12) (x2 : Nat) (x3 : BitVec 10) (x4 : Bool) (x5 : Bool) {x6 : State}
    (h : Kept m s₀ x6) (hm : Sub 0x19adfa800000fff m) : KeptO m s₀ (execSlpCycle x0 x1 x2 x3 x4 x5 x6) := by
  unfold execSlpCycle
  try dsimp only
  with_reducible repeat' first
    | assumption
    | apply KeptO.next
    | apply Kept.ite
    | apply State.slpCycle_kept

theorem execSageCycle_kept {m : Nat} {s₀ : State} (x0 : BitVec 12) (x1 : BitVec 12) (x2 : BitVec 2) (x3 : Option SgWord) (x4 : Option SgWord) (x5 : Bool) {x6 : State}
    (h : Kept m s₀ x6) (hm : Sub 0x19e1fa000000fee m) : KeptO m s₀ (execSageCycle x0 x1 x2 x3 x4 x5 x6) := by
  unfold execSageCycle
  try dsimp only
  with_reducible repeat' first
    | assumption
    | apply KeptO.next
    | apply Kept.ite
    | apply State.sageCycle_kept

theorem execSageWordTimeout_kept {m : Nat} {s₀ : State} (x0 : Fin 2) {x1 : State}
    (h : Kept m s₀ x1) (hm : Sub 0x1981da0000007ea m) : KeptO m s₀ (execSageWordTimeout x0 x1) := by
  unfold execSageWordTimeout
  try dsimp only
  with_reducible repeat' first
    | assumption
    | apply KeptO.next
    | apply Kept.ite
    | apply State.laneDone_kept
    | apply State.advanceTo_kept
    | apply State.sgBad_kept
    | apply State.laneLatchAll_kept
    | apply State.laneLatch_kept
    | apply State.snapshot_kept
    | (apply Sub.of hm; decide)
    | intro _ _
    | decide

theorem execLockstepError_kept {m : Nat} {s₀ : State} {x0 : State}
    (h : Kept m s₀ x0) (hm : Sub 0x1981c20000007e8 m) : KeptO m s₀ (execLockstepError x0) := by
  unfold execLockstepError
  try dsimp only
  with_reducible repeat' first
    | assumption
    | apply KeptO.next
    | apply Kept.ite
    | apply State.laneDone_kept
    | apply State.ps_kept
    | apply State.laneLatchAll_kept
    | (apply Sub.of hm; decide)
    | apply InPg.slpC (Sub.bit hm (by decide))
    | intro _ _

theorem execSageRecordMissing_kept {m : Nat} {s₀ : State} {x0 : State}
    (h : Kept m s₀ x0) (hm : Sub 0x1981da0000007ea m) : KeptO m s₀ (execSageRecordMissing x0) := by
  unfold execSageRecordMissing
  try dsimp only
  with_reducible repeat' first
    | assumption
    | apply KeptO.next
    | apply Kept.ite
    | apply State.laneDone_kept
    | apply State.advanceTo_kept
    | apply State.missRec_kept
    | (apply Sub.of hm; decide)
    | (apply Sub.bit hm; decide)
    | (fail_if_no_progress apply Kept.set_safe)
    | (fail_if_no_progress apply Kept.mk')
    | intro _ _

theorem execSagSafeKey_kept {m : Nat} {s₀ : State} (x0 : Ini) (x1 : Word) {x2 : State}
    (h : Kept m s₀ x2) (hm : Sub 0x100004000020080 m) : KeptO m s₀ (execSagSafeKey x0 x1 x2) := by
  unfold execSagSafeKey
  try dsimp only
  with_reducible repeat' first
    | assumption
    | apply KeptO.next
    | apply State.onWrite_kept
    | apply State.gateKey_kept
    | (apply Sub.of hm; decide)
    | (apply InPg.at (InPg.sagC (Sub.bit hm (by decide))) (by first | decide | assumption | (dsimp only; decide)))
    | intro _ _

theorem execGateTimeout_kept {m : Nat} {s₀ : State} {x0 : State}
    (h : Kept m s₀ x0) (hm : Sub 0x1001da00000008a m) : KeptO m s₀ (execGateTimeout x0) := by
  unfold execGateTimeout
  try dsimp only
  with_reducible repeat' first
    | assumption
    | apply KeptO.next
    | apply Kept.ite
    | apply State.setGate_kept
    | apply State.advanceTo_kept
    | (apply Sub.of hm; decide)

theorem execSagLatchClr_kept {m : Nat} {s₀ : State} (x0 : Ini) (x1 : Word) {x2 : State}
    (h : Kept m s₀ x2) (hm : Sub 0x100004000020080 m) : KeptO m s₀ (execSagLatchClr x0 x1 x2) := by
  unfold execSagLatchClr
  try dsimp only
  with_reducible repeat' first
    | assumption
    | apply KeptO.next
    | apply State.onWrite_kept
    | apply State.latchClr_kept
    | (apply Sub.of hm; decide)
    | (apply InPg.at (InPg.sagC (Sub.bit hm (by decide))) (by first | decide | assumption | (dsimp only; decide)))
    | intro _ _

theorem execSagLoadData_kept {m : Nat} {s₀ : State} (x0 : Ini) (x1 : Word) {x2 : State}
    (h : Kept m s₀ x2) (hm : Sub 0x100004000020080 m) : KeptO m s₀ (execSagLoadData x0 x1 x2) := by
  unfold execSagLoadData
  try dsimp only
  with_reducible repeat' first
    | assumption
    | apply KeptO.next
    | apply State.onWrite_kept
    | apply State.loadData_kept
    | (apply Sub.of hm; decide)
    | (apply InPg.at (InPg.sagC (Sub.bit hm (by decide))) (by first | decide | assumption | (dsimp only; decide)))
    | intro _ _

theorem execSagLoadAbort_kept {m : Nat} {s₀ : State} (x0 : Ini) (x1 : Word) {x2 : State}
    (h : Kept m s₀ x2) (hm : Sub 0x100004000020080 m) : KeptO m s₀ (execSagLoadAbort x0 x1 x2) := by
  unfold execSagLoadAbort
  try dsimp only
  with_reducible repeat' first
    | assumption
    | apply KeptO.next
    | apply State.onWrite_kept
    | apply State.loadCtrl_kept
    | (apply Sub.of hm; decide)
    | (apply InPg.at (InPg.sagC (Sub.bit hm (by decide))) (by first | decide | assumption | (dsimp only; decide)))
    | intro _ _

theorem execSpbCommit_kept {m : Nat} {s₀ : State} (x0 : Ini) (x1 : Word) {x2 : State}
    (h : Kept m s₀ x2) (hm : Sub 0x100004000020080 m) : KeptO m s₀ (execSpbCommit x0 x1 x2) := by
  unfold execSpbCommit
  try dsimp only
  with_reducible repeat' first
    | assumption
    | apply KeptO.next
    | apply State.onWrite_kept
    | apply State.loadCtrl_kept
    | (apply Sub.of hm; decide)
    | (apply InPg.at (InPg.sagC (Sub.bit hm (by decide))) (by first | decide | assumption | (dsimp only; decide)))
    | intro _ _

theorem execSpbCheckDone_kept {m : Nat} {s₀ : State} (x0 : Bool) {x1 : State}
    (h : Kept m s₀ x1) (hm : Sub 0x1000c2000000080 m) : KeptO m s₀ (execSpbCheckDone x0 x1) := by
  unfold execSpbCheckDone
  try dsimp only
  with_reducible repeat' first
    | assumption
    | apply KeptO.next
    | apply Kept.ite
    | apply State.loadEnd_kept
    | (apply Sub.bit hm; decide)
    | (fail_if_no_progress apply Kept.set_safe)
    | (fail_if_no_progress apply Kept.mk')

theorem execSpbCopiesWritten_kept {m : Nat} {s₀ : State} (x0 : Bool) (x1 : Bool) {x2 : State}
    (h : Kept m s₀ x2) (hm : Sub 0x1004c2800000080 m) : KeptO m s₀ (execSpbCopiesWritten x0 x1 x2) := by
  unfold execSpbCopiesWritten
  try dsimp only
  with_reducible repeat' first
    | assumption
    | apply KeptO.next
    | apply Kept.ite
    | apply State.recWrite_kept
    | apply State.mputEcc_kept
    | apply State.p_kept
    | apply State.wr_kept
    | apply State.loadEnd_kept
    | (apply Sub.of hm; decide)
    | (apply Sub.bit hm; decide)
    | (apply InPg.at (InPg.sagC (Sub.bit hm (by decide))) (by first | decide | assumption | (dsimp only; decide)))
    | (fail_if_no_progress apply Kept.set_safe)
    | (fail_if_no_progress apply Kept.mk')

theorem execSagSafeConfirm_kept {m : Nat} {s₀ : State} (x0 : Ini) (x1 : Word) {x2 : State}
    (h : Kept m s₀ x2) (hm : Sub 0x1000c6000020080 m) : KeptO m s₀ (execSagSafeConfirm x0 x1 x2) := by
  unfold execSagSafeConfirm
  try dsimp only
  with_reducible repeat' first
    | assumption
    | apply KeptO.next
    | apply State.onWrite_kept
    | apply State.safeConfirm_kept
    | (apply Sub.of hm; decide)
    | (apply InPg.at (InPg.sagC (Sub.bit hm (by decide))) (by first | decide | assumption | (dsimp only; decide)))
    | intro _ _

theorem execDownFrame_kept {m : Nat} {s₀ : State} (x0 : Fin 2) {x1 : State}
    (h : Kept m s₀ x1) (hm : Sub 0xb81fa00000170e m) : KeptO m s₀ (execDownFrame x0 x1) := by
  unfold execDownFrame
  try dsimp only
  with_reducible repeat' first
    | assumption
    | apply KeptO.next
    | apply Kept.ite
    | apply State.advanceTo_kept
    | apply State.dlkExpire_kept
    | apply State.setDlk_kept
    | apply State.p_kept
    | apply State.psB_kept
    | apply State.pTs_kept
    | (apply Sub.of hm; decide)
    | (apply InPg.at (InPg.dlkP _ (Sub.bit hm (by decide))) (by first | decide | assumption | (dsimp only; decide)))
    | apply InPg.dlkP _ (Sub.bit hm (by decide))

theorem execUpFrame_kept {m : Nat} {s₀ : State} (x0 : Fin 2) (x1 : List Byte) (x2 : Nat) {x3 : State}
    (h : Kept m s₀ x3) (hm : Sub 0xb81fa00000170e m) : KeptO m s₀ (execUpFrame x0 x1 x2 x3) := by
  unfold execUpFrame
  try dsimp only
  with_reducible repeat' first
    | assumption
    | apply KeptO.next
    | apply Kept.ite
    | apply State.dlkExpire_kept
    | apply State.advanceTo_kept
    | apply State.inc_kept
    | apply State.setDlk_kept
    | apply State.dlkGood_kept
    | (apply Sub.of hm; decide)
    | (apply InPg.at (InPg.dlkP _ (Sub.bit hm (by decide))) (by first | decide | assumption | (dsimp only; decide)))

theorem execPeriodMiss_kept {m : Nat} {s₀ : State} (x0 : Fin 2) {x1 : State}
    (h : Kept m s₀ x1) (hm : Sub 0xb81fa00000170e m) : KeptO m s₀ (execPeriodMiss x0 x1) := by
  unfold execPeriodMiss
  try dsimp only
  with_reducible repeat' first
    | assumption
    | apply KeptO.next
    | apply Kept.ite
    | apply State.dlkExpire_kept

theorem execSymbolLock_kept {m : Nat} {s₀ : State} (x0 : Fin 2) {x1 : State}
    (h : Kept m s₀ x1) (hm : Sub 0x20000000001000 m) : KeptO m s₀ (execSymbolLock x0 x1) := by
  unfold execSymbolLock
  try dsimp only
  with_reducible repeat' first
    | assumption
    | apply KeptO.next
    | apply Kept.ite
    | apply State.ps_kept
    | apply State.setDlk_kept
    | apply State.setLst_kept
    | (apply Sub.of hm; decide)
    | apply InPg.dlkP _ (Sub.bit hm (by decide))

theorem execSymbolLockLoss_kept {m : Nat} {s₀ : State} (x0 : Fin 2) {x1 : State}
    (h : Kept m s₀ x1) (hm : Sub 0xb81c2000001708 m) : KeptO m s₀ (execSymbolLockLoss x0 x1) := by
  unfold execSymbolLockLoss
  try dsimp only
  with_reducible repeat' first
    | assumption
    | apply KeptO.next
    | apply Kept.ite
    | apply State.ps_kept
    | apply State.dlkLost_kept
    | (apply Sub.of hm; decide)
    | apply InPg.dlkP _ (Sub.bit hm (by decide))

theorem execHelloTimeout_kept {m : Nat} {s₀ : State} (x0 : Fin 2) {x1 : State}
    (h : Kept m s₀ x1) (hm : Sub 0x1da00000100a m) : KeptO m s₀ (execHelloTimeout x0 x1) := by
  unfold execHelloTimeout
  try dsimp only
  with_reducible repeat' first
    | assumption
    | apply KeptO.next
    | apply Kept.ite
    | apply State.dlkHsFail_kept
    | apply State.advanceTo_kept
    | (apply Sub.of hm; decide)

theorem execLossClr_kept {m : Nat} {s₀ : State} (x0 : Ini) (x1 : Fin 2) (x2 : Word) {x3 : State}
    (h : Kept m s₀ x3) (hm : Sub 0x20004000021000 m) : KeptO m s₀ (execLossClr x0 x1 x2 x3) := by
  unfold execLossClr
  try dsimp only
  with_reducible repeat' first
    | assumption
    | apply KeptO.next
    | apply State.onWrite_kept
    | apply State.dlkCtrl_kept
    | (apply Sub.of hm; decide)
    | (apply InPg.at (InPg.dlkP _ (Sub.bit hm (by decide))) (by first | decide | assumption | (dsimp only; decide)))
    | intro _ _

theorem execDlkEnable_kept {m : Nat} {s₀ : State} (x0 : Ini) (x1 : Fin 2) (x2 : Word) {x3 : State}
    (h : Kept m s₀ x3) (hm : Sub 0x20004000021000 m) : KeptO m s₀ (execDlkEnable x0 x1 x2 x3) := by
  unfold execDlkEnable
  try dsimp only
  with_reducible repeat' first
    | assumption
    | apply KeptO.next
    | apply State.onWrite_kept
    | apply State.dlkCtrl_kept
    | (apply Sub.of hm; decide)
    | (apply InPg.at (InPg.dlkP _ (Sub.bit hm (by decide))) (by first | decide | assumption | (dsimp only; decide)))
    | intro _ _

theorem execPfiEnable_kept {m : Nat} {s₀ : State} (x0 : Ini) (x1 : Fin 8) (x2 : Word) {x3 : State}
    (h : Kept m s₀ x3) (hm : Sub 0x9a0c6000020f00 m) : KeptO m s₀ (execPfiEnable x0 x1 x2 x3) := by
  unfold execPfiEnable
  try dsimp only
  with_reducible repeat' first
    | assumption
    | apply KeptO.next
    | apply State.onWrite_kept
    | apply State.settle_kept
    | apply State.fbCtrl_kept
    | (apply Sub.of hm; decide)
    | (apply InPg.at (InPg.fbP _ (Sub.bit hm (by decide))) (by first | decide | assumption | (dsimp only; decide)))
    | intro _ _

theorem execQuadCount_kept {m : Nat} {s₀ : State} (x0 : Fin 8) (x1 : Bool × Bool) (x2 : Nat) {x3 : State}
    (h : Kept m s₀ x3) (hm : Sub 0x9e1e2000000f0c m) : KeptO m s₀ (execQuadCount x0 x1 x2 x3) := by
  unfold execQuadCount
  try dsimp only
  with_reducible repeat' first
    | assumption
    | apply KeptO.next
    | apply State.settle_kept
    | apply State.quadStep_kept
    | (apply Sub.of hm; decide)

theorem execPosSet_kept {m : Nat} {s₀ : State} (x0 : Ini) (x1 : Fin 8) (x2 : Word) {x3 : State}
    (h : Kept m s₀ x3) (hm : Sub 0x9a0c6000020f00 m) : KeptO m s₀ (execPosSet x0 x1 x2 x3) := by
  unfold execPosSet
  try dsimp only
  with_reducible repeat' first
    | assumption
    | apply KeptO.next
    | apply State.onWrite_kept
    | apply State.posSet_kept
    | (apply Sub.of hm; decide)
    | (apply InPg.at (InPg.fbP _ (Sub.bit hm (by decide))) (by first | decide | assumption | (dsimp only; decide)))
    | intro _ _

theorem execSpdWindow_kept {m : Nat} {s₀ : State} (x0 : Fin 8) {x1 : State}
    (h : Kept m s₀ x1) (hm : Sub 0x9a1da000000f0a m) : KeptO m s₀ (execSpdWindow x0 x1) := by
  unfold execSpdWindow
  try dsimp only
  with_reducible repeat' first
    | assumption
    | apply KeptO.next
    | apply State.settle_kept
    | apply State.spdWindow_kept
    | (apply Sub.of hm; decide)

theorem execSerRequest_kept {m : Nat} {s₀ : State} (x0 : Fin 8) {x1 : State}
    (h : Kept m s₀ x1) (hm : Sub 0x21da00000080a m) : KeptO m s₀ (execSerRequest x0 x1) := by
  unfold execSerRequest
  try dsimp only
  with_reducible repeat' first
    | assumption
    | apply KeptO.next
    | apply Kept.ite
    | apply State.serStart_kept
    | apply State.advanceTo_kept
    | (apply Sub.of hm; decide)

theorem execSerWord_kept {m : Nat} {s₀ : State} (x0 : Fin 8) (x1 : Bool) (x2 : Nat) (x3 : Bool) (x4 : Bool) (x5 : Nat) (x6 : Nat) {x7 : State}
    (h : Kept m s₀ x7) (hm : Sub 0x9e1e2000000f0c m) : KeptO m s₀ (execSerWord x0 x1 x2 x3 x4 x5 x6 x7) := by
  unfold execSerWord
  try dsimp only
  with_reducible repeat' first
    | assumption
    | apply KeptO.next
    | apply State.settle_kept
    | apply State.serWord_kept
    | (apply Sub.of hm; decide)

theorem execSerStale_kept {m : Nat} {s₀ : State} (x0 : Fin 8) {x1 : State}
    (h : Kept m s₀ x1) (hm : Sub 0x981da000000f0a m) : KeptO m s₀ (execSerStale x0 x1) := by
  unfold execSerStale
  try dsimp only
  with_reducible repeat' first
    | assumption
    | apply KeptO.next
    | apply Kept.ite
    | apply State.advanceTo_kept
    | apply State.settle_kept
    | apply State.fbValidate_kept
    | apply State.psB_kept
    | (apply Sub.of hm; decide)
    | apply InPg.fbP _ (Sub.bit hm (by decide))

theorem execIndexEdge_kept {m : Nat} {s₀ : State} (x0 : Fin 8) (x1 : IndexLevel) {x2 : State}
    (h : Kept m s₀ x2) (hm : Sub 0x9a1e2000000f0c m) : KeptO m s₀ (execIndexEdge x0 x1 x2) := by
  unfold execIndexEdge
  try dsimp only
  with_reducible repeat' first
    | assumption
    | apply KeptO.next
    | apply Kept.ite
    | apply State.settle_kept
    | apply State.zLevel_kept
    | apply State.probeLevel_kept
    | (apply Sub.of hm; decide)

theorem execProbeEdge_kept {m : Nat} {s₀ : State} (x0 : Fin 8) (x1 : Fin 2) (x2 : PinLevel) {x3 : State}
    (h : Kept m s₀ x3) (hm : Sub 0x9a1e2000000f0c m) : KeptO m s₀ (execProbeEdge x0 x1 x2 x3) := by
  unfold execProbeEdge
  try dsimp only
  with_reducible repeat' first
    | assumption
    | apply KeptO.next
    | apply State.settle_kept
    | apply State.probeLevel_kept
    | (apply Sub.of hm; decide)

theorem execCmpArm_kept {m : Nat} {s₀ : State} (x0 : Ini) (x1 : Fin 8) (x2 : Fin 4) (x3 : Word) {x4 : State}
    (h : Kept m s₀ x4) (hm : Sub 0x980c6000020f00 m) : KeptO m s₀ (execCmpArm x0 x1 x2 x3 x4) := by
  unfold execCmpArm
  try dsimp only
  with_reducible repeat' first
    | assumption
    | apply KeptO.next
    | apply State.onWrite_kept
    | apply State.settle_kept
    | apply State.cmpWrite_kept
    | (apply Sub.of hm; decide)
    | (apply InPg.at (InPg.cmpP _ _ (Sub.bit hm (by decide))) (by first | decide | assumption | (dsimp only; decide)))
    | intro _ _

theorem execCmpDisarm_kept {m : Nat} {s₀ : State} (x0 : Ini) (x1 : Fin 8) (x2 : Fin 4) (x3 : Word) {x4 : State}
    (h : Kept m s₀ x4) (hm : Sub 0x980c6000020f00 m) : KeptO m s₀ (execCmpDisarm x0 x1 x2 x3 x4) := by
  unfold execCmpDisarm
  try dsimp only
  with_reducible repeat' first
    | assumption
    | apply KeptO.next
    | apply State.onWrite_kept
    | apply State.settle_kept
    | apply State.cmpWrite_kept
    | (apply Sub.of hm; decide)
    | (apply InPg.at (InPg.cmpP _ _ (Sub.bit hm (by decide))) (by first | decide | assumption | (dsimp only; decide)))
    | intro _ _

theorem execPfiFaultClear_kept {m : Nat} {s₀ : State} (x0 : Ini) (x1 : Fin 8) (x2 : Word) {x3 : State}
    (h : Kept m s₀ x3) (hm : Sub 0x980c6000020f00 m) : KeptO m s₀ (execPfiFaultClear x0 x1 x2 x3) := by
  unfold execPfiFaultClear
  try dsimp only
  with_reducible repeat' first
    | assumption
    | apply KeptO.next
    | apply State.onWrite_kept
    | apply State.settle_kept
    | apply State.fbStatWrite_kept
    | (apply Sub.of hm; decide)
    | (apply InPg.at (InPg.fbP _ (Sub.bit hm (by decide))) (by first | decide | assumption | (dsimp only; decide)))
    | intro _ _

theorem execPfiSnap_kept {m : Nat} {s₀ : State} (x0 : Ini) (x1 : Word) {x2 : State}
    (h : Kept m s₀ x2) (hm : Sub 0x4000020800 m) : KeptO m s₀ (execPfiSnap x0 x1 x2) := by
  unfold execPfiSnap
  try dsimp only
  with_reducible repeat' first
    | assumption
    | apply KeptO.next
    | apply State.onWrite_kept
    | apply State.fbSnap_kept
    | (apply Sub.of hm; decide)
    | (apply InPg.at (InPg.pfiC (Sub.bit hm (by decide))) (by first | decide | assumption | (dsimp only; decide)))
    | intro _ _

theorem execPoStep_kept {m : Nat} {s₀ : State} (x0 : Fin 2) {x1 : State}
    (h : Kept m s₀ x1) (hm : Sub 0x41da00000080a m) : KeptO m s₀ (execPoStep x0 x1) := by
  unfold execPoStep
  try dsimp only
  with_reducible repeat' first
    | assumption
    | apply KeptO.next
    | apply State.poStep_kept

theorem execInputChange_kept {m : Nat} {s₀ : State} (x0 : Fin 32) (x1 : Bool) (x2 : Bool) (x3 : PinLevel) {x4 : State}
    (h : Kept m s₀ x4) (hm : Sub 0x1981c20000007a8 m) : KeptO m s₀ (execInputChange x0 x1 x2 x3 x4) := by
  unfold execInputChange
  try dsimp only
  with_reducible repeat' first
    | assumption
    | apply KeptO.next
    | apply Kept.ite
    | apply State.laneDone_kept
    | apply State.setLin_kept
    | apply State.pB_kept
    | apply State.pTs_kept
    | (apply Sub.of hm; decide)
    | (apply InPg.at (InPg.inP _ (Sub.bit hm (by decide))) (by first | decide | assumption | (dsimp only; decide)))
    | intro _ _
    | split

theorem execTestPulse_kept {m : Nat} {s₀ : State} (x0 : Fin 4) (x1 : BitVec 64 × BitVec 64) (x2 : BitVec 64 × BitVec 64) (x3 : BitVec 64) (x4 : BitVec 64) (x5 : BitVec 2) (x6 : BitVec 2) {x7 : State}
    (h : Kept m s₀ x7) (hm : Sub 0x1981da0000007aa m) : KeptO m s₀ (execTestPulse x0 x1 x2 x3 x4 x5 x6 x7) := by
  unfold execTestPulse
  try dsimp only
  with_reducible repeat' first
    | assumption
    | apply KeptO.next
    | apply Kept.ite
    | apply State.advanceTo_kept
    | apply State.setTp_kept
    | apply State.pB_kept
    | apply State.laneDone_kept
    | apply State.tpLane_kept
    | (apply Sub.of hm; decide)
    | (apply Sub.bit hm; decide)
    | (apply InPg.at (InPg.sioC (Sub.bit hm (by decide))) (by first | decide | assumption | (dsimp only; decide)))
    | (fail_if_no_progress apply Kept.set_safe)
    | (fail_if_no_progress apply Kept.mk')
    | intro _ _

theorem execTpHeldReadback_kept {m : Nat} {s₀ : State} (x0 : Fin 4) (x1 : Bool) {x2 : State}
    (h : Kept m s₀ x2) (hm : Sub 0xc2000000020 m) : KeptO m s₀ (execTpHeldReadback x0 x1 x2) := by
  unfold execTpHeldReadback
  try dsimp only
  with_reducible repeat' first
    | assumption
    | apply KeptO.next
    | apply Kept.ite
    | apply State.pB_kept
    | apply State.irq_kept
    | apply State.setTpFault_kept
    | (apply Sub.of hm; decide)
    | (apply InPg.at (InPg.sioC (Sub.bit hm (by decide))) (by first | decide | assumption | (dsimp only; decide)))
    | apply InPg.sioC (Sub.bit hm (by decide))

theorem execDiscFault_kept {m : Nat} {s₀ : State} (x0 : Fin 32) (x1 : Bool) {x2 : State}
    (h : Kept m s₀ x2) (hm : Sub 0x1981da0000007aa m) : KeptO m s₀ (execDiscFault x0 x1 x2) := by
  unfold execDiscFault
  try dsimp only
  with_reducible repeat' first
    | assumption
    | apply KeptO.next
    | apply Kept.ite
    | apply State.advanceTo_kept
    | apply State.laneDone_kept
    | apply State.setLin_kept
    | apply State.inFault_kept
    | apply State.p_kept
    | (apply Sub.of hm; decide)
    | (apply InPg.at (InPg.inP _ (Sub.bit hm (by decide))) (by first | decide | assumption | (dsimp only; decide)))
    | intro _ _

theorem execSioInReset_kept {m : Nat} {s₀ : State} (x0 : Ini) (x1 : Word) {x2 : State}
    (h : Kept m s₀ x2) (hm : Sub 0x100004000020020 m) : KeptO m s₀ (execSioInReset x0 x1 x2) := by
  unfold execSioInReset
  try dsimp only
  with_reducible repeat' first
    | assumption
    | apply KeptO.next
    | apply State.onWrite_kept
    | apply State.sioInReset_kept
    | (apply Sub.of hm; decide)
    | (apply InPg.at (InPg.sioC (Sub.bit hm (by decide))) (by first | decide | assumption | (dsimp only; decide)))
    | intro _ _

theorem execSioOutReset_kept {m : Nat} {s₀ : State} (x0 : Ini) (x1 : Word) {x2 : State}
    (h : Kept m s₀ x2) (hm : Sub 0x100004000020020 m) : KeptO m s₀ (execSioOutReset x0 x1 x2) := by
  unfold execSioOutReset
  try dsimp only
  with_reducible repeat' first
    | assumption
    | apply KeptO.next
    | apply State.onWrite_kept
    | apply State.sioOutReset_kept
    | (apply Sub.of hm; decide)
    | (apply InPg.at (InPg.sioC (Sub.bit hm (by decide))) (by first | decide | assumption | (dsimp only; decide)))
    | intro _ _

theorem execDzRst_kept {m : Nat} {s₀ : State} (x0 : Ini) (x1 : Word) {x2 : State}
    (h : Kept m s₀ x2) (hm : Sub 0x100004000020020 m) : KeptO m s₀ (execDzRst x0 x1 x2) := by
  unfold execDzRst
  try dsimp only
  with_reducible repeat' first
    | assumption
    | apply KeptO.next
    | apply State.onWrite_kept
    | apply State.sioOutReset_kept
    | (apply Sub.of hm; decide)
    | (apply InPg.at (InPg.sioC (Sub.bit hm (by decide))) (by first | decide | assumption | (dsimp only; decide)))
    | intro _ _

theorem execDarkTest_kept {m : Nat} {s₀ : State} (x0 : Fin 12) (x1 : Bool) {x2 : State}
    (h : Kept m s₀ x2) (hm : Sub 0x1981fa0000007ee m) : KeptO m s₀ (execDarkTest x0 x1 x2) := by
  unfold execDarkTest
  try dsimp only
  with_reducible repeat' first
    | assumption
    | apply KeptO.next
    | apply Kept.ite
    | apply State.advanceTo_kept
    | apply State.laneDone_kept
    | apply State.setSw_kept
    | apply State.setSwitch_kept
    | apply State.inc_kept
    | apply State.groupFault_kept
    | (apply Sub.of hm; decide)
    | (apply InPg.at (InPg.outP _ (Sub.bit hm (by decide))) (by first | decide | assumption | (dsimp only; decide)))
    | intro _ _

theorem execRbFault_kept {m : Nat} {s₀ : State} (x0 : Fin 12) (x1 : Bool) (x2 : Bool) {x3 : State}
    (h : Kept m s₀ x3) (hm : Sub 0x1981fa0000007ee m) : KeptO m s₀ (execRbFault x0 x1 x2 x3) := by
  unfold execRbFault
  try dsimp only
  with_reducible repeat' first
    | assumption
    | apply KeptO.next
    | apply Kept.ite
    | apply State.laneDone_kept
    | apply State.advanceTo_kept
    | apply State.groupFault_kept
    | (apply Sub.of hm; decide)
    | intro _ _

theorem execFbTimeout_kept {m : Nat} {s₀ : State} (x0 : Fin 12) (x1 : Bool) {x2 : State}
    (h : Kept m s₀ x2) (hm : Sub 0x1981fa0000007ee m) : KeptO m s₀ (execFbTimeout x0 x1 x2) := by
  unfold execFbTimeout
  try dsimp only
  with_reducible repeat' first
    | assumption
    | apply KeptO.next
    | apply Kept.ite
    | apply State.advanceTo_kept
    | apply State.laneDone_kept
    | apply State.groupFault_kept
    | apply State.setLout_kept
    | (apply Sub.of hm; decide)
    | intro _ _

theorem execOnReq_kept {m : Nat} {s₀ : State} (x0 : Ini) (x1 : Fin 6) (x2 : Word) {x3 : State}
    (h : Kept m s₀ x3) (hm : Sub 0xc6000020020 m) : KeptO m s₀ (execOnReq x0 x1 x2 x3) := by
  unfold execOnReq
  try dsimp only
  with_reducible repeat' first
    | assumption
    | apply KeptO.next
    | apply State.onWrite_kept
    | apply State.land_kept
    | (apply Sub.of hm; decide)
    | (apply InPg.at (InPg.sogP _ (Sub.bit hm (by decide))) (by first | decide | assumption | (dsimp only; decide)))
    | intro _ _

theorem execOfsCommit_kept {m : Nat} {s₀ : State} (x0 : Ini) (x1 : Word) {x2 : State}
    (h : Kept m s₀ x2) (hm : Sub 0xce000020002 m) : KeptO m s₀ (execOfsCommit x0 x1 x2) := by
  unfold execOfsCommit
  try dsimp only
  with_reducible repeat' first
    | assumption
    | apply KeptO.next
    | apply State.onWrite_kept
    | apply State.ofsCommit_kept
    | (apply Sub.of hm; decide)
    | (apply InPg.at (InPg.tbsC (Sub.bit hm (by decide))) (by first | decide | assumption | (dsimp only; decide)))
    | intro _ _

theorem execTbStep_kept {m : Nat} {s₀ : State} {x0 : State}
    (h : Kept m s₀ x0) (hm : Sub 0x2001da00000200a m) : KeptO m s₀ (execTbStep x0) := by
  unfold execTbStep
  try dsimp only
  with_reducible repeat' first
    | assumption
    | apply KeptO.next
    | apply Kept.ite
    | apply State.txSelect_kept
    | apply State.tick_kept
    | (apply Sub.of hm; decide)
    | apply Kept.foldl
    | intro _ _ _
    | split

theorem execSlewDone_kept {m : Nat} {s₀ : State} {x0 : State}
    (h : Kept m s₀ x0) (hm : Sub 0x1da00000000a m) : KeptO m s₀ (execSlewDone x0) := by
  unfold execSlewDone
  try dsimp only
  with_reducible repeat' first
    | assumption
    | apply KeptO.next
    | apply Kept.ite
    | apply State.advance_kept

theorem execReseededClear_kept {m : Nat} {s₀ : State} (x0 : Ini) (x1 : Word) {x2 : State}
    (h : Kept m s₀ x2) (hm : Sub 0x4000020002 m) : KeptO m s₀ (execReseededClear x0 x1 x2) := by
  unfold execReseededClear
  try dsimp only
  with_reducible repeat' first
    | assumption
    | apply KeptO.next
    | apply State.onWrite_kept
    | apply State.tbsStatWrite_kept
    | (apply Sub.of hm; decide)
    | (apply InPg.at (InPg.tbsC (Sub.bit hm (by decide))) (by first | decide | assumption | (dsimp only; decide)))
    | intro _ _

theorem execSyncSend_kept {m : Nat} {s₀ : State} (x0 : Fin 4) {x1 : State}
    (h : Kept m s₀ x1) (hm : Sub 0x6009da00000200a m) : KeptO m s₀ (execSyncSend x0 x1) := by
  unfold execSyncSend
  try dsimp only
  with_reducible repeat' first
    | assumption
    | apply KeptO.next
    | apply Kept.ite
    | apply State.untilStamp_kept
    | apply State.setNet_kept
    | apply State.syncQueue_kept
    | (apply Sub.of hm; decide)

theorem execSyncDeadline_kept {m : Nat} {s₀ : State} (x0 : Fin 4) {x1 : State}
    (h : Kept m s₀ x1) (hm : Sub 0x2009fa00000200e m) : KeptO m s₀ (execSyncDeadline x0 x1) := by
  unfold execSyncDeadline
  try dsimp only
  with_reducible repeat' first
    | assumption
    | apply KeptO.next
    | apply Kept.ite
    | apply State.untilStamp_kept
    | apply State.txKick_kept
    | apply State.syncAbandon_kept
    | (apply Sub.of hm; decide)

theorem execFollowUpSend_kept {m : Nat} {s₀ : State} (x0 : Fin 4) {x1 : State}
    (h : Kept m s₀ x1) (hm : Sub 0x600810000002000 m) : KeptO m s₀ (execFollowUpSend x0 x1) := by
  unfold execFollowUpSend
  try dsimp only
  with_reducible repeat' first
    | assumption
    | apply KeptO.next
    | apply Kept.ite
    | apply State.bcSeq_kept
    | apply State.setNet_kept
    | apply State.enqueue_kept
    | (apply Sub.of hm; decide)

theorem execOppReq_kept {m : Nat} {s₀ : State} (x0 : Ini) (x1 : Word) {x2 : State}
    (h : Kept m s₀ x2) (hm : Sub 0x204000020001 m) : KeptO m s₀ (execOppReq x0 x1 x2) := by
  unfold execOppReq
  try dsimp only
  with_reducible repeat' first
    | assumption
    | apply KeptO.next
    | apply State.onWrite_kept
    | apply State.oppWrite_kept
    | (apply Sub.of hm; decide)
    | (apply InPg.at (InPg.pcrC (Sub.bit hm (by decide))) (by first | decide | assumption | (dsimp only; decide)))
    | intro _ _

theorem execOppDone_kept {m : Nat} {s₀ : State} (x0 : Bool) {x1 : State}
    (h : Kept m s₀ x1) (hm : Sub 0xc2000000001 m) : KeptO m s₀ (execOppDone x0 x1) := by
  unfold execOppDone
  try dsimp only
  with_reducible repeat' first
    | assumption
    | apply KeptO.next
    | apply Kept.ite
    | apply State.oppDone_kept
    | apply State.oppFail_kept

theorem execDvsAckTimeout_kept {m : Nat} {s₀ : State} {x0 : State}
    (h : Kept m s₀ x0) (hm : Sub 0x1da00000000b m) : KeptO m s₀ (execDvsAckTimeout x0) := by
  unfold execDvsAckTimeout
  try dsimp only
  with_reducible repeat' first
    | assumption
    | apply KeptO.next
    | apply Kept.ite
    | apply State.oppFail_kept
    | apply State.advance_kept
    | (apply Sub.of hm; decide)

theorem execDvsAckLost_kept {m : Nat} {s₀ : State} {x0 : State}
    (h : Kept m s₀ x0) (hm : Sub 0xffefffa8003ffff m) : KeptO m s₀ (execDvsAckLost x0) := by
  unfold execDvsAckLost
  try dsimp only
  with_reducible repeat' first
    | assumption
    | apply KeptO.next
    | apply Kept.ite
    | apply State.supplyFault_kept

theorem execCoreWfi_kept {m : Nat} {s₀ : State} (x0 : Fin 2) (x1 : Fin 2) {x2 : State}
    (h : Kept m s₀ x2) (hm : Sub 0xc0000000000 m) : KeptO m s₀ (execCoreWfi x0 x1 x2) := by
  unfold execCoreWfi
  try dsimp only
  with_reducible repeat' first
    | assumption
    | apply KeptO.next
    | apply Kept.ite
    | apply State.setPair_kept

theorem execSleepStandby_kept {m : Nat} {s₀ : State} (x0 : Ini) (x1 : Word) (x2 : BitVec 9) {x3 : State}
    (h : Kept m s₀ x3) (hm : Sub 0x2c6000020001 m) : KeptO m s₀ (execSleepStandby x0 x1 x2 x3) := by
  unfold execSleepStandby
  try dsimp only
  with_reducible repeat' first
    | assumption
    | apply KeptO.next
    | apply State.onWrite_kept
    | apply State.sleepReq_kept
    | (apply Sub.of hm; decide)
    | (apply InPg.at (InPg.pcrC (Sub.bit hm (by decide))) (by first | decide | assumption | (dsimp only; decide)))
    | intro _ _

theorem execSleepHibernate_kept {m : Nat} {s₀ : State} (x0 : Ini) (x1 : Word) (x2 : BitVec 9) {x3 : State}
    (h : Kept m s₀ x3) (hm : Sub 0x2c6000020001 m) : KeptO m s₀ (execSleepHibernate x0 x1 x2 x3) := by
  unfold execSleepHibernate
  try dsimp only
  with_reducible repeat' first
    | assumption
    | apply KeptO.next
    | apply State.onWrite_kept
    | apply State.sleepReq_kept
    | (apply Sub.of hm; decide)
    | (apply InPg.at (InPg.pcrC (Sub.bit hm (by decide))) (by first | decide | assumption | (dsimp only; decide)))
    | intro _ _

theorem execSleepCoresTimeout_kept {m : Nat} {s₀ : State} {x0 : State}
    (h : Kept m s₀ x0) (hm : Sub 0x3da00000000b m) : KeptO m s₀ (execSleepCoresTimeout x0) := by
  unfold execSleepCoresTimeout
  try dsimp only
  with_reducible repeat' first
    | assumption
    | apply KeptO.next
    | apply Kept.ite
    | apply State.advanceTo_kept
    | apply State.sleepRes_kept
    | (apply Sub.of hm; decide)
    | (apply Sub.bit hm; decide)
    | (fail_if_no_progress apply Kept.set_pcr)
    | (fail_if_no_progress apply Kept.mk')

theorem execStandbyEntry_kept {m : Nat} {s₀ : State} {x0 : State}
    (h : Kept m s₀ x0) (hm : Sub 0x1822c2000000899 m) : KeptO m s₀ (execStandbyEntry x0) := by
  unfold execStandbyEntry
  try dsimp only
  with_reducible repeat' first
    | assumption
    | apply KeptO.next
    | apply Kept.ite
    | apply State.standbyIn_kept
    | apply State.wakeStart_kept
    | (apply Sub.of hm; decide)

theorem execHibernateEntry_kept {m : Nat} {s₀ : State} {x0 : State}
    (h : Kept m s₀ x0) (hm : Sub 0xffefffa8003ffff m) : KeptO m s₀ (execHibernateEntry x0) := by
  unfold execHibernateEntry
  try dsimp only
  with_reducible repeat' first
    | assumption
    | apply KeptO.next
    | apply Kept.ite
    | apply State.sleepRes_kept
    | apply State.hibernateIn_kept
    | (apply Sub.of hm; decide)
    | (apply Sub.bit hm; decide)
    | (fail_if_no_progress apply Kept.set_pcr)
    | (fail_if_no_progress apply Kept.mk')

theorem execWakeEvent_kept {m : Nat} {s₀ : State} (x0 : Fin 9) (x1 : Fin 8) {x2 : State}
    (h : Kept m s₀ x2) (hm : Sub 0x3da00000000b m) : KeptO m s₀ (execWakeEvent x0 x1 x2) := by
  unfold execWakeEvent
  try dsimp only
  with_reducible repeat' first
    | assumption
    | apply KeptO.next
    | apply State.wakeEvent_kept

theorem execWakeAttemptTimeout_kept {m : Nat} {s₀ : State} (x0 : Bool) {x1 : State}
    (h : Kept m s₀ x1) (hm : Sub 0xffefffa8003ffff m) : KeptO m s₀ (execWakeAttemptTimeout x0 x1) := by
  have hp : InPg m pcrC := InPg.pcrC (Sub.bit hm (by decide))
  have hs : ∀ y v, Kept m s₀ y → Kept m s₀ { y with pcr := v } := fun y v hy => Kept.set_pcr hy (Sub.bit hm (by decide)) v
  have ha : ∀ y t, Kept m s₀ y → Kept m s₀ ((State.advanceTo y t).inc pcrC R.PcrC.WAKE_FAIL_CNT) := fun y t hy =>
    State.inc_kept _ _ _ (State.advanceTo_kept _ hy (Sub.of hm (by decide))) (Sub.of hm (by decide)) (hp.at (by decide))
  have hl : ∀ y, Kept m s₀ y → Kept m s₀ (y.limpEntry.wakeFailed 2) := fun y hy =>
    State.wakeFailed_kept _ (State.limpEntry_kept hy (Sub.of hm (by decide))) (Sub.of hm (by decide))
  have hr : ∀ y, Kept m s₀ y → Kept m s₀ y.regNever := fun y hy => State.regNever_kept hy (Sub.of hm (by decide))
  have key : Kept m s₀ (
      if x0 then
        if x1.b pcrC R.PcrC.STAT_LIMP then x1 else
        let s := if x1.pcr.wakeStep = 1 then x1 else x1.regReady
        let s := (s.advanceTo (s.pcr.attemptAt + 10000000)).inc pcrC R.PcrC.WAKE_FAIL_CNT
        let n := s.pcr.attempt + 1
        let s := { s with pcr := { s.pcr with attempt := n, attemptAt := s.tbs.el } }
        if n < 4 then s
        else if s.pcr.power == .starting then s.startEnd.limpEntry.wakeFailed 2
        else s.limpEntry.wakeFailed 2
      else if x1.pcr.wakeStep = 1 then x1
      else
        let s := (x1.advanceTo (x1.pcr.attemptAt + 2000000)).inc pcrC R.PcrC.WAKE_FAIL_CNT
        let s := s.p pcrC R.PcrC.PCR_REGSTAT_RDY 0
        let n := s.pcr.attempt + 1
        let s := { s with pcr := { s.pcr with attempt := n, attemptAt := s.tbs.el + 1000000 } }
        if n < 4 then s else s.regNever) := by
    refine Kept.ite (Kept.ite h ?_) (Kept.ite h ?_)
    · extract_lets s1 s2 n src2 s3
      have k1 : Kept m s₀ s1 := Kept.ite h (State.regReady_kept h (Sub.of hm (by decide)))
      clear_value s1
      have k2 : Kept m s₀ s2 := ha _ _ k1
      clear_value s2
      have k3 : Kept m s₀ s3 := hs _ _ k2
      clear_value s3
      exact Kept.ite k3 (Kept.ite (hl _ (State.startEnd_kept k3 (Sub.of hm (by decide)))) (hl _ k3))
    · extract_lets s1 s1b n src s2
      have k1 : Kept m s₀ s1 := ha _ _ h
      clear_value s1
      have k1b : Kept m s₀ s1b := State.p_kept _ _ _ k1 (Sub.of hm (by decide)) (hp.at (by decide))
      clear_value s1b
      have k2 : Kept m s₀ s2 := hs _ _ k1b
      clear_value s2
      exact Kept.ite k2 (hr _ k2)
  unfold execWakeAttemptTimeout
  refine KeptO.next ?_
  split
  · exact key
  · exact key
  · exact key
  · exact h

theorem execWakeComplete_kept {m : Nat} {s₀ : State} (x0 : Bool) {x1 : State}
    (h : Kept m s₀ x1) (hm : Sub 0xffefffa8003ffff m) : KeptO m s₀ (execWakeComplete x0 x1) := by
  unfold execWakeComplete
  try dsimp only
  with_reducible repeat' first
    | assumption
    | apply KeptO.next
    | apply State.standbyOut_kept
    | apply State.hibernateOut_kept
    | apply State.startEnd_kept
    | (apply Sub.of hm; decide)
    | split

theorem execBrownOut_kept {m : Nat} {s₀ : State} {x0 : State}
    (h : Kept m s₀ x0) (hm : Sub 0xffefffa8003ffff m) : KeptO m s₀ (execBrownOut x0) := by
  unfold execBrownOut
  try dsimp only
  with_reducible repeat' first
    | assumption
    | apply KeptO.next
    | apply Kept.ite
    | apply State.supplyFault_kept

theorem execUndervoltage_kept {m : Nat} {s₀ : State} {x0 : State}
    (h : Kept m s₀ x0) (hm : Sub 0xffefffa8003ffff m) : KeptO m s₀ (execUndervoltage x0) := by
  unfold execUndervoltage
  try dsimp only
  with_reducible repeat' first
    | assumption
    | apply KeptO.next
    | apply Kept.ite
    | apply State.supplyFault_kept

theorem execClockFail_kept {m : Nat} {s₀ : State} (x0 : Fin 5) {x1 : State}
    (h : Kept m s₀ x1) (hm : Sub 0xffefffa8003ffff m) : KeptO m s₀ (execClockFail x0 x1) := by
  unfold execClockFail
  try dsimp only
  with_reducible repeat' first
    | assumption
    | apply KeptO.next
    | apply Kept.ite
    | apply State.clkOk_kept
    | apply State.clkDetect_kept
    | apply State.setDom_kept
    | apply State.domLose_kept
    | apply State.limpEntry_kept
    | (apply Sub.of hm; decide)
    | split

theorem execXaonFail_kept {m : Nat} {s₀ : State} {x0 : State}
    (h : Kept m s₀ x0) (hm : Sub 0x3fa00000000f m) : KeptO m s₀ (execXaonFail x0) := by
  unfold execXaonFail
  try dsimp only
  with_reducible repeat' first
    | assumption
    | apply KeptO.next
    | apply Kept.ite
    | apply State.clkOk_kept
    | apply State.clkDetect_kept
    | apply State.irq_kept
    | apply State.ps_kept
    | apply State.wakeEvent_kept
    | (apply Sub.of hm; decide)
    | apply InPg.pcrC (Sub.bit hm (by decide))
    | split

theorem execXaonRecover_kept {m : Nat} {s₀ : State} {x0 : State}
    (h : Kept m s₀ x0) (hm : Sub 0x1da00000000b m) : KeptO m s₀ (execXaonRecover x0) := by
  unfold execXaonRecover
  try dsimp only
  with_reducible repeat' first
    | assumption
    | apply KeptO.next
    | apply Kept.ite
    | apply State.clkOk_kept
    | apply State.ps_kept
    | apply State.advance_kept
    | (apply Sub.of hm; decide)
    | apply InPg.pcrC (Sub.bit hm (by decide))
    | split

theorem execNresetAssert_kept {m : Nat} {s₀ : State} {x0 : State}
    (h : Kept m s₀ x0) (hm : Sub 0xffefffa8003ffff m) : KeptO m s₀ (execNresetAssert x0) := by
  unfold execNresetAssert
  refine KeptO.next ?_
  split
  · exact h
  · exact h
  · refine Kept.ite ?_ (State.nreset_kept h (Sub.of hm (by decide)))
    exact Kept.set_pcr h (Sub.bit hm (by decide)) _

theorem execNresetRelease_kept {m : Nat} {s₀ : State} {x0 : State}
    (h : Kept m s₀ x0) (hm : Sub 0x1127ea800020bb9 m) : KeptO m s₀ (execNresetRelease x0) := by
  unfold execNresetRelease
  refine KeptO.next ?_
  split
  · exact State.bootAgain_kept (Kept.set_pcr h (Sub.bit hm (by decide)) _) (Sub.of hm (by decide))
  · exact h
  · exact Kept.ite (Kept.set_pcr h (Sub.bit hm (by decide)) _) h

theorem execResetStuck_kept {m : Nat} {s₀ : State} {x0 : State}
    (h : Kept m s₀ x0) (hm : Sub 0x1127fa800020bbb m) : KeptO m s₀ (execResetStuck x0) := by
  unfold execResetStuck
  try dsimp only
  with_reducible repeat' first
    | assumption
    | apply KeptO.next
    | apply Kept.ite
    | apply State.advanceTo_kept
    | apply State.bootAgain_kept
    | apply State.wr_kept
    | apply State.p_kept
    | apply State.rstCause_kept
    | apply State.ikwOffer_kept
    | apply State.irq_kept
    | (apply Sub.of hm; decide)
    | (apply Sub.bit hm; decide)
    | (apply InPg.at (InPg.pcrC (Sub.bit hm (by decide))) (by first | decide | assumption | (dsimp only; decide)))
    | apply InPg.pcrC (Sub.bit hm (by decide))
    | (fail_if_no_progress apply Kept.set_pcr)
    | (fail_if_no_progress apply Kept.mk')

theorem execPowerOn_kept {m : Nat} {s₀ : State} (x0 : Bool) (x1 : Bool) (x2 : Fin 5) (x3 : Fin 5) {x4 : State}
    (h : Kept m s₀ x4) (hm : Sub 0xffefffa8003ffff m) : KeptO m s₀ (execPowerOn x0 x1 x2 x3 x4) := by
  unfold execPowerOn
  try dsimp only
  with_reducible repeat' first
    | assumption
    | apply KeptO.next
    | apply Kept.ite
    | apply State.porState_kept
    | apply State.setDom_kept
    | apply State.fails_kept
    | apply State.advance_kept
    | apply State.regNever_kept
    | apply State.firstStart_kept
    | apply State.wakeFailed_kept
    | apply State.limpEntry_kept
    | (apply Sub.of hm; decide)
    | (apply Sub.bit hm; decide)
    | (fail_if_no_progress apply Kept.set_pcr)
    | (fail_if_no_progress apply Kept.set_pmode)
    | (fail_if_no_progress apply Kept.mk')

theorem execPowerLoss_kept {m : Nat} {s₀ : State} {x0 : State}
    (h : Kept m s₀ x0) (hm : Sub 0xffefffa8003ffff m) : KeptO m s₀ (execPowerLoss x0) := by
  unfold execPowerLoss
  try dsimp only
  with_reducible repeat' first
    | assumption
    | apply KeptO.next
    | apply State.porState_kept

theorem execLifeCheckpoint_kept {m : Nat} {s₀ : State} {x0 : State}
    (h : Kept m s₀ x0) (hm : Sub 0x7da80000000a m) : KeptO m s₀ (execLifeCheckpoint x0) := by
  unfold execLifeCheckpoint
  try dsimp only
  with_reducible repeat' first
    | assumption
    | apply KeptO.next
    | apply Kept.ite
    | apply State.checkpoint_kept
    | apply State.advanceTo_kept
    | (apply Sub.of hm; decide)

theorem execPwrFail_kept {m : Nat} {s₀ : State} {x0 : State}
    (h : Kept m s₀ x0) (hm : Sub 0x7c2800000009 m) : KeptO m s₀ (execPwrFail x0) := by
  unfold execPwrFail
  try dsimp only
  with_reducible repeat' first
    | assumption
    | apply KeptO.next
    | apply Kept.ite
    | apply State.p_kept
    | apply State.checkpoint_kept
    | apply State.psB_kept
    | apply State.irq_kept
    | apply State.ikwOffer_kept
    | (apply Sub.of hm; decide)
    | (apply InPg.at (InPg.pcrC (Sub.bit hm (by decide))) (by first | decide | assumption | (dsimp only; decide)))
    | apply InPg.pcrC (Sub.bit hm (by decide))
    | apply InPg.ikwC (Sub.bit hm (by decide))

theorem execPwrFailClear_kept {m : Nat} {s₀ : State} {x0 : State}
    (h : Kept m s₀ x0) (hm : Sub 0x9 m) : KeptO m s₀ (execPwrFailClear x0) := by
  unfold execPwrFailClear
  try dsimp only
  with_reducible repeat' first
    | assumption
    | apply KeptO.next
    | apply Kept.ite
    | apply State.psB_kept
    | apply State.p_kept
    | (apply Sub.of hm; decide)
    | (apply InPg.at (InPg.pcrC (Sub.bit hm (by decide))) (by first | decide | assumption | (dsimp only; decide)))
    | apply InPg.ikwC (Sub.bit hm (by decide))

theorem execDomainEnable_kept {m : Nat} {s₀ : State} (x0 : Ini) (x1 : Fin 10) (x2 : Word) {x3 : State}
    (h : Kept m s₀ x3) (hm : Sub 0xffefffa8003ffff m) : KeptO m s₀ (execDomainEnable x0 x1 x2 x3) := by
  unfold execDomainEnable
  try dsimp only
  with_reducible repeat' first
    | assumption
    | apply KeptO.next
    | apply State.onWrite_kept
    | apply State.domWrite_kept
    | (apply Sub.of hm; decide)
    | (apply InPg.at (InPg.pcrP _ (Sub.bit hm (by decide))) (by first | decide | assumption | (dsimp only; decide)))
    | intro _ _

theorem execLaneSupplyLoss_kept {m : Nat} {s₀ : State} (x0 : Bool) {x1 : State}
    (h : Kept m s₀ x1) (hm : Sub 0x1981c20000007a9 m) : KeptO m s₀ (execLaneSupplyLoss x0 x1) := by
  unfold execLaneSupplyLoss
  try dsimp only
  with_reducible repeat' first
    | assumption
    | apply KeptO.next
    | apply Kept.ite
    | apply State.laneDone_kept
    | apply State.setDom_kept
    | apply State.openLane_kept
    | (apply Sub.of hm; decide)
    | intro _ _

theorem execVddioSLow_kept {m : Nat} {s₀ : State} {x0 : State}
    (h : Kept m s₀ x0) (hm : Sub 0x1981c20000007a8 m) : KeptO m s₀ (execVddioSLow x0) := by
  unfold execVddioSLow
  try dsimp only
  with_reducible repeat' first
    | assumption
    | apply KeptO.next
    | apply Kept.ite
    | apply State.laneDone_kept
    | apply State.openLane_kept
    | (apply Sub.of hm; decide)
    | (apply Sub.bit hm; decide)
    | (fail_if_no_progress apply Kept.set_safe)
    | (fail_if_no_progress apply Kept.mk')
    | intro _ _

theorem execVddioSRecover_kept {m : Nat} {s₀ : State} {x0 : State}
    (h : Kept m s₀ x0) (hm : Sub 0x100000000000000 m) : KeptO m s₀ (execVddioSRecover x0) := by
  unfold execVddioSRecover
  try dsimp only
  with_reducible repeat' first
    | assumption
    | apply KeptO.next
    | apply Kept.ite
    | (apply Sub.bit hm; decide)
    | (fail_if_no_progress apply Kept.set_safe)
    | (fail_if_no_progress apply Kept.mk')

theorem execScrubRead_kept {m : Nat} {s₀ : State} (x0 : Fin 3) {x1 : State}
    (h : Kept m s₀ x1) (hm : Sub 0x5d85fa80002c7ff m) : KeptO m s₀ (execScrubRead x0 x1) := by
  unfold execScrubRead
  try dsimp only
  with_reducible repeat' first
    | assumption
    | apply KeptO.next
    | apply Kept.ite
    | apply State.advance_kept
    | apply State.eccRead_kept
    | (apply Sub.of hm; decide)
    | (apply Sub.bit hm; decide)
    | (fail_if_no_progress apply Kept.set_memc)
    | (fail_if_no_progress apply Kept.mk')

theorem execDdrInit_kept {m : Nat} {s₀ : State} (x0 : Ini) (x1 : Word) {x2 : State}
    (h : Kept m s₀ x2) (hm : Sub 0x4c6000020010 m) : KeptO m s₀ (execDdrInit x0 x1 x2) := by
  unfold execDdrInit
  try dsimp only
  with_reducible repeat' first
    | assumption
    | apply KeptO.next
    | apply State.onWrite_kept
    | apply State.ddrWrite_kept
    | (apply Sub.of hm; decide)
    | (apply InPg.at (InPg.memC (Sub.bit hm (by decide))) (by first | decide | assumption | (dsimp only; decide)))
    | intro _ _

theorem execDdrReady_kept {m : Nat} {s₀ : State} (x0 : Bool) {x1 : State}
    (h : Kept m s₀ x1) (hm : Sub 0xcc2000000010 m) : KeptO m s₀ (execDdrReady x0 x1) := by
  unfold execDdrReady
  try dsimp only
  with_reducible repeat' first
    | assumption
    | apply KeptO.next
    | apply Kept.ite
    | apply State.ddrMiB_kept
    | apply State.irq_kept
    | apply State.psB_kept
    | apply State.wr_kept
    | apply State.p_kept
    | (apply Sub.of hm; decide)
    | (apply Sub.bit hm; decide)
    | (apply InPg.at (InPg.memC (Sub.bit hm (by decide))) (by first | decide | assumption | (dsimp only; decide)))
    | apply InPg.memC (Sub.bit hm (by decide))
    | (fail_if_no_progress apply Kept.set_memc)
    | (fail_if_no_progress apply Kept.mk')

theorem execDdrMr4Poll_kept {m : Nat} {s₀ : State} (x0 : Fin 8) {x1 : State}
    (h : Kept m s₀ x1) (hm : Sub 0x5da00000000a m) : KeptO m s₀ (execDdrMr4Poll x0 x1) := by
  unfold execDdrMr4Poll
  try dsimp only
  with_reducible repeat' first
    | assumption
    | apply KeptO.next
    | apply Kept.ite
    | apply State.advanceTo_kept
    | (apply Sub.of hm; decide)
    | (apply Sub.bit hm; decide)
    | (fail_if_no_progress apply Kept.set_memc)
    | (fail_if_no_progress apply Kept.mk')

theorem execXspiErase_kept {m : Nat} {s₀ : State} (x0 : Ini) (x1 : Word) {x2 : State}
    (h : Kept m s₀ x2) (hm : Sub 0x4c6000020018 m) : KeptO m s₀ (execXspiErase x0 x1 x2) := by
  unfold execXspiErase
  try dsimp only
  with_reducible repeat' first
    | assumption
    | apply KeptO.next
    | apply State.onWrite_kept
    | apply State.xspiWrite_kept
    | (apply Sub.of hm; decide)
    | (apply InPg.at (InPg.memC (Sub.bit hm (by decide))) (by first | decide | assumption | (dsimp only; decide)))
    | intro _ _

theorem execXspiProgram_kept {m : Nat} {s₀ : State} (x0 : Ini) (x1 : Word) {x2 : State}
    (h : Kept m s₀ x2) (hm : Sub 0x4c6000020018 m) : KeptO m s₀ (execXspiProgram x0 x1 x2) := by
  unfold execXspiProgram
  try dsimp only
  with_reducible repeat' first
    | assumption
    | apply KeptO.next
    | apply State.onWrite_kept
    | apply State.xspiWrite_kept
    | (apply Sub.of hm; decide)
    | (apply InPg.at (InPg.memC (Sub.bit hm (by decide))) (by first | decide | assumption | (dsimp only; decide)))
    | intro _ _

theorem execXspiDone_kept {m : Nat} {s₀ : State} (x0 : Bool) {x1 : State}
    (h : Kept m s₀ x1) (hm : Sub 0xde280000001c m) : KeptO m s₀ (execXspiDone x0 x1) := by
  have hp : InPg m memC := InPg.memC (Sub.bit hm (by decide))
  unfold execXspiDone
  refine KeptO.next ?_
  split
  · exact h
  · rename_i c _
    refine Kept.ite h ?_
    generalize x1.xspiBytes c x0 = e
    obtain ⟨a, bs⟩ := e
    dsimp -zeta only
    extract_lets s1 src s2 s3
    have k1 : Kept m s₀ s1 := State.drew_kept _ (State.mput_kept _ _ h (Sub.of hm (by decide))) (Sub.of hm (by decide))
    clear_value s1
    have k2 : Kept m s₀ s2 :=
      State.arcShow_kept (State.psB_kept _ _ _ (Kept.set_memc k1 (Sub.bit hm (by decide)) _) (Sub.of hm (by decide)) hp)
        (Sub.of hm (by decide))
    clear_value s2
    have k3 : Kept m s₀ s3 := Kept.ite k2 (State.fwOccur_kept _ (State.inc_kept _ _ _ k2 (Sub.of hm (by decide)) (hp.at (by decide)))
      (Sub.of hm (by decide)))
    clear_value s3
    exact State.irq_kept _ _ k3 (Sub.of hm (by decide)) hp

theorem execOtpProgram_kept {m : Nat} {s₀ : State} (x0 : Ini) (x1 : Word) {x2 : State}
    (h : Kept m s₀ x2) (hm : Sub 0x404000020010 m) : KeptO m s₀ (execOtpProgram x0 x1 x2) := by
  unfold execOtpProgram
  try dsimp only
  with_reducible repeat' first
    | assumption
    | apply KeptO.next
    | apply State.onWrite_kept
    | apply State.otpWrite_kept
    | (apply Sub.of hm; decide)
    | (apply InPg.at (InPg.memC (Sub.bit hm (by decide))) (by first | decide | assumption | (dsimp only; decide)))
    | intro _ _

theorem execOtpDone_kept {m : Nat} {s₀ : State} (x0 : Bool) {x1 : State}
    (h : Kept m s₀ x1) (hm : Sub 0xcc2800000010 m) : KeptO m s₀ (execOtpDone x0 x1) := by
  have hp : InPg m memC := InPg.memC (Sub.bit hm (by decide))
  unfold execOtpDone
  refine KeptO.next ?_
  split
  · exact h
  · refine Kept.ite h ?_
    extract_lets got s1 src s2
    have k1 : Kept m s₀ s1 := State.drew_kept _ (State.mput_kept _ _ h (Sub.of hm (by decide))) (Sub.of hm (by decide))
    clear_value s1
    have k2 : Kept m s₀ s2 := Kept.set_memc k1 (Sub.bit hm (by decide)) _
    clear_value s2
    exact State.irq_kept _ _ (State.memShow_kept _ (State.p_kept _ _ _ k2 (Sub.of hm (by decide)) (hp.at (by decide)))
      (Sub.of hm (by decide))) (Sub.of hm (by decide)) hp

theorem execArbAdvance_kept {m : Nat} {s₀ : State} (x0 : Ini) (x1 : Word) {x2 : State}
    (h : Kept m s₀ x2) (hm : Sub 0xc6800020010 m) : KeptO m s₀ (execArbAdvance x0 x1 x2) := by
  unfold execArbAdvance
  try dsimp only
  with_reducible repeat' first
    | assumption
    | apply KeptO.next
    | apply State.onWrite_kept
    | apply State.arbWrite_kept
    | (apply Sub.of hm; decide)
    | (apply InPg.at (InPg.memC (Sub.bit hm (by decide))) (by first | decide | assumption | (dsimp only; decide)))
    | intro _ _

theorem execMemBootSel_kept {m : Nat} {s₀ : State} (x0 : Ini) (x1 : Word) {x2 : State}
    (h : Kept m s₀ x2) (hm : Sub 0x4c6800020010 m) : KeptO m s₀ (execMemBootSel x0 x1 x2) := by
  unfold execMemBootSel
  try dsimp only
  with_reducible repeat' first
    | assumption
    | apply KeptO.next
    | apply State.onWrite_kept
    | apply State.bootSelWrite_kept
    | (apply Sub.of hm; decide)
    | (apply InPg.at (InPg.memC (Sub.bit hm (by decide))) (by first | decide | assumption | (dsimp only; decide)))
    | intro _ _

theorem execAttReq_kept {m : Nat} {s₀ : State} (x0 : Ini) (x1 : Word) {x2 : State}
    (h : Kept m s₀ x2) (hm : Sub 0x404000020010 m) : KeptO m s₀ (execAttReq x0 x1 x2) := by
  unfold execAttReq
  try dsimp only
  with_reducible repeat' first
    | assumption
    | apply KeptO.next
    | apply State.onWrite_kept
    | apply State.attWrite_kept
    | (apply Sub.of hm; decide)
    | (apply InPg.at (InPg.memC (Sub.bit hm (by decide))) (by first | decide | assumption | (dsimp only; decide)))
    | intro _ _

theorem execAttDone_kept {m : Nat} {s₀ : State} (x0 : Fin 2001) {x1 : State}
    (h : Kept m s₀ x1) (hm : Sub 0x1da00000001a m) : KeptO m s₀ (execAttDone x0 x1) := by
  have hp : InPg m memC := InPg.memC (Sub.bit hm (by decide))
  unfold execAttDone
  refine KeptO.next (Kept.ite h ?_)
  extract_lets s2 rep ws s1
  have k2 : Kept m s₀ s2 := State.advance_kept _ h (Sub.of hm (by decide))
  clear_value s2
  have k1 : Kept m s₀ s1 := by
    refine Kept.foldl_mem k2 _ _ fun y b hb hy => ?_
    have := List.mem_range.1 hb
    exact State.wr_kept _ _ hy (Sub.of hm (by decide)) (by rw [Nat.add_assoc]; exact hp.at (by omega))
  clear_value s1
  exact State.irq_kept _ _ (State.psB_kept _ _ _ k1 (Sub.of hm (by decide)) hp) (Sub.of hm (by decide)) hp

theorem execDbgChallenge_kept {m : Nat} {s₀ : State} (x0 : Ini) {x1 : State}
    (h : Kept m s₀ x1) (hm : Sub 0xc05000000010 m) : KeptO m s₀ (execDbgChallenge x0 x1) := by
  unfold execDbgChallenge
  try dsimp only
  with_reducible repeat' first
    | assumption
    | apply KeptO.next
    | apply Kept.ite
    | apply State.readReg_kept
    | apply State.refuseChal_kept
    | apply State.drawChal_kept
    | (apply Sub.of hm; decide)
    | split

theorem execDbgSubmit_kept {m : Nat} {s₀ : State} (x0 : Ini) (x1 : Word) {x2 : State}
    (h : Kept m s₀ x2) (hm : Sub 0x404000020010 m) : KeptO m s₀ (execDbgSubmit x0 x1 x2) := by
  unfold execDbgSubmit
  try dsimp only
  with_reducible repeat' first
    | assumption
    | apply KeptO.next
    | apply State.onWrite_kept
    | apply State.dbgSubmit_kept
    | (apply Sub.of hm; decide)
    | (apply InPg.at (InPg.memC (Sub.bit hm (by decide))) (by first | decide | assumption | (dsimp only; decide)))
    | intro _ _

theorem State.dbgResult_kept {m : Nat} {s₀ : State} {x0 : State}
    (h : Kept m s₀ x0) (hm : Sub 0x4c2000000010 m) : Kept m s₀ (State.dbgResult x0) := by
  unfold State.dbgResult
  try dsimp only
  with_reducible repeat' first
    | assumption
    | apply Kept.ite
    | apply State.memShow_kept
    | apply State.p_kept
    | apply State.irq_kept
    | (apply Sub.of hm; decide)
    | (apply Sub.bit hm; decide)
    | (apply InPg.at (InPg.memC (Sub.bit hm (by decide))) (by first | decide | assumption | (dsimp only; decide)))
    | apply InPg.memC (Sub.bit hm (by decide))
    | (fail_if_no_progress apply Kept.set_memc)
    | (fail_if_no_progress apply Kept.mk')

theorem execDbgResult_kept {m : Nat} {s₀ : State} (x0 : Fin 2000) (x1 : Fin 101) {x2 : State}
    (h : Kept m s₀ x2) (hm : Sub 0x5da00000001a m) : KeptO m s₀ (execDbgResult x0 x1 x2) := by
  unfold execDbgResult
  exact KeptO.next (Kept.ite h (State.dbgResult_kept (State.advance_kept _ h (Sub.of hm (by decide))) (Sub.of hm (by decide))))

theorem execDbgLockoutEnd_kept {m : Nat} {s₀ : State} {x0 : State}
    (h : Kept m s₀ x0) (hm : Sub 0x5da00000000a m) : KeptO m s₀ (execDbgLockoutEnd x0) := by
  unfold execDbgLockoutEnd
  refine KeptO.next ?_
  split
  · exact h
  · extract_lets s1
    have k1 : Kept m s₀ s1 := State.advanceTo_kept _ h (Sub.of hm (by decide))
    clear_value s1
    exact Kept.set_memc k1 (Sub.bit hm (by decide)) _

theorem execJtagInstruction_kept {m : Nat} {s₀ : State} (x0 : JtagIr) {x1 : State}
    (h : Kept m s₀ x1) (hm : Sub 0xc00000000000 m) : KeptO m s₀ (execJtagInstruction x0 x1) := by
  unfold execJtagInstruction
  refine KeptO.next ?_
  extract_lets f
  have hf : ∀ y i o b, Kept m s₀ y → Kept m s₀ (f y i o b) := fun y i o b hy => Kept.set_memc hy (Sub.bit hm (by decide)) _
  clear_value f
  cases x0 <;> dsimp only
  case samplePreload => exact State.drew_kept _ (hf _ _ _ _ h) (Sub.of hm (by decide))
  all_goals first | exact hf _ _ _ _ h | exact Kept.ite (hf _ _ _ _ h) (hf _ _ _ _ h)

theorem execLinkChange_kept {m : Nat} {s₀ : State} (x0 : Fin 2) (x1 : Bool) (x2 : Bool) {x3 : State}
    (h : Kept m s₀ x3) (hm : Sub 0x1e200001000c m) : KeptO m s₀ (execLinkChange x0 x1 x2 x3) := by
  unfold execLinkChange
  try dsimp only
  with_reducible repeat' first
    | assumption
    | apply KeptO.next
    | apply Kept.ite
    | apply State.setLink_kept
    | apply State.psB_kept
    | (apply Sub.of hm; decide)
    | apply InPg.bniP _ (Sub.bit hm (by decide))

theorem execEthFrameReceived_kept {m : Nat} {s₀ : State} (x0 : Fin 2) (x1 : EthFrame) {x2 : State}
    (h : Kept m s₀ x2) (hm : Sub 0xdd85e280003c7fd m) : KeptO m s₀ (execEthFrameReceived x0 x1 x2) := by
  unfold execEthFrameReceived
  try dsimp only
  with_reducible repeat' first
    | assumption
    | apply KeptO.next
    | apply Kept.ite
    | apply State.inc_kept
    | apply State.rxFrame_kept
    | (apply Sub.of hm; decide)
    | (apply InPg.at (InPg.bniP _ (Sub.bit hm (by decide))) (by first | decide | assumption | (dsimp only; decide)))

theorem execEthFrameSent_kept {m : Nat} {s₀ : State} (x0 : Fin 2) (x1 : Bool) {x2 : State}
    (h : Kept m s₀ x2) (hm : Sub 0xdd85e280003c7fd m) : KeptO m s₀ (execEthFrameSent x0 x1 x2) := by
  unfold execEthFrameSent
  try dsimp only
  with_reducible repeat' first
    | assumption
    | apply KeptO.next
    | apply Kept.ite
    | apply State.txFrame_kept
    | apply State.setLink_kept
    | (apply Sub.of hm; decide)
    | split

theorem execRingTail_kept {m : Nat} {s₀ : State} (x0 : Ini) (x1 : Fin 2) (x2 : Fin 8) (x3 : Word) {x4 : State}
    (h : Kept m s₀ x4) (hm : Sub 0xc6000030000 m) : KeptO m s₀ (execRingTail x0 x1 x2 x3 x4) := by
  unfold execRingTail
  try dsimp only
  with_reducible repeat' first
    | assumption
    | apply KeptO.next
    | apply State.onWrite_kept
    | apply State.land_kept
    | (apply Sub.of hm; decide)
    | (apply InPg.at (InPg.ringP _ _ (Sub.bit hm (by decide))) (by first | decide | assumption | (dsimp only; decide)))
    | intro _ _

theorem execBniEnable_kept {m : Nat} {s₀ : State} (x0 : Ini) (x1 : Fin 2) (x2 : Word) {x3 : State}
    (h : Kept m s₀ x3) (hm : Sub 0x8004c6800030000 m) : KeptO m s₀ (execBniEnable x0 x1 x2 x3) := by
  unfold execBniEnable
  try dsimp only
  with_reducible repeat' first
    | assumption
    | apply KeptO.next
    | apply State.onWrite_kept
    | apply State.bniCtrl_kept
    | (apply Sub.of hm; decide)
    | (apply InPg.at (InPg.bniP _ (Sub.bit hm (by decide))) (by first | decide | assumption | (dsimp only; decide)))
    | intro _ _

theorem execBniFaultClear_kept {m : Nat} {s₀ : State} (x0 : Ini) (x1 : Fin 2) (x2 : Word) {x3 : State}
    (h : Kept m s₀ x3) (hm : Sub 0x4000030000 m) : KeptO m s₀ (execBniFaultClear x0 x1 x2 x3) := by
  unfold execBniFaultClear
  try dsimp only
  with_reducible repeat' first
    | assumption
    | apply KeptO.next
    | apply State.onWrite_kept
    | apply State.bniStatWrite_kept
    | (apply Sub.of hm; decide)
    | (apply InPg.at (InPg.bniP _ (Sub.bit hm (by decide))) (by first | decide | assumption | (dsimp only; decide)))
    | intro _ _

theorem execRegisterWrite_kept {m : Nat} {s₀ : State} (x0 : Ini) (x1 : Word) (x2 : Word) {x3 : State}
    (h : Kept m s₀ x3) (hm : Sub 0xffefffa8003ffff m) : KeptO m s₀ (execRegisterWrite x0 x1 x2 x3) := by
  unfold execRegisterWrite
  try dsimp only
  with_reducible repeat' first
    | assumption
    | apply KeptO.next
    | apply State.regWrite_kept
    | apply full_at hm

theorem execLockKey_kept {m : Nat} {s₀ : State} (x0 : Ini) (x1 : Fin 18) (x2 : Fin 256) (x3 : Word) {x4 : State}
    (h : Kept m s₀ x4) (hm : Sub 0xffefffa8003ffff m) : KeptO m s₀ (execLockKey x0 x1 x2 x3 x4) := by
  unfold execLockKey
  try dsimp only
  with_reducible repeat' first
    | assumption
    | apply KeptO.next
    | apply State.regWrite_kept
    | apply full_at hm

theorem execIrqForce_kept {m : Nat} {s₀ : State} (x0 : Ini) (x1 : Fin 18) (x2 : Fin 256) (x3 : Word) {x4 : State}
    (h : Kept m s₀ x4) (hm : Sub 0xffefffa8003ffff m) : KeptO m s₀ (execIrqForce x0 x1 x2 x3 x4) := by
  unfold execIrqForce
  try dsimp only
  with_reducible repeat' first
    | assumption
    | apply KeptO.next
    | apply State.regWrite_kept
    | apply full_at hm

theorem execFwLastingClear_kept {m : Nat} {s₀ : State} (x0 : Ini) (x1 : Fin 256) (x2 : Word) {x3 : State}
    (h : Kept m s₀ x3) (hm : Sub 0xffefffa8003ffff m) : KeptO m s₀ (execFwLastingClear x0 x1 x2 x3) := by
  unfold execFwLastingClear
  try dsimp only
  with_reducible repeat' first
    | assumption
    | apply KeptO.next
    | apply State.regWrite_kept
    | (apply InPg.at (InPg.fwP _ (Sub.bit hm (by decide))) (by first | decide | assumption | (dsimp only; decide)))

theorem execGroupPageWrite_kept {m : Nat} {s₀ : State} (x0 : Ini) (x1 : Fin 18) (x2 : Option (Fin 4)) (x3 : Fin 1024) (x4 : Word) {x5 : State}
    (h : Kept m s₀ x5) (hm : Sub 0xffefffa8003ffff m) : KeptO m s₀ (execGroupPageWrite x0 x1 x2 x3 x4 x5) := by
  unfold execGroupPageWrite
  try dsimp only
  with_reducible repeat' first
    | assumption
    | apply KeptO.next
    | apply State.regWrite_kept
    | apply full_at hm

theorem execTimeLoRead_kept {m : Nat} {s₀ : State} (x0 : Ini) (x1 : Word) {x2 : State}
    (h : Kept m s₀ x2) (hm : Sub 0xc05000000010 m) : KeptO m s₀ (execTimeLoRead x0 x1 x2) := by
  unfold execTimeLoRead
  try dsimp only
  with_reducible repeat' first
    | assumption
    | apply KeptO.next
    | apply State.regRead_kept

theorem execMemoryAccess_kept {m : Nat} {s₀ : State} (x0 : Ini) (x1 : BitVec 34) (x2 : MemOp) (x3 : Fin 3) {x4 : State}
    (h : Kept m s₀ x4) (hm : Sub 0xffefffa8003ffff m) : KeptO m s₀ (execMemoryAccess x0 x1 x2 x3 x4) := by
  unfold execMemoryAccess
  try dsimp only
  with_reducible repeat' first
    | assumption
    | apply KeptO.next
    | apply State.access_kept

theorem execLedgerRead_kept {m : Nat} {s₀ : State} (x0 : Fin 2) (x1 : Fin 12800) {x2 : State}
    (h : Kept m s₀ x2) (hm : Sub 0xffefffa8003ffff m) : KeptO m s₀ (execLedgerRead x0 x1 x2) := by
  unfold execLedgerRead
  try dsimp only
  with_reducible repeat' first
    | assumption
    | apply KeptO.next
    | apply State.access_kept

theorem execUnmappedAccess_kept {m : Nat} {s₀ : State} (x0 : Ini) (x1 : BitVec 64) (x2 : Fin 65) {x3 : State}
    (h : Kept m s₀ x3) (hm : Sub 0x4000000000 m) : KeptO m s₀ (execUnmappedAccess x0 x1 x2 x3) := by
  unfold execUnmappedAccess
  try dsimp only
  with_reducible repeat' first
    | assumption
    | apply KeptO.next
    | apply Kept.ite
    | (apply Sub.bit hm; decide)
    | (fail_if_no_progress apply Kept.set_bus)
    | (fail_if_no_progress apply Kept.mk')

end Sys2Proof.Machine
end

