-- ==== Sys2Proof/WellFormed.lean ====
section
/-! DEFINITION. Which command terms are well formed: the sizes of what the outside world brings, where its type does
not fix them. The meanings are total and take any term. -/

namespace Sys2Proof

/-- Bytes of a memory access. -/
def MemOp.len : MemOp → Nat
  | .read n => n.val
  | .write d => d.length

/-- An access moves 1 to 64 bytes. -/
def MemOp.ok (o : MemOp) : Bool := decide (1 ≤ o.len) && decide (o.len ≤ 64)

/-- Bytes of a frame by its length code (ISO 11898-1, R352). -/
def wireLen (fdf rtr : Bool) (dlc : Nat) : Nat :=
  if rtr then 0 else if dlc ≤ 8 then dlc else if !fdf then 8 else
  match dlc with
  | 9 => 12 | 10 => 16 | 11 => 20 | 12 => 24 | 13 => 32 | 14 => 48 | _ => 64

/-- A shaft bus frame: base identifiers have 11 bits, FD frames are no remote frames, the data fill the length. -/
def RxFrame.ok (f : RxFrame) : Bool :=
  (f.ide || decide (f.id.toNat < 2048)) && !(f.fdf && f.rtr) && decide (f.data.length = wireLen f.fdf f.rtr f.dlc.val)

/-- The error codes of an attempt are 1 to 6 (R361). -/
def TxEnd.coded : TxEnd → Bool
  | .ok | .lost => true
  | .err c _ => decide (1 ≤ c.toNat) && decide (c.toNat ≤ 6)

/-- A Sage sensor word has at most 48 data bits and 16 CRC bits (R128). -/
def sgOk : Option SgWord → Bool
  | none => true
  | some w => decide (w.data < 2 ^ 48) && decide (w.crc < 2 ^ 16)

/-- An Ethernet frame holds both addresses and a type. -/
def EthFrame.ok (f : EthFrame) : Bool := decide (14 ≤ f.data.length)

/-- Whether a command term is well formed. -/
def wellFormed : Instr → Bool
  | .registerWrite _ _ _ => true
  | .unmappedAccess _ _ _ => true
  | .memoryAccess _ a op _ => op.ok && decide (a.toNat + op.len ≤ 0x280000000)
  | .ledgerRead _ _ => true
  | .lockKey _ _ _ _ => true
  | .irqForce _ _ _ _ => true
  | .groupPageWrite _ _ _ _ _ => true
  | .fwLastingClear _ _ _ => true
  | .armU _ _ => true
  | .armL _ _ => true
  | .armCheckDone => true
  | .disarmU _ _ => true
  | .disarmL _ _ => true
  | .ofsCommit _ _ => true
  | .tbStep => true
  | .slewDone => true
  | .reseededClear _ _ => true
  | .syncSend _ => true
  | .syncDeadline _ => true
  | .followUpSend _ => true
  | .pfiEnable _ _ _ => true
  | .quadCount _ _ _ => true
  | .posSet _ _ _ => true
  | .spdWindow _ => true
  | .serRequest _ => true
  | .serWord _ _ data _ _ crc _ => decide (data < 2 ^ 48) && decide (crc < 2 ^ 16)
  | .serStale _ => true
  | .indexEdge _ _ => true
  | .probeEdge _ _ _ => true
  | .cmpArm _ _ _ _ => true
  | .cmpDisarm _ _ _ _ => true
  | .pfiFaultClear _ _ _ => true
  | .pfiSnap _ _ => true
  | .poStep _ => true
  | .hoistPeriodBoundary _ => true
  | .levelled _ => true
  | .levelMiss _ => true
  | .mpgStop _ _ => true
  | .mpgStopRamp _ _ _ _ => true
  | .mpgRelevel _ _ => true
  | .haltClr _ _ _ => true
  | .mpgEnable _ _ _ => true
  | .downFrame _ => true
  | .upFrame _ bytes _ => decide (bytes.length = 32)
  | .periodMiss _ => true
  | .symbolLock _ => true
  | .symbolLockLoss _ => true
  | .helloTimeout _ => true
  | .lossClr _ _ _ => true
  | .dlkEnable _ _ _ => true
  | .sepDisagreeClear _ _ => true
  | .exeLoad _ _ _ _ _ _ _ => true
  | .exeGo _ _ _ => true
  | .exeHold _ _ => true
  | .exeResume _ _ => true
  | .exeCancel _ _ _ _ => true
  | .exeRelease _ _ => true
  | .dwellDone _ => true
  | .evtTimeout _ => true
  | .clgInsert _ _ _ _ _ _ _ _ => true
  | .clgAssign _ _ _ _ => true
  | .clgUnassign _ _ _ => true
  | .clgServe _ _ _ => true
  | .clgCancel _ _ _ => true
  | .clgSetApp _ _ _ _ _ => true
  | .viewStallApply => true
  | .clgEnable _ _ => true
  | .clgInitDone => true
  | .peakClr _ _ => true
  | .clgFaultClear _ _ => true
  | .dmcOpen _ _ _ => true
  | .dmcClose _ _ => true
  | .dmcStop _ _ => true
  | .dmcHome _ _ => true
  | .dmcCal _ _ => true
  | .dmcEnable _ _ _ => true
  | .doorMoveDone _ => true
  | .doorAtRest _ => true
  | .obstruction _ => true
  | .lostStep _ => true
  | .reverseStart _ => true
  | .overCurrent _ _ => true
  | .driverFault _ _ => true
  | .endSwitch _ _ _ us => decide (us < 2 ^ 32)
  | .homeTimeout _ => true
  | .calDone _ _ reach rise mv ma =>
    decide (reach < 2 ^ 32) && decide (rise < 2 ^ 32) && decide (mv < 2 ^ 32) && decide (ma < 2 ^ 32)
  | .oosClear _ _ _ => true
  | .slpCycle _ _ _ _ _ _ => true
  | .sageCycle _ _ _ wordU wordL _ => sgOk wordU && sgOk wordL
  | .sageWordTimeout _ => true
  | .lockstepError => true
  | .sageRecordMissing => true
  | .sagLatchClr _ _ => true
  | .sagSafeKey _ _ => true
  | .gateTimeout => true
  | .sagLoadData _ _ => true
  | .sagLoadAbort _ _ => true
  | .spbCommit _ _ => true
  | .spbCheckDone _ => true
  | .spbCopiesWritten _ _ => true
  | .sagSafeConfirm _ _ => true
  | .slpGetStatus _ _ => true
  | .slpRunTest _ _ => true
  | .slpReadSpb _ _ => true
  | .inputChange _ _ _ _ => true
  | .testPulse _ _ _ _ _ _ _ => true
  | .tpHeldReadback _ _ => true
  | .discFault _ _ => true
  | .sioInReset _ _ => true
  | .darkTest _ _ => true
  | .rbFault _ _ _ => true
  | .fbTimeout _ _ => true
  | .sioOutReset _ _ => true
  | .onReq _ _ _ => true
  | .dzRst _ _ => true
  | .vddioSLow => true
  | .vddioSRecover => true
  | .sbcEnable _ _ _ => true
  | .busIntegrated _ => true
  | .restrictedEnd _ => true
  | .sbcOos _ _ _ => true
  | .borReq _ _ _ => true
  | .busOffRecovered _ => true
  | .txReq _ _ _ _ _ => true
  | .txAbort _ _ _ _ => true
  | .txLaunchDue _ _ _ => true
  | .txAttemptEnd _ res _ _ => res.coded
  | .aloneRetry _ => true
  | .frameReceived _ f => f.ok
  | .sbcFaultClear _ _ _ => true
  | .ctxEnable _ _ _ => true
  | .ctxDisable _ _ _ => true
  | .inviteSlot => true
  | .inviteTimeout _ => true
  | .join _ _ _ _ _ _ _ _ => true
  | .welcome _ => true
  | .leave _ _ _ _ _ => true
  | .data _ _ _ _ _ msg _ => decide (msg.length ≤ 62)
  | .ack _ _ _ _ _ _ _ => true
  | .nak _ _ _ _ _ _ _ _ => true
  | .heartbeat _ _ _ _ _ _ _ _ => true
  | .gapTimeout _ => true
  | .ackDue _ => true
  | .retransmitDue _ => true
  | .heartbeatMiss _ => true
  | .bcastHeartbeat _ => true
  | .cveSend _ _ d _ => decide (d.length = 16)
  | .cveRelease _ _ _ _ => true
  | .cveNotice _ d _ => decide (d.length = 16)
  | .ctxBarClear _ _ _ => true
  | .nibSubmit _ _ _ => true
  | .nibForward _ => true
  | .lagTimeout _ => true
  | .nibHello _ _ _ => true
  | .nibWdgKick _ _ _ => true
  | .wdgTimeout _ => true
  | .bootTimeout _ => true
  | .autoRestart => true
  | .roleSwap _ _ => true
  | .admitPair _ _ => true
  | .admitted => true
  | .pairRestart _ _ _ => true
  | .quillBulkDone _ => true
  | .healthReport _ _ _ => true
  | .hrTimeout _ => true
  | .testSlot _ _ _ => true
  | .testReq _ _ => true
  | .bootDone _ _ _ _ _ _ => true
  | .ikwSwRecord _ _ => true
  | .recordDrain _ => true
  | .tokenRefill _ => true
  | .ikwEnable _ _ => true
  | .scanDone => true
  | .archiveCopy _ => true
  | .ikwRdIdx _ _ => true
  | .ikwCodeWrite _ _ _ => true
  | .ikwFaultClear _ _ => true
  | .ikwRead _ => true
  | .oppReq _ _ => true
  | .oppDone _ => true
  | .dvsAckTimeout => true
  | .dvsAckLost => true
  | .coreWfi _ _ => true
  | .sleepStandby _ _ _ => true
  | .sleepHibernate _ _ _ => true
  | .sleepCoresTimeout => true
  | .standbyEntry => true
  | .hibernateEntry => true
  | .wakeEvent _ _ => true
  | .wakeAttemptTimeout _ => true
  | .brownOut => true
  | .undervoltage => true
  | .clockFail _ => true
  | .xaonFail => true
  | .xaonRecover => true
  | .nresetAssert => true
  | .nresetRelease => true
  | .resetStuck => true
  | .powerOn _ _ _ _ => true
  | .powerLoss => true
  | .lifeCheckpoint => true
  | .pwrFail => true
  | .pwrFailClear => true
  | .domainEnable _ _ _ => true
  | .scrubRead _ => true
  | .ddrInit _ _ => true
  | .ddrReady _ => true
  | .ddrMr4Poll _ => true
  | .xspiErase _ _ => true
  | .xspiProgram _ _ => true
  | .xspiDone _ => true
  | .otpProgram _ _ => true
  | .otpDone _ => true
  | .arbAdvance _ _ => true
  | .memBootSel _ _ => true
  | .attReq _ _ => true
  | .attDone _ => true
  | .dbgChallenge _ => true
  | .dbgSubmit _ _ => true
  | .dbgResult _ _ => true
  | .dbgLockoutEnd => true
  | .jtagInstruction _ => true
  | .linkChange _ _ _ => true
  | .ethFrameReceived _ f => f.ok
  | .ethFrameSent _ _ => true
  | .ringTail _ _ _ _ => true
  | .bniEnable _ _ _ => true
  | .bniFaultClear _ _ _ => true
  | .doorProfileTick _ => true
  | .pwmPeriodBoundary _ _ _ moreA moreB => decide (moreA.length ≤ 100) && decide (moreB.length = moreA.length)
  | .busError _ _ _ _ => true
  | .protocolException _ => true
  | .laneSupplyLoss _ => true
  | .wakeComplete _ => true
  | .timeLoRead _ _ => true

end Sys2Proof
end

