-- ==== Sys2Proof/Tests/Slice0.lean ====
section
/-! SUPPORT. Tests: ill-formed terms that WellFormed refuses, a state and operands for the hypotheses of every rule, and checks
of single commands on small states. -/

set_option Elab.async false

namespace Sys2Proof.Tests
open Sys2Proof Machine Rule

/-- Running, every domain on, pair 0 DUTY and pair 1 STANDBY. -/
def up : State :=
  let s := (List.range 10).foldl (fun m d => m.p (pcrP d) R.Pcr.STAT_DSTATE 1)
    { State.reset with tbs := { stopped := false }, pcr := { power := .run } }
  (s.p (apxP 0) R.Apx.STAT_PSTATE 4).p (apxP 1) R.Apx.STAT_PSTATE 3

/-- As `up`, with a safety parameter block in force: one car, input 0 used, a test-pulse period. -/
def lanes : State := { up with safe := { up.safe with spbIn := true, spb := [(6, 1), (0x0B8, 10), (0x0B9, 1)] } }

/-- A waiting command of pair 0 for stream 1. -/
def cmd0 : NibCmd := { stream := 1, seq := 1, pair := 0, words := [], stamp := 0, since := 0 }

theorem test_pfiEnable_met :
  let ini : Ini := .pair 0
  let n : Fin 8 := 0
  let s : State := up
  let a := fbP n + 0x008
  s.verdictW ini a = .ok := by decide +kernel

theorem test_posSet_met :
  let ini : Ini := .pair 0
  let n : Fin 8 := 0
  let s : State := up
  let a := fbP n + R.Fb.PFI_POS_SET.off
  s.verdictW ini a = .ok := by decide +kernel

theorem test_spdWindow_met :
  let n : Fin 8 := 0
  let s : State := (((up).p (fbP n) R.Hdr.CTRL_EN 1)).setFb n { winOpen := true }
  let x := s.fb n
  s.b (fbP n) R.Hdr.CTRL_EN = true ∧ x.winOpen = true := by decide +kernel

theorem test_serRequest_met :
  let n : Fin 8 := 0
  let s : State := (((((((up).p (fbP n) R.Hdr.CTRL_EN 1)).p (fbP n) R.Fb.MODE 1)).p (fbP n) R.Fb.SYNC 1)).setFb n { reqDue := true }
  let x := s.fb n
  let sync := s.b (fbP n) R.Fb.SYNC
  s.serRuns n = true ∧ x.sageTap = false ∧ (sync = false ∨ x.reqDue = true) := by decide +kernel

theorem test_serWord_met :
  let n : Fin 8 := 0
  let s : State := ((((up).p (fbP n) R.Hdr.CTRL_EN 1)).p (fbP n) R.Fb.MODE 1)
  s.serRuns n = true := by decide +kernel

theorem test_serStale_met :
  let n : Fin 8 := 0
  let s : State := ((((((up).p (fbP n) R.Hdr.CTRL_EN 1)).p (fbP n) R.Fb.MODE 1)).ps (fbP n) R.Fb.STAT_SER_OK 1)
  s.serRuns n = true ∧ s.b (fbP n) R.Fb.STAT_SER_OK = true := by decide +kernel

theorem test_indexEdge_met :
  let n : Fin 8 := 0
  let src : Fin 3 := 0
  src = 0 := by decide +kernel

theorem test_cmpArm_met :
  let ini : Ini := .pair 0
  let n : Fin 8 := 0
  let c : Fin 4 := 0
  let s : State := up
  let a := cmpP n c + 0x104
  s.verdictW ini a = .ok := by decide +kernel

theorem test_cmpDisarm_met :
  let ini : Ini := .pair 0
  let n : Fin 8 := 0
  let c : Fin 4 := 0
  let v : Word := 0#32
  let s : State := up
  let a := cmpP n c + 0x104
  s.verdictW ini a = .ok ∧ fget R.Fb.CMP_ARM v = 0 := by decide +kernel

theorem test_pfiFaultClear_met :
  let ini : Ini := .pair 0
  let n : Fin 8 := 0
  let s : State := ((up).ps (fbP n) R.Fb.STAT_FAULT 1)
  let a := fbP n + 0x00C
  s.verdictW ini a = .ok := by decide +kernel

theorem test_pfiSnap_met :
  let ini : Ini := .pair 0
  let s : State := up
  let a := pfiC + R.PfiC.PFI_SNAP.off
  s.verdictW ini a = .ok := by decide +kernel

theorem test_poStep_met :
  let k : Fin 2 := 0
  let s : State := ((((((up).p (poP k) R.Hdr.CTRL_EN 1)).p (poP k) R.Po.PFI_PO_PEND 5)).p (fbP 0) R.Hdr.CTRL_EN 1)
  let pend := s.gs (poP k) R.Po.PFI_PO_PEND
  let src := s.g (poP k) R.Po.SRC
  let on := s.b (poP k) R.Hdr.CTRL_EN && s.b (fbP src) R.Hdr.CTRL_EN && !s.b (fbP src) R.Fb.STAT_FAULT
  on = true ∧ pend ≠ 0 := by decide +kernel

theorem test_ofsCommit_met :
  let ini : Ini := .pair 0
  let s : State := up
  s.verdictW ini (tbsC + 0x04C) = .ok := by decide +kernel

theorem test_tbStep_met :
  let o : Int := 2000000
  let rest : List Int := []
  let s : State := { up with tbs := { up.tbs with ofs := [2000000] } }
  s.tbs.stopped = false ∧ s.tbs.ofs = o :: rest ∧ 1000000 < o := by decide +kernel

theorem test_slewDone_met :
  let s : State := { (up.p tbsC R.Hdr.CTRL_EN 1).p tbsC R.TbsC.SLEW_PPM 10 with tbs := { up.tbs with slew := 4294967296 } }
  s.tbs.stopped = false ∧ s.tbs.ofs = [] ∧ s.tbs.slew ≠ 0 ∧ s.slewInc ≠ 0 := by decide +kernel

theorem test_reseededClear_met :
  let ini : Ini := .pair 0
  let s : State := up
  s.verdictW ini (tbsC + 0x00C) = .ok := by decide +kernel

theorem test_syncSend_met :
  let n : Fin 4 := 0
  let s : State := ((((up.p (tbsP n) R.Hdr.CTRL_EN 1).p (sbcP (2 * n)) R.Sbc.SBC_CFG_OWN 1).p (sbcP (2 * n)) R.Hdr.CTRL_EN 1).ps (sbcP (2 * n)) R.Sbc.STAT_OPMODE 3)
  s.tbs.stopped = false ∧ s.b (tbsP n) R.Hdr.CTRL_EN = true := by decide +kernel

theorem test_syncDeadline_met :
  let n : Fin 4 := 0
  let s : State := (((((up.p (tbsP n) R.Hdr.CTRL_EN 1).p (sbcP (2 * n)) R.Sbc.SBC_CFG_OWN 1).p (sbcP (2 * n)) R.Hdr.CTRL_EN 1).ps (sbcP (2 * n)) R.Sbc.STAT_OPMODE 3)).setNet n { owed := true, legA := .queued, legB := .none, deadline := 0 } |>.setPort (2 * n) { q0 := [{ id := 5, data := [], launch := none, kind := .sync }] }
  let x := s.net n
  s.tbs.stopped = false ∧ x.owed = true ∧ (x.legA = .queued ∨ x.legB = .queued) := by decide +kernel

theorem test_followUpSend_met :
  let n : Fin 4 := 0
  let s : State := (((((up.p (tbsP n) R.Hdr.CTRL_EN 1).p (sbcP (2 * n)) R.Sbc.SBC_CFG_OWN 1).p (sbcP (2 * n)) R.Hdr.CTRL_EN 1).ps (sbcP (2 * n)) R.Sbc.STAT_OPMODE 3)).setNet n { owed := true, legA := .done 0, legB := .none }
  (s.net n).owed = true ∧ (s.net n).legA ≠ .queued ∧ (s.net n).legB ≠ .queued := by decide +kernel

theorem test_sbcEnable_met :
  let ini : Ini := .pair 0
  let n : Fin 8 := 0
  let s : State := up
  let a := sbcP n + 0x008
  s.verdictW ini a = .ok := by decide +kernel

theorem test_sbcOos_met :
  let ini : Ini := .pair 0
  let n : Fin 8 := 0
  let v : Word := 3#32
  let s : State := ((((up).p (sbcP n) R.Hdr.CTRL_EN 1)).ps (sbcP n) R.Sbc.STAT_OPMODE 3)
  let a := sbcP n + 0x008
  let u := s.granted a
  s.verdictW ini a = .ok ∧ u.b (sbcP n) R.Hdr.CTRL_EN = true ∧ bitOf v.toNat 0 = true ∧ bitOf v.toNat 1 = true := by decide +kernel

theorem test_borReq_met :
  let ini : Ini := .pair 0
  let n : Fin 8 := 0
  let v : Word := 1#32
  let s : State := ((((up).p (sbcP n) R.Hdr.CTRL_EN 1)).ps (sbcP n) R.Sbc.STAT_OPMODE 4)
  let a := sbcP n + 0x008
  let u := s.granted a
  s.verdictW ini a = .ok ∧ u.b (sbcP n) R.Hdr.CTRL_EN = true ∧ v.toNat % 4 = 1 := by decide +kernel

theorem test_busIntegrated_met :
  let n : Fin 8 := 0
  let s : State := ((up).ps (sbcP n) R.Sbc.STAT_OPMODE 1)
  s.netOn = true ∧ s.opm n = 1 := by decide +kernel

theorem test_restrictedEnd_met :
  let n : Fin 8 := 0
  let s : State := ((up).ps (sbcP n) R.Sbc.STAT_OPMODE 2)
  s.netOn = true ∧ s.opm n = 2 ∧ s.b (sbcP n) R.Sbc.STAT_HELD = false := by decide +kernel

theorem test_busOffRecovered_met :
  let n : Fin 8 := 0
  let s : State := ((((up).ps (sbcP n) R.Sbc.STAT_OPMODE 4)).p (sbcP n) R.Sbc.SBC_CFG_AUTO_REC 1)
  let asked := s.b (sbcP n) R.Sbc.SBC_CFG_AUTO_REC || (s.port n).borReq
  s.netOn = true ∧ s.opm n = 4 ∧ asked = true := by decide +kernel

theorem test_txReq_met :
  let ini : Ini := .pair 0
  let n : Fin 8 := 0
  let b : Fin 3 := 2
  let s : State := up
  let a := txbP n b + 0x100
  s.verdictW ini a = .ok := by decide +kernel

theorem test_txAbort_met :
  let ini : Ini := .pair 0
  let n : Fin 8 := 0
  let b : Fin 3 := 2
  let s : State := up
  let a := txbP n b + 0x100
  s.verdictW ini a = .ok := by decide +kernel

theorem test_txLaunchDue_met :
  let n : Fin 8 := 0
  let b : Fin 3 := 2
  let s : State := ((((((up).p (sbcP n) R.Hdr.CTRL_EN 1)).ps (sbcP n) R.Sbc.STAT_OPMODE 3)).p (txbP n b) R.Sbc.TXB_STAT_STATE 1).p (txbP n b) R.Sbc.TXB_CTRL_TAT 1
  s.netOn = true ∧ s.txs n b = 1 ∧ s.b (txbP n b) R.Sbc.TXB_CTRL_TAT = true := by decide +kernel

theorem test_txAttemptOk_met :
  let n : Fin 8 := 0
  let b : Fin 3 := 2
  let s : State := (((((up).p (sbcP n) R.Hdr.CTRL_EN 1)).ps (sbcP n) R.Sbc.STAT_OPMODE 3)).p (txbP n b) R.Sbc.TXB_STAT_STATE 2
  s.netOn = true ∧ s.active n = some b.val := by decide +kernel

theorem test_txAttemptLost_met :
  let n : Fin 8 := 0
  let b : Fin 3 := 2
  let s : State := (((((up).p (sbcP n) R.Hdr.CTRL_EN 1)).ps (sbcP n) R.Sbc.STAT_OPMODE 3)).p (txbP n b) R.Sbc.TXB_STAT_STATE 2
  s.netOn = true ∧ s.active n = some b.val := by decide +kernel

theorem test_txAttemptErr_met :
  let n : Fin 8 := 0
  let b : Fin 3 := 2
  let s : State := (((((up).p (sbcP n) R.Hdr.CTRL_EN 1)).ps (sbcP n) R.Sbc.STAT_OPMODE 3)).p (txbP n b) R.Sbc.TXB_STAT_STATE 2
  s.netOn = true ∧ s.active n = some b.val := by decide +kernel

theorem test_aloneRetry_met :
  let n : Fin 8 := 0
  let b : Fin 3 := 2
  let s : State := (((((((up).p (sbcP n) R.Hdr.CTRL_EN 1)).ps (sbcP n) R.Sbc.STAT_OPMODE 3)).ps (sbcP n) R.Sbc.STAT_ALONE 1)).p (txbP n b) R.Sbc.TXB_STAT_STATE 1
  s.netOn = true ∧ s.b (sbcP n) R.Sbc.STAT_ALONE = true := by decide +kernel

theorem test_frameReceived_met :
  let n : Fin 8 := 0
  let f : RxFrame := { id := 5#29, ide := true, fdf := true, brs := true, esi := false, rtr := false, dlc := 1, data := [7#8], age := 0 }
  let s : State := ((((up).p (sbcP n) R.Hdr.CTRL_EN 1)).ps (sbcP n) R.Sbc.STAT_OPMODE 3)
  let hears := s.netOn && (s.opm n == 2 || s.opm n == 3) && s.g (sbcP n) R.Sbc.SBC_CFG_TEST != 2
  hears = true ∧ (s.engine n && f.ide && f.fdf && !f.rtr) = false := by decide +kernel

theorem test_sbcFaultClear_met :
  let ini : Ini := .pair 0
  let n : Fin 8 := 0
  let s : State := up
  let a := sbcP n + 0x00C
  s.verdictW ini a = .ok := by decide +kernel

theorem test_busError_met :
  let n : Fin 8 := 0
  let s : State := ((((up).p (sbcP n) R.Hdr.CTRL_EN 1)).ps (sbcP n) R.Sbc.STAT_OPMODE 3)
  s.netOn = true ∧ (s.opm n = 2 ∨ s.opm n = 3) ∧ s.g (sbcP n) R.Sbc.SBC_CFG_TEST ≠ 2 := by decide +kernel

theorem test_protocolException_met :
  let n : Fin 8 := 0
  let s : State := ((((((up).p (sbcP n) R.Hdr.CTRL_EN 1)).ps (sbcP n) R.Sbc.STAT_OPMODE 3)).p (sbcP n) R.Sbc.SBC_CFG_PEX_EN 1)
  s.netOn = true ∧ (s.opm n = 2 ∨ s.opm n = 3) ∧ s.b (sbcP n) R.Sbc.SBC_CFG_PEX_EN = true := by decide +kernel

theorem test_ctxEnable_met :
  let ini : Ini := .pair 0
  let n : Fin 160 := 0
  let s : State := up
  let a := ctxP n + 0x008
  s.verdictW ini a = .ok := by decide +kernel

theorem test_ctxDisable_met :
  let ini : Ini := .pair 0
  let n : Fin 160 := 0
  let s : State := ((up).p (ctxP n) R.Hdr.CTRL_EN 1)
  let a := ctxP n + 0x008
  s.verdictW ini a = .ok := by decide +kernel

theorem test_inviteSlot_met :
  let c : Nat := 3
  let d : Nat := 5
  let s : State := { (((((((up.p (sbcP 0) R.Sbc.SBC_CFG_OWN 1).p (sbcP 0) R.Hdr.CTRL_EN 1).ps (sbcP 0) R.Sbc.STAT_OPMODE 3)).p (ctxP c) R.Hdr.CTRL_EN 1).p (ctxP c) R.Ctx.CVE_ROSTER_NODE 40).ps (ctxP c) R.Ctx.STAT_CSTATE 1) with cve := { on := [c], slotAt := some 5 } }
  s.netOn = true ∧ s.cve.slotAt = some d ∧ s.cve.on.head? = some c ∧ s.cst c = 1 ∧ s.netUp (s.cNet c) = true := by decide +kernel

theorem test_inviteTimeout_met :
  let n : Fin 160 := 0
  let d : Nat := 5
  let s : State := ((((((((up.p (sbcP 0) R.Sbc.SBC_CFG_OWN 1).p (sbcP 0) R.Hdr.CTRL_EN 1).ps (sbcP 0) R.Sbc.STAT_OPMODE 3)).p (ctxP n) R.Hdr.CTRL_EN 1).p (ctxP n) R.Ctx.CVE_ROSTER_NODE 40).ps (ctxP n) R.Ctx.STAT_CSTATE 2)).setCtx n { inviteAt := some 5 }
  s.netOn = true ∧ (s.ctx n).inviteAt = some d ∧ (s.cst n = 2 ∨ s.cst n = 5) := by decide +kernel

theorem test_join_met :
  let port : Fin 8 := 0
  let src : Byte := 40#8
  let c : Nat := 3
  let s : State := { (((((((up.p (sbcP 0) R.Sbc.SBC_CFG_OWN 1).p (sbcP 0) R.Hdr.CTRL_EN 1).ps (sbcP 0) R.Sbc.STAT_OPMODE 3)).p (ctxP c) R.Hdr.CTRL_EN 1).p (ctxP c) R.Ctx.CVE_ROSTER_NODE 40).ps (ctxP c) R.Ctx.STAT_CSTATE 1) with cve := { on := [c] } }
  fromRoster s port src c := by decide +kernel

theorem test_welcome_met :
  let n : Fin 160 := 0
  let k : Fin 8 := 0
  let f : EFrm := { id := 5, data := [], launch := none, kind := .welcome 0 }
  let s : State := (((((((((up.p (sbcP 0) R.Sbc.SBC_CFG_OWN 1).p (sbcP 0) R.Hdr.CTRL_EN 1).ps (sbcP 0) R.Sbc.STAT_OPMODE 3)).p (ctxP n) R.Hdr.CTRL_EN 1).p (ctxP n) R.Ctx.CVE_ROSTER_NODE 40).ps (ctxP n) R.Ctx.STAT_CSTATE 3)).p (txbP 0 1) R.Sbc.TXB_STAT_STATE 2).setPort 0 { cur1 := some f } |>.setCtx n { welcoming := true }
  s.netOn = true ∧ (∀ j < 8, j ≠ k.val → s.active j ≠ some 1) ∧ s.active k = some 1 ∧ (s.port k).cur1 = some f ∧ f.kind = .welcome n ∧ s.g (sbcP k) R.Sbc.SBC_CFG_TEST ≠ 2 := by decide +kernel

theorem test_leave_met :
  let port : Fin 8 := 0
  let src : Byte := 40#8
  let c : Nat := 3
  let s : State := { (((((((up.p (sbcP 0) R.Sbc.SBC_CFG_OWN 1).p (sbcP 0) R.Hdr.CTRL_EN 1).ps (sbcP 0) R.Sbc.STAT_OPMODE 3)).p (ctxP c) R.Hdr.CTRL_EN 1).p (ctxP c) R.Ctx.CVE_ROSTER_NODE 40).ps (ctxP c) R.Ctx.STAT_CSTATE 3) with cve := { on := [c] } }
  fromRoster s port src c := by decide +kernel

theorem test_data_met :
  let port : Fin 8 := 0
  let src : Byte := 40#8
  let c : Nat := 3
  let s : State := { (((((((((up.p (sbcP 0) R.Sbc.SBC_CFG_OWN 1).p (sbcP 0) R.Hdr.CTRL_EN 1).ps (sbcP 0) R.Sbc.STAT_OPMODE 3)).p (ctxP c) R.Hdr.CTRL_EN 1).p (ctxP c) R.Ctx.CVE_ROSTER_NODE 40)).p (ctxP c) R.Ctx.CVE_RXQ_RXQ_LEN 10).ps (ctxP c) R.Ctx.STAT_CSTATE 3) with cve := { on := [c] } }
  fromRoster s port src c := by decide +kernel

theorem test_ack_met :
  let port : Fin 8 := 0
  let src : Byte := 40#8
  let c : Nat := 3
  let s : State := { ((((((((up.p (sbcP 0) R.Sbc.SBC_CFG_OWN 1).p (sbcP 0) R.Hdr.CTRL_EN 1).ps (sbcP 0) R.Sbc.STAT_OPMODE 3)).p (ctxP c) R.Hdr.CTRL_EN 1).p (ctxP c) R.Ctx.CVE_ROSTER_NODE 40).ps (ctxP c) R.Ctx.STAT_CSTATE 3)).p (ctxP c) R.Ctx.TX_NEXT 1 with cve := { on := [c] } }
  fromRoster s port src c := by decide +kernel

theorem test_nak_met :
  let port : Fin 8 := 0
  let src : Byte := 40#8
  let c : Nat := 3
  let s : State := { (((((((up.p (sbcP 0) R.Sbc.SBC_CFG_OWN 1).p (sbcP 0) R.Hdr.CTRL_EN 1).ps (sbcP 0) R.Sbc.STAT_OPMODE 3)).p (ctxP c) R.Hdr.CTRL_EN 1).p (ctxP c) R.Ctx.CVE_ROSTER_NODE 40).ps (ctxP c) R.Ctx.STAT_CSTATE 3) with cve := { on := [c] } }
  fromRoster s port src c := by decide +kernel

theorem test_heartbeat_met :
  let port : Fin 8 := 0
  let src : Byte := 40#8
  let c : Nat := 3
  let s : State := { (((((((up.p (sbcP 0) R.Sbc.SBC_CFG_OWN 1).p (sbcP 0) R.Hdr.CTRL_EN 1).ps (sbcP 0) R.Sbc.STAT_OPMODE 3)).p (ctxP c) R.Hdr.CTRL_EN 1).p (ctxP c) R.Ctx.CVE_ROSTER_NODE 40).ps (ctxP c) R.Ctx.STAT_CSTATE 3) with cve := { on := [c] } }
  fromRoster s port src c := by decide +kernel

theorem test_gapTimeout_met :
  let n : Fin 160 := 0
  let d : Nat := 5
  let s : State := ((((((((up.p (sbcP 0) R.Sbc.SBC_CFG_OWN 1).p (sbcP 0) R.Hdr.CTRL_EN 1).ps (sbcP 0) R.Sbc.STAT_OPMODE 3)).p (ctxP n) R.Hdr.CTRL_EN 1).p (ctxP n) R.Ctx.CVE_ROSTER_NODE 40).ps (ctxP n) R.Ctx.STAT_CSTATE 3)).setCtx n { gapAt := some 5, gapNext := 3 }
  let x := match (s.ctx n).held.head? with
    | some f => f.seq
    | none => (s.ctx n).gapNext
  s.netOn = true ∧ (s.ctx n).gapAt = some d ∧ x < 65536 := by decide +kernel

theorem test_ackDue_met :
  let n : Fin 160 := 0
  let s : State := ((((((((up.p (sbcP 0) R.Sbc.SBC_CFG_OWN 1).p (sbcP 0) R.Hdr.CTRL_EN 1).ps (sbcP 0) R.Sbc.STAT_OPMODE 3)).p (ctxP n) R.Hdr.CTRL_EN 1).p (ctxP n) R.Ctx.CVE_ROSTER_NODE 40).ps (ctxP n) R.Ctx.STAT_CSTATE 3)).setCtx n { ackOwed := true }
  s.netOn = true ∧ (s.ctx n).ackOwed = true := by decide +kernel

theorem test_retransmitDue_met :
  let n : Fin 160 := 0
  let f : OutFrm := { seq := 4, stream := 3, prio := 3, data := [1], sent := true, sentAt := 5, tries := 1, mark := false }
  let s : State := ((((((((up.p (sbcP 0) R.Sbc.SBC_CFG_OWN 1).p (sbcP 0) R.Hdr.CTRL_EN 1).ps (sbcP 0) R.Sbc.STAT_OPMODE 3)).p (ctxP n) R.Hdr.CTRL_EN 1).p (ctxP n) R.Ctx.CVE_ROSTER_NODE 40).ps (ctxP n) R.Ctx.STAT_CSTATE 3)).setCtx n { out := [f] }
  s.netOn = true ∧ s.netUp (s.cNet n) = true ∧ dueFirst (s.ctx n).out = some f := by decide +kernel

theorem test_heartbeatMiss_met :
  let n : Fin 160 := 0
  let s : State := (((((((up.p (sbcP 0) R.Sbc.SBC_CFG_OWN 1).p (sbcP 0) R.Hdr.CTRL_EN 1).ps (sbcP 0) R.Sbc.STAT_OPMODE 3)).p (ctxP n) R.Hdr.CTRL_EN 1).p (ctxP n) R.Ctx.CVE_ROSTER_NODE 40).ps (ctxP n) R.Ctx.STAT_CSTATE 3)
  s.netOn = true ∧ s.cLive n = true := by decide +kernel

theorem test_bcastHeartbeat_met :
  let net : Fin 4 := 0
  let d : Nat := 5
  let s : State := { up with cve := { hbAt := [(0, some 5)] } }
  s.netOn = true ∧ Tab.get (fun _ => none) s.cve.hbAt net.val = some d := by decide +kernel

theorem test_cveSend_met :
  let n : Fin 160 := 0
  let s : State := (((((((up.p (sbcP 0) R.Sbc.SBC_CFG_OWN 1).p (sbcP 0) R.Hdr.CTRL_EN 1).ps (sbcP 0) R.Sbc.STAT_OPMODE 3)).p (ctxP n) R.Hdr.CTRL_EN 1).p (ctxP n) R.Ctx.CVE_ROSTER_NODE 40).ps (ctxP n) R.Ctx.STAT_CSTATE 3)
  s.verdictW .nib (ctxP n + 0x144) = .ok := by decide +kernel

theorem test_cveRelease_met :
  let n : Fin 160 := 0
  let p : Fin 2 := 0
  let count : BitVec 7 := 0#7
  let s : State := (((((((up.p (sbcP 0) R.Sbc.SBC_CFG_OWN 1).p (sbcP 0) R.Hdr.CTRL_EN 1).ps (sbcP 0) R.Sbc.STAT_OPMODE 3)).p (ctxP n) R.Hdr.CTRL_EN 1).p (ctxP n) R.Ctx.CVE_ROSTER_NODE 40).ps (ctxP n) R.Ctx.STAT_CSTATE 3)
  let u := s.granted (ctxP n + 0x144)
  let ok := count != 0 && decide (count.toNat ≤ u.unreleased n p)
  s.verdictW .nib (ctxP n + 0x144) = .ok := by decide +kernel

theorem test_cveNotice_met :
  let s : State := ((((up.p (sbcP 0) R.Sbc.SBC_CFG_OWN 1).p (sbcP 0) R.Hdr.CTRL_EN 1).ps (sbcP 0) R.Sbc.STAT_OPMODE 3)).p cveC R.Hdr.CTRL_EN 1
  s.verdictW .nib (cveC + 0x144) = .ok := by decide +kernel

theorem test_ctxBarClear_met :
  let ini : Ini := .pair 0
  let n : Fin 160 := 0
  let s : State := ((((((((up.p (sbcP 0) R.Sbc.SBC_CFG_OWN 1).p (sbcP 0) R.Hdr.CTRL_EN 1).ps (sbcP 0) R.Sbc.STAT_OPMODE 3)).p (ctxP n) R.Hdr.CTRL_EN 1).p (ctxP n) R.Ctx.CVE_ROSTER_NODE 40).ps (ctxP n) R.Ctx.STAT_CSTATE 6)).ps (ctxP n) R.Ctx.STAT_BAR 1
  let a := ctxP n + 0x00C
  s.verdictW ini a = .ok := by decide +kernel

theorem test_armU_met :
  let ini : Ini := .pair 0
  let s : State := up
  s.verdictW ini (mpgC + 0x044) = .ok := by decide +kernel

theorem test_armL_met :
  let ini : Ini := .pair 0
  let s : State := up
  s.verdictW ini (mpgC + 0x044) = .ok := by decide +kernel

theorem test_armCheckDone_met :
  let s : State := { up.p mpgC R.MpgC.MAP_BUSY 1 with hoist := { up.hoist with arming := [0] } }
  s.domOn 6 = true ∧ s.b mpgC R.MpgC.MAP_BUSY = true := by decide +kernel

theorem test_disarmU_met :
  let ini : Ini := .pair 0
  let s : State := up.p mpgC R.MpgC.MAP_ARMED_U 1
  s.verdictW ini (mpgC + 0x044) = .ok := by decide +kernel

theorem test_disarmL_met :
  let ini : Ini := .pair 0
  let s : State := up.p mpgC R.MpgC.MAP_ARMED_L 1
  s.verdictW ini (mpgC + 0x044) = .ok := by decide +kernel

theorem test_hoistPeriodBoundary_met :
  let c : Fin 2 := 0
  let s : State := up
  s.domOn 6 = true ∧ (c = 0 ∨ s.lh6161 = false) := by decide +kernel

theorem test_levelled_met :
  let c : Fin 2 := 0
  let s : State := (up.setGst 0 4)
  s.domOn 6 = true ∧ s.gst c = 4 ∧ s.willLevel c = true ∧ s.hoist.lost = [] ∧ (s.xst c ≠ 2 ∨ (s.exe c).cancel = true ∨ s.entF c 4 2 ≠ 0) ∧ (c = 0 ∨ s.lh6161 = false) := by decide +kernel

theorem test_levelMiss_met :
  let c : Fin 2 := 0
  let s : State := (up.setGst 0 4).p (mpgP 0) R.Mpg.MPG_TARGET 100000
  s.domOn 6 = true ∧ s.gst c = 4 ∧ s.willLevel c = false ∧ s.hoist.lost = [] ∧ (c = 0 ∨ s.lh6161 = false) := by decide +kernel

theorem test_mpgRelevel_met :
  let c : Fin 2 := 0
  let s : State := up
  let a := mpgP c + 0x108
  s.verdictW .nib a = .ok := by decide +kernel

theorem test_haltClr_met :
  let ini : Ini := .pair 0
  let c : Fin 2 := 0
  let v : Word := 3#32
  let s : State := ((((((up.setGst 0 6).ps (fbP 0) R.Fb.STAT_VALID 1).ps (sogP 0) R.Sog.STAT_HS0 1).ps (sogP 0) R.Sog.STAT_LS0 1).ps (sogP 0) R.Sog.STAT_HS1 1).ps (sogP 0) R.Sog.STAT_LS1 1)
  let a := mpgP c + 0x008
  let u := s.granted a
  let still (n : Nat) : Bool := u.chValid n && decide (u.gs (fbP n) R.Fb.PFI_SPD = 0)
  let ok := u.gst c = 6 ∧ u.mainOpen c = false ∧ u.fwLasting (0xF4 + c) = false ∧
    (still (u.srcPri c) = true ∨ still (u.srcSec c) = true)
  let bars := bitOf v.toNat 0 = false ∧ 2 ≤ u.gst c ∧ u.gst c ≤ 5
  s.verdictW ini a = .ok ∧ ¬bars := by decide +kernel

theorem test_sepDisagreeClear_met :
  let ini : Ini := .pair 0
  let s : State := up
  let a := sepC + 0x00C
  s.verdictW ini a = .ok := by decide +kernel

theorem test_exeLoad_met :
  let c : Fin 2 := 0
  let s : State := up
  let a := mpgP c + 0x210
  s.verdictW .nib a = .ok := by decide +kernel

theorem test_exeGo_met :
  let c : Fin 2 := 0
  let s : State := up
  let a := mpgP c + 0x210
  s.verdictW .nib a = .ok := by decide +kernel

theorem test_exeHold_met :
  let c : Fin 2 := 0
  let s : State := up
  let a := mpgP c + 0x210
  s.verdictW .nib a = .ok := by decide +kernel

theorem test_exeResume_met :
  let c : Fin 2 := 0
  let s : State := up
  let a := mpgP c + 0x210
  s.verdictW .nib a = .ok := by decide +kernel

theorem test_exeCancel_met :
  let c : Fin 2 := 0
  let s : State := up
  let a := mpgP c + 0x210
  s.verdictW .nib a = .ok := by decide +kernel

theorem test_exeRelease_met :
  let c : Fin 2 := 0
  let s : State := up
  let a := mpgP c + 0x210
  s.verdictW .nib a = .ok := by decide +kernel

theorem test_dwellDone_met :
  let c : Fin 2 := 0
  let s : State := (up.setXst 0 4).p (mpgP 0) R.Mpg.EXE_STAT_HOLD_PEND 1
  s.xst c = 4 ∧ s.domOn 6 = true := by decide +kernel

theorem test_evtTimeout_met :
  let c : Fin 2 := 0
  let s : State := (up.setXst 0 3).wr (entP 0 0 + 0x404) 5#32
  s.xst c = 3 ∧ s.entW c (s.xcur c) 1 ≠ 0#32 ∧ s.domOn 6 = true := by decide +kernel

theorem test_downFrame_met :
  let n : Fin 2 := 0
  let s : State := up.setLst 0 2
  s.domOn 6 = true ∧ 2 ≤ s.lst n := by decide +kernel

theorem test_upFrame_met :
  let n : Fin 2 := 0
  let s : State := (up.setLst 0 4).setDlk 0 { sent := true, decided := false }
  let x := s.dlk n
  s.domOn 6 = true ∧ s.lst n ≠ 0 ∧ x.sent = true := by decide +kernel

theorem test_periodMiss_met :
  let n : Fin 2 := 0
  let s : State := (up.setLst 0 3).setDlk 0 { sent := true, decided := false }
  s.domOn 6 = true ∧ (s.dlk n).decided = false := by decide +kernel

theorem test_symbolLock_met :
  let n : Fin 2 := 0
  let s : State := up.setLst 0 1
  s.domOn 6 = true ∧ s.lst n ≠ 0 := by decide +kernel

theorem test_helloTimeout_met :
  let n : Fin 2 := 0
  let s : State := up.setLst 0 2
  s.domOn 6 = true ∧ s.lst n = 2 := by decide +kernel

theorem test_lossClr_met :
  let ini : Ini := .pair 0
  let n : Fin 2 := 0
  let s : State := up
  let a := dlkP n + 0x008
  let u := s.granted a
  let ok := u.lst n = 5 ∧ (u.gst n = 0 ∨ u.gst n = 1 ∨ u.gst n = 6) ∧ u.fwLasting (0xDC + n) = false
  s.verdictW ini a = .ok := by decide +kernel

theorem test_dlkEnable_met :
  let ini : Ini := .pair 0
  let n : Fin 2 := 0
  let v : Word := 1#32
  let s : State := up
  let a := dlkP n + 0x008
  s.verdictW ini a = .ok ∧ bitOf v.toNat 2 = false := by decide +kernel

theorem test_clgInsert_met :
  let w0 : Word := 0#32
  let w1 : Word := 0#32
  let w2 : Word := 0#32
  let w3 : Word := 0#32
  let w4 : Word := 0#32
  let w5 : Word := 0#32
  let tag : BitVec 16 := 0#16
  let seq : BitVec 16 := 0#16
  let s : State := up.p clgC R.Hdr.CTRL_EN 1
  let c : ClgCmd := ⟨w0.toNat, w1.toNat, w2.toNat, w3.toNat, w4.toNat, w5.toNat, 0, 1, tag.toNat, seq.toNat⟩
  clgTakes s c := by decide +kernel

theorem test_clgAssign_met :
  let idx : BitVec 14 := 0#14
  let car : Fin 4 := 0
  let tag : BitVec 16 := 0#16
  let seq : BitVec 16 := 0#16
  let s : State := up.p clgC R.Hdr.CTRL_EN 1
  let c := clgCmd 2 idx.toNat car 0 0 tag.toNat seq.toNat
  clgTakes s c := by decide +kernel

theorem test_clgUnassign_met :
  let idx : BitVec 14 := 0#14
  let tag : BitVec 16 := 0#16
  let seq : BitVec 16 := 0#16
  let s : State := up.p clgC R.Hdr.CTRL_EN 1
  let c := clgCmd 3 idx.toNat 0 0 0 tag.toNat seq.toNat
  clgTakes s c := by decide +kernel

theorem test_clgServe_met :
  let idx : BitVec 14 := 0#14
  let tag : BitVec 16 := 0#16
  let seq : BitVec 16 := 0#16
  let s : State := up.p clgC R.Hdr.CTRL_EN 1
  let c := clgCmd 4 idx.toNat 0 0 0 tag.toNat seq.toNat
  clgTakes s c := by decide +kernel

theorem test_clgCancel_met :
  let idx : BitVec 14 := 0#14
  let tag : BitVec 16 := 0#16
  let seq : BitVec 16 := 0#16
  let s : State := up.p clgC R.Hdr.CTRL_EN 1
  let c := clgCmd 5 idx.toNat 0 0 0 tag.toNat seq.toNat
  clgTakes s c := by decide +kernel

theorem test_clgSetApp_met :
  let idx : BitVec 14 := 0#14
  let flags : BitVec 6 := 0#6
  let app : Word := 0#32
  let tag : BitVec 16 := 0#16
  let seq : BitVec 16 := 0#16
  let s : State := up.p clgC R.Hdr.CTRL_EN 1
  let c := clgCmd 6 idx.toNat 0 flags.toNat app.toNat tag.toNat seq.toNat
  clgTakes s c := by decide +kernel

theorem test_viewStallApply_met :
  let c : ClgCmd := ⟨0, 0, 0, 0, 0, 0, 5, 2, 1, 1⟩
  let rest : List ClgCmd := []
  let s : State := { up with clg := { up.clg with held := [c] } }
  s.clg.held = c :: rest := by decide +kernel

theorem test_clgEnable_met :
  let ini : Ini := .pair 0
  let s : State := up
  let a := clgC + 0x008
  s.verdictW ini a = .ok := by decide +kernel

theorem test_clgInitDone_met :
  let s : State := up.ps clgC R.ClgC.STAT_INIT 1
  s.domOn 7 = true ∧ s.b clgC R.ClgC.STAT_INIT = true := by decide +kernel

theorem test_peakClr_met :
  let ini : Ini := .pair 0
  let s : State := up
  let a := clgC + 0x008
  s.verdictW ini a = .ok := by decide +kernel

theorem test_clgFaultClear_met :
  let ini : Ini := .pair 0
  let s : State := up
  let a := clgC + 0x00C
  s.verdictW ini a = .ok := by decide +kernel

theorem test_dmcOpen_met :
  let d : DoorDst := .chan 0
  let s : State := up
  s.verdictW .nib (doorPage d + 0x108) = .ok := by decide +kernel

theorem test_dmcClose_met :
  let d : DoorDst := .chan 0
  let s : State := up
  s.verdictW .nib (doorPage d + 0x108) = .ok := by decide +kernel

theorem test_dmcStop_met :
  let d : DoorDst := .chan 0
  let s : State := up
  s.verdictW .nib (doorPage d + 0x108) = .ok := by decide +kernel

theorem test_dmcHome_met :
  let d : DoorDst := .chan 0
  let s : State := up
  s.verdictW .nib (doorPage d + 0x108) = .ok := by decide +kernel

theorem test_dmcCal_met :
  let d : DoorDst := .chan 0
  let s : State := up
  s.verdictW .nib (doorPage d + 0x108) = .ok := by decide +kernel

theorem test_dmcEnable_met :
  let ini : Ini := .pair 0
  let n : Fin 8 := 0
  let s : State := up
  let a := dmcP n + 0x008
  s.verdictW ini a = .ok := by decide +kernel

theorem test_doorMoveDone_met :
  let n : Fin 8 := 0
  let s : State := (((((up).p (dmcP n) R.Hdr.CTRL_EN 1)).ps (dmcP n) R.Dmc.STAT_DSTATE 4)).setDoor n { settleAt := some 0 }
  let u := s.doorNow n
  let x := u.door n
  s.doorHere n = true ∧ swQuiet n s ∧ (u.dst n = 4 ∨ u.dst n = 5) ∧ (x.segs ≠ [] ∨ (x.v = 0 ∧ x.settleAt.isSome = true)) := by decide +kernel

theorem test_doorAtRest_met :
  let n : Fin 8 := 0
  let s : State := ((((up).p (dmcP n) R.Hdr.CTRL_EN 1)).ps (dmcP n) R.Dmc.STAT_DSTATE 6)
  let u := s.doorNow n
  let x := u.door n
  s.doorHere n = true ∧ swQuiet n s ∧ (x.segs ≠ [] ∨ x.v = 0) ∧ (u.dst n = 6 ∨ (u.dst n = 2 ∧ (x.hstep = 4 ∨ x.hstep = 5))) := by decide +kernel

theorem test_obstruction_met :
  let n : Fin 8 := 0
  let s : State := ((((((((up).p (dmcP n) R.Hdr.CTRL_EN 1)).ps (dmcP n) R.Dmc.STAT_DSTATE 5)).ps (dmcP n) R.Dmc.STAT_STALL_VALID 1)).p (dmcP n) R.Dmc.LOAD_ANGLE 300)
  let u := s.doorNow n
  let r := u.doorUntil n ((u.obstructAt n).getD 0)
  s.doorHere n = true ∧ (u.dst n = 2 ∨ u.dst n = 4 ∨ u.dst n = 5) ∧ u.b (dmcP n) R.Dmc.STAT_STALL_VALID = true ∧ s.b (dmcP n) R.Dmc.LINK_EN = false ∧ r.b (dmcP n) R.Dmc.STAT_CAL_PEND = false := by decide +kernel

theorem test_lostStep_met :
  let n : Fin 8 := 0
  let s : State := ((((((up).p (dmcP n) R.Hdr.CTRL_EN 1)).ps (dmcP n) R.Dmc.STAT_DSTATE 5)).ps (dmcP n) R.Dmc.STAT_STALL_VALID 1)
  let u := s.doorNow n
  s.doorHere n = true ∧ u.b (dmcP n) R.Dmc.STAT_STALL_VALID = true := by decide +kernel

theorem test_reverseStart_met :
  let n : Fin 8 := 0
  let s : State := ((((up).p (dmcP n) R.Hdr.CTRL_EN 1)).ps (dmcP n) R.Dmc.STAT_DSTATE 7)
  let pg := dmcP n
  let u := s.doorNow n
  s.doorHere n = true ∧ u.dst n = 7 ∧ s.b pg R.Dmc.LINK_EN = false ∧ swQuiet n s := by decide +kernel

theorem test_overCurrent_met :
  let n : Fin 8 := 0
  let s : State := (((((up).p (dmcP n) R.Hdr.CTRL_EN 1)).ps (dmcP n) R.Dmc.STAT_DSTATE 5)).setDoor n { energised := true }
  s.doorHere n = true := by decide +kernel

theorem test_driverFault_met :
  let n : Fin 8 := 0
  let low : Bool := true
  let s : State := ((((up).p (dmcP n) R.Hdr.CTRL_EN 1)).ps (dmcP n) R.Dmc.STAT_DSTATE 3)
  s.doorHere n = true ∧ s.b (dmcP n) R.Dmc.STAT_FLT_LVL ≠ low := by decide +kernel

theorem test_endSwitch_met :
  let n : Fin 8 := 0
  let s : State := ((((up).p (dmcP n) R.Hdr.CTRL_EN 1)).ps (dmcP n) R.Dmc.STAT_DSTATE 3)
  s.doorHere n = true ∧ swQuiet n s := by decide +kernel

theorem test_homeTimeout_met :
  let n : Fin 8 := 0
  let s : State := (((((up).p (dmcP n) R.Hdr.CTRL_EN 1)).ps (dmcP n) R.Dmc.STAT_DSTATE 2)).setDoor n { hstep := 3 }
  let u := s.doorNow n
  let x := u.door n
  s.doorHere n = true ∧ swQuiet n s ∧ u.dst n = 2 ∧ (x.hstep = 2 ∨ x.hstep = 3) := by decide +kernel

theorem test_calDone_met :
  let n : Fin 8 := 0
  let s : State := ((((up).p (dmcP n) R.Hdr.CTRL_EN 1)).ps (dmcP n) R.Dmc.STAT_DSTATE 8)
  let u := s.doorNow n
  let x := u.door n
  s.doorHere n = true ∧ swQuiet n s ∧ u.dst n = 8 ∧ (x.calPrev = 1 ∨ x.calPrev = 3) := by decide +kernel

theorem test_oosClear_met :
  let ini : Ini := .pair 0
  let n : Fin 8 := 0
  let s : State := ((((((up).p (dmcP n) R.Hdr.CTRL_EN 1)).ps (dmcP n) R.Dmc.STAT_DSTATE 9)).ps (dmcP n) R.Dmc.STAT_OOS 1)
  let pg := dmcP n
  s.verdictW ini (pg + 0x00C) = .ok := by decide +kernel

theorem test_doorProfileTick_met :
  let n : Fin 8 := 0
  let s : State := ((((up).p (dmcP n) R.Hdr.CTRL_EN 1)).ps (dmcP n) R.Dmc.STAT_DSTATE 4)
  s.doorHere n = true ∧ s.dst n ≠ 0 := by decide +kernel

theorem test_pwmPeriodBoundary_met :
  let n : Fin 8 := 0
  let s : State := ((((up).p (dmcP n) R.Hdr.CTRL_EN 1)).ps (dmcP n) R.Dmc.STAT_DSTATE 4)
  s.doorHere n = true ∧ s.dst n ≠ 0 ∧ swQuiet n s := by decide +kernel

theorem test_slpCycle_met :
  let s : State := lanes
  s.laneUp 0 = true := by decide +kernel

theorem test_sageCycle_met :
  let s : State := lanes
  s.laneUp 1 = true := by decide +kernel

theorem test_sageWordTimeout_met :
  let c : Fin 2 := 0
  let s : State := lanes
  s.laneUp 1 = true ∧ c.val ∈ s.spbCarList := by decide +kernel

theorem test_lockstepError_met :
  let s : State := lanes
  s.laneUp 0 = true := by decide +kernel

theorem test_sageRecordMissing_met :
  let s : State := lanes
  s.laneUp 1 = true := by decide +kernel

theorem test_sagLatchClr_met :
  let ini : Ini := .pair 0
  let s : State := { up with safe := { up.safe with gate := 2 } }
  s.verdictW ini (sagC + 0x064) = .ok := by decide +kernel

theorem test_sagSafeKey_met :
  let ini : Ini := .pair 0
  let s : State := up
  s.verdictW ini (sagC + 0x040) = .ok := by decide +kernel

theorem test_gateTimeout_met :
  let s : State := { lanes with safe := { lanes.safe with gate := 2 } }
  s.laneUp 1 = true ∧ s.safe.gate ≠ 0 := by decide +kernel

theorem test_sagLoadData_met :
  let ini : Ini := .pair 0
  let s : State := { up with safe := { up.safe with gate := 2 } }
  s.verdictW ini (sagC + 0x048) = .ok := by decide +kernel

theorem test_sagLoadAbort_met :
  let ini : Ini := .pair 0
  let s : State := { up with safe := { up.safe with gate := 2 } }
  s.verdictW ini (sagC + 0x04C) = .ok := by decide +kernel

theorem test_spbCommit_met :
  let ini : Ini := .pair 0
  let s : State := { up with safe := { up.safe with gate := 2 } }
  s.verdictW ini (sagC + 0x04C) = .ok := by decide +kernel

theorem test_spbCheckDone_met :
  let s : State := { up with safe := { up.safe with commit := .checking } }
  s.safe.commit = .checking := by decide +kernel

theorem test_spbCopiesWritten_met :
  let s : State := { up with safe := { up.safe with commit := .writing } }
  s.safe.commit = .writing := by decide +kernel

theorem test_sagSafeConfirm_met :
  let ini : Ini := .pair 0
  let s : State := { up with safe := { up.safe with gate := 2 } }
  s.verdictW ini (sagC + 0x058) = .ok := by decide +kernel

theorem test_slpGetStatus_met :
  let p : Fin 2 := 0
  let s : State := up
  s.verdictW (.pair p) (mbP p + 0x13C) = .ok := by decide +kernel

theorem test_slpRunTest_met :
  let p : Fin 2 := 0
  let s : State := up
  s.verdictW (.pair p) (mbP p + 0x13C) = .ok := by decide +kernel

theorem test_slpReadSpb_met :
  let p : Fin 2 := 0
  let s : State := up
  s.verdictW (.pair p) (mbP p + 0x13C) = .ok := by decide +kernel

theorem test_inputChange_met :
  let i : Fin 32 := 3
  let sage : Bool := false
  let chB : Bool := false
  let lvl : Bool := true
  let samples : Nat := 5
  let s : State := lanes
  let l := b2n sage
  let x := s.lin l i
  let held := s.b (inP i) R.Sib.IN_CFG_TP_EN = true ∧
    s.tpHolds (s.g (inP i) (if chB then R.Sib.IN_CFG_TP_B else R.Sib.IN_CFG_TP_A)) = true
  s.laneUp l = true ∧ 5 ≤ samples ∧ ¬held ∧ (if chB then x.b else x.a) ≠ lvl := by decide +kernel

theorem test_testPulse_met :
  let j : Fin 4 := 0
  let s : State := lanes.setTp 0 { }
  s.laneUp 0 = true ∧ s.tpPeriod j ≠ 0 ∧ s.safe.vddLow = false := by decide +kernel

theorem test_tpHeldReadback_met :
  let j : Fin 4 := 0
  let s : State := up
  s.laneUp 0 = true ∧ s.tpPeriod j = 0 := by decide +kernel

theorem test_discFault_met :
  let i : Fin 32 := 0
  let sage : Bool := false
  let s : State := ((lanes.p (inP 0) R.Sib.IN_CFG_FORM 1).p (inP 0) R.Sib.IN_CFG_T_DISC 5).setLin 0 0 { a := true }
  let l := b2n sage
  let x := s.lin l i
  let T := s.g (inP i) R.Sib.IN_CFG_T_DISC
  s.laneUp l = true ∧ s.inUsed i = true ∧ s.inPerm l i = false ∧ s.inSafe l i = false ∧ s.safe.vddLow = false ∧ x.fault = 0 ∧ x.disc < T := by decide +kernel

theorem test_sioInReset_met :
  let ini : Ini := .pair 0
  let s : State := up
  s.verdictW ini (sioC + 0x04C) = .ok := by decide +kernel

theorem test_sioOutReset_met :
  let ini : Ini := .pair 0
  let s : State := up
  s.verdictW ini (sioC + 0x050) = .ok := by decide +kernel

theorem test_dzRst_met :
  let ini : Ini := .pair 0
  let s : State := up
  s.verdictW ini (sioC + 0x050) = .ok := by decide +kernel

theorem test_darkTest_met :
  let o : Fin 12 := 0
  let s : State := (lanes.ps (sogP 0) R.Sog.STAT_HS0 1).ps (sogP 0) R.Sog.STAT_LS0 1
  s.laneUp 0 = true ∧ s.laneUp 1 = true ∧ s.outOn o = true := by decide +kernel

theorem test_rbFault_met :
  let o : Fin 12 := 0
  let sage : Bool := false
  let rb : Bool := true
  let s : State := lanes
  s.laneUp (b2n sage) = true ∧ s.outOn o ≠ rb ∧ (s.sw o).wait = false := by decide +kernel

theorem test_fbTimeout_met :
  let o : Fin 12 := 0
  let sage : Bool := false
  let s : State := lanes.p (outP 0) R.Sog.SO_T_FB 5
  let x := s.lout (b2n sage) o
  let T := s.g (outP o) R.Sog.SO_T_FB
  s.laneUp (b2n sage) = true ∧ x.fb = s.outOn o ∧ s.safe.vddLow = false ∧ x.tmr < T := by decide +kernel

theorem test_onReq_met :
  let ini : Ini := .pair 0
  let g : Fin 6 := 0
  let s : State := up
  s.verdictW ini (sogP g + 0x008) = .ok := by decide +kernel

theorem test_nibSubmit_met :
  let ini : Ini := .pair 0
  let p : Fin 2 := 0
  let s : State := up
  let a := winP p + 0x048
  let u := s.granted a
  s.verdictW ini a = .ok ∧ (u.pair p).held = none := by decide +kernel

theorem test_nibForward_met :
  let blk : Fin 4 := 0
  let c : NibCmd := cmd0
  let rest : List NibCmd := []
  let s : State := up.setNibQ blk [c]
  s.domOn 5 = true ∧ s.nibQ blk = c :: rest ∧ (blk = 2 → s.clg.held = []) := by decide +kernel

theorem test_lagTimeout_met :
  let p : Fin 2 := 0
  let c : NibCmd := { cmd0 with seq := 300 }
  let s : State := up.setPair p { held := some c }
  s.domOn 5 = true ∧ (s.pair p).held = some c ∧ c.pair = p.val ∧ s.leads c = true := by decide +kernel

theorem test_nibHello_met :
  let ini : Ini := .pair 0
  let p : Fin 2 := 0
  let s : State := up
  let a := winP p + 0x054
  s.verdictW ini a = .ok := by decide +kernel

theorem test_nibWdgKick_met :
  let ini : Ini := .pair 0
  let p : Fin 2 := 0
  let s : State := up
  s.verdictW ini (winP p + 0x050) = .ok := by decide +kernel

theorem test_wdgTimeout_met :
  let p : Fin 2 := 0
  let s : State := up
  s.timed p = true := by decide +kernel

theorem test_bootTimeout_met :
  let p : Fin 2 := 0
  let s : State := up.ps (apxP 0) R.Apx.STAT_PSTATE 1
  s.domOn 5 = true ∧ s.pst p = 1 := by decide +kernel

theorem test_autoRestart_met :
  let d : Nat := 5
  let s : State := { up with rdm := { up.rdm with noPairAt := some 5 } }
  s.domOn 5 = true ∧ s.rdm.noPairAt = some d := by decide +kernel

theorem test_roleSwap_met :
  let ini : Ini := .pair 0
  let s : State := up
  s.verdictW ini (rdmC + 0x060) = .ok := by decide +kernel

theorem test_admitPair_met :
  let ini : Ini := .pair 0
  let s : State := up
  s.verdictW ini (rdmC + 0x060) = .ok := by decide +kernel

theorem test_pairRestart_met :
  let ini : Ini := .pair 0
  let s : State := up
  s.verdictW ini (rdmC + 0x060) = .ok := by decide +kernel

theorem test_admitted_met :
  let d : Fin 2 := 0
  let s : State := { ((up.ps (apxP 1) R.Apx.STAT_PSTATE 2).ps rdmC R.RdmC.STAT_QSYNC 1) with rdm := { up.rdm with admitting := true } }
  let may := s.domOn 5 = true ∧ s.rdm.admitting = true ∧ s.pst (1 - d) = 2 ∧ s.b rdmC R.RdmC.STAT_QSYNC = true ∧
    s.nibQ 2 = [] ∧ s.clg.held = []
  s.duty = some d.val ∧ may := by decide +kernel

theorem test_quillBulkDone_met :
  let w : Fin 32 := 0
  let d : Nat := 0
  let q : Nat := 1
  let s : State := { (up.ps (apxP 1) R.Apx.STAT_PSTATE 2) with rdm := { up.rdm with left := [(0, 2)] } }
  s.domOn 5 = true ∧ s.duty = some d ∧ s.quillTo = some q ∧ Tab.get (fun _ => 0) s.rdm.left w ≠ 0 := by decide +kernel

theorem test_healthReport_met :
  let ini : Ini := .pair 0
  let p : Fin 2 := 0
  let s : State := up
  let a := winP p + 0x0BC
  s.verdictW ini a = .ok := by decide +kernel

theorem test_hrTimeout_met :
  let p : Fin 2 := 0
  let s : State := up
  s.timed p = true := by decide +kernel

theorem test_testReq_met :
  let ini : Ini := .pair 0
  let s : State := up
  s.verdictW ini (rdmC + 0x078) = .ok := by decide +kernel

theorem test_bootDone_met :
  let p : Fin 2 := 0
  let s : State := (up.ps (apxP 0) R.Apx.STAT_PSTATE 1).setPair 0 { booting := true }
  let x := s.pair p
  s.domOn 5 = true ∧ s.pst p = 1 ∧ x.booting = true := by decide +kernel

theorem test_ikwSwRecord_met :
  let ini : Ini := .pair 0
  let s : State := up
  s.verdictW ini (ikwC + 0x0A0) = .ok := by decide +kernel

theorem test_recordDrain_met :
  let r : IkwRec := ⟨5, 6, 0, 7, 8, 9, 10, 11, [1,2,3,4,5,6,7,8]⟩
  let rest : List IkwRec := []
  let s : State := { up.p ikwC R.Hdr.CTRL_EN 1 with ikw := { up.ikw with fifo := [r] } }
  s.b ikwC R.Hdr.CTRL_EN = true ∧ s.b ikwC R.IkwC.STAT_SCAN = false ∧ s.ikw.fifo = r :: rest := by decide +kernel

theorem test_tokenRefill_met :
  let c : Fin 1024 := 5
  let s : State := up.p (ikwCodeP c) R.IkwCode.TOKENS 2
  let pg := ikwCodeP c
  s.g pg R.IkwCode.TOKENS < s.g pg R.IkwCode.BURST := by decide +kernel

theorem test_ikwEnable_met :
  let ini : Ini := .pair 0
  let s : State := up
  s.verdictW ini (ikwC + 0x008) = .ok := by decide +kernel

theorem test_scanDone_met :
  let s : State := up.ps ikwC R.IkwC.STAT_SCAN 1
  s.b ikwC R.IkwC.STAT_SCAN = true := by decide +kernel

theorem test_archiveCopy_met :
  let pg : Nat := 3
  let rest : List Nat := []
  let s : State := { up.p ikwC R.IkwC.CTRL_ARC_EN 1 with ikw := { up.ikw with arcq := [3] } }
  s.domOn 5 = true ∧ s.ikw.arcq = pg :: rest ∧ s.b ikwC R.IkwC.CTRL_ARC_EN = true ∧ s.b memC R.MemC.STAT_XSPI_BUSY = false := by decide +kernel

theorem test_ikwRdIdx_met :
  let ini : Ini := .pair 0
  let s : State := up
  s.verdictW ini (ikwC + 0x0B0) = .ok := by decide +kernel

theorem test_ikwCodeWrite_met :
  let ini : Ini := .pair 0
  let c : Fin 1024 := 0
  let s : State := up
  let pg := ikwCodeP c
  s.verdictW ini pg = .ok := by decide +kernel

theorem test_ikwFaultClear_met :
  let ini : Ini := .pair 0
  let s : State := up
  s.verdictW ini (ikwC + 0x00C) = .ok := by decide +kernel

theorem test_oppReq_met :
  let ini : Ini := .pair 0
  let s : State := up
  s.verdictW ini (pcrC + 0x04C) = .ok := by decide +kernel

theorem test_oppDone_met :
  let s : State := up.p pcrC R.PcrC.PCR_OPP_BUSY 1
  s.g pcrC R.PcrC.PCR_OPP_BUSY = 1 := by decide +kernel

theorem test_dvsAckTimeout_met :
  let s : State := { up.p pcrC R.PcrC.PCR_OPP_BUSY 1 with pmode := true }
  s.pmode = true ∧ s.g pcrC R.PcrC.PCR_OPP_BUSY = 1 := by decide +kernel

theorem test_dvsAckLost_met :
  let s : State := { up with pmode := true }
  s.pmode = true ∧ s.g pcrC R.PcrC.PCR_OPP_BUSY = 0 ∧ s.railUp = true := by decide +kernel

theorem test_coreWfi_met :
  let p : Fin 2 := 0
  let s : State := up
  s.pairBlocked p = false ∧ s.domOn (3 + p) = true := by decide +kernel

theorem test_sleepStandby_met :
  let ini : Ini := .pair 0
  let s : State := up
  s.verdictW ini (pcrC + 0x050) = .ok := by decide +kernel

theorem test_sleepHibernate_met :
  let ini : Ini := .pair 0
  let s : State := up
  s.verdictW ini (pcrC + 0x050) = .ok := by decide +kernel

theorem test_sleepCoresTimeout_met :
  let s : State := { up with pcr := { up.pcr with power := .toStandby } }
  (s.pcr.power = .toStandby ∨ s.pcr.power = .toHibernate) ∧ s.coresWait = false := by decide +kernel

theorem test_standbyEntry_met :
  let s : State := { (up.setPair 0 { wfi0 := true, wfi1 := true }).setPair 1 { wfi0 := true, wfi1 := true } with pcr := { up.pcr with power := .toStandby } }
  s.pcr.power = .toStandby ∧ s.coresWait = true := by decide +kernel

theorem test_hibernateEntry_met :
  let s : State := { (up.setPair 0 { wfi0 := true, wfi1 := true }).setPair 1 { wfi0 := true, wfi1 := true } with pcr := { up.pcr with power := .toHibernate } }
  s.pcr.power = .toHibernate ∧ s.coresWait = true := by decide +kernel

theorem test_wakeEvent_met :
  let src : Fin 9 := 8
  let ch : Fin 8 := 0
  let s : State := { up with pcr := { up.pcr with power := .hibernate } }
  let asleep := s.pcr.power = .standby ∨ s.pcr.power = .hibernate ∨ s.pcr.power = .stuck
  let deep : Bool := s.pcr.power == .hibernate || s.pcr.power == .toHibernate || s.pcr.power == .stuck
  let u := if src = 0 then s.advanceTo s.wakeDue else s
  let on := (src = 7 ∨ src = 8 ∨ bitOf (s.g pcrC R.PcrC.PCR_WAKE_EN) src = true) ∧ (if deep then src ≠ 6 else src ≠ 4 ∧ src ≠ 8) ∧
    u.wakeHolds src ch = true
  asleep ∧ on := by decide +kernel

theorem test_wakeAttemptTimeout_met :
  let osc : Bool := false
  let s : State := { up with pcr := { up.pcr with power := .wakeStandby } }
  let runs := (s.pcr.power = .wakeStandby ∨ s.pcr.power = .wakeHibernate ∨ s.pcr.power = .starting) ∧
    (if osc then s.b pcrC R.PcrC.STAT_LIMP = false else s.pcr.wakeStep ≠ 1)
  runs := by decide +kernel

theorem test_brownOut_met :
  let s : State := up.p pcrC R.PcrC.PCR_REGSTAT_LP 1
  s.railUp = true ∧ s.g pcrC R.PcrC.PCR_REGSTAT_LP = 1 := by decide +kernel

theorem test_undervoltage_met :
  let s : State := up
  s.railUp = true ∧ s.g pcrC R.PcrC.PCR_REGSTAT_LP = 0 := by decide +kernel

theorem test_clockFail_met :
  let mon : Fin 5 := 0
  let s : State := up
  s.monitored mon = true := by decide +kernel

theorem test_xaonFail_met :
  let s : State := up.ps pcrC R.PcrC.STAT_XAON_OK 1
  s.g pcrC R.PcrC.STAT_XAON_OK = 1 := by decide +kernel

theorem test_xaonRecover_met :
  let s : State := up
  s.pcr.power ≠ .off ∧ s.g pcrC R.PcrC.STAT_XAON_OK = 0 := by decide +kernel

theorem test_nresetAssert_met :
  let s : State := up
  let ign := s.pcr.resetIgnored = true ∧ (s.pcr.resetHigh = false ∨ s.tbs.el < s.pcr.resetAt + 100000000)
  let runs := s.pcr.power ≠ .off ∧ s.pcr.power ≠ .held
  runs ∧ ¬ign := by decide +kernel

theorem test_nresetRelease_met :
  let s : State := { up with pcr := { up.pcr with power := .held } }
  s.pcr.power = .held := by decide +kernel

theorem test_resetStuck_met :
  let s : State := { up.setByte (otpBase + 0x184) 2 with pcr := { up.pcr with power := .held } }
  s.pcr.power = .held ∧ bitOf (s.otpWord 0x184) 1 = true := by decide +kernel

theorem test_powerOn_met :
  let s : State := State.reset
  s.pcr.power = .off := by decide +kernel

theorem test_lifeCheckpoint_met :
  let s : State := up
  s.lifeRuns = true ∧ s.pcr.lifeSlot < 2 := by decide +kernel

theorem test_pwrFail_met :
  let s : State := up.p pcrC R.PcrC.PCR_PFW_PFW_LEVEL 95
  s.lifeRuns = true ∧ s.g pcrC R.PcrC.PCR_PFW_PFW = 0 ∧ s.g pcrC R.PcrC.PCR_PFW_PFW_LEVEL ≠ 0 := by decide +kernel

theorem test_pwrFailClear_met :
  let s : State := up.p pcrC R.PcrC.PCR_PFW_PFW 1
  s.g pcrC R.PcrC.PCR_PFW_PFW = 1 := by decide +kernel

theorem test_domainEnable_met :
  let ini : Ini := .pair 0
  let d : Fin 10 := 7
  let s : State := up
  let pg := pcrP d
  s.verdictW ini (pg + 0x008) = .ok := by decide +kernel

theorem test_laneSupplyLoss_met :
  let sage : Bool := false
  let s : State := lanes
  let l := b2n sage
  s.laneUp l = true := by decide +kernel

theorem test_vddioSLow_met :
  let s : State := lanes
  s.safe.vddLow = false ∧ (s.laneUp 0 = true ∨ s.laneUp 1 = true) := by decide +kernel

theorem test_vddioSRecover_met :
  let s : State := { up with safe := { up.safe with vddLow := true } }
  s.safe.vddLow = true := by decide +kernel

theorem test_scrubRead_met :
  let s : State := up
  s.domOn 5 = true ∧ s.g memC R.MemC.MEM_ECC_CFG_SCRUB_DIV ≠ 0 := by decide +kernel

theorem test_ddrInit_met :
  let ini : Ini := .pair 0
  let s : State := up
  s.verdictW ini (memC + 0x054) = .ok := by decide +kernel

theorem test_ddrReady_met :
  let s : State := { up with memc := { up.memc with ddrInit := true } }
  s.memc.ddrInit = true ∧ s.dom 9 = 1 ∧ s.domOn 5 = true := by decide +kernel

theorem test_ddrMr4Poll_met :
  let s : State := up.psB memC R.MemC.STAT_DDR_READY true
  s.b memC R.MemC.STAT_DDR_READY = true ∧ s.dom 9 = 1 := by decide +kernel

theorem test_xspiErase_met :
  let ini : Ini := .pair 0
  let s : State := up
  s.verdictW ini (memC + 0x064) = .ok := by decide +kernel

theorem test_xspiProgram_met :
  let ini : Ini := .pair 0
  let s : State := up
  s.verdictW ini (memC + 0x064) = .ok := by decide +kernel

theorem test_xspiDone_met :
  let c : XspiCmd := ⟨1, 0, []⟩
  let s : State := { up with memc := { up.memc with xspi := some c } }
  s.memc.xspi = some c ∧ s.domOn 5 = true := by decide +kernel

theorem test_otpProgram_met :
  let ini : Ini := .pair 0
  let s : State := up
  s.verdictW ini (memC + 0x090) = .ok := by decide +kernel

theorem test_otpDone_met :
  let a : Nat := 4
  let d : Nat := 5
  let s : State := { up with memc := { up.memc with otp := some (4, 5) } }
  s.memc.otp = some (a, d) ∧ s.domOn 5 = true := by decide +kernel

theorem test_arbAdvance_met :
  let ini : Ini := .pair 0
  let s : State := up
  s.verdictW ini (memC + 0x084) = .ok := by decide +kernel

theorem test_memBootSel_met :
  let ini : Ini := .pair 0
  let s : State := up
  s.verdictW ini (memC + 0x070) = .ok := by decide +kernel

theorem test_attReq_met :
  let ini : Ini := .pair 0
  let s : State := up
  s.verdictW ini (memC + 0x0C0) = .ok := by decide +kernel

theorem test_attDone_met :
  let s : State := up.psB memC R.MemC.STAT_ATT_BUSY true
  s.b memC R.MemC.STAT_ATT_BUSY = true ∧ s.domOn 5 = true := by decide +kernel

theorem test_dbgChallenge_met :
  let ini : Ini := .pair 0
  let s : State := up
  s.verdictR ini (memC + 0x400) = .ok := by decide +kernel

theorem test_dbgSubmit_met :
  let ini : Ini := .pair 0
  let s : State := up
  let u := s.granted (memC + 0x4A0)
  let ws (o n : Nat) : List Nat := wordsBytes ((List.range n).map fun i => u.rd (memC + o + 4 * i))
  let ok := sha512 (ws 0x480 8) == u.mbytes (otpBase + 0x140) 64 && edVerify (ws 0x480 8) (ws 0x440 16) (ws 0x400 8 ++ ws 0x420 1)
  s.verdictW ini (memC + 0x4A0) = .ok := by decide +kernel

theorem test_dbgResult_met :
  let s : State := { up with memc := { up.memc with dbgSub := true } }
  s.memc.dbgSub = true ∧ s.domOn 5 = true := by decide +kernel

theorem test_dbgLockoutEnd_met :
  let at_ : Nat := 0
  let s : State := { up with memc := { up.memc with dbgLockEnd := some 0 } }
  s.memc.dbgLockEnd = some at_ := by decide +kernel

theorem test_linkChange_met :
  let n : Fin 2 := 0
  let up : Bool := false
  let s : State := ((Tests.up).p (bniP n) R.Hdr.CTRL_EN 1)
  s.bniOn n = true := by decide +kernel

theorem test_ethFrameReceived_met :
  let n : Fin 2 := 0
  let s : State := ((((up).p (bniP n) R.Hdr.CTRL_EN 1)).ps (bniP n) R.Bni.STAT_LINK 1)
  let pg := bniP n
  s.bniOn n = true ∧ s.b pg R.Bni.STAT_LINK = true := by decide +kernel

theorem test_ringTail_met :
  let ini : Ini := .pair 0
  let n : Fin 2 := 0
  let r : Fin 8 := 0
  let s : State := up
  let a := bniP n + 0x10C + 0x10 * r.val
  s.verdictW ini a = .ok := by decide +kernel

theorem test_bniEnable_met :
  let ini : Ini := .pair 0
  let n : Fin 2 := 0
  let s : State := up
  let pg := bniP n
  s.verdictW ini (pg + 0x008) = .ok := by decide +kernel

theorem test_bniFaultClear_met :
  let ini : Ini := .pair 0
  let n : Fin 2 := 0
  let s : State := up
  let pg := bniP n
  s.verdictW ini (pg + 0x00C) = .ok := by decide +kernel

theorem test_registerWrite_met :
  let b : Fin 18 := 8
  let p : Fin 256 := 1
  p.val ≤ nchan b := by decide +kernel

theorem test_lockKey_met :
  let ini : Ini := .pair 0
  let b : Fin 18 := 8
  let p : Fin 256 := 1
  let s : State := up
  let pg := pageAt b p
  p.val ≤ nchan b ∧ s.verdictW ini (pg + 0x020) = .ok := by decide +kernel

theorem test_irqForce_met :
  let ini : Ini := .pair 0
  let b : Fin 18 := 8
  let p : Fin 256 := 1
  let s : State := up
  let pg := pageAt b p
  p.val ≤ nchan b ∧ s.verdictW ini (pg + 0x01C) = .ok := by decide +kernel

theorem test_fwLastingClear_met :
  let ini : Ini := .pair 0
  let f : Fin 256 := 3
  let s : State := up
  s.verdictW ini (fwP f + 4) = .ok := by decide +kernel

theorem test_groupPageWrite_met :
  let ini : Ini := .pair 0
  let b : Fin 18 := 8
  let g : Option (Fin 4) := some 1
  let s : State := up
  let pg := match g with | some g => grpPage b g | none => bcastPage b
  nchan b ≠ 0 ∧ s.verdictW ini pg = .ok := by decide +kernel

theorem test_timeLoRead_met :
  let ini : Ini := .pair 0
  let a : Word := 0x40100040#32
  let s : State := up
  isTimeLo a.toNat = true ∧ s.fusedAt a.toNat = false ∧ s.verdictR ini a.toNat = .ok := by decide +kernel

theorem test_ledgerRead_met :
  let p : Fin 2 := 0
  let s : State := up
  s.pairBlocked p = false ∧ s.domOn 5 = true ∧ s.domOn 7 = true ∧ s.memc.bad = [] ∧ s.pcr.saved = false := by decide +kernel

theorem test_unmappedAccess_met :
  let ini : Ini := .pair 0
  let a : BitVec 64 := 0x80000000000#64
  let n : Fin 65 := 4
  let s : State := up
  (∀ p : Fin 2, ini = .pair p → s.pairBlocked p = false) ∧ s.unreached a.toNat n = true := by decide +kernel

/-! ### What `WellFormed` refuses -/

theorem test_wf_memoryAccess_empty : wellFormed (.memoryAccess .quill 0x10800000#34 (.read 0) 0) = false := by decide
theorem test_wf_memoryAccess_past_end : wellFormed (.memoryAccess .quill 0x27FFFFFFF#34 (.read 2) 0) = false := by decide
theorem test_wf_memoryAccess_long : wellFormed (.memoryAccess .quill 0x10800000#34 (.write (List.replicate 65 0#8)) 0) = false := by decide
theorem test_wf_serWord_data : wellFormed (.serWord 0 true (2 ^ 48) true true 0 0) = false := by decide
theorem test_wf_serWord_crc : wellFormed (.serWord 0 true 0 true true (2 ^ 16) 0) = false := by decide
theorem test_wf_upFrame : wellFormed (.upFrame 0 (List.replicate 31 0#8) 0) = false := by decide
theorem test_wf_endSwitch : wellFormed (.endSwitch 0 true true (2 ^ 32)) = false := by decide
theorem test_wf_calDone_reach : wellFormed (.calDone 0 (0, 0) (2 ^ 32) 0 0 0) = false := by decide
theorem test_wf_calDone_rise : wellFormed (.calDone 0 (0, 0) 0 (2 ^ 32) 0 0) = false := by decide
theorem test_wf_calDone_voltage : wellFormed (.calDone 0 (0, 0) 0 0 (2 ^ 32) 0) = false := by decide
theorem test_wf_calDone_current : wellFormed (.calDone 0 (0, 0) 0 0 0 (2 ^ 32)) = false := by decide
theorem test_wf_pwmPeriodBoundary : wellFormed (.pwmPeriodBoundary 0 0 0 (List.replicate 101 0#14) (List.replicate 101 0#14)) = false := by decide
theorem test_wf_sageCycle : wellFormed (.sageCycle 0 0 0 (some ⟨true, 2 ^ 48, true, true, 0⟩) none false) = false := by decide
theorem test_wf_sageCycle_crc : wellFormed (.sageCycle 0 0 0 none (some ⟨true, 0, true, true, 2 ^ 16⟩) false) = false := by decide
theorem test_wf_txAttemptEnd_zero : wellFormed (.txAttemptEnd 0 (.err 0 false) 0 false) = false := by decide
theorem test_wf_txAttemptEnd_seven : wellFormed (.txAttemptEnd 0 (.err 7 false) 0 false) = false := by decide
theorem test_wf_frame_base_id : wellFormed (.frameReceived 0 ⟨2048#29, false, true, true, false, false, 0, [], 0⟩) = false := by decide
theorem test_wf_frame_fd_remote : wellFormed (.frameReceived 0 ⟨5#29, true, true, true, false, true, 0, [], 0⟩) = false := by decide
theorem test_wf_frame_length : wellFormed (.frameReceived 0 ⟨5#29, true, true, true, false, false, 9, [0#8], 0⟩) = false := by decide
theorem test_wf_data : wellFormed (.data 0 40 3 1 0 (List.replicate 63 0#8) 0) = false := by decide
theorem test_wf_cveSend : wellFormed (.cveSend 0 0 [] 0) = false := by decide
theorem test_wf_cveNotice : wellFormed (.cveNotice 0 [] 0) = false := by decide
theorem test_wf_ethFrame : wellFormed (.ethFrameReceived 0 ⟨[0#8], true⟩) = false := by decide
theorem test_wf_accepts : wellFormed (.frameReceived 0 ⟨5#29, true, true, true, false, false, 9, List.replicate 12 0#8, 0⟩) = true := by
  decide

/-! ### Hypotheses of the statements about the machine as a whole -/

theorem test_idleStep_met : State.reset.pending = [] ∧ State.reset.tbs.ofs = [] ∧ State.reset.tbs.stopped = true ∧
    up.pending = [] ∧ up.tbs.ofs = [] ∧ up.tbs.stopped = false ∧ up.tbs.slew = 0 := by decide +kernel
theorem test_stepAnswers_met : (match step State.reset with | .next t => decide (t.tbs.el = 10) | _ => false) = true := by
  decide +kernel
theorem test_refusedWrite_met :
    writeOf (.registerWrite .quill 0x40000014#32 0) = some (.quill, 0x40000014) ∧ up.verdictW .quill 0x40000014 = .errCount ∧
    up.verdictW (.pair 0) 0x41200000 = .err ∧ { up with lh6161 := true }.verdictW (.pair 0) (chPage 0x08 1) = .fused ∧
    State.reset.verdictW (.pair 0) (pcrC + 0x014) = .err ∧
    { up with regs := (up.ps (apxP 0) R.Apx.STAT_PSTATE 5).regs }.verdictW (.pair 0) (pcrC + 0x014) = .blocked ∧
    up.verdictW (.pair 1) (pcrC + 0x014) = .silent 1 := by decide +kernel
theorem test_writeRights_met :
    locate 0x41200000 = none ∧ ((locate 0x40000014).map fun l => (l.rel, l.kind.isPage, nibOnly l.kind l.rel)) = some (0x14, true, false) ∧
    up.domOn 5 = true ∧ up.domOn (blkDomain 0) = true := by decide +kernel
theorem test_standbyWrite_met :
    (∀ l ∈ locate (pageAt 0x0B 1 + 4 * 5), nibOnly l.kind l.rel = false ∧ up.fusedPage l.kind = false) ∧
    up.domOn 5 = true ∧ up.domOn (blkDomain 0x0B) = true ∧ up.pst 1 = 3 := by decide +kernel
theorem test_fusedPages_met :
    let s : State := { up with lh6161 := true }
    s.lh6161 = true ∧ s.verdictR (.pair 0) (chPage 0x08 1) = .ok ∧ s.domOn 5 = true ∧ s.domOn (blkDomain 0x08) = true := by
  decide +kernel
theorem test_unmappedAddress_met :
    let x : Nat := 0x20000
    up.pairBlocked 0 = false ∧
    ¬ (x < 0x20000 ∨ (0x04000000 ≤ x ∧ x < 0x04200000) ∨ (0x10000000 ≤ x ∧ x < 0x11800000) ∨ (0x40000000 ≤ x ∧ x < 0x280000000)) := by
  decide +kernel
theorem test_pageAccess_met :
    up.pairBlocked 0 = false ∧ locate 0x41105000 = none ∧ locate 0x40000014 ≠ none ∧ State.reset.domOn (blkDomain 0x0B) = false := by
  decide +kernel
theorem test_groupPageReads_met : nchan 0x0B ≠ 0 ∧ up.verdictR (.pair 0) (grpPage 0x0B 3) = .ok ∧
    up.verdictR (.pair 0) (bcastPage 0x0B + 4 * 1023) = .ok := by decide +kernel
theorem test_timePairs_met : isTimeLo (tbsC + 0x040) = true ∧ up.fusedAt (tbsC + 0x044) = false ∧
    up.verdictR (.pair 0) (tbsC + 0x044) = .ok ∧ up.verdictR (.pair 0) (tbsC + 0x040) = .ok ∧ iniCode (.pair 0) ≠ iniCode (.pair 1) := by
  decide +kernel
theorem test_lockMoves_met : up.verdictW (.pair 0) (pageAt 0x0B 1 + 0x030) = .ok ∧ up.verdictW (.pair 0) (pageAt 0x0B 0) = .ok := by
  decide +kernel
theorem test_interrupts_met : up.fusedAt (pageAt 0x0B 8) = false ∧ up.verdictW (.pair 0) (pageAt 0x0B 8 + 0x018) = .ok ∧
    up.verdictW (.pair 0) (pageAt 0x0B 8 + 0x014) = .ok := by decide +kernel
theorem test_accessTypes_met : ((locate (fbP 0 + R.Fb.MODE.off)).map fun l => l.kind.isPage && !(rowsOf l).isEmpty) = some true := by
  decide +kernel
theorem test_faultWindow_met : up.fabAsleep = false ∧ { up with pcr := { up.pcr with power := .standby } }.fabAsleep = true ∧
    up.rdm.held.length < 32 ∧ up.fwLasting 255 = false := by decide +kernel
theorem test_recordOffer_met :
    let s : State := (up.p (ikwCodeP 1023) R.IkwCode.BURST 2).p (ikwCodeP 1023) R.IkwCode.TOKENS 2
    s.g (ikwSupP 1023) R.IkwSup.PEND = 0 ∧ s.g (ikwCodeP 1023) R.IkwCode.BURST ≤ s.g (ikwCodeP 1023) R.IkwCode.TOKENS ∧
    0 < s.g (ikwCodeP 1023) R.IkwCode.TOKENS ∧ s.ikwAccepts (s.g (ikwCodeP 1023) R.IkwCode.SEV) = true := by decide +kernel
theorem test_recordOffer_empty_met :
    let s : State := (up.p (ikwCodeP 0) R.IkwCode.BURST 0).p (ikwCodeP 0) R.IkwCode.TOKENS 0
    s.g (ikwSupP 0) R.IkwSup.PEND = 0 ∧ s.g (ikwCodeP 0) R.IkwCode.BURST = 0 ∧ s.g (ikwCodeP 0) R.IkwCode.TOKENS = 0 := by
  decide +kernel
theorem test_arbCounter_met : (∀ n < 32, State.reset.arb n = 0) ∧ State.reset.arbCounter = 0 := by decide +kernel
theorem test_ownWords_met : (ownWords (.irqForce (.pair 0) 0x0B 1 1)).isSome = true ∧ (ownWords (.armU (.pair 0) 1)).isSome = true := by
  decide
theorem test_channelOf_met : channelOf (.quadCount 7 (true, false) 8) = some (0x0B, 7) ∧ channelOf (.doorMoveDone 7) = some (0x0A, 7) ∧
    up.b (dmcP 7) R.Dmc.LINK_EN = false := by decide +kernel
theorem test_memoryAccess_met : up.pairBlocked 0 = false ∧ regionOf 0x10800000 = some (.shared, 0x11600000) ∧
    up.regionOn .shared 0x10800000 64 = true ∧ up.mayRead (.pair 0) .shared = true ∧ up.mayWrite (.pair 0) 0x10800000 .shared = true ∧
    up.memc.bad = [] ∧ up.pcr.saved = false := by decide +kernel

/-! ### Single commands; the expected values are the rules' own -/

/-- What a command leaves, seen through `f`. -/
def sees {α : Type} (c : Instr) (s : State) (f : State → α) : Option α :=
  match exec c s with
  | .next t => some (f t)
  | _ => none

/-- R64. -/
theorem test_unmapped_slot : sees (.registerWrite (.pair 0) 0x41200000#32 1) up (fun t => (t.bus, t.regs == up.regs)) = some (.error, true) := by
  decide +kernel
/-- R73: the first key half-opens. -/
theorem test_lock_half : sees (.lockKey (.pair 0) 0x0B 1 0x1ACC#32) up (fun t => (t.b (fbP 0) R.Hdr.LOCK_HALF, t.b (fbP 0) R.Hdr.LOCK_OPEN)) =
    some (true, false) := by decide +kernel
/-- R119: `A` leading counts +1. -/
theorem test_quad_up : sees (.quadCount 0 (true, false) 8) (up.p (fbP 0) R.Hdr.CTRL_EN 1) (fun t => t.rd (fbP 0 + 0x050)) = some 1#32 := by
  decide +kernel
/-- R119, R81: `B` leading counts −1 and `PFI_RAW` wraps. -/
theorem test_quad_wraps : sees (.quadCount 0 (false, true) 8) (up.p (fbP 0) R.Hdr.CTRL_EN 1) (fun t => t.rd (fbP 0 + 0x050)) =
    some 0xFFFFFFFF#32 := by decide +kernel
/-- R51: the standby pair's write is discarded and counted. -/
theorem test_standby_write : sees (.registerWrite (.pair 1) (wd (tbsC + 0x014)) 1) up (fun t => (t.g (apxP 1) R.Apx.SB_WR_CNT, t.rd (tbsC + 0x014))) =
    some (1, 0#32) := by decide +kernel
/-- R78: `IRQ_FORCE` sets bits of `IRQ_RAW`. -/
theorem test_irq_force : sees (.irqForce (.pair 0) 0x0B 1 0x80000001#32) up (fun t => t.rd (fbP 0 + 0x010)) = some 0x80000001#32 := by
  decide +kernel
/-- R50: bytes land in the order of their addresses, nothing after them. -/
theorem test_sram_bytes : sees (.memoryAccess (.pair 0) 0x10800000#34 (.write [1#8, 2#8]) 0) up
    (fun t => (t.byte 0x10800000, t.byte 0x10800001, t.byte 0x10800002 == up.byte 0x10800002)) = some (1, 2, true) := by decide +kernel
/-- R85: `LASTING` clears. -/
theorem test_lasting_clears : sees (.fwLastingClear (.pair 0) 0x10 (BitVec.ofNat 32 (2 ^ R.Fw.LASTING.lo))) (up.p (fwP 0x10) R.Fw.LASTING 1) (fun t => t.fwLasting 0x10) =
    some false := by decide +kernel

end Sys2Proof.Tests
end

section
/-! SUPPORT. Where the words of a page lie (R65 to R69), and what an access to a register word comes down to:
the facts that reads and writes of the peripheral space share. -/

namespace Sys2Proof.Machine

theorem nchan_eq_zero {b : Nat} (h : 18 ≤ b) : nchan b = 0 := by
  unfold nchan; split <;> omega

theorem block_lt_of_lt_nchan {b n : Nat} (h : n < nchan b) : b < 18 := by
  by_contra hb
  rw [nchan_eq_zero (by omega)] at h
  exact absurd h (Nat.not_lt_zero n)

/-- The words of a channel page lie in that page. -/
theorem locate_chPage {b n o : Nat} (hn : n < nchan b) (ho : o < 0x1000) :
    locate (chPage b n + o) = some ⟨.channel b n, chPage b n, o, chPage b n⟩ := by
  have hb := block_lt_of_lt_nchan hn
  have hle := nchan_le b
  have hpg : chPage b n = 0x40000000 + b * 0x100000 + 0x1000 + n * 0x1000 := rfl
  have hslot : (chPage b n + o - 0x40000000) / 0x100000 = b := by omega
  have hoff : (chPage b n + o - 0x40000000) % 0x100000 = 0x1000 + n * 0x1000 + o := by omega
  have hrel : (0x1000 + n * 0x1000 + o) % 0x1000 = o := by omega
  have hchan : (0x1000 + n * 0x1000 + o) / 0x1000 - 1 = n := by omega
  unfold locate
  rw [if_neg (by simp only [Bool.or_eq_true, decide_eq_true_eq]; omega)]
  dsimp only
  rw [hslot, hoff, hrel, hchan, if_neg (by omega), if_pos (by omega), Nat.add_sub_cancel]

theorem block_of_lock_chPage {l : Loc} {b n : Nat} (hl : l.lock = chPage b n) (hn : n < nchan b) : l.block = b := by
  have hle := nchan_le b
  have hpg : chPage b n = 0x40000000 + b * 0x100000 + 0x1000 + n * 0x1000 := rfl
  unfold Loc.block
  omega

/-- An offset in a page or table agrees with the address in its low 12 bits. -/
theorem locate_rel_mod {x : Nat} {l : Loc} (h : locate x = some l) : l.rel % 0x1000 = x % 0x1000 := by
  unfold locate at h
  obtain ⟨_, h⟩ | ⟨hx, h⟩ := ite_some h
  · cases h
  simp only [Bool.or_eq_true, decide_eq_true_eq, not_or, Nat.not_lt, Nat.not_le] at hx
  iterate 2
    obtain ⟨_, h⟩ | ⟨_, h⟩ := ite_some h
    · obtain rfl := Option.some.inj h
      dsimp only
      omega
  iterate 8
    obtain ⟨c, h⟩ | ⟨_, h⟩ := ite_some h
    · obtain rfl := Option.some.inj h
      simp only [Bool.and_eq_true, decide_eq_true_eq] at c
      dsimp only
      omega
  cases h

/-- Two conditionals with equivalent conditions answer alike when their branches do. -/
theorem ite_some_congr {α : Type} {c c' : Prop} [Decidable c] [Decidable c'] {x y x' y' : Option α} {l l' : α}
    (h : (if c then x else y) = some l) (hc : c ↔ c') (hx : x = some l → x' = some l') (hy : y = some l → y' = some l') :
    (if c' then x' else y') = some l' := by
  by_cases hc' : c'
  · rw [if_pos hc']; rw [if_pos (hc.2 hc')] at h; exact hx h
  · rw [if_neg hc']; rw [if_neg (hc.not.2 hc')] at h; exact hy h

/-- Two words of one 4 KiB page lie in the same page or table: going down `d` bytes lowers the offset by `d`. -/
theorem locate_sub {x d : Nat} {l : Loc} (h : locate x = some l) (hd : d ≤ x % 0x1000) :
    locate (x - d) = some { l with rel := l.rel - d } := by
  unfold locate at h ⊢
  obtain ⟨_, h⟩ | ⟨hx, h⟩ := ite_some h
  · cases h
  simp only [Bool.or_eq_true, decide_eq_true_eq, not_or, Nat.not_lt, Nat.not_le] at hx
  rw [if_neg (by simp only [Bool.or_eq_true, decide_eq_true_eq]; omega)]
  have hslot : (x - d - 0x40000000) / 0x100000 = (x - 0x40000000) / 0x100000 := by omega
  have hoff : (x - d - 0x40000000) % 0x100000 = (x - 0x40000000) % 0x100000 - d := by omega
  have hdo : d ≤ (x - 0x40000000) % 0x100000 % 0x1000 := by omega
  dsimp only at h ⊢
  rw [hslot, hoff]
  generalize (x - 0x40000000) % 0x100000 = o at h hdo ⊢
  have hrel : (o - d) % 0x1000 = o % 0x1000 - d := by omega
  have hpage : (o - d) / 0x1000 = o / 0x1000 := by omega
  have hbase : x - d - (o % 0x1000 - d) = x - o % 0x1000 := by omega
  rw [hrel, hpage, hbase]
  generalize (x - 0x40000000) / 0x100000 = b at h ⊢
  clear hrel hbase hslot hoff hx
  iterate 2
    refine ite_some_congr h (by omega) (fun e => ?_) fun h => ?_
    · obtain rfl := Option.some.inj e
      rfl
  iterate 7
    refine ite_some_congr h (by simp only [Bool.and_eq_true, decide_eq_true_eq]; omega) (fun e => ?_) fun h => ?_
    · obtain rfl := Option.some.inj e
      simp only [Nat.sub_right_comm]
  obtain ⟨c, e⟩ | ⟨_, e⟩ := ite_some h
  · simp only [Bool.and_eq_true, decide_eq_true_eq] at c
    rw [if_pos (by simp only [Bool.and_eq_true, decide_eq_true_eq]; omega)]
    obtain rfl := Option.some.inj e
    simp only [Nat.sub_right_comm]
  · cases e

/-! ### Accesses to register words -/

/-- Only a word of a page or table in reach, aligned, may be read, and no pair that is blocked reads (R60, R68, R441). -/
theorem State.verdictR_ok {s : State} {i : Ini} {a : Nat} (h : s.verdictR i a = .ok) :
    (∃ l, locate a = some l) ∧ a % 4 = 0 ∧ ∀ p, i = .pair p → s.pairBlocked p = false := by
  unfold State.verdictR at h
  split at h
  · cases h
  next l hl =>
    split at h
    · cases h
    next ha =>
      refine ⟨⟨l, hl⟩, by omega, fun p hp => ?_⟩
      subst hp
      cases hb : s.pairBlocked p with
      | false => rfl
      | true =>
        simp only [hb, if_true] at h
        split at h <;> cases h

/-- A 32-bit read of a register word that may be read is a register read (R68). -/
theorem exec_memoryAccess_read_of_ok {s : State} {i : Ini} {a : Nat} (h : s.verdictR i a = .ok) (e : Fin 3) :
    exec (.memoryAccess i (BitVec.ofNat 34 a) (.read 4) e) s = .next (s.regRead i a) := by
  obtain ⟨⟨l, hl⟩, ha, hp⟩ := State.verdictR_ok h
  obtain ⟨hlo, hhi, -⟩ := locate_slot hl
  have hnat : (BitVec.ofNat 34 a).toNat = a := Nat.mod_eq_of_lt (by omega)
  have hrange : (decide (0x40000000 ≤ a) && decide (a < 0x60000000)) = true := by
    simp only [Bool.and_eq_true, decide_eq_true_eq]; omega
  change Host.Outcome.next (s.access i (BitVec.ofNat 34 a).toNat (.read 4) e.val) = _
  rw [hnat]
  unfold State.access
  dsimp only
  rw [if_neg ?unblocked, if_pos hrange, if_neg (by simp [ha])]
  case unblocked =>
    split
    · rw [hp _ rfl]; decide
    · decide

/-- Every read but that of `MEM_DBG_CHAL0` is that of the word alone (R531). -/
theorem State.regRead_eq_readReg {s : State} {i : Ini} {a : Nat} (h : a ≠ memC + 0x400) : s.regRead i a = s.readReg i a := by
  unfold State.regRead
  rw [if_neg (by simp [h])]

/-- A word of a fused-off page holds no latch (R3). -/
theorem State.readReg_fused {s : State} {i : Ini} {a : Nat} (h : s.verdictR i a = .ok) (hf : s.fusedAt a = true) :
    s.readReg i a = { s with bus := .done (s.lookBy i a).toNat } := by
  unfold State.readReg; simp only [h, hf, if_true]

/-- A `_LO` word reads itself and latches its `_HI` word (R14). -/
theorem State.readReg_timeLo {s : State} {i : Ini} {a : Nat} (h : s.verdictR i a = .ok) (hf : s.fusedAt a = false)
    (hlo : isTimeLo a = true) :
    s.readReg i a = { s with
      bus := .done (s.look a).toNat
      latches := Tab.set (fun _ => 0#32) s.latches (latchKey i (a + 4)) (s.look (a + 4)) } := by
  unfold State.readReg; simp [h, hf, hlo]

/-- The word after a `_LO` word, unless itself one, reads the latch (R14). -/
theorem State.readReg_timeHi {s : State} {i : Ini} {a : Nat} (h : s.verdictR i (a + 4) = .ok) (hf : s.fusedAt (a + 4) = false)
    (hlo : isTimeLo a = true) (hhi : isTimeLo (a + 4) = false) :
    s.readReg i (a + 4) = { s with bus := .done (Tab.get (fun _ => 0#32) s.latches (latchKey i (a + 4))).toNat } := by
  unfold State.readReg; simp [h, hf, hlo, hhi]

/-! ### Fused-off pages (R3) -/

/-- The fused-off units of the LH6161 are channels that its page map leaves out. -/
theorem fusedUnit_chan {b n : Nat} (h : (b = 0x08 ∧ n = 1) ∨ (b = 0x0A ∧ 4 ≤ n ∧ n < 8) ∨ (b = 0x0E ∧ 80 ≤ n ∧ n < 160)) :
    nchanPresent true b ≤ n ∧ n < nchan b := by
  rcases h with ⟨rfl, hn⟩ | ⟨rfl, hn⟩ | ⟨rfl, hn⟩ <;> simp only [nchanPresent, nchan, if_true] <;> omega

section
variable {s : State} {a : Nat} {l : Loc} (hl : locate a = some l) (hf : s.fusedPage l.kind = true)
include hl hf

theorem State.fusedAt_of_fusedPage : s.fusedAt a = true := by
  unfold State.fusedAt; rw [hl]; exact hf

/-- A fused-off page shows its `ID` and zero everywhere else. -/
theorem State.look_fused : s.look a = if l.kind.isPage && l.rel = 0 then wd (idWord l.kind) else 0#32 := by
  unfold State.look; rw [hl]; dsimp only; rw [hf, if_pos rfl]

theorem State.verdictW_fused {i : Ini} (ha : a % 4 = 0) (hfab : s.domOn 5 = true)
    (hdom : s.domOn (blkDomain l.block) = true) : s.verdictW i a = .fused := by
  unfold State.verdictW; rw [hl]; dsimp only
  rw [if_neg (by omega), hfab, hdom, hf]; rfl

/-- A common page is never fused off. -/
theorem ne_common_of_fusedPage {x b base rel lock : Nat} (hx : locate x = some ⟨.common b, base, rel, lock⟩) : a ≠ x := by
  rintro rfl
  rw [hx] at hl
  obtain rfl := Option.some.inj hl
  cases hf

/-- A read of a fused-off page that is answered returns what the page shows, and changes nothing else. -/
theorem exec_read_fused {i : Ini} (hok : s.verdictR i a = .ok) :
    exec (.memoryAccess i (BitVec.ofNat 34 a) (.read 4) 0) s = .next { s with bus := .done (s.look a).toNat } := by
  have hchal : a ≠ memC + 0x400 := ne_common_of_fusedPage hl hf
    (by decide : locate (memC + 0x400) = some ⟨.common 0x04, memC, 0x400, memC⟩)
  have hview : a ≠ clgC + 0x068 := ne_common_of_fusedPage hl hf
    (by decide : locate (clgC + 0x068) = some ⟨.common 0x0F, clgC, 0x068, clgC⟩)
  rw [exec_memoryAccess_read_of_ok hok 0, State.regRead_eq_readReg hchal,
    State.readReg_fused hok (State.fusedAt_of_fusedPage hl hf)]
  unfold State.lookBy
  rw [if_neg hview]

/-- A write to a fused-off page in reach is discarded without a bus error. -/
theorem exec_write_fused {i : Ini} {v : Word} (ha : a % 4 = 0) (hfab : s.domOn 5 = true)
    (hdom : s.domOn (blkDomain l.block) = true) :
    exec (.registerWrite i (wd a) v) s = .next { s with bus := .done 0 } := by
  obtain ⟨_, hhi, -⟩ := locate_slot hl
  have hnat : (wd a).toNat = a := Nat.mod_eq_of_lt (by omega)
  change Host.Outcome.next (s.onWrite i (wd a).toNat fun s => s.landWrite i (wd a).toNat v) = _
  rw [hnat]
  unfold State.onWrite
  rw [State.verdictW_fused hl hf ha hfab hdom]

end

/-- Group and broadcast writes reach only the channels present. -/
theorem State.not_mem_members_of_fused {s : State} {b n : Nat} (hf : nchanPresent s.lh6161 b ≤ n) (g : Option Nat) :
    n ∉ s.members b g := by
  intro h
  have := List.mem_range.1 (List.mem_of_mem_filter h)
  omega

theorem toNat_idWord_channel {b n : Nat} (hn : n < nchan b) :
    (wd (idWord (.channel b n))).toNat = b * 2 ^ 24 + n * 2 ^ 16 + 0x4001 := by
  have hb := block_lt_of_lt_nchan hn
  have hle := nchan_le b
  simp only [wd, idWord, BitVec.toNat_ofNat]
  omega

/-- Settles O11: the page of a fused-off unit lies in the map (`locate_chPage`) but is not present, so `State.look`,
`State.verdictW` and `State.members` each take their branch for it. -/
theorem fusedPagesReadZero : Obligations.FusedPagesReadZero := by
  unfold Obligations.FusedPagesReadZero
  intro s ini b n o h61 hunit
  obtain ⟨hpres, hn⟩ := fusedUnit_chan hunit
  have hl : locate (chPage b n + 4 * o.val) = some _ := locate_chPage hn (by omega)
  have hblk : Loc.block ⟨.channel b n, chPage b n, 4 * o.val, chPage b n⟩ = b := block_of_lock_chPage rfl hn
  have hal : (chPage b n + 4 * o.val) % 4 = 0 := by
    have hpg : chPage b n = 0x40000000 + b * 0x100000 + 0x1000 + n * 0x1000 := rfl
    omega
  rw [← h61] at hpres
  generalize chPage b n = pg at hl hblk hal ⊢
  have hf : s.fusedPage (.channel b n) = true := decide_eq_true hpres
  refine ⟨fun hok => ⟨_, exec_read_fused hl hf hok, ?_⟩, fun hfab hdom v => ?_, State.not_mem_members_of_fused hpres⟩
  · rw [State.look_fused hl hf]
    by_cases h0 : o.val = 0
    · simp [h0, Kind.isPage, toNat_idWord_channel hn]
    · simp [h0, Kind.isPage]
  · rw [← hblk] at hdom
    exact ⟨_, exec_write_fused hl hf hal hfab hdom, rfl⟩

/-! ### Time pairs (R14): no `_LO` word follows a `_LO` word -/

/-- The header's `TS_LO`, as a row of the page's table (R69). -/
def stampRow : RF := { f := R.Hdr.TS_LO, acc := .ro, rst := 0, lo64 := true }

/-- The rows of a kind of page or table whose words are `_LO` words of time pairs. -/
def timeRows (k : Kind) : List RF := (stampRow :: k.tbl).filter (·.lo64)

/-- The distance at which a row repeats; 0 for a row that does not. -/
def rowPeriod (r : RF) : Nat := if r.cnt = 1 then 0 else r.stride

/-- By the residues of their offsets alone: no word of these rows follows directly on another, and none is the first of
a 4 KiB page. -/
def rowsApart (rows : List RF) : Bool :=
  rows.all fun r => r.inner == 1 && decide (4 ≤ r.f.off % Nat.gcd (rowPeriod r) 0x1000) &&
    rows.all fun q => (r.f.off + 4) % Nat.gcd (rowPeriod r) (rowPeriod q) != q.f.off % Nat.gcd (rowPeriod r) (rowPeriod q)

theorem rowsApart_timeRows (k : Kind) : rowsApart (timeRows k) = true := by
  unfold timeRows Kind.tbl
  repeat' split
  all_goals decide

/-- The words of a row whose instances are single words lie at its offset plus multiples of its period. -/
theorem covers_modEq {r : RF} {rel : Nat} (h : r.covers rel = true) (hi : r.inner = 1) :
    rel ≡ r.f.off [MOD rowPeriod r] := by
  simp only [RF.covers, hi, Bool.and_eq_true, decide_eq_true_eq] at h
  obtain ⟨⟨⟨hle, hcnt⟩, hlt⟩, hal⟩ := h
  have hmod : (rel - r.f.off) % r.stride = 0 := by omega
  refine ((Nat.modEq_iff_dvd' hle).2 ?_).symm
  unfold rowPeriod
  split
  next hone =>
    have hsum := Nat.div_add_mod (rel - r.f.off) r.stride
    rw [hone] at hcnt
    rw [hmod, Nat.lt_one_iff.1 hcnt] at hsum
    simp [← hsum]
  · exact Nat.dvd_of_mod_eq_zero hmod

section
variable {rows : List RF} {r q : RF} {x y : Nat} (ha : rowsApart rows = true) (hr : r ∈ rows) (hx : r.covers x = true)
include ha hr hx

theorem covers_modEq_of_rowsApart : x ≡ r.f.off [MOD rowPeriod r] := by
  have h := List.all_eq_true.1 ha r hr
  simp only [Bool.and_eq_true, beq_iff_eq] at h
  obtain ⟨⟨hinner, _⟩, _⟩ := h
  exact covers_modEq hx hinner

theorem four_le_mod_of_rowsApart : 4 ≤ x % 0x1000 := by
  have h := List.all_eq_true.1 ha r hr
  simp only [Bool.and_eq_true, decide_eq_true_eq] at h
  obtain ⟨⟨_, h4⟩, _⟩ := h
  have hmod : x % 0x1000 % Nat.gcd (rowPeriod r) 0x1000 = r.f.off % Nat.gcd (rowPeriod r) 0x1000 := by
    rw [Nat.mod_mod_of_dvd x (Nat.gcd_dvd_right _ _)]
    exact (covers_modEq_of_rowsApart ha hr hx).of_dvd (Nat.gcd_dvd_left _ _)
  calc 4 ≤ x % 0x1000 % Nat.gcd (rowPeriod r) 0x1000 := by rw [hmod]; exact h4
    _ ≤ x % 0x1000 := Nat.mod_le _ _

theorem not_next_of_rowsApart (hq : q ∈ rows) (hy : q.covers y = true) : x + 4 ≠ y := by
  rintro rfl
  have h := List.all_eq_true.1 ha r hr
  simp only [Bool.and_eq_true, List.all_eq_true, bne_iff_ne] at h
  obtain ⟨_, hne⟩ := h
  refine hne q hq ?_
  have hrx := (covers_modEq_of_rowsApart ha hr hx).of_dvd (Nat.gcd_dvd_left (rowPeriod r) (rowPeriod q))
  have hqy := (covers_modEq_of_rowsApart ha hq hy).of_dvd (Nat.gcd_dvd_right (rowPeriod r) (rowPeriod q))
  exact (hrx.symm.add_right 4).trans hqy

end

theorem covers_of_isTimeLo {a : Nat} (h : isTimeLo a = true) :
    ∃ l, locate a = some l ∧ ∃ r ∈ timeRows l.kind, r.covers l.rel = true := by
  unfold isTimeLo at h
  split at h
  · cases h
  next l hl =>
    refine ⟨l, hl, ?_⟩
    split at h
    · cases h
    · cases h
    · simp only [Bool.or_eq_true, Bool.and_eq_true, decide_eq_true_eq, List.any_eq_true] at h
      obtain ⟨_, h28⟩ | ⟨r, hr, hlo, hc⟩ := h
      · exact ⟨stampRow, by simp [timeRows, stampRow], by rw [h28]; decide⟩
      · exact ⟨r, by simp [timeRows, hr, hlo], hc⟩

/-- The word after a `_LO` word is no `_LO` word. -/
theorem isTimeLo_add_four {a : Nat} (h : isTimeLo a = true) : isTimeLo (a + 4) = false := by
  by_contra hhi
  obtain ⟨l, hl, r, hr, hrel⟩ := covers_of_isTimeLo h
  obtain ⟨l', hl', q, hq, hrel'⟩ := covers_of_isTimeLo (Bool.not_eq_false _ ▸ hhi)
  have h4 := four_le_mod_of_rowsApart (rowsApart_timeRows _) hq hrel'
  have hsub := locate_sub hl' (d := 4) (by rw [← locate_rel_mod hl']; exact h4)
  rw [Nat.add_sub_cancel, hl] at hsub
  obtain rfl := Option.some.inj hsub
  have hle := Nat.mod_le l'.rel 0x1000
  exact not_next_of_rowsApart (rowsApart_timeRows _) hr hrel hq hrel' (by dsimp only; omega)

/-- R14: a `_LO` word reads itself and latches its `_HI` word; nothing else changes. -/
theorem exec_timeLoRead {s : State} {i : Ini} {a : Word} (hlo : isTimeLo a.toNat = true) (hf : s.fusedAt a.toNat = false)
    (hok : s.verdictR i a.toNat = .ok) :
    exec (.timeLoRead i a) s = .next { s with
      bus := .done (s.look a.toNat).toNat
      latches := Tab.set (fun _ => 0#32) s.latches (latchKey i (a.toNat + 4)) (s.look (a.toNat + 4)) } := by
  have hchal : a.toNat ≠ memC + 0x400 := by
    intro h
    rw [h] at hlo
    exact absurd hlo (by decide)
  exact congrArg Host.Outcome.next ((State.regRead_eq_readReg hchal).trans (State.readReg_timeLo hok hf hlo))

/-- R14: the `_HI` word of a pair reads the word latched last, and nothing changes. -/
theorem exec_read_timeHi {s : State} {i : Ini} {a : Nat} (hlo : isTimeLo a = true) (hf : s.fusedAt (a + 4) = false)
    (hok : s.verdictR i (a + 4) = .ok) :
    exec (.memoryAccess i (BitVec.ofNat 34 (a + 4)) (.read 4) 0) s =
      .next { s with bus := .done (Tab.get (fun _ => 0#32) s.latches (latchKey i (a + 4))).toNat } := by
  have hchal : a + 4 ≠ memC + 0x400 := by
    intro h
    rw [show a = memC + 0x3FC by omega] at hlo
    exact absurd hlo (by decide)
  rw [exec_memoryAccess_read_of_ok hok 0, State.regRead_eq_readReg hchal,
    State.readReg_timeHi hok hf hlo (isTimeLo_add_four hlo)]

theorem locate_tbsNowLo : locate (tbsC + 0x040) = some ⟨.common 0x01, tbsC, 0x040, tbsC⟩ := by decide

theorem locate_tbsNowHi : locate (tbsC + 0x044) = some ⟨.common 0x01, tbsC, 0x044, tbsC⟩ := by decide

theorem look_tbsNowLo (s : State) : s.look (tbsC + 0x040) = lo32 s.stamp := by
  unfold State.look; rw [locate_tbsNowLo]; rfl

theorem look_tbsNowHi (s : State) : s.look (tbsC + 0x044) = hi32 s.stamp := by
  unfold State.look; rw [locate_tbsNowHi]; rfl

/-- R96: each initiator has a latch of its own. -/
theorem latchKey_tbsNow_ne {i j : Ini} (h : iniCode i ≠ iniCode j) : latchKey j (tbsC + 0x044) ≠ latchKey i (tbsC + 0x044) := by
  simp only [latchKey, if_true]
  omega

/-- R96: a read of `TBS_NOW_LO` answers the low half of the time and latches its high half for the reader. -/
theorem exec_read_tbsNowLo {s : State} {i : Ini} (hok : s.verdictR i (tbsC + 0x040) = .ok) :
    exec (.timeLoRead i (wd (tbsC + 0x040))) s = .next { s with
      bus := .done (s.stamp % 2 ^ 32)
      latches := Tab.set (fun _ => 0#32) s.latches (latchKey i (tbsC + 0x044)) (hi32 s.stamp) } := by
  have hf : s.fusedAt (tbsC + 0x040) = false := by
    unfold State.fusedAt; rw [locate_tbsNowLo]; rfl
  have hread := exec_timeLoRead (a := wd (tbsC + 0x040)) (by decide) hf hok
  rw [show (wd (tbsC + 0x040)).toNat = tbsC + 0x040 from rfl, look_tbsNowLo] at hread
  rw [hread, show tbsC + 0x040 + 4 = tbsC + 0x044 from rfl, look_tbsNowHi]
  rfl

/-- Settles O16: a `_LO` word answers and latches (`exec_timeLoRead`); the word after it is never a `_LO` word itself
(`isTimeLo_add_four`), so it reads the latch; the latches of `TBS_NOW` have a key for each initiator. -/
theorem timePairsReadWhole : Obligations.TimePairsReadWhole := by
  unfold Obligations.TimePairsReadWhole
  refine ⟨fun s i a hlo hf hok => ⟨_, exec_timeLoRead hlo hf hok, rfl, ?_, rfl⟩,
    fun s i a hlo hf hok => ⟨_, exec_read_timeHi hlo hf hok, rfl⟩,
    fun s i j hij hok => ⟨_, exec_read_tbsNowLo hok, rfl, ?_, ?_⟩⟩
  · exact (Tab.get_set ..).trans (if_pos rfl)
  · exact (Tab.get_set ..).trans (if_pos rfl)
  · exact (Tab.get_set ..).trans (if_neg (latchKey_tbsNow_ne hij))

end Sys2Proof.Machine
end

section
/-! SUPPORT. Accesses that reach nothing (R60, R64, R65), and reads of group and broadcast pages (R67, R77). -/

namespace Sys2Proof.Machine

/-! ### Accesses that reach nothing -/

/-- Outside the address map lies no memory (R64). -/
theorem regionOf_outside {x : Nat}
    (h : ¬ (x < 0x20000 ∨ (0x04000000 ≤ x ∧ x < 0x04200000) ∨ (0x10000000 ≤ x ∧ x < 0x11800000) ∨
      (0x40000000 ≤ x ∧ x < 0x280000000))) : regionOf x = none := by
  unfold regionOf
  rw [if_neg (by omega)]
  iterate 10 rw [if_neg (by simp only [ddrBase, Bool.and_eq_true, decide_eq_true_eq]; omega)]

/-- Slots 0x12 and above hold no page (R65). -/
theorem locate_unmappedSlot {x : Nat} (h : 0x41200000 ≤ x) : locate x = none := by
  unfold locate
  rw [if_pos (by simp only [Bool.or_eq_true, decide_eq_true_eq]; omega)]

theorem State.unreached_of_regionOf {s : State} {x n : Nat} (hper : x < 0x40000000 ∨ 0x60000000 ≤ x)
    (h : regionOf x = none) : s.unreached x n = true := by
  unfold State.unreached
  rw [if_neg (by simp only [Bool.and_eq_true, decide_eq_true_eq]; omega), h]

theorem State.unreached_of_locate {s : State} {x n : Nat} (hlo : 0x40000000 ≤ x) (hhi : x < 0x60000000)
    (h : locate x = none) : s.unreached x n = true := by
  unfold State.unreached
  rw [if_pos (by simp only [Bool.and_eq_true, decide_eq_true_eq]; omega), h]

/-- A 32-bit access that reaches nothing in the peripheral space is answered by a bus error, read or write (R60, R68). -/
theorem State.verdicts_unreached {s : State} {x : Nat} (hlo : 0x40000000 ≤ x) (hhi : x < 0x60000000) (hal : x % 4 = 0)
    (h : s.unreached x 4 = true) (i : Ini) : s.verdictR i x = .err ∧ s.verdictW i x = .err := by
  unfold State.unreached at h
  rw [if_pos (by simp only [Bool.and_eq_true, decide_eq_true_eq]; omega)] at h
  unfold State.verdictR State.verdictW
  cases hl : locate x with
  | none => exact ⟨rfl, rfl⟩
  | some l =>
    have hdom : (!s.domOn 5 || !s.domOn (blkDomain l.block)) = true := by simpa [hl, hal] using h
    dsimp only
    rw [if_neg (by omega), if_pos hdom, if_neg (by omega), if_pos hdom]
    exact ⟨rfl, rfl⟩

theorem State.verdictW_unlocated {s : State} {i : Ini} {x : Nat} (h : locate x = none) : s.verdictW i x = .err := by
  unfold State.verdictW
  rw [h]

theorem State.regRead_err {s : State} {i : Ini} {x : Nat} (h : s.verdictR i x = .err) :
    s.regRead i x = { s with bus := .error } := by
  unfold State.regRead State.readReg
  simp [h]

theorem State.regWrite_err {s : State} {i : Ini} {x : Nat} {v : Word} (h : s.verdictW i x = .err) :
    s.regWrite i x v = { s with bus := .error } := by
  unfold State.regWrite State.onWrite
  rw [h]

/-- The width of an access in bytes. -/
def opWidth : MemOp → Nat
  | .read n => n.val
  | .write d => d.length

/-- R60, R64, R68: an access that reaches nothing completes with a bus error and has no effect, whoever makes it. -/
theorem State.access_unreached {s : State} {i : Ini} {x : Nat} {op : MemOp}
    (hp : ∀ p : Fin 2, i = .pair p → s.pairBlocked p = false) (h : s.unreached x (opWidth op) = true) (e : Nat) :
    s.access i x op e = { s with bus := .error } := by
  unfold State.access
  dsimp only
  rw [if_neg ?unblocked]
  case unblocked =>
    split
    · rw [hp _ rfl]; decide
    · decide
  by_cases hper : (decide (0x40000000 ≤ x) && decide (x < 0x60000000)) = true
  · rw [if_pos hper]
    simp only [Bool.and_eq_true, decide_eq_true_eq] at hper
    obtain ⟨hlo, hhi⟩ := hper
    by_cases hshape : x % 4 = 0 ∧ opWidth op = 4
    · obtain ⟨hal, hn⟩ := hshape
      obtain ⟨hr, hw⟩ := State.verdicts_unreached hlo hhi hal (hn ▸ h) i
      cases op with
      | read n => rw [if_neg (by simpa [hal, opWidth] using hn)]; exact State.regRead_err hr
      | write d => rw [if_neg (by simpa [hal, opWidth] using hn)]; exact State.regWrite_err hw
    · refine if_pos ?_
      simp only [Bool.or_eq_true, decide_eq_true_eq, ← not_and_or]
      cases op with
      | read n => exact hshape
      | write d => rwa [List.length_map]
  · rw [if_neg hper]
    unfold State.unreached at h
    rw [if_neg hper] at h
    cases hr : regionOf x with
    | none => rfl
    | some re =>
      rw [hr] at h
      cases op with
      | read n => exact if_pos (Bool.or_eq_true_iff.2 (.inr h))
      | write d => exact if_pos (Bool.or_eq_true_iff.2 (.inr (by simpa [opWidth] using h)))

/-- Settles O12: where the map has no range there is no memory (`regionOf_outside`) and no peripheral space. -/
theorem unmappedAddressIsBusError : Obligations.UnmappedAddressIsBusError := by
  unfold Obligations.UnmappedAddressIsBusError
  intro s i a op e hp x hx
  have hun : s.unreached x (opWidth op) = true := State.unreached_of_regionOf (by omega) (regionOf_outside hx)
  exact ⟨_, rfl, State.access_unreached hp hun e.val⟩

/-! ### The slots of the blocks (R65, R67) -/

/-- Slot `b` of the peripheral space holds the megabyte that begins at `blk b` (R65). -/
theorem slot_of_blk_add {b o : Nat} (ho : o < 0x100000) :
    (blk b + o - 0x40000000) / 0x100000 = b ∧ (blk b + o - 0x40000000) % 0x100000 = o := by
  unfold blk
  omega

/-- The words of a common page lie in that page. -/
theorem locate_commonPage {b o : Nat} (hb : b < 18) (ho : o < 0x1000) :
    locate (blk b + o) = some ⟨.common b, blk b, o, blk b⟩ := by
  have hblk : blk b = 0x40000000 + b * 0x100000 := rfl
  obtain ⟨hslot, hoff⟩ := slot_of_blk_add (b := b) (o := o) (by omega)
  unfold locate
  rw [if_neg (by simp only [Bool.or_eq_true, decide_eq_true_eq]; omega)]
  dsimp only
  rw [hslot, hoff, if_pos ho]

theorem block_of_lock_blk {l : Loc} {b : Nat} (hl : l.lock = blk b) : l.block = b := by
  have hblk : blk b = 0x40000000 + b * 0x100000 := rfl
  unfold Loc.block
  omega

/-- Page `p` of a block is its common page or its channel page `p - 1`. -/
theorem locate_pageOfBlock {b p o : Nat} (hb : b < 18) (hp : p ≤ nchan b) (ho : o < 0x1000) :
    ∃ l, locate (0x40000000 + b * 2 ^ 20 + p * 0x1000 + o) = some l ∧ l.block = b ∧ l.rel = o ∧
      l.kind = if p = 0 then .common b else .channel b (p - 1) := by
  cases p with
  | zero =>
    have haddr : 0x40000000 + b * 2 ^ 20 + 0 * 0x1000 + o = blk b + o := by unfold blk; omega
    rw [haddr]
    exact ⟨_, locate_commonPage hb ho, block_of_lock_blk rfl, rfl, rfl⟩
  | succ n =>
    have haddr : 0x40000000 + b * 2 ^ 20 + (n + 1) * 0x1000 + o = chPage b n + o := by unfold chPage blk; omega
    rw [haddr]
    exact ⟨_, locate_chPage hp ho, block_of_lock_chPage rfl hp, rfl, rfl⟩

/-- Settles O13: the pages of a block are located by their place in its slot, and above the slots of the blocks `locate`
finds no page, so reads and writes there reach nothing. -/
theorem blockSlots : Obligations.BlockSlots := by
  unfold Obligations.BlockSlots
  refine ⟨fun b p o hp ho => locate_pageOfBlock b.isLt hp ho, fun s i a v hlo hhi => ?_⟩
  have hnone := locate_unmappedSlot hlo
  have hun (n : Nat) : s.unreached a.toNat n = true := State.unreached_of_locate (by omega) hhi hnone
  have hnat : (a.setWidth 34).toNat = a.toNat := BitVec.toNat_setWidth_of_le (by decide)
  refine ⟨hnone, ⟨_, rfl, State.regWrite_err (State.verdictW_unlocated hnone)⟩,
    fun op e hp => ⟨_, rfl, State.access_unreached hp ?_ e.val⟩⟩
  rw [hnat]
  exact hun _

/-! ### Group and broadcast pages (R67, R77) -/

/-- Whether a page addresses the members of a group, or all channels, of its block. -/
def isGroupKind : Kind → Bool
  | .group _ _ | .bcast _ => true
  | _ => false

/-- Above the channel pages and the tables of its block, a slot holds group and broadcast pages alone. -/
theorem isGroupKind_of_slot_offset {x : Nat} {l : Loc} (hl : locate x = some l) (hx : 0xA1000 ≤ x % 0x100000) :
    isGroupKind l.kind = true := by
  have hle := nchan_le ((x - 0x40000000) / 0x100000)
  unfold locate at hl
  obtain ⟨_, hl⟩ | ⟨hmap, hl⟩ := ite_some hl
  · cases hl
  simp only [Bool.or_eq_true, decide_eq_true_eq, not_or, Nat.not_lt, Nat.not_le] at hmap
  have hoff : 0xA1000 ≤ (x - 0x40000000) % 0x100000 := by omega
  dsimp only at hl
  rw [if_neg (by omega), if_neg (by omega)] at hl
  iterate 2
    obtain ⟨_, hl⟩ | ⟨_, hl⟩ := ite_some hl
    · obtain rfl := Option.some.inj hl
      rfl
  iterate 6 rw [if_neg (by simp only [Bool.and_eq_true, decide_eq_true_eq]; omega)] at hl
  cases hl

theorem isTimeLo_groupKind {x : Nat} {l : Loc} (hl : locate x = some l) (hk : isGroupKind l.kind = true) :
    isTimeLo x = false := by
  obtain ⟨k, base, rel, lock⟩ := l
  unfold isTimeLo
  rw [hl]
  cases k with
  | group b g => rfl
  | bcast b => rfl
  | _ => cases hk

theorem isTimeLo_of_slot_offset {x : Nat} (hx : 0xA1000 ≤ x % 0x100000) : isTimeLo x = false := by
  cases hl : locate x with
  | none => unfold isTimeLo; rw [hl]
  | some l => exact isTimeLo_groupKind hl (isGroupKind_of_slot_offset hl hx)

theorem State.look_groupKind {s : State} {x : Nat} {l : Loc} (hl : locate x = some l) (hk : isGroupKind l.kind = true) :
    s.look x = if l.rel = 0 then wd (idWord l.kind) else 0#32 := by
  obtain ⟨k, base, rel, lock⟩ := l
  unfold State.look
  rw [hl]
  cases k with
  | group b g => simp [Kind.isPage, State.fusedPage]
  | bcast b => simp [Kind.isPage, State.fusedPage]
  | _ => cases hk

section
variable {b o : Nat} (hb : nchan b ≠ 0) (ho : o < 0x1000)
include hb ho

/-- The words of a group page lie in that page. -/
theorem locate_grpPage {g : Nat} (hg : g < 4) :
    locate (grpPage b g + o) = some ⟨.group b g, grpPage b g, o, grpPage b g⟩ := by
  have hlt := block_lt_of_lt_nchan (Nat.pos_of_ne_zero hb)
  have hle := nchan_le b
  have hpg : grpPage b g = 0x40000000 + b * 0x100000 + 0xC0000 + g * 0x1000 := rfl
  obtain ⟨hslot, hoff⟩ := slot_of_blk_add (b := b) (o := 0xC0000 + g * 0x1000 + o) (by omega)
  have haddr : blk b + (0xC0000 + g * 0x1000 + o) = grpPage b g + o := by omega
  rw [haddr] at hslot hoff
  have hrel : (0xC0000 + g * 0x1000 + o) % 0x1000 = o := by omega
  have hgroup : (0xC0000 + g * 0x1000 + o) / 0x1000 - 0xC0 = g := by omega
  unfold locate
  rw [if_neg (by simp only [Bool.or_eq_true, decide_eq_true_eq]; omega)]
  dsimp only
  rw [hslot, hoff, hrel, hgroup, if_neg (by omega), if_neg (by omega),
    if_pos (by simp only [Bool.and_eq_true, decide_eq_true_eq]; omega), Nat.add_sub_cancel]

/-- The words of a broadcast page lie in that page. -/
theorem locate_bcastPage : locate (bcastPage b + o) = some ⟨.bcast b, bcastPage b, o, bcastPage b⟩ := by
  have hlt := block_lt_of_lt_nchan (Nat.pos_of_ne_zero hb)
  have hle := nchan_le b
  have hpg : bcastPage b = 0x40000000 + b * 0x100000 + 0xFF000 := rfl
  obtain ⟨hslot, hoff⟩ := slot_of_blk_add (b := b) (o := 0xFF000 + o) (by omega)
  rw [← Nat.add_assoc] at hslot hoff
  have hrel : (0xFF000 + o) % 0x1000 = o := by omega
  unfold locate
  rw [if_neg (by simp only [Bool.or_eq_true, decide_eq_true_eq]; omega)]
  dsimp only
  rw [hslot, hoff, hrel, if_neg (by omega), if_neg (by omega),
    if_neg (by simp only [Bool.and_eq_true, decide_eq_true_eq]; omega),
    if_pos (by simp only [Bool.and_eq_true, decide_eq_true_eq]; omega), Nat.add_sub_cancel]

end

theorem toNat_idWord_group {b g : Nat} (hb : nchan b ≠ 0) (hg : g < 4) :
    (wd (idWord (.group b g))).toNat = b * 2 ^ 24 + (g * 2 ^ 16 + 2 * 2 ^ 14) + 1 := by
  have hlt := block_lt_of_lt_nchan (Nat.pos_of_ne_zero hb)
  simp only [wd, idWord, BitVec.toNat_ofNat]
  omega

theorem toNat_idWord_bcast {b : Nat} (hb : nchan b ≠ 0) : (wd (idWord (.bcast b))).toNat = b * 2 ^ 24 + 3 * 2 ^ 14 + 1 := by
  have hlt := block_lt_of_lt_nchan (Nat.pos_of_ne_zero hb)
  simp only [wd, idWord, BitVec.toNat_ofNat]
  omega

/-- R77: a read of a group or broadcast page returns its `ID` at offset 0 and 0 elsewhere, and changes nothing else. No
latch answers it: neither the word nor the one before it, which lies above the block's channel pages and tables, is a
`_LO` word. -/
theorem exec_read_groupKind {s : State} {i : Ini} {x : Nat} {l : Loc} (hl : locate x = some l)
    (hx : 0xC0000 ≤ x % 0x100000) (hok : s.verdictR i x = .ok) :
    exec (.memoryAccess i (BitVec.ofNat 34 x) (.read 4) 0) s =
      .next { s with bus := .done (if l.rel = 0 then (wd (idWord l.kind)).toNat else 0) } := by
  have hk := isGroupKind_of_slot_offset hl (by omega)
  have hlo := isTimeLo_groupKind hl hk
  have hbefore : isTimeLo (x - 4) = false := isTimeLo_of_slot_offset (by omega)
  have hchal : x ≠ memC + 0x400 := by rintro rfl; exact absurd hx (by decide)
  have hview : x ≠ clgC + 0x068 := by rintro rfl; exact absurd hx (by decide)
  have hlook : (s.lookBy i x).toNat = if l.rel = 0 then (wd (idWord l.kind)).toNat else 0 := by
    unfold State.lookBy
    rw [if_neg hview, State.look_groupKind hl hk]
    exact apply_ite BitVec.toNat ..
  rw [exec_memoryAccess_read_of_ok hok 0, State.regRead_eq_readReg hchal, ← hlook]
  unfold State.readReg
  simp only [hok, hlo, hbefore, Bool.false_eq_true, if_false, ite_self]

/-- Settles O15: the words of a group or broadcast page are located in it (`locate_grpPage`, `locate_bcastPage`), and its
`ID` is composed of the block, the instance and the kind. -/
theorem groupPageReads : Obligations.GroupPageReads := by
  unfold Obligations.GroupPageReads
  intro s i b g o
  cases g with
  | some g =>
    intro pg kind hb hok
    have hpg : pg = 0x40000000 + b.val * 0x100000 + 0xC0000 + g.val * 0x1000 := rfl
    have hl : locate (pg + 4 * o.val) = some _ := locate_grpPage hb (by omega) g.isLt
    refine ⟨_, exec_read_groupKind hl (by omega) hok, ?_⟩
    simp [toNat_idWord_group hb g.isLt, kind]
  | none =>
    intro pg kind hb hok
    have hpg : pg = 0x40000000 + b.val * 0x100000 + 0xFF000 := rfl
    have hl : locate (pg + 4 * o.val) = some _ := locate_bcastPage hb (by omega)
    refine ⟨_, exec_read_groupKind hl (by omega) hok, ?_⟩
    simp [toNat_idWord_bcast hb, kind]

end Sys2Proof.Machine
end
